-- ==== Sys2Proof/Word.lean ====
section
/-! DEFINITION. Bytes, unit numbers and the sparse table type that the whole model uses. -/
namespace Sys2Proof

/-- One byte. -/
abbrev Byte := BitVec 8

/-- A run of bytes, lowest address first. -/
abbrev Bytes := List (BitVec 8)

/-- A 32-bit word. -/
abbrev W32 := BitVec 32

/-- A 64-bit word. -/
abbrev W64 := BitVec 64

/-- Tile ID (R21). -/
abbrev TileId := Fin 1024

/-- Fold ID (R21). -/
abbrev FoldId := Fin 64

/-- Mailbox number (R175). -/
abbrev MbxId := Fin 20

/-- PCIe function number (R175). -/
abbrev FnId := Fin 16

/-- Message channel of a tile (R92). -/
abbrev ChId := Fin 16

/-- Welt port (R19). -/
abbrev PortId := Fin 8

/-- Welt lane (R19). -/
abbrev LaneId := Fin 32

/-- Regulator number (R268). -/
abbrev RegNo := Fin 2144

/-- Core register number x0–x31 (R69). -/
abbrev XReg := Fin 32

/-- A sparse table: pairs of a key and a value, keys strictly rising. A key that is not listed has
the reading that the table's owner gives it. -/
abbrev Tbl (α : Type) := List (Nat × α)

end Sys2Proof
end

