-- ==== Sys2Proof/Syntax.lean ====
section
/-! DEFINITION. The commands of the stratum: one constructor of `Instr` per row of
spec/opcode_table.json. A row is one whole step of the part: a host or operator command, one
instruction of a tile program, an operation of an engine, or an event. Its operands name the unit it
happens to and, where the surroundings decide something (a sensor reading, a flit's contents, a fault of the
silicon, whether a flash read-back succeeds), carry what they decide. Operands that number a unit have a
type with exactly that many values. -/
namespace Sys2Proof

/-- A fault of the silicon that corrupts one FP32 or INT32 result element of an operation: the element's
row and column (for an ATTN, column 0x1000 + t is the score of token t) and the bits flipped in it. -/
structure ArithFault where
  row : Nat
  col : Nat
  flip : W32
  deriving DecidableEq, Repr

/-- A fault of one vector step: the row, the element and the step of it that is hit, the bits flipped in the lane's
result and in the shadow lane's result (R207). Element 0x1F_FFFF names the steps of the row as a whole: its tree steps,
counted from 0 level by level, and after them RMSNORM's r (DESIGN CHOICE, log 123). -/
structure LaneFault where
  row : Nat
  elem : Nat
  step : Nat
  lane : W32
  shadow : W32
  deriving DecidableEq, Repr

/-- The header of a received flit (R361), beside its TYPE, which the row gives. -/
structure FlitHdr where
  seq : BitVec 16
  ack : BitVec 16
  cvc : BitVec 2
  ccnt : BitVec 14
  deriving DecidableEq, Repr

/-- One barrier stamp of a HELLO (R367). -/
structure BarrierStamp where
  flock : BitVec 16
  period : BitVec 32
  stamp : BitVec 64
  deriving DecidableEq, Repr

/-- A HELLO body (R367). -/
structure HelloBody where
  stackId : BitVec 64
  stackNo : Byte
  port : Byte
  cls : Byte
  level : Byte
  fprint : BitVec 64
  buf0 : BitVec 16
  buf1 : BitVec 16
  buf2 : BitVec 16
  hops : Byte
  lanes : Byte
  stamps : List BarrierStamp
  deriving DecidableEq, Repr

/-- A message as the MSG flits carry it (R371). -/
structure MsgBody where
  held : Bool
  sstack : Byte
  dstack : Byte
  stile : BitVec 10
  dtile : BitVec 10
  sch : BitVec 4
  dch : BitVec 4
  holdId : W32
  seq : W32
  gen : BitVec 16
  left : BitVec 64
  payload : Bytes
  deriving DecidableEq, Repr

/-- A GRANT body (R372). -/
structure GrantBody where
  op : Byte
  tile : BitVec 10
  ch : BitVec 4
  sch : BitVec 4
  credits : BitVec 16
  maxlen : BitVec 16
  gen : BitVec 16
  deriving DecidableEq, Repr

/-- A DPUT body (R375). -/
structure DputBody where
  kind : Byte
  hops : Byte
  len : BitVec 16
  origin : BitVec 64
  recSeq : W32
  flock : BitVec 16
  jobKind : Byte
  point : W32
  digest : Bytes
  tiles : BitVec 16
  deriving DecidableEq, Repr

/-- A DGETREQ body, and the request part of a DGETRSP (R375). -/
structure DgetBody where
  target : BitVec 64
  flock : BitVec 16
  point : W32
  first : BitVec 16
  count : Byte
  deriving DecidableEq, Repr

/-- How a lane leaves service (R369). -/
inductive LaneCause where
  | lkr | lock | uncorrectable | errorRatio
  deriving DecidableEq, Repr

/-- The AVSBus commands of R300. -/
inductive AvsCmd where
  | writeVoltage | readVoltage | writeRate | readCurrent | readStatus
  deriving DecidableEq, Repr

/-- What a TLS client presents (R388, R406): its address, its leaf certificate, the certificate or the public key that issued
it directly, and its validity dates. -/
structure ClientCert where
  address : Nat
  leaf : List Byte
  issuer : List Byte
  notBefore : BitVec 64
  notAfter : BitVec 64
  deriving DecidableEq, Repr

/-- The register spaces a `REGISTER_WRITE` can reach: the four blocks of a tile as its program sees
them, BAR0 of a function (R383), or a block of the drover's own spaces. -/
inductive RegSpace where
  | tile (t : TileId)
  | bar0 (f : FnId)
  | mgtMbx (m : Fin 4)
  | tlr (r : RegNo)
  | fcv (f : FoldId)
  | fce (f : FoldId)
  | pwr | thm | welt (p : PortId) | pcie | mgt | lrec
  deriving DecidableEq, Repr

/-- Where an SPDM request comes from (R395): the DOE mailbox of a function or a management
connection. -/
inductive SpdmPath where
  | doe (f : FnId)
  | mgt (c : Fin 4)
  deriving DecidableEq, Repr

/-- Who reads host memory (R385): a background operation of a mailbox, the swap-in of a flow, or a restart that reloads a tile's
RECOMP sections. -/
inductive HostReader where
  | mbx (m : MbxId)
  | swapIn (t : TileId)
  | reload (t : TileId)
  deriving DecidableEq, Repr

/-- What a register write carries (R9, R384): 4 bytes, or 8 with the upper word. -/
structure RegData where
  lo : W32
  hi : Option W32
  deriving DecidableEq, Repr

/-- An access of a function's BAR0 (R384). -/
structure Bar0Access where
  fn : FnId
  off : Nat
  len : Nat
  deriving DecidableEq, Repr

/-- The samples of one FCV scan (R311): the raw code of each channel, and whether the scan completed. -/
structure Scan where
  raw : List (BitVec 12)
  complete : Bool
  deriving DecidableEq, Repr

/-- The sensor readings of one thermal sample, by tile ID, in 0.125 °C (R344). -/
abbrev TempCodes := List (BitVec 16)

/-- The outcome of training a channel (R264): the attempts, each with the mask of layers that passed;
the eye; and the lanes replaced. -/
structure Training where
  attempts : List (BitVec 4)
  eye : BitVec 6
  replaced : List (BitVec 8)
  deriving DecidableEq, Repr

/-- What the 1 ms window brings from outside the fold engines (R334, R337): the LKR figures by lane as
(average mA, minimum mV, power mW, frames, time of the minimum), the VSPN input power, the channel lines of each tile, the flits of each lane, and the corrected symbols and
uncorrectable codewords of each lane (R379). -/
structure WindowInput where
  lkr : List (Nat × Nat × Nat × Nat × Nat)
  spineMw : Nat
  lines : List Nat
  flits : List Nat
  fec : List (Nat × Nat)
  deriving DecidableEq, Repr

/-- The commands of the stratum, one per row of the table. -/
inductive Instr where
  -- mailboxes (06, R177 to R204)
  | mbxGo (m : MbxId) | mbxAccept (m : MbxId) | mbxRelease (m : MbxId)
  | devInfo (m : MbxId) | devFingerprint (m : MbxId) | devConfigRead (m : MbxId)
  | devConfigWrite (m : MbxId) | devConfigCommit (m : MbxId) (ok1 ok2 : Bool)
  | devConfigReport (m : MbxId) | devBgFree (m : MbxId)
  | jobLoad (m : MbxId) | jobLoadDone (m : MbxId) (slot : Fin 8) | jobStart (m : MbxId)
  | jobStatus (m : MbxId) | jobCheckpoint (m : MbxId) | jobRestore (m : MbxId)
  | jobExport (m : MbxId) | jobExportDone (m : MbxId) (slot : Fin 8) | jobStop (m : MbxId)
  | jobFinish (job : Nat)
  | flowOpen (m : MbxId) | flowSubmit (m : MbxId)
  | batchTokenDeliver (m : MbxId) (slot : Fin 8) | flowSubmitDelivered (m : MbxId) (slot : Fin 8)
  | flowQuery (m : MbxId) | flowRetire (m : MbxId)
  | memPoolCreate (m : MbxId) | memSwapArea (m : MbxId) | memScrub (m : MbxId)
  | memScrubDone (m : MbxId) (slot : Fin 8) | memCopy (m : MbxId)
  | memCopyDone (m : MbxId) (slot : Fin 8)
  | sessOpen (m : MbxId) (trngOk : Bool) | sessRotateKey (m : MbxId) (trngOk : Bool)
  | sessClose (m : MbxId) | sessionScrubDone (f : FnId) | sessStatus (m : MbxId)
  | hlthState (m : MbxId) | hlthCounters (m : MbxId) | hlthTally (m : MbxId)
  | hlthUnit (m : MbxId) | hlthClearUnit (m : MbxId) | hlthDrain (m : MbxId)
  | hlthResume (m : MbxId) | hlthRetire (m : MbxId) | hlthSelftest (m : MbxId)
  | selftestDone (t : TileId) (pass : Bool)
  | pwrCapSet (m : MbxId) | pwrPriority (m : MbxId) | pwrTelemetry (m : MbxId)
  | pwrNotchLimit (m : MbxId)
  | dbgAttach (m : MbxId) | dbgHalt (m : MbxId) | dbgRead (m : MbxId) | dbgWrite (m : MbxId)
  | dbgTrace (m : MbxId)
  | eventRecordWrite
  | ringEnable (f : FnId) (n : Fin 4) | ringDisable (f : FnId) (n : Fin 4)
  | ringConsWrite (f : FnId) (n : Fin 4) (cons : W32) | ringEntryWrite (f : FnId) (n : Fin 4)
  | ringIrqHoldExpiry (f : FnId) (n : Fin 4)
  -- the tile core (03, R69 to R90)
  | baseInstruction (t : TileId) | ecall (t : TileId) | ebreak (t : TileId) | wfi (t : TileId)
  | fenceI (t : TileId)
  | counterCsrAccess (t : TileId) (rd : XReg) (csr : BitVec 12) (write : Bool)
  | codeWindowFetch (t : TileId) (line : BitVec 22)
  | kxTaissue (t : TileId) (rd rs1 : XReg) | taissueStallEnd (t : TileId)
  | kxVissue (t : TileId) (rd rs1 : XReg) | kxTawait (t : TileId) (rd rs1 : XReg)
  | kxVwait (t : TileId) (rd rs1 : XReg) | opWaitReturn (t : TileId)
  | kxNbctol (t : TileId) (rd rs1 : XReg) | kxHint (t : TileId) (rd rs1 rs2 : XReg)
  | kxStime (t : TileId) (rd : XReg) | kxTally (t : TileId) (rd rs1 : XReg)
  | kxCntr (t : TileId) (rd rs1 : XReg) | kxPet (t : TileId)
  | kxMsend (t : TileId) (rd rs1 rs2 : XReg) | msendWaitEnd (t : TileId)
  | kxMrecv (t : TileId) (rd rs1 : XReg) | kxMfree (t : TileId) (rd rs1 : XReg)
  | kxMwait (t : TileId) (rd rs1 rs2 : XReg) | mwaitWake (t : TileId) | mwaitTimeout (t : TileId)
  | kxPut (t : TileId) (rd rs1 : XReg) | kxGet (t : TileId) (rd rs1 : XReg)
  | transferStallEnd (t : TileId) | kxXwait (t : TileId) (rd rs1 : XReg)
  | xwaitReturn (t : TileId) | transferComplete (t : TileId) (tag : BitVec 16)
  -- messages (03, R91 to R106)
  | msgInject (t : TileId) | msgDeliver (t : TileId) (ch : ChId)
  | creditGrant (t : TileId) (ch : ChId) | creditReturn (t : TileId) (ch : ChId)
  | creditRevoke (t : TileId) (ch : ChId)
  | rxcOpen (t : TileId) (ch : ChId) | rxcClose (t : TileId) (ch : ChId)
  | txcEnable (t : TileId) (ch : ChId)
  -- the Tensor Array and the vector unit (02, 04)
  | taOpStart (t : TileId) | matmul (t : TileId) (fault : Option ArithFault)
  | attn (t : TileId) (fault : Option ArithFault) | taOpComplete (t : TileId)
  | vectorOpStart (t : TileId)
  | add (t : TileId) (fault : Option LaneFault) | sub (t : TileId) (fault : Option LaneFault)
  | mul (t : TileId) (fault : Option LaneFault) | fma (t : TileId) (fault : Option LaneFault)
  | min (t : TileId) (fault : Option LaneFault) | max (t : TileId) (fault : Option LaneFault)
  | relu (t : TileId) (fault : Option LaneFault) | silu (t : TileId) (fault : Option LaneFault)
  | exp (t : TileId) (fault : Option LaneFault) | recip (t : TileId) (fault : Option LaneFault)
  | sqrt (t : TileId) (fault : Option LaneFault) | rsqrt (t : TileId) (fault : Option LaneFault)
  | cvt (t : TileId) (fault : Option LaneFault) | sum (t : TileId) (fault : Option LaneFault)
  | maxr (t : TileId) (fault : Option LaneFault) | softmax (t : TileId) (fault : Option LaneFault)
  | rmsnorm (t : TileId) (fault : Option LaneFault)
  | vectorOpComplete (t : TileId)
  | nbcCheckClose (t : TileId) | nbcOpenWaitEnd (t : TileId) | guardedWriteResume (t : TileId)
  | taSeedTaWrite (t : TileId) (v : W32) | taSeedVecWrite (t : TileId) (v : W32)
  | nbcTolWrite (t : TileId) (v : W32) | tileWdogWrite (t : TileId) (v : W32)
  | registerWrite (sp : RegSpace) (off : Nat) (v : RegData)
  | watchdogExpiry (t : TileId) | meshParityError (t : TileId)
  | scratchpadParityError (t : TileId) | tileReset (t : TileId) | tileStart (t : TileId)
  | tileDoze (t : TileId) | foldMapChange (f : FoldId) (off : Bool)
  -- the pool unit and flows (05)
  | alloc (t : TileId) (drover : Bool) (index : BitVec 16) (fmt : BitVec 2)
  | ref (t : TileId) (drover : Bool) (index : BitVec 16)
  | unref (t : TileId) (drover : Bool) (index : BitVec 16)
  | cow (t : TileId) (drover : Bool) (index : BitVec 16)
  | setcount (t : TileId) (drover : Bool) (index : BitVec 16) (count : BitVec 5)
  | fetch (t : TileId) (drover : Bool) (index : BitVec 16)
  | retire (t : TileId) (drover : Bool) (index : BitVec 16)
  | poolCmdDone (t : TileId) | graceEpochClose (t : TileId) | preempt (t : TileId)
  | updateWindowHalt (t : TileId) | updateWindowWrite (t : TileId)
  | swapOut (t : TileId) (entry : Nat) | swapOutComplete (t : TileId) (entry : Nat)
  | swapIn (t : TileId) (entry : Nat) | swapInComplete (t : TileId) (entry : Nat)
  | flowRepin (t : TileId) (entry : Nat) (dest : TileId)
  | pageRekeyMove (t : TileId) (frame : Nat) | swapImageRekey (f : FnId) (slot : Nat)
  | oldSlotErase (f : FnId)
  -- checking and containment (07)
  | heldSend (e : Fin 9) | horizonReport (t : TileId) | heldRelease (e : Fin 9)
  | holdRetractTimeout (p : PortId) | quarantineExpiry (p : PortId)
  | jobFaultDetect (t : TileId) | recomputeIssue (t : TileId)
  | recomputeComplete (t : TileId) (fault : Option ArithFault) | normRegen (t : TileId)
  | tileRestore (t : TileId) | jobResume (job : Nat)
  | dualCompare (t : TileId) | dualLagTimeout (t : TileId)
  | checkpointTimer (job : Nat) | checkpointWrite (t : TileId) | checkpointComplete (job : Nat)
  | digestPoint (job : Nat) | flockDecisionTimeout (flock : BitVec 16) (point : W32)
  | selftestSchedule (t : TileId)
  -- vertical channels (08)
  | lineRead (t : TileId) (line : BitVec 22) (flip : Bytes)
  | refetchResult (t : TileId) (line : BitVec 22) (flip : Bytes)
  | lineRecompute (t : TileId) (line : BitVec 22) (inTime : Bool)
  | lineWrite (t : TileId) (line : BitVec 22) (data : Bytes)
  | partialLineWrite (t : TileId) (line : BitVec 22) (off : BitVec 6) (data : Bytes)
  | refresh (t : TileId) (layer : BitVec 2) (bank : BitVec 4)
  | invalidateRange (t : TileId) (first : BitVec 22) (count : Nat)
  | frameZeroOverwrite (t : TileId) (frame : Nat)
  | channelTraining (t : TileId) (r : Training) | eyeRecentre (t : TileId)
  | channelRetrain (t : TileId) (r : Training)
  | rotationLineMove (t : TileId) | rotationBulkPassEnd (t : TileId)
  | sessionOverwritePass (f : FnId) (t : TileId)
  -- regulators and reins (09)
  | setPointCommand (r : RegNo) (code : Byte) (notch : BitVec 4)
  | setPointReached (r : RegNo) | setPointTimeout (r : RegNo)
  | regulatorEnable (r : RegNo) (sampledMv : Nat) | regulatorDisable (r : RegNo)
  | hint (t : TileId) | hintExpiry (t : TileId) | retuned (t : TileId) | held (t : TileId)
  | notch (t : TileId) | ack (t : TileId) | hold (t : TileId) | resume (t : TileId)
  | reinNak (t : TileId) (toTile : Bool) (seq : BitVec 4)
  | reinReservedFrame (t : TileId) (toTile : Bool) (type : BitVec 4) (payload : W64)
  | dipTrip (r : RegNo) | burstPulse (r : RegNo) (cycles : Nat)
  | cycleLimit (r : RegNo) (phase : Fin 8) | overvoltageTrip (r : RegNo)
  | ovPersistCheck (r : RegNo) (above : Bool) | lkrFaultReport (l : LaneId) (cause : BitVec 4)
  | boardFaultAssert | vspnFault (mv : Nat)
  | headerStage (t : TileId) | tileOn (t : TileId) | tileOff (t : TileId)
  | foldOn (f : FoldId) | foldOff (f : FoldId)
  | tieClose (r : RegNo) | tieLoadCheck (r : RegNo) (meanMa : Nat)
  | avsTransaction (cmd : AvsCmd) (ok : Bool) (value : Nat)
  -- measurement and control (10)
  | frameClose (f : FoldId) (sc : Scan) | outputPhase (f : FoldId)
  | fcvUrg (f : FoldId) (ch : Byte) (raw : BitVec 12)
  | fcvMaskWrite (f : FoldId) (word : Fin 5) (v : W32) | fceSwap (f : FoldId) (loop : Fin 36)
  | fceWindowEnd (f : FoldId)
  -- power, heat, deadlines (11)
  | powerWindowEnd (inputs : WindowInput) | thermalSample (temps : TempCodes)
  | orderlyStop | immediateStop | thermalResume | schedulerPeriod (t : TileId)
  -- welt links (12)
  | idle (p : PortId) (h : FlitHdr) | hello (p : PortId) (h : FlitHdr) (b : HelloBody)
  | time (p : PortId) (h : FlitHdr) (own peerEcho peerArrival arrival : BitVec 64)
  | nak (p : PortId) (h : FlitHdr) | marker (p : PortId) (h : FlitHdr) (lane lanes : Byte)
  | msg (p : PortId) (h : FlitHdr) (b : MsgBody) | release (p : PortId) (h : FlitHdr) (ids : List W32)
  | retract (p : PortId) (h : FlitHdr) (ids : List W32) | grant (p : PortId) (h : FlitHdr) (b : GrantBody)
  | dput (p : PortId) (h : FlitHdr) (b : DputBody)
  | dgetreq (p : PortId) (h : FlitHdr) (b : DgetBody)
  | dgetrsp (p : PortId) (h : FlitHdr) (b : DgetBody) (digests : List Bytes)
  | reservedFlit (p : PortId) (h : FlitHdr) (type : Byte) (vc : BitVec 2)
  | helloTimer (p : PortId) | timeTimer | linkTrainingAttempt (p : PortId)
  | helloTimeout (p : PortId) | peerHelloLoss (p : PortId)
  | portRetrain (p : PortId) (lanesOk : BitVec 4)
  | laneOut (l : LaneId) (cause : LaneCause) | laneRetrain (l : LaneId) (ok : Bool)
  -- PCIe and management (12)
  | bar0BadAccess (f : Bar0Access) | hostReadFailure (m : HostReader) (slot : Nat)
  | functionLevelReset (f : FnId) | vfEnableClear (numVfs : Fin 16)
  | mgtConnect (c : ClientCert) | mgtIdleTimeout (c : Fin 4) | mgtClose (c : Fin 4)
  | request (c : Fin 4) (body : Bytes) | statusRead (c : Fin 4) | mgtBadframe (c : Fin 4) (type : BitVec 16)
  | getVersion (p : SpdmPath) | getCapabilities (p : SpdmPath)
  | negotiateAlgorithms (p : SpdmPath) (asym hash : W32) | getDigests (p : SpdmPath)
  | getCertificate (p : SpdmPath) (slot : BitVec 4) (off len : BitVec 16)
  | challenge (p : SpdmPath) (slot : BitVec 4) (nonce : Bytes)
  | getMeasurements (p : SpdmPath) (index : Byte) (nonce : Bytes)
  | spdmUnsupportedRequest (p : SpdmPath) (code : Byte)
  | ptpSync (offset : BitVec 64) | ptpLost
  -- start-up, reset, configuration (13)
  | perstAssert | perstRelease | coldPowerOn | firmwareStart | mailboxOpen
  | droverRestart | droverReady | flashRefresh (region : Fin 3) (ok : Bool) | configHalfErase
  | standbyEnter | standbyExit
  -- health and the Life Record (14)
  | tallyEpoch | histAppend | poweredMinute | snapshotWrite | journalFlush (ok : Bool)
  | retentionPass | guardedEntry
  -- link and rein errors, lanes, bus mastering
  | badFlit (p : PortId) | reinBadCrc (t : TileId) (toTile : Bool) (seq : BitVec 4)
  | laneLock (l : LaneId) (ok : Bool) | busMasterEnable (f : FnId) (en : Bool)
  deriving DecidableEq, Repr

end Sys2Proof
end

