-- ==== Sys2Proof/Decode.lean ====
section
/-! DEFINITION. The stratum is a block: no row of spec/opcode_table.json has bits, so no word spells a command. -/
namespace Sys2Proof

/-- The command that a word spells: none, since no row of the table gives bits (log 91). -/
def decodeTableWord (_nbits _w : Nat) : Option Instr := none

end Sys2Proof
end

