-- ==== Sys2Proof/Machine/Bits.lean ====
section
/-! DEFINITION. Bit fields, byte order (R7) and signed readings, used by every family. -/
namespace Sys2Proof.Machine

/-- Bits `lo` to `lo + w - 1` of a number. -/
def bf (v lo w : Nat) : Nat := (v >>> lo) % 2 ^ w

/-- A number with one bit field replaced. -/
def bfSet (v lo w x : Nat) : Nat := v - (bf v lo w) * 2 ^ lo + (x % 2 ^ w) * 2 ^ lo

/-- Bit `i` of a number. -/
def bit (v i : Nat) : Bool := v.testBit i

/-- 1 for true, 0 for false. -/
def b2n (b : Bool) : Nat := if b then 1 else 0

/-- The smallest multiple count that covers `a` in steps of `b`. -/
def ceilDiv (a b : Nat) : Nat := (a + b - 1) / b

/-- A little-endian byte run as a number (R7). -/
def leNat : Bytes → Nat
  | [] => 0
  | b :: r => b.toNat + 256 * leNat r

/-- The `n` low bytes of a number, little-endian (R7). -/
def toLE : Nat → Nat → Bytes
  | 0, _ => []
  | n + 1, v => BitVec.ofNat 8 v :: toLE n (v / 256)

/-- A big-endian byte run as a number. -/
def beNat (b : Bytes) : Nat := leNat b.reverse

/-- The `n` low bytes of a number, big-endian. -/
def toBE (n v : Nat) : Bytes := (toLE n v).reverse

/-- `n` zero bytes. -/
def zeros (n : Nat) : Bytes := List.replicate n 0#8

/-- `len` bytes of a run from an offset, with zeros beyond its end. -/
def sub (b : Bytes) (off len : Nat) : Bytes :=
  let x := (b.drop off).take len
  x ++ zeros (len - x.length)

/-- The little-endian field of `len` bytes at an offset of a run. -/
def fld (b : Bytes) (off len : Nat) : Nat := leNat (sub b off len)

/-- The two's-complement reading of a `w`-bit number. -/
def sext (w v : Nat) : Int :=
  let x := v % 2 ^ w
  if x < 2 ^ (w - 1) then (x : Int) else (x : Int) - (2 ^ w : Nat)

/-- The `w`-bit two's-complement code of an integer. -/
def twos (w : Nat) (v : Int) : Nat := (v % ((2 ^ w : Nat) : Int)).toNat

/-- A value held between two bounds. -/
def clampN (lo hi v : Nat) : Nat := max lo (min hi v)

/-- An integer held between two bounds. -/
def clampI (lo hi v : Int) : Int := max lo (min hi v)

/-- Addition that stops at the largest value of a `w`-bit counter. -/
def satAdd (w v k : Nat) : Nat := min (2 ^ w - 1) (v + k)

/-- `b` exclusive-ored byte by byte with `c`. -/
def xorBytes : Bytes → Bytes → Bytes
  | a :: r, b :: t => (a ^^^ b) :: xorBytes r t
  | _, _ => []

/-- A run cut into pieces of `n` bytes, at most `k` of them. -/
def chunks (n : Nat) : Nat → Bytes → List Bytes
  | 0, _ => []
  | k + 1, b => if b.isEmpty then [] else b.take n :: chunks n k (b.drop n)

end Sys2Proof.Machine
end

