-- ==== Sys2Proof/Machine/Rv.lean ====
section
/-! DEFINITION. The base instruction set as published (R69): the arithmetic of RV64IMA, and the 16-bit
encodings of C as the 32-bit instructions they stand for. -/
namespace Sys2Proof.Machine

/-! ## Arithmetic -/

/-- A 32-bit result sign-extended. -/
def rvSext (v : W32) : W64 := v.signExtend 64

/-- The low 32 bits of a register. -/
def rvLow (v : W64) : W32 := v.setWidth 32

def rvBool (b : Bool) : W64 := if b then 1#64 else 0#64

/-- An integer operation by funct3; `alt` is bit 30 (SUB, SRA). -/
def rvAlu (f3 : Nat) (alt : Bool) (a b : W64) : W64 :=
  let n := b.toNat % 64
  match f3 with
  | 0 => if alt then a - b else a + b
  | 1 => a <<< n
  | 2 => rvBool (a.slt b)
  | 3 => rvBool (a.ult b)
  | 4 => a ^^^ b
  | 5 => if alt then a.sshiftRight n else a >>> n
  | 6 => a ||| b
  | _ => a &&& b

/-- A 32-bit operation by funct3: ADDW, SUBW, SLLW, SRLW, SRAW; none for another funct3. -/
def rvAlu32 (f3 : Nat) (alt : Bool) (a b : W64) : Option W64 :=
  let x := rvLow a
  let y := rvLow b
  let n := b.toNat % 32
  match f3 with
  | 0 => some (rvSext (if alt then x - y else x + y))
  | 1 => some (rvSext (x <<< n))
  | 5 => some (rvSext (if alt then x.sshiftRight n else x >>> n))
  | _ => none

/-- Signed division of `w`-bit numbers, rounding toward zero; by zero −1, and overflow the dividend. -/
def rvDivS {w : Nat} (a b : BitVec w) : BitVec w := if b = 0#w then BitVec.allOnes w else a.sdiv b
def rvRemS {w : Nat} (a b : BitVec w) : BitVec w := if b = 0#w then a else a.srem b
def rvDivU {w : Nat} (a b : BitVec w) : BitVec w := if b = 0#w then BitVec.allOnes w else a.udiv b
def rvRemU {w : Nat} (a b : BitVec w) : BitVec w := if b = 0#w then a else a.umod b

/-- The upper half of an exact product. -/
def rvHigh (p : Int) : W64 := BitVec.ofInt 64 (p / (2 ^ 64 : Nat))

/-- Multiply and divide by funct3. -/
def rvMul (f3 : Nat) (a b : W64) : W64 :=
  match f3 with
  | 0 => a * b
  | 1 => rvHigh (a.toInt * b.toInt)
  | 2 => rvHigh (a.toInt * b.toNat)
  | 3 => rvHigh ((a.toNat : Int) * b.toNat)
  | 4 => rvDivS a b
  | 5 => rvDivU a b
  | 6 => rvRemS a b
  | _ => rvRemU a b

/-- MULW, DIVW, DIVUW, REMW, REMUW; none for another funct3. -/
def rvMul32 (f3 : Nat) (a b : W64) : Option W64 :=
  let x := rvLow a
  let y := rvLow b
  match f3 with
  | 0 => some (rvSext (x * y))
  | 4 => some (rvSext (rvDivS x y))
  | 5 => some (rvSext (rvDivU x y))
  | 6 => some (rvSext (rvRemS x y))
  | 7 => some (rvSext (rvRemU x y))
  | _ => none

/-- Whether a branch is taken, by funct3; none for a reserved one. -/
def rvTaken (f3 : Nat) (a b : W64) : Option Bool :=
  match f3 with
  | 0 => some (a == b)
  | 1 => some (a != b)
  | 4 => some (a.slt b)
  | 5 => some (!a.slt b)
  | 6 => some (a.ult b)
  | 7 => some (!a.ult b)
  | _ => none

/-- What an AMO stores, at a width of `w` bits, by funct5; none for a reserved one. -/
def rvAmo {w : Nat} (f5 : Nat) (m b : BitVec w) : Option (BitVec w) :=
  match f5 with
  | 0x00 => some (m + b)
  | 0x01 => some b
  | 0x04 => some (m ^^^ b)
  | 0x08 => some (m ||| b)
  | 0x0C => some (m &&& b)
  | 0x10 => some (if m.slt b then m else b)
  | 0x14 => some (if m.slt b then b else m)
  | 0x18 => some (if m.ult b then m else b)
  | 0x1C => some (if m.ult b then b else m)
  | _ => none

/-! ## Immediates of the 32-bit formats -/

def rvImmI (w : Nat) : W64 := BitVec.ofInt 64 (sext 12 (bf w 20 12))
def rvImmS (w : Nat) : W64 := BitVec.ofInt 64 (sext 12 (bf w 7 5 + bf w 25 7 * 32))
def rvImmU (w : Nat) : W64 := BitVec.ofInt 64 (sext 32 (bf w 12 20 * 4096))
def rvImmB (w : Nat) : W64 :=
  BitVec.ofInt 64 (sext 13 (bf w 8 4 * 2 + bf w 25 6 * 32 + bf w 7 1 * 2048 + bf w 31 1 * 4096))
def rvImmJ (w : Nat) : W64 :=
  BitVec.ofInt 64 (sext 21 (bf w 21 10 * 2 + bf w 20 1 * 2048 + bf w 12 8 * 4096 + bf w 31 1 * 2 ^ 20))

/-! ## The 32-bit formats built -/

def rvEncR (op rd f3 rs1 rs2 f7 : Nat) : Nat :=
  op + rd * 2 ^ 7 + f3 * 2 ^ 12 + rs1 * 2 ^ 15 + rs2 * 2 ^ 20 + f7 * 2 ^ 25
def rvEncI (op rd f3 rs1 : Nat) (imm : Int) : Nat :=
  op + rd * 2 ^ 7 + f3 * 2 ^ 12 + rs1 * 2 ^ 15 + twos 12 imm * 2 ^ 20
def rvEncS (f3 rs1 rs2 imm : Nat) : Nat :=
  0x23 + bf imm 0 5 * 2 ^ 7 + f3 * 2 ^ 12 + rs1 * 2 ^ 15 + rs2 * 2 ^ 20 + bf imm 5 7 * 2 ^ 25
def rvEncB (f3 rs1 : Nat) (imm : Int) : Nat :=
  let i := twos 13 imm
  0x63 + bf i 11 1 * 2 ^ 7 + bf i 1 4 * 2 ^ 8 + f3 * 2 ^ 12 + rs1 * 2 ^ 15 + bf i 5 6 * 2 ^ 25 + bf i 12 1 * 2 ^ 31
def rvEncJ (rd : Nat) (imm : Int) : Nat :=
  let i := twos 21 imm
  0x6F + rd * 2 ^ 7 + bf i 12 8 * 2 ^ 12 + bf i 11 1 * 2 ^ 20 + bf i 1 10 * 2 ^ 21 + bf i 20 1 * 2 ^ 31

/-! ## The C extension -/

/-- Quadrant 0. -/
def rvC0 (h : Nat) : Option Nat :=
  let rd := 8 + bf h 2 3
  let rs := 8 + bf h 7 3
  let w := bf h 10 3 * 8 + bf h 6 1 * 4 + bf h 5 1 * 64
  let d := bf h 10 3 * 8 + bf h 5 2 * 64
  match bf h 13 3 with
  | 0 =>
    let imm := bf h 11 2 * 16 + bf h 7 4 * 64 + bf h 6 1 * 4 + bf h 5 1 * 8
    if imm = 0 then none else some (rvEncI 0x13 rd 0 2 imm)
  | 2 => some (rvEncI 0x03 rd 2 rs w)
  | 3 => some (rvEncI 0x03 rd 3 rs d)
  | 6 => some (rvEncS 2 rs rd w)
  | 7 => some (rvEncS 3 rs rd d)
  | _ => none

/-- Quadrant 1. -/
def rvC1 (h : Nat) : Option Nat :=
  let rd := bf h 7 5
  let rs := 8 + bf h 7 3
  let r2 := 8 + bf h 2 3
  let u := bf h 2 5 + bf h 12 1 * 32
  let imm := sext 6 u
  let cb := sext 9 (bf h 3 2 * 2 + bf h 10 2 * 8 + bf h 2 1 * 32 + bf h 5 2 * 64 + bf h 12 1 * 256)
  match bf h 13 3 with
  | 0 => some (rvEncI 0x13 rd 0 rd imm)
  | 1 => if rd = 0 then none else some (rvEncI 0x1B rd 0 rd imm)
  | 2 => some (rvEncI 0x13 rd 0 0 imm)
  | 3 =>
    if u = 0 then none
    else if rd = 2 then
      some (rvEncI 0x13 2 0 2 (sext 10 (bf h 6 1 * 16 + bf h 2 1 * 32 + bf h 5 1 * 64 + bf h 3 2 * 128
        + bf h 12 1 * 512)))
    else some (0x37 + rd * 2 ^ 7 + twos 20 imm * 2 ^ 12)
  | 4 =>
    match bf h 10 2 with
    | 0 => some (rvEncI 0x13 rs 5 rs u)
    | 1 => some (rvEncI 0x13 rs 5 rs (u + 0x400))
    | 2 => some (rvEncI 0x13 rs 7 rs imm)
    | _ =>
      match bf h 12 1, bf h 5 2 with
      | 0, 0 => some (rvEncR 0x33 rs 0 rs r2 0x20)
      | 0, 1 => some (rvEncR 0x33 rs 4 rs r2 0)
      | 0, 2 => some (rvEncR 0x33 rs 6 rs r2 0)
      | 0, 3 => some (rvEncR 0x33 rs 7 rs r2 0)
      | 1, 0 => some (rvEncR 0x3B rs 0 rs r2 0x20)
      | 1, 1 => some (rvEncR 0x3B rs 0 rs r2 0)
      | _, _ => none
  | 5 =>
    some (rvEncJ 0 (sext 12 (bf h 3 3 * 2 + bf h 11 1 * 16 + bf h 2 1 * 32 + bf h 7 1 * 64 + bf h 6 1 * 128
      + bf h 9 2 * 256 + bf h 8 1 * 1024 + bf h 12 1 * 2048)))
  | 6 => some (rvEncB 0 rs cb)
  | _ => some (rvEncB 1 rs cb)

/-- Quadrant 2. -/
def rvC2 (h : Nat) : Option Nat :=
  let rd := bf h 7 5
  let r2 := bf h 2 5
  match bf h 13 3 with
  | 0 => some (rvEncI 0x13 rd 1 rd (r2 + bf h 12 1 * 32))
  | 2 => if rd = 0 then none else some (rvEncI 0x03 rd 2 2 (bf h 4 3 * 4 + bf h 12 1 * 32 + bf h 2 2 * 64))
  | 3 => if rd = 0 then none else some (rvEncI 0x03 rd 3 2 (bf h 5 2 * 8 + bf h 12 1 * 32 + bf h 2 3 * 64))
  | 4 =>
    if bf h 12 1 = 0 then
      if r2 = 0 then (if rd = 0 then none else some (rvEncI 0x67 0 0 rd 0))
      else some (rvEncR 0x33 rd 0 0 r2 0)
    else if r2 = 0 then (if rd = 0 then some 0x00100073 else some (rvEncI 0x67 1 0 rd 0))
    else some (rvEncR 0x33 rd 0 rd r2 0)
  | 6 => some (rvEncS 2 2 r2 (bf h 9 4 * 4 + bf h 7 2 * 64))
  | 7 => some (rvEncS 3 2 r2 (bf h 10 3 * 8 + bf h 7 3 * 64))
  | _ => none

/-- The 32-bit instruction that a 16-bit encoding stands for. -/
def rvExpand (h : Nat) : Option Nat :=
  match h % 4 with
  | 0 => rvC0 h
  | 1 => rvC1 h
  | _ => rvC2 h

end Sys2Proof.Machine
end

