-- ==== Sys2Proof/Config.lean ====
section
/-! DEFINITION. Values that the spec leaves open. Each is an opaque constant: nothing proves a value of
it, so a claim holds for every value. Those with a Nat argument are applied to `State.drawn`, the model's
own counter of free values, or to what they depend on. -/
namespace Sys2Proof.Config

/-- A draw of the true random number generator (R256). -/
opaque trng : Nat → BitVec 512

/-- Where the numbering of transfer tags, handles, operation IDs and job tags starts: the spec gives
these numbers no values (R105, R180, R186). -/
opaque tagBase : Nat
opaque handleBase : Nat
opaque opidBase : Nat
opaque jobTagBase : Nat

/-- The fold in which the spine port of an endpoint joins the mesh (R102 gives no number). -/
opaque spineFold : Nat → BitVec 6

/-- Which line a full instruction cache gives up (R73 gives no replacement rule). -/
opaque icacheVictim : Nat → Nat

/-- The bytes of a line of a checkpoint slot's state record or log (R218 and R220 give no layout),
by tile, line and checkpoint sequence number. -/
opaque slotLine : Nat → Nat → Nat → BitVec 512

/-- The temperature of a unit that has no sensor of its own (R422), by unit ID. -/
opaque unitTemp : Nat → BitVec 16

/-- The ECDSA P-384 signature of a message under the identity key (R395, R396, R405). -/
opaque sign : Bytes → BitVec 768

/-- The nonce of a CHALLENGE_AUTH or MEASUREMENTS response (R395). -/
opaque nonce : Nat → BitVec 256

/-- The 64-byte header of a swap image (R169 lays out no fields): by flow handle, NPAGES, TOKENS and the
list positions and frames of shared pages. -/
opaque swapHeader : Nat → Nat → Nat → List (Nat × Nat) → BitVec 512

/-- Bytes of the norm patch list of an export image (R194 gives it no layout), by its number of patches. -/
opaque patchListLen : Nat → Nat

/-- 64 bytes of the norm patch list of an export image, by job tag, time and place (R194). -/
opaque patchUnit : Nat → Nat → Nat → BitVec 512

/-- A temperature coefficient times a temperature above 25 °C, in 0.125 °C, rounded to the nearest trim step: the first of a
tile's oscillator, the second of a fold's gain reference (R346 gives the coefficients no unit). -/
opaque oscDrift : Int → Int → Int
opaque refDrift : Int → Int → Int

/-- The ends of the gain-reference trim's range, which R346 does not give. -/
opaque refTrimLo : Int
opaque refTrimHi : Int

/-- The digest of the boot ROM (R396). -/
opaque romDigest : BitVec 384

/-- The digest of the Stack Record (R396), by the sequence numbers of the factory part and the configuration block. -/
opaque recordDigest : Nat → Nat → BitVec 384

/-- CTExponent, DataTransferSize and MaxSPDMmsgSize of the SPDM capabilities, which the spec does not give (R395). -/
opaque spdmLimits : BitVec 72

/-- The canonical scale of a weight row one of whose scales is not finite: R60 asks for the largest scale and gives
NaN no order. By the row's scale record. -/
opaque nonFiniteScale : Bytes → BitVec 32

/-- The s1 code of a block whose a1 / (s2 × qmax) is beyond 448, which R48 says never occurs (a source that is itself
two-level, with s2 clamped at its top, reaches it): by the format, the s2 code and a1. -/
opaque s1Beyond : Nat → Nat → Rat → BitVec 8

/-- Which step of an element a lane of the vector unit performs in each of the cycles of its group (R147 and R207 name
neither), by the operation, SOFTMAX or RMSNORM, and the cycle. -/
opaque laneStep : Nat → Nat → Nat

/-- What the base die brings of an LKR's local loop: its output, power and trims (R304 gives no value), by regulator,
register offset and time. -/
opaque lkrCopy : Nat → Nat → Nat → BitVec 32

/-- What the drover's own converter channel reads of VSPN, mV, by time (R271). -/
opaque vspnMv : Nat → BitVec 16

/-- The stack time at which the last member of a flock started, by the flock and the own member's start. R355 has a drover learn it from
its peers' records, in whose layout (R375) it has no place. -/
opaque flockStart : Nat → Nat → Nat

/-- A result that a rule of the spec leaves unstated, by the counter of free values. -/
opaque free : Nat → BitVec 64

end Sys2Proof.Config
end

