-- ==== Sys2Proof/Machine/Fields.lean ====
section
/-! DEFINITION. The register catalogue: one `Field` per field of every register map of the spec
(R55 to R57, R65 to R68, R79, R92, R157, R177, R185, R199, R210, R266, R304, R316, R330, R356, R357,
R379, R387, R394, R440), with its place, its access code (R9), its Reset value and its survival
code (R12). A register that the spec repeats n times is one block here, whose unit number counts
the copies (the comment at `Blk` says how). Reserved fields (R10) are no entries: they read zero. -/
namespace Sys2Proof.Machine

/-- The register blocks, with the unit that each block instance belongs to:
`tile ta nbc vch` tile ID; `txc rxc` 16 × tile + channel; `vshOp` 3 × tile + n;
`mbx sp` mailbox; `ring` 4 × function + ring; `tlr` regulator number (R268); `fcv fce` fold;
`fcvMask` 4 × fold + word; `fcvSlice` 8 × fold + slice; `fcvLast` 144 × fold + channel;
`loop` 36 × fold + loop; `loopX` 4 × loop unit + state; `loopSCoef loopSShift loopACoef loopAShift`
32 × loop unit + index; `pwrTile` tile; `thmBroken` word; `welt` port; `weltLane` lane 0–31;
`pwr thm pcie mgt lrec` 0. -/
inductive Blk where
  | ta | nbc | tile | txc | rxc | mbx | sp | ring
  | vshOp | vch | tlr | fcvMask | fcv | fcvSlice | fcvLast | fce
  | loop | loopX | loopSCoef | loopSShift | loopACoef | loopAShift | pwr | pwrTile
  | thm | thmBroken | welt | weltLane | pcie | mgt | lrec
  deriving DecidableEq, Repr

/-- A number for each block, used in register keys. -/
def Blk.code : Blk → Nat
  | .ta => 0
  | .nbc => 1
  | .tile => 2
  | .txc => 3
  | .rxc => 4
  | .mbx => 5
  | .sp => 6
  | .ring => 7
  | .vshOp => 8
  | .vch => 9
  | .tlr => 10
  | .fcvMask => 11
  | .fcv => 12
  | .fcvSlice => 13
  | .fcvLast => 14
  | .fce => 15
  | .loop => 16
  | .loopX => 17
  | .loopSCoef => 18
  | .loopSShift => 19
  | .loopACoef => 20
  | .loopAShift => 21
  | .pwr => 22
  | .pwrTile => 23
  | .thm => 24
  | .thmBroken => 25
  | .welt => 26
  | .weltLane => 27
  | .pcie => 28
  | .mgt => 29
  | .lrec => 30

/-- Access codes of R9. -/
inductive Access where
  | ro | rw | w1c | w1s | rov | wo
  deriving DecidableEq, Repr

/-- Survival codes of R12, in their order. -/
inductive Kept where
  | k0 | k1 | k2 | k3 | k4
  deriving DecidableEq, Repr

/-- The order of the survival codes. -/
def Kept.rank : Kept → Nat
  | .k0 => 0 | .k1 => 1 | .k2 => 2 | .k3 => 3 | .k4 => 4

/-- The Reset column: a constant, or a value that depends on the unit. -/
inductive ResetVal where
  | const (n : Nat)
  | tileId | foldId | quadId | localIndex | tileIdPlus1 | vecSeed | familyCode | loopRegulator
  deriving DecidableEq, Repr

/-- One register field. `off` is the byte offset of its register in its block, `lo` its lowest
bit, `w` its width. -/
structure Field where
  blk : Blk
  off : Nat
  lo : Nat
  w : Nat
  acc : Access
  reset : ResetVal
  kept : Kept
  deriving DecidableEq, Repr

/-! Fields of R55. -/
def TA_ARITH_SATF : Field := ⟨.ta, 0x080, 0, 1, .rw, .const 1, .k0⟩
def TA_ARITH_RMODE : Field := ⟨.ta, 0x080, 1, 1, .rw, .const 0, .k0⟩
/-! Fields of R56. -/
def TA_AFLAGS_INT_OVF : Field := ⟨.ta, 0x084, 0, 1, .w1c, .const 0, .k0⟩
def TA_AFLAGS_NONFINITE_IN : Field := ⟨.ta, 0x084, 1, 1, .w1c, .const 0, .k0⟩
def TA_AFLAGS_SCALE_SIGN : Field := ⟨.ta, 0x084, 2, 1, .w1c, .const 0, .k0⟩
def TA_AFLAGS_KT_RSVD : Field := ⟨.ta, 0x084, 3, 1, .w1c, .const 0, .k0⟩
def TA_AFLAGS_CVT_NAN_ZERO : Field := ⟨.ta, 0x084, 4, 1, .w1c, .const 0, .k0⟩
def TA_AFLAGS_CVT_SAT : Field := ⟨.ta, 0x084, 5, 1, .w1c, .const 0, .k0⟩
def TA_AFLAGS_CVT_INF_NAN : Field := ⟨.ta, 0x084, 6, 1, .w1c, .const 0, .k0⟩
/-! Fields of R57. -/
def TA_SEED_TA_SEED : Field := ⟨.ta, 0x088, 0, 32, .wo, .const 0, .k0⟩
def TA_SEED_VEC_SEED : Field := ⟨.ta, 0x08C, 0, 32, .wo, .const 0, .k0⟩
def TA_SRNG_TA_STATE : Field := ⟨.ta, 0x090, 0, 32, .rov, .tileIdPlus1, .k0⟩
def TA_SRNG_VEC_STATE : Field := ⟨.ta, 0x094, 0, 32, .rov, .vecSeed, .k0⟩
/-! Fields of R65. -/
def NBC_CTRL_EN : Field := ⟨.nbc, 0x000, 0, 1, .ro, .const 1, .k1⟩
def NBC_CTRL_MODE : Field := ⟨.nbc, 0x000, 1, 1, .ro, .const 0, .k1⟩
/-! Fields of R66. -/
def NBC_TOL_EXTRA : Field := ⟨.nbc, 0x004, 0, 8, .rw, .const 0, .k0⟩
/-! Fields of R67. -/
def NBC_STATUS_OPEN : Field := ⟨.nbc, 0x008, 0, 4, .rov, .const 0, .k0⟩
def NBC_STATUS_VIOL : Field := ⟨.nbc, 0x008, 8, 1, .rov, .const 0, .k1⟩
def NBC_STATUS_EXEMPT : Field := ⟨.nbc, 0x008, 9, 1, .w1c, .const 0, .k0⟩
/-! Fields of R68. -/
def NBC_VIOL_SEQ_SEQ : Field := ⟨.nbc, 0x00C, 0, 32, .rov, .const 0, .k1⟩
def NBC_VIOL_POS_ROW : Field := ⟨.nbc, 0x010, 0, 12, .rov, .const 0, .k1⟩
def NBC_VIOL_POS_COL : Field := ⟨.nbc, 0x010, 12, 12, .rov, .const 0, .k1⟩
def NBC_VIOL_Y_Y : Field := ⟨.nbc, 0x014, 0, 32, .rov, .const 0, .k1⟩
def NBC_VIOL_B_BTOL : Field := ⟨.nbc, 0x018, 0, 32, .rov, .const 0, .k1⟩
def NBC_VIOLATIONS_COUNT : Field := ⟨.nbc, 0x01C, 0, 32, .rov, .const 0, .k1⟩
/-! Fields of R79. -/
def TILE_ID_TILE : Field := ⟨.tile, 0x000, 0, 10, .ro, .tileId, .k3⟩
def TILE_ID_FOLD : Field := ⟨.tile, 0x000, 10, 6, .ro, .foldId, .k3⟩
def TILE_ID_QUAD : Field := ⟨.tile, 0x000, 16, 2, .ro, .quadId, .k3⟩
def TILE_ID_LOCAL : Field := ⟨.tile, 0x000, 18, 4, .ro, .localIndex, .k3⟩
def TILE_STATE_STATE : Field := ⟨.tile, 0x004, 0, 3, .rov, .const 0, .k0⟩
def TILE_BOOT_ADDR : Field := ⟨.tile, 0x008, 2, 26, .ro, .const 0, .k1⟩
def TILE_BOOT_SPACE : Field := ⟨.tile, 0x008, 31, 1, .ro, .const 0, .k1⟩
def TILE_JOB_JOB : Field := ⟨.tile, 0x00C, 0, 16, .ro, .const 0, .k1⟩
def TILE_NOTCH_CUR : Field := ⟨.tile, 0x010, 0, 4, .rov, .const 0xC, .k1⟩
def TILE_NOTCH_TARGET : Field := ⟨.tile, 0x010, 4, 4, .rov, .const 0xC, .k1⟩
def TILE_HOBBLE_PAUSE : Field := ⟨.tile, 0x014, 0, 12, .ro, .const 0, .k1⟩
def TILE_WDOG_LIMIT : Field := ⟨.tile, 0x018, 0, 6, .rw, .const 0x32, .k1⟩
def TILE_WDOG_REMAIN : Field := ⟨.tile, 0x018, 8, 6, .rov, .const 0x32, .k0⟩
def TILE_TEMP_TEMP : Field := ⟨.tile, 0x01C, 0, 16, .rov, .const 0, .k0⟩
def TILE_FAULT_CAUSE : Field := ⟨.tile, 0x020, 0, 8, .rov, .const 0, .k1⟩
def TILE_FAULT_VALID : Field := ⟨.tile, 0x020, 8, 1, .rov, .const 0, .k1⟩
def TILE_FAULT_EXIT : Field := ⟨.tile, 0x020, 16, 16, .rov, .const 0, .k1⟩
def TILE_FAULT_PC_PC : Field := ⟨.tile, 0x028, 0, 64, .rov, .const 0, .k1⟩
def TILE_FAULT_VAL_VAL : Field := ⟨.tile, 0x030, 0, 64, .rov, .const 0, .k1⟩
/-! Fields of R92. -/
def TILE_TXC_CFG_DEST : Field := ⟨.txc, 0x000, 0, 11, .rw, .const 0, .k0⟩
def TILE_TXC_CFG_DCH : Field := ⟨.txc, 0x000, 11, 4, .rw, .const 0, .k0⟩
def TILE_TXC_CFG_EN : Field := ⟨.txc, 0x000, 15, 1, .rw, .const 0, .k0⟩
def TILE_TXC_REMOTE_STACK : Field := ⟨.txc, 0x004, 0, 8, .rw, .const 0, .k0⟩
def TILE_TXC_REMOTE_TILE : Field := ⟨.txc, 0x004, 8, 10, .rw, .const 0, .k0⟩
def TILE_TXC_REMOTE_CH : Field := ⟨.txc, 0x004, 18, 4, .rw, .const 0, .k0⟩
def TILE_TXC_CREDIT_CREDITS : Field := ⟨.txc, 0x008, 0, 7, .rov, .const 0, .k0⟩
def TILE_TXC_CREDIT_MAXLEN : Field := ⟨.txc, 0x008, 8, 13, .rov, .const 0, .k0⟩
def TILE_TXC_STAT_DENIED : Field := ⟨.txc, 0x00C, 0, 1, .w1c, .const 0, .k0⟩
def TILE_RXC_BASE_BASE : Field := ⟨.rxc, 0x000, 6, 16, .rw, .const 0, .k0⟩
def TILE_RXC_RING_SLOTSZ : Field := ⟨.rxc, 0x004, 0, 3, .rw, .const 0, .k0⟩
def TILE_RXC_RING_SLOTS : Field := ⟨.rxc, 0x004, 8, 7, .rw, .const 1, .k0⟩
def TILE_RXC_RING_EN : Field := ⟨.rxc, 0x004, 31, 1, .rw, .const 0, .k0⟩
def TILE_RXC_SRC_SRC : Field := ⟨.rxc, 0x008, 0, 11, .rw, .const 0, .k0⟩
def TILE_RXC_SRC_SCH : Field := ⟨.rxc, 0x008, 11, 4, .rw, .const 0, .k0⟩
def TILE_RXC_STAT_FULL : Field := ⟨.rxc, 0x00C, 0, 7, .rov, .const 0, .k0⟩
def TILE_RXC_STAT_CFG_ERR : Field := ⟨.rxc, 0x00C, 7, 1, .rov, .const 0, .k0⟩
def TILE_RXC_STAT_HEAD : Field := ⟨.rxc, 0x00C, 8, 6, .rov, .const 0, .k0⟩
def TILE_RXC_STAT_DISCARD : Field := ⟨.rxc, 0x00C, 16, 8, .rov, .const 0, .k0⟩
/-! Fields of R157. -/
def TILE_PG_DIR_DIR : Field := ⟨.tile, 0x300, 4, 18, .ro, .const 0, .k1⟩
def TILE_PG_FRAMES_NFRAMES : Field := ⟨.tile, 0x304, 0, 16, .ro, .const 0, .k1⟩
def TILE_PG_FRAMES_RESERVE : Field := ⟨.tile, 0x304, 16, 16, .ro, .const 0, .k1⟩
def TILE_PG_BASE_FBASE : Field := ⟨.tile, 0x308, 6, 22, .ro, .const 0, .k1⟩
def TILE_PG_GEOM_DCODE : Field := ⟨.tile, 0x30C, 0, 2, .ro, .const 0, .k1⟩
def TILE_PG_GEOM_FFMT : Field := ⟨.tile, 0x30C, 2, 1, .ro, .const 0, .k1⟩
def TILE_PG_GEOM_KSLOT : Field := ⟨.tile, 0x30C, 3, 5, .ro, .const 0, .k1⟩
def TILE_PG_CMD_INDEX : Field := ⟨.tile, 0x310, 0, 16, .wo, .const 0, .k0⟩
def TILE_PG_CMD_OP : Field := ⟨.tile, 0x310, 16, 4, .wo, .const 0, .k0⟩
def TILE_PG_CMD_FMT : Field := ⟨.tile, 0x310, 20, 2, .wo, .const 0, .k0⟩
def TILE_PG_CMD_COUNT : Field := ⟨.tile, 0x310, 22, 5, .wo, .const 0, .k0⟩
def TILE_PG_RES_INDEX : Field := ⟨.tile, 0x314, 0, 16, .rov, .const 0, .k0⟩
def TILE_PG_RES_STATUS : Field := ⟨.tile, 0x314, 16, 8, .rov, .const 0, .k0⟩
def TILE_PG_RES_DONE : Field := ⟨.tile, 0x314, 31, 1, .rov, .const 1, .k0⟩
def TILE_PG_FREE_FREE : Field := ⟨.tile, 0x318, 0, 16, .rov, .const 0, .k1⟩
def TILE_PG_FREE_PENDING : Field := ⟨.tile, 0x318, 16, 16, .rov, .const 0, .k1⟩
def TILE_PG_EPOCH_EPOCH : Field := ⟨.tile, 0x31C, 0, 32, .rov, .const 0, .k1⟩
def TILE_PG_STAT_EXHAUSTED : Field := ⟨.tile, 0x320, 0, 1, .w1c, .const 0, .k0⟩
/-! Fields of R177. -/
def MBX_CTRL_GO : Field := ⟨.mbx, 0x000, 0, 1, .w1s, .const 0, .k1⟩
def MBX_CTRL_RELEASE : Field := ⟨.mbx, 0x000, 1, 1, .w1s, .const 0, .k1⟩
def MBX_STAT_STATE : Field := ⟨.mbx, 0x004, 0, 2, .rov, .const 3, .k1⟩
def MBX_STAT_LATE : Field := ⟨.mbx, 0x004, 2, 1, .w1c, .const 0, .k1⟩
def MBX_STAT_STATUS : Field := ⟨.mbx, 0x004, 16, 16, .rov, .const 0, .k1⟩
def MBX_ACCEPT_TAG : Field := ⟨.mbx, 0x008, 0, 32, .rov, .const 0, .k1⟩
def MBX_EVT_CONS_CONS : Field := ⟨.mbx, 0x00C, 0, 32, .rw, .const 0, .k1⟩
/-! Fields of R185. -/
def MBX_SP_INFO_LEVEL : Field := ⟨.sp, 0x000, 0, 8, .ro, .const 0, .k1⟩
def MBX_SP_INFO_READY : Field := ⟨.sp, 0x000, 8, 1, .rov, .const 0, .k1⟩
def MBX_SP_INFO_DSTATE : Field := ⟨.sp, 0x000, 9, 3, .rov, .const 0, .k1⟩
def MBX_SP_INFO_SSTATE : Field := ⟨.sp, 0x000, 12, 2, .rov, .const 0, .k1⟩
def MBX_SP_INFO_RESTARTS : Field := ⟨.sp, 0x000, 16, 8, .rov, .const 0, .k2⟩
def MBX_SP_FPRINT_FPRINT : Field := ⟨.sp, 0x008, 0, 64, .rov, .const 0, .k1⟩
def MBX_SP_STIME_STIME : Field := ⟨.sp, 0x010, 0, 64, .rov, .const 0, .k1⟩
def MBX_SP_EVT_PROD_PROD : Field := ⟨.sp, 0x018, 0, 32, .rov, .const 0, .k1⟩
def MBX_SP_EVT_LOST_LOST : Field := ⟨.sp, 0x01C, 0, 32, .rov, .const 0, .k1⟩
/-! Fields of R199. -/
def MBX_RING_BASE_BASE : Field := ⟨.ring, 0x000, 12, 52, .rw, .const 0, .k1⟩
def MBX_RING_CFG_LOG2N : Field := ⟨.ring, 0x008, 0, 5, .rw, .const 4, .k1⟩
def MBX_RING_CFG_ESC : Field := ⟨.ring, 0x008, 5, 3, .rw, .const 0, .k1⟩
def MBX_RING_CFG_IRQ_EVERY : Field := ⟨.ring, 0x008, 8, 8, .rw, .const 0, .k1⟩
def MBX_RING_CFG_IRQ_HOLD : Field := ⟨.ring, 0x008, 16, 8, .rw, .const 0, .k1⟩
def MBX_RING_CFG_EN : Field := ⟨.ring, 0x008, 31, 1, .rw, .const 0, .k1⟩
def MBX_RING_PROD_PROD : Field := ⟨.ring, 0x010, 0, 32, .rov, .const 0, .k1⟩
def MBX_RING_CONS_CONS : Field := ⟨.ring, 0x014, 0, 32, .rw, .const 0, .k1⟩
def MBX_RING_STAT_STALL : Field := ⟨.ring, 0x018, 0, 1, .rov, .const 0, .k1⟩
/-! Fields of R210. -/
def NBC_VIOL_C_C : Field := ⟨.nbc, 0x020, 0, 32, .rov, .const 0, .k1⟩
def NBC_VSH_STAT_MISMATCH : Field := ⟨.nbc, 0x024, 0, 1, .rov, .const 0, .k1⟩
def NBC_VSH_SEQ_SEQ : Field := ⟨.nbc, 0x028, 0, 32, .rov, .const 0, .k1⟩
def NBC_VSH_ELEM_ELEM : Field := ⟨.nbc, 0x02C, 0, 21, .rov, .const 0, .k1⟩
def NBC_VSH_ROW_ROW : Field := ⟨.nbc, 0x030, 0, 16, .rov, .const 0, .k1⟩
def NBC_VSH_MAIN_MAIN : Field := ⟨.nbc, 0x034, 0, 32, .rov, .const 0, .k1⟩
def NBC_VSH_SHAD_SHAD : Field := ⟨.nbc, 0x038, 0, 32, .rov, .const 0, .k1⟩
def NBC_DUAL_MISMATCH : Field := ⟨.nbc, 0x03C, 0, 1, .rov, .const 0, .k1⟩
def NBC_DUAL_UNIT : Field := ⟨.nbc, 0x03C, 1, 1, .rov, .const 0, .k1⟩
def NBC_DUAL_MSG : Field := ⟨.nbc, 0x03C, 2, 1, .rov, .const 0, .k1⟩
def NBC_DUAL_LAG : Field := ⟨.nbc, 0x03C, 3, 1, .rov, .const 0, .k1⟩
def NBC_DUAL_SEQ_SEQ : Field := ⟨.nbc, 0x040, 0, 32, .rov, .const 0, .k1⟩
def NBC_GUARD_STALL : Field := ⟨.nbc, 0x044, 0, 32, .rov, .const 0, .k0⟩
def NBC_SELFTEST_TIME : Field := ⟨.nbc, 0x048, 0, 64, .rov, .const 0, .k3⟩
def NBC_VSH_OP_OP : Field := ⟨.vshOp, 0x050, 0, 32, .rov, .const 0, .k1⟩
/-! Fields of R266. -/
def VCH_STATE_STATE : Field := ⟨.vch, 0x000, 0, 2, .rov, .const 0, .k2⟩
def VCH_STATE_REFRESH2X : Field := ⟨.vch, 0x000, 2, 1, .rov, .const 0, .k2⟩
def VCH_KEY_CUR : Field := ⟨.vch, 0x004, 0, 5, .ro, .const 0, .k2⟩
def VCH_KEY_PREV : Field := ⟨.vch, 0x004, 5, 5, .ro, .const 0, .k2⟩
def VCH_KEY_ROT : Field := ⟨.vch, 0x004, 10, 1, .rov, .const 0, .k2⟩
def VCH_ROT_MARK_MARK : Field := ⟨.vch, 0x008, 0, 22, .rov, .const 0, .k2⟩
def VCH_ERR_LINE : Field := ⟨.vch, 0x00C, 0, 22, .rov, .const 0, .k2⟩
def VCH_ERR_OUTCOME : Field := ⟨.vch, 0x00C, 22, 3, .rov, .const 0, .k2⟩
def VCH_CRCERR_COUNT : Field := ⟨.vch, 0x010, 0, 64, .rov, .const 0, .k2⟩
def VCH_CORR_COUNT : Field := ⟨.vch, 0x018, 0, 64, .rov, .const 0, .k2⟩
def VCH_RECOMP_COUNT : Field := ⟨.vch, 0x020, 0, 64, .rov, .const 0, .k2⟩
def VCH_POISONED_COUNT : Field := ⟨.vch, 0x028, 0, 64, .rov, .const 0, .k2⟩
def VCH_TRAIN_LAYERS : Field := ⟨.vch, 0x030, 0, 4, .rov, .const 0, .k2⟩
def VCH_TRAIN_EYE : Field := ⟨.vch, 0x030, 8, 6, .rov, .const 0, .k2⟩
def VCH_TRAIN_RETRAINS : Field := ⟨.vch, 0x030, 16, 8, .rov, .const 0, .k2⟩
def VCH_REPAIR_ROWS : Field := ⟨.vch, 0x034, 0, 11, .rov, .const 0, .k2⟩
def VCH_REPAIR_LANES : Field := ⟨.vch, 0x034, 11, 4, .rov, .const 0, .k2⟩
/-! Fields of R304. -/
def TLR_SET_VSET : Field := ⟨.tlr, 0x000, 0, 8, .rw, .familyCode, .k2⟩
def TLR_SET_SEQ : Field := ⟨.tlr, 0x000, 8, 4, .rov, .const 0, .k2⟩
def TLR_SET_NOTCH : Field := ⟨.tlr, 0x000, 12, 4, .rw, .const 0xC, .k2⟩
def TLR_RLL_RLL : Field := ⟨.tlr, 0x004, 0, 8, .rw, .const 0, .k4⟩
def TLR_CFG_EN : Field := ⟨.tlr, 0x008, 0, 1, .rw, .const 0, .k2⟩
def TLR_CFG_BURST_EN : Field := ⟨.tlr, 0x008, 1, 1, .rw, .const 1, .k4⟩
def TLR_CFG_SHED_EN : Field := ⟨.tlr, 0x008, 2, 1, .rw, .const 1, .k4⟩
def TLR_CFG_HINT_MAXUP : Field := ⟨.tlr, 0x008, 3, 8, .rw, .const 8, .k4⟩
def TLR_CFG_HDR_STAGE : Field := ⟨.tlr, 0x008, 11, 5, .rw, .const 3, .k4⟩
def TLR_STAT_STATE : Field := ⟨.tlr, 0x00C, 0, 3, .rov, .const 0, .k2⟩
def TLR_STAT_PHASES : Field := ⟨.tlr, 0x00C, 3, 4, .rov, .const 0, .k2⟩
def TLR_STAT_SLEW : Field := ⟨.tlr, 0x00C, 7, 1, .rov, .const 0, .k2⟩
def TLR_STAT_HINT : Field := ⟨.tlr, 0x00C, 8, 1, .rov, .const 0, .k2⟩
def TLR_STAT_BAL_LIMIT : Field := ⟨.tlr, 0x00C, 9, 1, .rov, .const 0, .k2⟩
def TLR_STAT_SHED_BLOCK : Field := ⟨.tlr, 0x00C, 10, 1, .rov, .const 0, .k2⟩
def TLR_FAULT_CAUSE : Field := ⟨.tlr, 0x010, 0, 4, .rov, .const 0, .k2⟩
def TLR_FAULT_PHASE : Field := ⟨.tlr, 0x010, 4, 3, .rov, .const 0, .k2⟩
def TLR_FAULT_VALID : Field := ⟨.tlr, 0x010, 7, 1, .w1c, .const 0, .k2⟩
def TLR_FAULT_COUNT : Field := ⟨.tlr, 0x010, 16, 16, .rov, .const 0, .k3⟩
def TLR_TRIM_TRIM : Field := ⟨.tlr, 0x014, 0, 32, .rov, .const 0, .k0⟩
def TLR_TRIM_HI_TRIM : Field := ⟨.tlr, 0x018, 0, 32, .rov, .const 0, .k0⟩
def TLR_SCEVT_COUNT : Field := ⟨.tlr, 0x01C, 0, 32, .rov, .const 0, .k2⟩
def TLR_PIN_PIN : Field := ⟨.tlr, 0x020, 0, 32, .rov, .const 0, .k0⟩
def TLR_TIE_CLOSED : Field := ⟨.tlr, 0x024, 0, 1, .rov, .const 0, .k2⟩
def TLR_TIE_SOURCE : Field := ⟨.tlr, 0x024, 1, 1, .rov, .const 0, .k2⟩
def TLR_TIE_PARTNER : Field := ⟨.tlr, 0x024, 2, 12, .rov, .const 0, .k2⟩
def TLR_VOUT_REF : Field := ⟨.tlr, 0x028, 0, 8, .rov, .const 0, .k0⟩
def TLR_VOUT_VOUT : Field := ⟨.tlr, 0x028, 16, 16, .rov, .const 0, .k0⟩
def TLR_REIN_NAKS : Field := ⟨.tlr, 0x02C, 0, 16, .rov, .const 0, .k2⟩
def TLR_REIN_BADTYPE : Field := ⟨.tlr, 0x02C, 16, 16, .rov, .const 0, .k2⟩
def TLR_HDR_FORCED : Field := ⟨.tlr, 0x030, 0, 8, .rov, .const 0, .k2⟩
/-! Fields of R316. -/
def FCV_MASK_EN : Field := ⟨.fcvMask, 0x000, 0, 32, .rw, .const 0xFFFFFFFF, .k2⟩
def FCV_MASK4_EN : Field := ⟨.fcv, 0x010, 0, 16, .rw, .const 0xFFF, .k2⟩
def FCV_STAT_SLICES : Field := ⟨.fcv, 0x014, 0, 8, .rov, .const 0xFF, .k2⟩
def FCV_STAT_NCH : Field := ⟨.fcv, 0x014, 8, 8, .rov, .const 0x8C, .k2⟩
def FCV_STAT_CLIP : Field := ⟨.fcv, 0x014, 16, 1, .w1c, .const 0, .k2⟩
def FCV_STAT_FAULT : Field := ⟨.fcv, 0x014, 17, 1, .rov, .const 0, .k3⟩
def FCV_URG_CH : Field := ⟨.fcv, 0x018, 0, 8, .wo, .const 0, .k0⟩
def FCV_URG_RES_CODE : Field := ⟨.fcv, 0x01C, 0, 12, .rov, .const 0, .k0⟩
def FCV_URG_RES_STATUS : Field := ⟨.fcv, 0x01C, 12, 2, .rov, .const 0, .k0⟩
def FCV_URG_DROP_COUNT : Field := ⟨.fcv, 0x020, 0, 32, .rov, .const 0, .k2⟩
def FCV_SLICE_A_OFF : Field := ⟨.fcvSlice, 0x040, 0, 16, .rov, .const 0, .k2⟩
def FCV_SLICE_A_GAIN : Field := ⟨.fcvSlice, 0x040, 16, 16, .rov, .const 0x4000, .k2⟩
def FCV_SLICE_B_SKEW : Field := ⟨.fcvSlice, 0x044, 0, 8, .rov, .const 0, .k2⟩
def FCV_SLICE_B_RETIRED : Field := ⟨.fcvSlice, 0x044, 8, 1, .rov, .const 0, .k3⟩
def FCV_SLICE_B_LIMITRUN : Field := ⟨.fcvSlice, 0x044, 16, 8, .rov, .const 0, .k2⟩
def FCV_LAST_CODE : Field := ⟨.fcvLast, 0x200, 0, 12, .rov, .const 0, .k0⟩
def FCV_LAST_FRESH : Field := ⟨.fcvLast, 0x200, 12, 1, .rov, .const 0, .k0⟩
/-! Fields of R330. -/
def FCE_CTRL_RUN : Field := ⟨.fce, 0x800, 0, 1, .rw, .const 0, .k2⟩
def FCE_PERIOD_START : Field := ⟨.fce, 0x808, 0, 64, .rov, .const 0, .k2⟩
def FCE_STAT_FRAME_MISS : Field := ⟨.fce, 0x810, 0, 1, .w1c, .const 0, .k2⟩
def FCE_STAT_MISSED : Field := ⟨.fce, 0x810, 16, 16, .rov, .const 0, .k2⟩
def FCE_LOOP_CFG_LAW : Field := ⟨.loop, 0x000, 0, 2, .rw, .const 0, .k2⟩
def FCE_LOOP_CFG_NX : Field := ⟨.loop, 0x000, 2, 2, .rw, .const 3, .k2⟩
def FCE_LOOP_CFG_SWAP : Field := ⟨.loop, 0x000, 4, 1, .w1s, .const 0, .k2⟩
def FCE_LOOP_CFG_TIED : Field := ⟨.loop, 0x000, 5, 1, .rw, .const 0, .k2⟩
def FCE_LOOP_CFG_REG : Field := ⟨.loop, 0x000, 6, 12, .rw, .loopRegulator, .k2⟩
def FCE_LOOP_DLIM_DMIN : Field := ⟨.loop, 0x004, 0, 16, .rw, .const 0, .k4⟩
def FCE_LOOP_DLIM_DMAX : Field := ⟨.loop, 0x004, 16, 16, .rw, .const 0x9999, .k4⟩
def FCE_LOOP_STAT_SAT : Field := ⟨.loop, 0x008, 0, 1, .w1c, .const 0, .k2⟩
def FCE_LOOP_STAT_CLAMP_HI : Field := ⟨.loop, 0x008, 1, 1, .rov, .const 0, .k2⟩
def FCE_LOOP_STAT_CLAMP_LO : Field := ⟨.loop, 0x008, 2, 1, .rov, .const 0, .k2⟩
def FCE_LOOP_STAT_FROZEN : Field := ⟨.loop, 0x008, 3, 1, .rov, .const 1, .k2⟩
def FCE_LOOP_U_WORD : Field := ⟨.loop, 0x00C, 0, 16, .rov, .const 0, .k2⟩
def FCE_LOOP_E_E : Field := ⟨.loop, 0x010, 0, 32, .rov, .const 0, .k2⟩
def FCE_LOOP_X_X : Field := ⟨.loopX, 0x014, 0, 32, .rov, .const 0, .k2⟩
def FCE_LOOP_ACC_Y_SUMY : Field := ⟨.loop, 0x028, 0, 64, .rov, .const 0, .k2⟩
def FCE_LOOP_ACC_I_SUMI : Field := ⟨.loop, 0x030, 0, 64, .rov, .const 0, .k2⟩
def FCE_LOOP_ACC_P_SUMP : Field := ⟨.loop, 0x038, 0, 64, .rov, .const 0, .k2⟩
def FCE_LOOP_ACC_MIN_MINY : Field := ⟨.loop, 0x040, 0, 12, .rov, .const 0, .k2⟩
def FCE_LOOP_ACC_MIN_N : Field := ⟨.loop, 0x040, 12, 10, .rov, .const 0, .k2⟩
def FCE_LOOP_ACC_MINT_T : Field := ⟨.loop, 0x048, 0, 64, .rov, .const 0, .k2⟩
def FCE_LOOP_SCOEF_COEF : Field := ⟨.loopSCoef, 0x080, 0, 32, .rw, .const 0, .k4⟩
def FCE_LOOP_SSH_SHIFT : Field := ⟨.loopSShift, 0x100, 0, 5, .rw, .const 0, .k4⟩
def FCE_LOOP_ACOEF_COEF : Field := ⟨.loopACoef, 0x180, 0, 32, .rov, .const 0, .k4⟩
def FCE_LOOP_ASH_SHIFT : Field := ⟨.loopAShift, 0x200, 0, 5, .rov, .const 0, .k4⟩
/-! Fields of R356. -/
def PWR_CAP_CAP_W : Field := ⟨.pwr, 0x000, 0, 12, .rw, .const 0x898, .k4⟩
def PWR_PRIO_FIRST : Field := ⟨.pwr, 0x004, 0, 2, .rw, .const 0, .k4⟩
def PWR_PRIO_SECOND : Field := ⟨.pwr, 0x004, 2, 2, .rw, .const 1, .k4⟩
def PWR_PRIO_THIRD : Field := ⟨.pwr, 0x004, 4, 2, .rw, .const 2, .k4⟩
def PWR_WIN_START : Field := ⟨.pwr, 0x008, 0, 64, .rov, .const 0, .k2⟩
def PWR_EST_MW : Field := ⟨.pwr, 0x010, 0, 32, .rov, .const 0, .k0⟩
def PWR_MEAS_MW : Field := ⟨.pwr, 0x014, 0, 32, .rov, .const 0, .k0⟩
def PWR_GRANT_LNK_MW : Field := ⟨.pwr, 0x018, 0, 32, .rov, .const 0, .k0⟩
def PWR_GRANT_MEM_MW : Field := ⟨.pwr, 0x01C, 0, 32, .rov, .const 0, .k0⟩
def PWR_GRANT_CMP_MW : Field := ⟨.pwr, 0x020, 0, 32, .rov, .const 0, .k0⟩
def PWR_STAT_OVER : Field := ⟨.pwr, 0x024, 0, 1, .rov, .const 0, .k0⟩
def PWR_STAT_AVS_VALID : Field := ⟨.pwr, 0x024, 1, 1, .rov, .const 0, .k0⟩
def PWR_STAT_DISC_RUN : Field := ⟨.pwr, 0x024, 2, 4, .rov, .const 0, .k0⟩
def PWR_STAT_DISC : Field := ⟨.pwr, 0x024, 6, 1, .rov, .const 0, .k2⟩
def PWR_STAT_DISC_RAIL : Field := ⟨.pwr, 0x024, 7, 3, .rov, .const 0, .k2⟩
def PWR_STAT_FLOOR : Field := ⟨.pwr, 0x024, 10, 1, .rov, .const 0, .k0⟩
def PWR_ENERGY_MJ : Field := ⟨.pwr, 0x028, 0, 64, .rov, .const 0, .k3⟩
def PWR_TILE_LIMIT : Field := ⟨.pwrTile, 0x1000, 0, 4, .rw, .const 0xF, .k4⟩
def PWR_TILE_CAPN : Field := ⟨.pwrTile, 0x1000, 4, 4, .rov, .const 0xC, .k2⟩
def PWR_TILE_THN : Field := ⟨.pwrTile, 0x1000, 8, 4, .rov, .const 0xF, .k2⟩
/-! Fields of R357. -/
def THM_STAT_LEVEL : Field := ⟨.thm, 0x000, 0, 3, .rov, .const 0, .k2⟩
def THM_STAT_FAST : Field := ⟨.thm, 0x000, 3, 1, .rov, .const 0, .k2⟩
def THM_STAT_ROR_WARN : Field := ⟨.thm, 0x000, 4, 1, .rov, .const 0, .k2⟩
def THM_STAT_ROR_ACT : Field := ⟨.thm, 0x000, 5, 1, .rov, .const 0, .k2⟩
def THM_TMAX_TEMP : Field := ⟨.thm, 0x004, 0, 16, .rov, .const 0, .k0⟩
def THM_TMAX_TILE : Field := ⟨.thm, 0x004, 16, 10, .rov, .const 0, .k0⟩
def THM_MEMMAX_TEMP : Field := ⟨.thm, 0x008, 0, 16, .rov, .const 0, .k0⟩
def THM_MEMMAX_FOLD : Field := ⟨.thm, 0x008, 16, 6, .rov, .const 0, .k0⟩
def THM_RATE_RATE : Field := ⟨.thm, 0x00C, 0, 16, .rov, .const 0, .k0⟩
def THM_TTT_US : Field := ⟨.thm, 0x010, 0, 32, .rov, .const 0xFFFFFFFF, .k0⟩
def THM_BROKEN_TILE : Field := ⟨.thmBroken, 0x100, 0, 32, .rov, .const 0, .k2⟩
def THM_DBROKEN_FOLD : Field := ⟨.thm, 0x180, 0, 64, .rov, .const 0, .k2⟩
/-! Fields of R379. -/
def WELT_PSTAT_STATE : Field := ⟨.welt, 0x000, 0, 3, .rov, .const 1, .k2⟩
def WELT_PSTAT_LANES : Field := ⟨.welt, 0x000, 3, 4, .rov, .const 0, .k2⟩
def WELT_PSTAT_FPMISM : Field := ⟨.welt, 0x000, 7, 1, .rov, .const 0, .k2⟩
def WELT_PSTAT_PEERNO : Field := ⟨.welt, 0x000, 8, 8, .rov, .const 0, .k2⟩
def WELT_PSTAT_PEERCLS : Field := ⟨.welt, 0x000, 16, 1, .rov, .const 0, .k2⟩
def WELT_PSTAT_CONFLICT : Field := ⟨.welt, 0x000, 17, 1, .rov, .const 0, .k2⟩
def WELT_PEERID_ID : Field := ⟨.welt, 0x008, 0, 64, .rov, .const 0, .k2⟩
def WELT_PEERFP_FP : Field := ⟨.welt, 0x010, 0, 64, .rov, .const 0, .k2⟩
def WELT_TIME_HOPS : Field := ⟨.welt, 0x018, 0, 8, .rov, .const 0xFF, .k2⟩
def WELT_TIME_SOURCE : Field := ⟨.welt, 0x018, 8, 1, .rov, .const 0, .k2⟩
def WELT_TIME_LOCKED : Field := ⟨.welt, 0x018, 9, 1, .rov, .const 0, .k2⟩
def WELT_TIME_OFFSET : Field := ⟨.welt, 0x018, 16, 16, .rov, .const 0, .k2⟩
def WELT_REPLAY_COUNT : Field := ⟨.welt, 0x020, 0, 32, .rov, .const 0, .k2⟩
def WELT_HOLDID_NEXT : Field := ⟨.welt, 0x024, 0, 32, .rov, .const 0, .k2⟩
def WELT_HOLDLOST_COUNT : Field := ⟨.welt, 0x028, 0, 32, .rov, .const 0, .k2⟩
def WELT_HOLDEXP_COUNT : Field := ⟨.welt, 0x02C, 0, 32, .rov, .const 0, .k2⟩
def WELT_DISCARD_COUNT : Field := ⟨.welt, 0x030, 0, 32, .rov, .const 0, .k2⟩
def WELT_LANE_FEC_SYM : Field := ⟨.weltLane, 0x040, 0, 64, .rov, .const 0, .k2⟩
def WELT_LANE_UNC_CW : Field := ⟨.weltLane, 0x048, 0, 32, .rov, .const 0, .k2⟩
def WELT_LANE_ST_STATE : Field := ⟨.weltLane, 0x04C, 0, 2, .rov, .const 0, .k2⟩
/-! Fields of R387. -/
def PCIE_LINK_RATE : Field := ⟨.pcie, 0x000, 0, 3, .rov, .const 0, .k2⟩
def PCIE_LINK_WIDTH : Field := ⟨.pcie, 0x000, 3, 5, .rov, .const 0, .k2⟩
def PCIE_LINK_FLIT : Field := ⟨.pcie, 0x000, 8, 1, .rov, .const 0, .k2⟩
def PCIE_VFEN_EN : Field := ⟨.pcie, 0x004, 0, 16, .rov, .const 1, .k2⟩
def PCIE_BADACC_COUNT : Field := ⟨.pcie, 0x008, 0, 32, .rov, .const 0, .k2⟩
def PCIE_HOSTERR_COUNT : Field := ⟨.pcie, 0x00C, 0, 32, .rov, .const 0, .k2⟩
/-! Fields of R394. -/
def MGT_STAT_LINK : Field := ⟨.mgt, 0x000, 0, 1, .rov, .const 0, .k2⟩
def MGT_STAT_CONN : Field := ⟨.mgt, 0x000, 1, 4, .rov, .const 0, .k1⟩
def MGT_STAT_PTP : Field := ⟨.mgt, 0x000, 5, 1, .rov, .const 0, .k2⟩
def MGT_STAT_WALLOK : Field := ⟨.mgt, 0x000, 6, 1, .rov, .const 0, .k2⟩
def MGT_WALL_OFFSET : Field := ⟨.mgt, 0x008, 0, 64, .rov, .const 0, .k2⟩
def MGT_REFUSED_COUNT : Field := ⟨.mgt, 0x010, 0, 32, .rov, .const 0, .k2⟩
def MGT_EVLOST_COUNT : Field := ⟨.mgt, 0x014, 0, 32, .rov, .const 0, .k2⟩
def MGT_BADFRAME_COUNT : Field := ⟨.mgt, 0x018, 0, 32, .rov, .const 0, .k2⟩
/-! Fields of R440. -/
def LREC_STAT_HEAD : Field := ⟨.lrec, 0x000, 0, 9, .rov, .const 0, .k4⟩
def LREC_STAT_SNAPSEC : Field := ⟨.lrec, 0x000, 9, 9, .rov, .const 0, .k4⟩
def LREC_STAT_FLUSHING : Field := ⟨.lrec, 0x000, 18, 1, .rov, .const 0, .k2⟩
def LREC_STAT_LOWSPARE : Field := ⟨.lrec, 0x000, 19, 1, .rov, .const 0, .k4⟩
def LREC_STAT_REPLACE : Field := ⟨.lrec, 0x000, 20, 1, .rov, .const 0, .k4⟩
def LREC_SEQ_NEXT : Field := ⟨.lrec, 0x008, 0, 64, .rov, .const 0, .k4⟩
def LREC_POWERED_MIN : Field := ⟨.lrec, 0x010, 0, 32, .rov, .const 0, .k4⟩
def LREC_REWRITE_MIN : Field := ⟨.lrec, 0x014, 0, 32, .rov, .const 0, .k4⟩
def LREC_LOST_COUNT : Field := ⟨.lrec, 0x018, 0, 32, .rov, .const 0, .k3⟩
def LREC_COAL_COUNT : Field := ⟨.lrec, 0x01C, 0, 32, .rov, .const 0, .k2⟩
def LREC_ERASEMAX_COUNT : Field := ⟨.lrec, 0x020, 0, 32, .rov, .const 0, .k4⟩
def LREC_BADENT_COUNT : Field := ⟨.lrec, 0x024, 0, 32, .rov, .const 0, .k2⟩

/-- Every field of the catalogue, block by block. -/
def fieldsOf_ta : List Field :=
  [TA_ARITH_SATF, TA_ARITH_RMODE, TA_AFLAGS_INT_OVF, TA_AFLAGS_NONFINITE_IN, TA_AFLAGS_SCALE_SIGN,
   TA_AFLAGS_KT_RSVD, TA_AFLAGS_CVT_NAN_ZERO, TA_AFLAGS_CVT_SAT, TA_AFLAGS_CVT_INF_NAN, TA_SEED_TA_SEED,
   TA_SEED_VEC_SEED, TA_SRNG_TA_STATE, TA_SRNG_VEC_STATE]
def fieldsOf_nbc : List Field :=
  [NBC_CTRL_EN, NBC_CTRL_MODE, NBC_TOL_EXTRA, NBC_STATUS_OPEN, NBC_STATUS_VIOL,
   NBC_STATUS_EXEMPT, NBC_VIOL_SEQ_SEQ, NBC_VIOL_POS_ROW, NBC_VIOL_POS_COL, NBC_VIOL_Y_Y,
   NBC_VIOL_B_BTOL, NBC_VIOLATIONS_COUNT, NBC_VIOL_C_C, NBC_VSH_STAT_MISMATCH, NBC_VSH_SEQ_SEQ,
   NBC_VSH_ELEM_ELEM, NBC_VSH_ROW_ROW, NBC_VSH_MAIN_MAIN, NBC_VSH_SHAD_SHAD, NBC_DUAL_MISMATCH,
   NBC_DUAL_UNIT, NBC_DUAL_MSG, NBC_DUAL_LAG, NBC_DUAL_SEQ_SEQ, NBC_GUARD_STALL,
   NBC_SELFTEST_TIME]
def fieldsOf_tile : List Field :=
  [TILE_ID_TILE, TILE_ID_FOLD, TILE_ID_QUAD, TILE_ID_LOCAL, TILE_STATE_STATE,
   TILE_BOOT_ADDR, TILE_BOOT_SPACE, TILE_JOB_JOB, TILE_NOTCH_CUR, TILE_NOTCH_TARGET,
   TILE_HOBBLE_PAUSE, TILE_WDOG_LIMIT, TILE_WDOG_REMAIN, TILE_TEMP_TEMP, TILE_FAULT_CAUSE,
   TILE_FAULT_VALID, TILE_FAULT_EXIT, TILE_FAULT_PC_PC, TILE_FAULT_VAL_VAL, TILE_PG_DIR_DIR,
   TILE_PG_FRAMES_NFRAMES, TILE_PG_FRAMES_RESERVE, TILE_PG_BASE_FBASE, TILE_PG_GEOM_DCODE, TILE_PG_GEOM_FFMT,
   TILE_PG_GEOM_KSLOT, TILE_PG_CMD_INDEX, TILE_PG_CMD_OP, TILE_PG_CMD_FMT, TILE_PG_CMD_COUNT,
   TILE_PG_RES_INDEX, TILE_PG_RES_STATUS, TILE_PG_RES_DONE, TILE_PG_FREE_FREE, TILE_PG_FREE_PENDING,
   TILE_PG_EPOCH_EPOCH, TILE_PG_STAT_EXHAUSTED]
def fieldsOf_txc : List Field :=
  [TILE_TXC_CFG_DEST, TILE_TXC_CFG_DCH, TILE_TXC_CFG_EN, TILE_TXC_REMOTE_STACK, TILE_TXC_REMOTE_TILE,
   TILE_TXC_REMOTE_CH, TILE_TXC_CREDIT_CREDITS, TILE_TXC_CREDIT_MAXLEN, TILE_TXC_STAT_DENIED]
def fieldsOf_rxc : List Field :=
  [TILE_RXC_BASE_BASE, TILE_RXC_RING_SLOTSZ, TILE_RXC_RING_SLOTS, TILE_RXC_RING_EN, TILE_RXC_SRC_SRC,
   TILE_RXC_SRC_SCH, TILE_RXC_STAT_FULL, TILE_RXC_STAT_CFG_ERR, TILE_RXC_STAT_HEAD, TILE_RXC_STAT_DISCARD]
def fieldsOf_mbx : List Field :=
  [MBX_CTRL_GO, MBX_CTRL_RELEASE, MBX_STAT_STATE, MBX_STAT_LATE, MBX_STAT_STATUS,
   MBX_ACCEPT_TAG, MBX_EVT_CONS_CONS]
def fieldsOf_sp : List Field :=
  [MBX_SP_INFO_LEVEL, MBX_SP_INFO_READY, MBX_SP_INFO_DSTATE, MBX_SP_INFO_SSTATE, MBX_SP_INFO_RESTARTS,
   MBX_SP_FPRINT_FPRINT, MBX_SP_STIME_STIME, MBX_SP_EVT_PROD_PROD, MBX_SP_EVT_LOST_LOST]
def fieldsOf_ring : List Field :=
  [MBX_RING_BASE_BASE, MBX_RING_CFG_LOG2N, MBX_RING_CFG_ESC, MBX_RING_CFG_IRQ_EVERY, MBX_RING_CFG_IRQ_HOLD,
   MBX_RING_CFG_EN, MBX_RING_PROD_PROD, MBX_RING_CONS_CONS, MBX_RING_STAT_STALL]
def fieldsOf_vshOp : List Field :=
  [NBC_VSH_OP_OP]
def fieldsOf_vch : List Field :=
  [VCH_STATE_STATE, VCH_STATE_REFRESH2X, VCH_KEY_CUR, VCH_KEY_PREV, VCH_KEY_ROT,
   VCH_ROT_MARK_MARK, VCH_ERR_LINE, VCH_ERR_OUTCOME, VCH_CRCERR_COUNT, VCH_CORR_COUNT,
   VCH_RECOMP_COUNT, VCH_POISONED_COUNT, VCH_TRAIN_LAYERS, VCH_TRAIN_EYE, VCH_TRAIN_RETRAINS,
   VCH_REPAIR_ROWS, VCH_REPAIR_LANES]
def fieldsOf_tlr : List Field :=
  [TLR_SET_VSET, TLR_SET_SEQ, TLR_SET_NOTCH, TLR_RLL_RLL, TLR_CFG_EN,
   TLR_CFG_BURST_EN, TLR_CFG_SHED_EN, TLR_CFG_HINT_MAXUP, TLR_CFG_HDR_STAGE, TLR_STAT_STATE,
   TLR_STAT_PHASES, TLR_STAT_SLEW, TLR_STAT_HINT, TLR_STAT_BAL_LIMIT, TLR_STAT_SHED_BLOCK,
   TLR_FAULT_CAUSE, TLR_FAULT_PHASE, TLR_FAULT_VALID, TLR_FAULT_COUNT, TLR_TRIM_TRIM,
   TLR_TRIM_HI_TRIM, TLR_SCEVT_COUNT, TLR_PIN_PIN, TLR_TIE_CLOSED, TLR_TIE_SOURCE,
   TLR_TIE_PARTNER, TLR_VOUT_REF, TLR_VOUT_VOUT, TLR_REIN_NAKS, TLR_REIN_BADTYPE,
   TLR_HDR_FORCED]
def fieldsOf_fcvMask : List Field :=
  [FCV_MASK_EN]
def fieldsOf_fcv : List Field :=
  [FCV_MASK4_EN, FCV_STAT_SLICES, FCV_STAT_NCH, FCV_STAT_CLIP, FCV_STAT_FAULT,
   FCV_URG_CH, FCV_URG_RES_CODE, FCV_URG_RES_STATUS, FCV_URG_DROP_COUNT]
def fieldsOf_fcvSlice : List Field :=
  [FCV_SLICE_A_OFF, FCV_SLICE_A_GAIN, FCV_SLICE_B_SKEW, FCV_SLICE_B_RETIRED, FCV_SLICE_B_LIMITRUN]
def fieldsOf_fcvLast : List Field :=
  [FCV_LAST_CODE, FCV_LAST_FRESH]
def fieldsOf_fce : List Field :=
  [FCE_CTRL_RUN, FCE_PERIOD_START, FCE_STAT_FRAME_MISS, FCE_STAT_MISSED]
def fieldsOf_loop : List Field :=
  [FCE_LOOP_CFG_LAW, FCE_LOOP_CFG_NX, FCE_LOOP_CFG_SWAP, FCE_LOOP_CFG_TIED, FCE_LOOP_CFG_REG,
   FCE_LOOP_DLIM_DMIN, FCE_LOOP_DLIM_DMAX, FCE_LOOP_STAT_SAT, FCE_LOOP_STAT_CLAMP_HI, FCE_LOOP_STAT_CLAMP_LO,
   FCE_LOOP_STAT_FROZEN, FCE_LOOP_U_WORD, FCE_LOOP_E_E, FCE_LOOP_ACC_Y_SUMY, FCE_LOOP_ACC_I_SUMI,
   FCE_LOOP_ACC_P_SUMP, FCE_LOOP_ACC_MIN_MINY, FCE_LOOP_ACC_MIN_N, FCE_LOOP_ACC_MINT_T]
def fieldsOf_loopX : List Field :=
  [FCE_LOOP_X_X]
def fieldsOf_loopSCoef : List Field :=
  [FCE_LOOP_SCOEF_COEF]
def fieldsOf_loopSShift : List Field :=
  [FCE_LOOP_SSH_SHIFT]
def fieldsOf_loopACoef : List Field :=
  [FCE_LOOP_ACOEF_COEF]
def fieldsOf_loopAShift : List Field :=
  [FCE_LOOP_ASH_SHIFT]
def fieldsOf_pwr : List Field :=
  [PWR_CAP_CAP_W, PWR_PRIO_FIRST, PWR_PRIO_SECOND, PWR_PRIO_THIRD, PWR_WIN_START,
   PWR_EST_MW, PWR_MEAS_MW, PWR_GRANT_LNK_MW, PWR_GRANT_MEM_MW, PWR_GRANT_CMP_MW,
   PWR_STAT_OVER, PWR_STAT_AVS_VALID, PWR_STAT_DISC_RUN, PWR_STAT_DISC, PWR_STAT_DISC_RAIL,
   PWR_STAT_FLOOR, PWR_ENERGY_MJ]
def fieldsOf_pwrTile : List Field :=
  [PWR_TILE_LIMIT, PWR_TILE_CAPN, PWR_TILE_THN]
def fieldsOf_thm : List Field :=
  [THM_STAT_LEVEL, THM_STAT_FAST, THM_STAT_ROR_WARN, THM_STAT_ROR_ACT, THM_TMAX_TEMP,
   THM_TMAX_TILE, THM_MEMMAX_TEMP, THM_MEMMAX_FOLD, THM_RATE_RATE, THM_TTT_US,
   THM_DBROKEN_FOLD]
def fieldsOf_thmBroken : List Field :=
  [THM_BROKEN_TILE]
def fieldsOf_welt : List Field :=
  [WELT_PSTAT_STATE, WELT_PSTAT_LANES, WELT_PSTAT_FPMISM, WELT_PSTAT_PEERNO, WELT_PSTAT_PEERCLS,
   WELT_PSTAT_CONFLICT, WELT_PEERID_ID, WELT_PEERFP_FP, WELT_TIME_HOPS, WELT_TIME_SOURCE,
   WELT_TIME_LOCKED, WELT_TIME_OFFSET, WELT_REPLAY_COUNT, WELT_HOLDID_NEXT, WELT_HOLDLOST_COUNT,
   WELT_HOLDEXP_COUNT, WELT_DISCARD_COUNT]
def fieldsOf_weltLane : List Field :=
  [WELT_LANE_FEC_SYM, WELT_LANE_UNC_CW, WELT_LANE_ST_STATE]
def fieldsOf_pcie : List Field :=
  [PCIE_LINK_RATE, PCIE_LINK_WIDTH, PCIE_LINK_FLIT, PCIE_VFEN_EN, PCIE_BADACC_COUNT,
   PCIE_HOSTERR_COUNT]
def fieldsOf_mgt : List Field :=
  [MGT_STAT_LINK, MGT_STAT_CONN, MGT_STAT_PTP, MGT_STAT_WALLOK, MGT_WALL_OFFSET,
   MGT_REFUSED_COUNT, MGT_EVLOST_COUNT, MGT_BADFRAME_COUNT]
def fieldsOf_lrec : List Field :=
  [LREC_STAT_HEAD, LREC_STAT_SNAPSEC, LREC_STAT_FLUSHING, LREC_STAT_LOWSPARE, LREC_STAT_REPLACE,
   LREC_SEQ_NEXT, LREC_POWERED_MIN, LREC_REWRITE_MIN, LREC_LOST_COUNT, LREC_COAL_COUNT,
   LREC_ERASEMAX_COUNT, LREC_BADENT_COUNT]

/-- The fields of a block. -/
def Blk.fields : Blk → List Field
  | .ta => fieldsOf_ta
  | .nbc => fieldsOf_nbc
  | .tile => fieldsOf_tile
  | .txc => fieldsOf_txc
  | .rxc => fieldsOf_rxc
  | .mbx => fieldsOf_mbx
  | .sp => fieldsOf_sp
  | .ring => fieldsOf_ring
  | .vshOp => fieldsOf_vshOp
  | .vch => fieldsOf_vch
  | .tlr => fieldsOf_tlr
  | .fcvMask => fieldsOf_fcvMask
  | .fcv => fieldsOf_fcv
  | .fcvSlice => fieldsOf_fcvSlice
  | .fcvLast => fieldsOf_fcvLast
  | .fce => fieldsOf_fce
  | .loop => fieldsOf_loop
  | .loopX => fieldsOf_loopX
  | .loopSCoef => fieldsOf_loopSCoef
  | .loopSShift => fieldsOf_loopSShift
  | .loopACoef => fieldsOf_loopACoef
  | .loopAShift => fieldsOf_loopAShift
  | .pwr => fieldsOf_pwr
  | .pwrTile => fieldsOf_pwrTile
  | .thm => fieldsOf_thm
  | .thmBroken => fieldsOf_thmBroken
  | .welt => fieldsOf_welt
  | .weltLane => fieldsOf_weltLane
  | .pcie => fieldsOf_pcie
  | .mgt => fieldsOf_mgt
  | .lrec => fieldsOf_lrec

/-- The block with a given number, if there is one. -/
def Blk.ofCode : Nat → Option Blk
  | 0 => some .ta
  | 1 => some .nbc
  | 2 => some .tile
  | 3 => some .txc
  | 4 => some .rxc
  | 5 => some .mbx
  | 6 => some .sp
  | 7 => some .ring
  | 8 => some .vshOp
  | 9 => some .vch
  | 10 => some .tlr
  | 11 => some .fcvMask
  | 12 => some .fcv
  | 13 => some .fcvSlice
  | 14 => some .fcvLast
  | 15 => some .fce
  | 16 => some .loop
  | 17 => some .loopX
  | 18 => some .loopSCoef
  | 19 => some .loopSShift
  | 20 => some .loopACoef
  | 21 => some .loopAShift
  | 22 => some .pwr
  | 23 => some .pwrTile
  | 24 => some .thm
  | 25 => some .thmBroken
  | 26 => some .welt
  | 27 => some .weltLane
  | 28 => some .pcie
  | 29 => some .mgt
  | 30 => some .lrec
  | _ => none

end Sys2Proof.Machine
end

