-- ==== Sys2Proof/Machine/Table.lean ====
section
/-! DEFINITION. Reading and writing sparse tables. -/
namespace Sys2Proof.Tbl

/-- The value listed under a key. -/
def find {α : Type} : Tbl α → Nat → Option α
  | [], _ => none
  | (k, v) :: r, i => if i = k then some v else find r i

/-- The table with a key's value set; the keys keep their rising order. -/
def set {α : Type} : Tbl α → Nat → α → Tbl α
  | [], i, v => [(i, v)]
  | (k, w) :: r, i, v =>
    if i = k then (i, v) :: r
    else if i < k then (i, v) :: (k, w) :: r
    else (k, w) :: set r i v

/-- The table with a key no longer listed. -/
def del {α : Type} : Tbl α → Nat → Tbl α
  | [], _ => []
  | (k, w) :: r, i => if i = k then del r i else (k, w) :: del r i

/-- The table without the keys that a test names. -/
def drop {α : Type} (t : Tbl α) (p : Nat → Bool) : Tbl α := t.filter (fun kv => !p kv.1)

/-- The keys of the table are strictly rising and all above a bound. -/
def risingFrom {α : Type} : Nat → Tbl α → Bool
  | _, [] => true
  | lo, (k, _) :: r => decide (lo ≤ k) && risingFrom (k + 1) r

/-- The canonical order of a table. -/
def rising {α : Type} (t : Tbl α) : Bool := risingFrom 0 t

end Sys2Proof.Tbl
end

