-- ==== Sys2Proof/Machine/Memory.lean ====
section
/-! DEFINITION. Byte memories as sparse lists of cells: the scratchpads and host memory. Addresses
rise strictly, and no listed byte is zero, since an unlisted byte reads as zero (DESIGN CHOICE, log 5). -/
namespace Sys2Proof.Machine

/-- The byte at an address. -/
def Memory.get (m : List Host.Cell) (a : Nat) : Byte := (Tbl.find m a).getD 0#8

/-- The memory with one byte written. -/
def Memory.put (m : List Host.Cell) (a : Nat) (b : Byte) : List Host.Cell :=
  if b = 0#8 then Tbl.del m a else Tbl.set m a b

/-- `n` bytes from an address. -/
def Memory.getN (m : List Host.Cell) : Nat → Nat → Bytes
  | _, 0 => []
  | a, n + 1 => Memory.get m a :: Memory.getN m (a + 1) n

/-- The memory with a run of bytes written. -/
def Memory.putN (m : List Host.Cell) : Nat → Bytes → List Host.Cell
  | _, [] => m
  | a, b :: r => Memory.putN (Memory.put m a b) (a + 1) r

/-- The canonical form: addresses rising, no listed zero. -/
def Memory.wf (m : List Host.Cell) : Bool :=
  Tbl.rising m && m.all (fun c => decide (c.2 ≠ 0#8))

end Sys2Proof.Machine
end

