-- ==== Sys2Proof/Machine/Crypto.lean ====
section
/-! DEFINITION. The published functions that the spec names: SHA-256 (R192, R412 and others),
SHA-384 (R396, R401), AES-256 in XTS (R255, R169, R194), and the check codes CRC-16 (R241),
CRC-8 (R277), CRC-32 (R363) and CRC-64 (R208). -/
namespace Sys2Proof.Machine

/-! ## SHA-2 -/

/-- Rotation right of a `w`-bit number. -/
def ror (w n v : Nat) : Nat := ((v >>> n) ||| (v <<< (w - n))) % 2 ^ w

/-- A `w`-bit field of a packed row of `n` fields, the first one highest. -/
def packed (w n row i : Nat) : Nat := row / 2 ^ (w * (n - 1 - i)) % 2 ^ w

/-- The fields of packed rows, in order. -/
def unpack (w n : Nat) (rows : List Nat) : List Nat := rows.flatMap fun r => (List.range n).map (packed w n r)

/-- The round constants for 64-bit words, eight to a row. -/
def shaRows : List Nat :=
  [0x428A2F98D728AE227137449123EF65CDB5C0FBCFEC4D3B2FE9B5DBA58189DBBC3956C25BF348B53859F111F1B605D019923F82A4AF194F9BAB1C5ED5DA6D8118,
   0xD807AA98A303024212835B0145706FBE243185BE4EE4B28C550C7DC3D5FFB4E272BE5D74F27B896F80DEB1FE3B1696B19BDC06A725C71235C19BF174CF692694,
   0xE49B69C19EF14AD2EFBE4786384F25E30FC19DC68B8CD5B5240CA1CC77AC9C652DE92C6F592B02754A7484AA6EA6E4835CB0A9DCBD41FBD476F988DA831153B5,
   0x983E5152EE66DFABA831C66D2DB43210B00327C898FB213FBF597FC7BEEF0EE4C6E00BF33DA88FC2D5A79147930AA72506CA6351E003826F142929670A0E6E70,
   0x27B70A8546D22FFC2E1B21385C26C9264D2C6DFC5AC42AED53380D139D95B3DF650A73548BAF63DE766A0ABB3C77B2A881C2C92E47EDAEE692722C851482353B,
   0xA2BFE8A14CF10364A81A664BBC423001C24B8B70D0F89791C76C51A30654BE30D192E819D6EF5218D69906245565A910F40E35855771202A106AA07032BBD1B8,
   0x19A4C116B8D2D0C81E376C085141AB532748774CDF8EEB9934B0BCB5E19B48A8391C0CB3C5C95A634ED8AA4AE3418ACB5B9CCA4F7763E373682E6FF3D6B2B8A3,
   0x748F82EE5DEFB2FC78A5636F43172F6084C87814A1F0AB728CC702081A6439EC90BEFFFA23631E28A4506CEBDE82BDE9BEF9A3F7B2C67915C67178F2E372532B,
   0xCA273ECEEA26619CD186B8C721C0C207EADA7DD6CDE0EB1EF57D4F7FEE6ED17806F067AA72176FBA0A637DC5A2C898A6113F9804BEF90DAE1B710B35131C471B,
   0x28DB77F523047D8432CAAB7B40C724933C9EBE0A15C9BEBC431D67C49C100D4C4CC5D4BECB3E42B6597F299CFC657E2A5FCB6FAB3AD6FAEC6C44198C4A475817]

/-- What sets the two SHA-2 families apart: the width of a word in bytes, the rotations of the four mixing functions (a
shift stands last in those of the schedule), the round constants and the first chaining value. -/
structure Sha where
  bytes : Nat
  round : List Nat × List Nat
  sched : (List Nat × Nat) × (List Nat × Nat)
  consts : List Nat
  start : List Nat
  deriving DecidableEq, Repr

/-- SHA-256: the constants are the upper halves of the first 64. -/
def Sha.f256 : Sha :=
  { bytes := 4, round := ([2, 13, 22], [6, 11, 25]), sched := (([7, 18], 3), ([17, 19], 10))
    consts := (unpack 64 8 (shaRows.take 8)).map (· / 2 ^ 32)
    start := unpack 32 8 [0x6A09E667BB67AE853C6EF372A54FF53A510E527F9B05688C1F83D9AB5BE0CD19] }

/-- SHA-384, which is SHA-512 with another start, cut short. -/
def Sha.f384 : Sha :=
  { bytes := 8, round := ([28, 34, 39], [14, 18, 41]), sched := (([1, 8], 7), ([19, 61], 6))
    consts := unpack 64 8 shaRows
    start := unpack 64 8 [0xCBBB9D5DC1059ED8629A292A367CD5079159015A3070DD17152FECD8F70E593967332667FFC00B318EB44A8768581511DB0C2E0D64F98FA747B5481DBEFA4FA4] }

/-- A word of a family. -/
def Sha.word (p : Sha) (v : Nat) : Nat := v % 2 ^ (8 * p.bytes)

/-- Rotations of a word, combined by exclusive or with a first value. -/
def Sha.mix (p : Sha) (rots : List Nat) (first v : Nat) : Nat := rots.foldl (fun acc n => acc ^^^ ror (8 * p.bytes) n v) first

/-- The message words of the rounds still to come, from the sixteen latest, newest first. -/
def Sha.extend (p : Sha) : Nat → List Nat → List Nat
  | 0, _ => []
  | n + 1, last =>
    let old := last.getD 14 0
    let new := last.getD 1 0
    let w := p.word (p.mix p.sched.1.1 (old / 2 ^ p.sched.1.2) old + p.mix p.sched.2.1 (new / 2 ^ p.sched.2.2) new
      + last.getD 6 0 + last.getD 15 0)
    w :: Sha.extend p n ((w :: last).take 16)

/-- A round with its constant and message word, on the eight working words. -/
def Sha.round1 (p : Sha) (v : List Nat) (k : Nat × Nat) : List Nat :=
  let x := v.getD 4 0
  let chosen := v.getD 6 0 ^^^ (x &&& (v.getD 5 0 ^^^ v.getD 6 0))
  let most := (v.getD 0 0 &&& v.getD 1 0) ||| (v.getD 2 0 &&& (v.getD 0 0 ||| v.getD 1 0))
  let up := k.1 + k.2 + v.getD 7 0 + p.mix p.round.2 0 x + chosen
  [p.word (up + most + p.mix p.round.1 0 (v.getD 0 0))] ++ v.take 3 ++ [p.word (v.getD 3 0 + up)] ++ (v.drop 4).take 3

/-- One block of sixteen words added to the chaining value. -/
def Sha.block (p : Sha) (h : List Nat) (b : Bytes) : List Nat :=
  let m := (chunks p.bytes 16 b).map beNat
  let w := m ++ p.extend (p.consts.length - 16) m.reverse
  ((p.consts.zip w).foldl p.round1 h).zipWith (fun x y => p.word (x + y)) h

/-- The digest of a byte run: a one bit, zeros up to the length field, and the length in bits (FIPS 180-4). -/
def Sha.digest (p : Sha) (b : Bytes) : Bytes :=
  let size := 16 * p.bytes
  let used := b.length + 1 + 2 * p.bytes
  let n := (used + size - 1) / size
  let m := b ++ 0x80#8 :: zeros (n * size - used) ++ toBE (2 * p.bytes) (8 * b.length)
  ((chunks size n m).foldl p.block p.start).flatMap (toBE p.bytes)

/-- SHA-256 of a byte run, 32 bytes. -/
def sha256 (b : Bytes) : Bytes := Sha.f256.digest b

/-- SHA-384 of a byte run, 48 bytes. -/
def sha384 (b : Bytes) : Bytes := (Sha.f384.digest b).take 48

/-! ## AES-256 and XTS -/

/-- Multiplication by x in GF(2^8). -/
def xtime (a : Nat) : Nat := ((a <<< 1) ^^^ (if a ≥ 128 then 0x11B else 0)) % 256

/-- The product in GF(2^8), over the bits of the second factor. -/
def gmulAux : Nat → Nat → Nat → Nat
  | 0, _, _ => 0
  | n + 1, a, b => (if b % 2 = 1 then a else 0) ^^^ gmulAux n (xtime a) (b / 2)

def gmul (a b : Nat) : Nat := gmulAux 8 a b

/-- The inverse in GF(2^8): the 254th power. -/
def ginv (a : Nat) : Nat :=
  let a2 := gmul a a; let a4 := gmul a2 a2; let a8 := gmul a4 a4; let a16 := gmul a8 a8
  let a32 := gmul a16 a16; let a64 := gmul a32 a32; let a128 := gmul a64 a64
  gmul (gmul (gmul a2 a4) (gmul a8 a16)) (gmul (gmul a32 a64) a128)

def rotl8 (n a : Nat) : Nat := ((a <<< n) ||| (a >>> (8 - n))) % 256

/-- The S-box of FIPS 197. -/
def sbox (a : Nat) : Nat :=
  let b := ginv a
  b ^^^ rotl8 1 b ^^^ rotl8 2 b ^^^ rotl8 3 b ^^^ rotl8 4 b ^^^ 0x63

/-- The inverse S-box. -/
def sboxInv (a : Nat) : Nat := ginv (rotl8 1 a ^^^ rotl8 3 a ^^^ rotl8 6 a ^^^ 0x05)

/-- The key schedule of AES-256: words newest first, extended once per round constant. -/
def aesExpand : Nat → Nat → Nat → List (List Nat) → List (List Nat)
  | 0, _, _, ws => ws
  | n + 1, i, rc, ws =>
    let t := ws.headD []
    let u := ws.getD 7 []
    let t' :=
      if i % 8 = 0 then
        match t.map sbox with
        | [a, b, c, d] => [b ^^^ rc, c, d, a]
        | x => x
      else if i % 8 = 4 then t.map sbox
      else t
    aesExpand n (i + 1) (if i % 8 = 0 then xtime rc else rc) (List.zipWith (· ^^^ ·) u t' :: ws)

/-- The 15 round keys of 16 bytes of a 32-byte key. -/
def aesRoundKeys (key : List Nat) : List (List Nat) :=
  let w0 := (List.range 8).map (fun i => (key.drop (4 * i)).take 4)
  let ws := (aesExpand 52 8 1 w0.reverse).reverse
  (List.range 15).map (fun r => ((ws.drop (4 * r)).take 4).flatMap id)

/-- ShiftRows as a choice of bytes. -/
def aesShift (s : List Nat) : List Nat :=
  [0, 5, 10, 15, 4, 9, 14, 3, 8, 13, 2, 7, 12, 1, 6, 11].map (fun i => s.getD i 0)

def aesShiftInv (s : List Nat) : List Nat :=
  [0, 13, 10, 7, 4, 1, 14, 11, 8, 5, 2, 15, 12, 9, 6, 3].map (fun i => s.getD i 0)

/-- MixColumns with the given column of coefficients. -/
def aesMix (m : List Nat) (s : List Nat) : List Nat :=
  (List.range 16).map (fun i =>
    let c := 4 * (i / 4); let r := i % 4
    (List.range 4).foldl (fun a j => a ^^^ gmul (m.getD ((j + 4 - r) % 4) 0) (s.getD (c + j) 0)) 0)

def addKey (s k : List Nat) : List Nat := List.zipWith (· ^^^ ·) s k

def aesEncRounds : List (List Nat) → List Nat → List Nat
  | [], s => s
  | [k], s => addKey (aesShift (s.map sbox)) k
  | k :: r, s => aesEncRounds r (addKey (aesMix [2, 3, 1, 1] (aesShift (s.map sbox))) k)

def aesDecRounds : List (List Nat) → List Nat → List Nat
  | [], s => s
  | [k], s => addKey ((aesShiftInv s).map sboxInv) k
  | k :: r, s => aesDecRounds r (aesMix [14, 11, 13, 9] (addKey ((aesShiftInv s).map sboxInv) k))

/-- AES-256 of one 16-byte block under expanded round keys. -/
def aesEnc (rk : List (List Nat)) (b : List Nat) : List Nat :=
  aesEncRounds rk.tail (addKey b (rk.headD []))

/-- The inverse cipher. -/
def aesDec (rk : List (List Nat)) (b : List Nat) : List Nat :=
  aesDecRounds rk.reverse.tail (addKey b (rk.reverse.headD []))

/-- The next XTS tweak: the product with x in GF(2^128), little-endian. -/
def xtsNext (t : Nat) : Nat := ((t <<< 1) ^^^ (if t ≥ 2 ^ 127 then 0x87 else 0)) % 2 ^ 128

def natBytes (n v : Nat) : List Nat := (toLE n v).map (·.toNat)

/-- The blocks of one data unit, each between two exclusive-ors with its tweak. -/
def xtsBlocks (f : List Nat → List Nat) : List Bytes → Nat → Bytes
  | [], _ => []
  | b :: r, t =>
    let tb := natBytes 16 t
    ((addKey (f (addKey (b.map (·.toNat)) tb)) tb).map (BitVec.ofNat 8)) ++ xtsBlocks f r (xtsNext t)

/-- XTS-AES-256 of one data unit of whole blocks (IEEE 1619). The key is a 512-bit number whose
low 256 bits are key 1, little-endian; the tweak is a 128-bit number. -/
def xtsEncrypt (key tweak : Nat) (b : Bytes) : Bytes :=
  let k1 := aesRoundKeys (natBytes 32 key)
  let k2 := aesRoundKeys (natBytes 32 (key / 2 ^ 256))
  let t := leNat ((aesEnc k2 (natBytes 16 tweak)).map (BitVec.ofNat 8))
  xtsBlocks (aesEnc k1) (chunks 16 (b.length / 16) b) t

/-- The inverse of `xtsEncrypt`. -/
def xtsDecrypt (key tweak : Nat) (b : Bytes) : Bytes :=
  let k1 := aesRoundKeys (natBytes 32 key)
  let k2 := aesRoundKeys (natBytes 32 (key / 2 ^ 256))
  let t := leNat ((aesEnc k2 (natBytes 16 tweak)).map (BitVec.ofNat 8))
  xtsBlocks (aesDec k1) (chunks 16 (b.length / 16) b) t

/-! ## Check codes -/

/-- One bit of a most-significant-bit-first CRC of width `w`. -/
def crcBit (w poly c : Nat) : Nat :=
  ((c <<< 1) ^^^ (if c ≥ 2 ^ (w - 1) then poly else 0)) % 2 ^ w

def crcByte (w poly c : Nat) (b : Byte) : Nat :=
  let c0 := c ^^^ (b.toNat <<< (w - 8))
  (List.range 8).foldl (fun x _ => crcBit w poly x) c0

/-- A CRC without reflection. -/
def crcMsb (w poly init : Nat) (b : Bytes) : Nat := b.foldl (crcByte w poly) init

/-- The CRC of R241 over a byte run. -/
def crc16 (b : Bytes) : Nat := crcMsb 16 0x8BB7 0 b

/-- The CRC-8 of the rein (R277). -/
def crc8 (b : Bytes) : Nat := crcMsb 8 0x07 0 b

/-- The CRC-64 of Dual-mode signatures, ECMA-182 polynomial (R208). -/
def crc64 (b : Bytes) : Nat := crcMsb 64 0x42F0E1EBA9EA3693 0 b

/-- One bit of the reflected CRC-32. -/
def crc32Bit (c : Nat) : Nat := (c >>> 1) ^^^ (if c % 2 = 1 then 0xEDB88320 else 0)

def crc32Byte (c : Nat) (b : Byte) : Nat :=
  (List.range 8).foldl (fun x _ => crc32Bit x) (c ^^^ b.toNat)

/-- The CRC-32 of R363: reflected, initial value and final exclusive-or of all ones. -/
def crc32 (b : Bytes) : Nat := (b.foldl crc32Byte 0xFFFFFFFF) ^^^ 0xFFFFFFFF

end Sys2Proof.Machine
end

