-- ==== Sys2Proof/Machine/Flash.lean ====
section
/-! DEFINITION. The board flash as bytes and what they say: its map and directory (R399, R400), firmware images (R401), the
two parts of the Stack Record (R404), configuration blocks (R405), and the sectors and entries of the Life Record (R432,
R433). Signatures are 96 bytes, r then s, most significant byte first (R445). -/
namespace Sys2Proof.Machine

/-! ## The structures -/

/-- A unit's history (R426): charges newest first as (powered minute, class, cleared, event code, record
sequence). -/
structure History where
  charges : List (Nat × Nat × Bool × Nat × Nat)
  lifeCharged : Nat
  lifeUncharged : Nat
  suspectAt : Nat
  replace : Bool
  penned : Bool
  viaTie : Bool
  deriving DecidableEq, Repr

/-- A journal entry (R433), with the CRC-32 that its header carries. -/
structure JEntry where
  type : Nat
  seq : Nat
  crc : Nat
  body : Bytes
  deriving DecidableEq, Repr

/-- A sector of the journal (R432): the bytes of its header, its entries, and whether it is lost for good. -/
structure Sector where
  header : Bytes
  entries : List JEntry
  bad : Bool
  deriving DecidableEq, Repr

/-- What a SNAPSHOT holds (R433): powered minutes, state, unit histories, and the lifetime counters with the histogram
totals. -/
structure Snapshot where
  minutes : Nat
  dstate : Nat
  histories : Tbl History
  life : Tbl Nat
  deriving DecidableEq, Repr

/-- A configuration block of the log (R405): its bytes, and whether the signature in them verifies under the identity key
(R445; log 160). -/
structure CfgBlock where
  bytes : Bytes
  sigOk : Bool
  deriving DecidableEq, Repr

/-- A firmware image (R401): its header, the bytes from 256 on, and whether the signature in the header verifies under the
firmware key (R445; log 160). -/
structure Image where
  header : Bytes
  body : Bytes
  sigOk : Bool
  deriving DecidableEq, Repr

/-- A copy of the factory part or of the operator identity (R404): its bytes, whether the signature in them verifies (R445;
log 160), and whether the helper data in them gives the key of the leaf certificate in them (R445). -/
structure Part where
  bytes : Bytes
  sigOk : Bool
  keyOk : Bool
  deriving DecidableEq, Repr

/-- A control bank of the factory part (R325). -/
structure Bank where
  law : Nat
  nx : Nat
  dmin : Nat
  dmax : Nat
  coef : List Nat
  shift : List Nat
  deriving DecidableEq, Repr

/-- What the sections of a factory part say (R404). -/
structure Factory where
  seq : Nat
  /-- Identity: STACKID, the PCIe vendor, subsystem vendor and subsystem IDs, MAC address, serial number, MIN_FW_SEQ. -/
  stackId : Nat
  vendor : Nat
  subVendor : Nat
  subsystem : Nat
  mac : Bytes
  serial : Nat
  minFwSeq : Nat
  /-- The identity certificate chain, DER. -/
  chain : Bytes
  /-- The provisioning public key. -/
  provKey : Bytes
  rowRepairs : List Nat
  laneRepairs : List Nat
  /-- Trims by the ID of their reports (R410). -/
  trims : Tbl Nat
  /-- TLR, TAR, CIR, tied TLR, tied TAR. -/
  banks : List Bank
  /-- The temperature coefficient of each tile's oscillator (R346). -/
  oscCoef : Tbl Int
  /-- Helper data of the identity key. -/
  helper : Bytes
  /-- TYPEs that are unknown. -/
  unknown : List Nat
  deriving DecidableEq, Repr

/-- What the sections of an operator identity say (R404). -/
structure Operator where
  seq : Nat
  /-- Operator certificates, DER, at most 8. -/
  certs : List Bytes
  ipv4 : Bytes
  ipv6 : Bytes
  unknown : List Nat
  deriving DecidableEq, Repr

/-- A copy of the flash directory (R399, R400): its sequence number, the bad-sector map as pairs of a sector and its spare, by
number, and whether it reads whole. -/
structure FlashDir where
  seq : Nat
  map : List (Nat × Nat)
  ok : Bool
  deriving DecidableEq, Repr

/-- An erase or program of the board flash that is under way (R398): a flush of the journal, the refresh of one copy of a region,
the erasure of the other half of the configuration log, or a retention pass. -/
inductive FlashWork where
  | flush
  | refresh (region copy : Nat)
  | half
  | retention
  deriving DecidableEq, Repr

/-- The board flash (R399) but for the journal. -/
structure Flash where
  dirs : List FlashDir
  images : List Image
  factory : List Part
  operator : List Part
  /-- The current half of the configuration log and the other one; which of the two halves of R399 is the current one. -/
  log : List CfgBlock
  other : List CfgBlock
  half : Nat
  /-- Powered minute of the last refresh of each copy, by 2 × region + copy (R400). -/
  refreshed : Tbl Nat
  busy : Option FlashWork
  deriving DecidableEq, Repr


/-! ## The map and the directory (R399, R400) -/

/-- The regions, as first address and size: 0 directory, 1 and 2 images A and B, 3 and 4 factory part copies, 5 and 6 operator
identity copies, 7 configuration log, 8 spare sectors, 9 Life Record. -/
def flashMap : List (Nat × Nat) :=
  [(0x0000000, 0x0010000), (0x0010000, 0x1000000), (0x1010000, 0x1000000), (0x2010000, 0x0400000), (0x2410000, 0x0400000),
   (0x2810000, 0x0100000), (0x2910000, 0x0100000), (0x2A10000, 0x0200000), (0x2C10000, 0x33F0000), (0x6000000, 0x2000000)]

/-- The number of a region's first sector. -/
def regionSector (r : Nat) : Nat := (flashMap.getD r (0, 0)).1 / 65536

/-- The directory copy in use: of those that read whole the one with the higher sequence number. -/
def Flash.dirAt (f : Flash) : Nat :=
  match f.dirs[0]?, f.dirs[1]? with
  | some a, some b => if b.ok && (!a.ok || decide (a.seq < b.seq)) then 1 else 0
  | _, _ => 0

/-- The bad-sector map in force. -/
def Flash.map (f : Flash) : List (Nat × Nat) :=
  match f.dirs[f.dirAt]? with
  | some d => if d.ok then d.map else []
  | none => []

/-- The sector that stands for a sector of the map of R399; a spare may have been replaced in its turn. -/
def Flash.sectorAt (f : Flash) (n : Nat) : Nat := f.map.foldl (fun n k => if k.1 = n then k.2 else n) n

/-- The address on the part of an address of R399. -/
def Flash.physical (f : Flash) (a : Nat) : Nat := f.sectorAt (a / 65536) * 65536 + a % 65536

/-- The spare sectors that stand for no sector, lowest first. -/
def Flash.freeSpares (f : Flash) : List Nat :=
  ((List.range ((flashMap.getD 8 (0, 0)).2 / 65536)).map (regionSector 8 + ·)).filter fun n => !f.map.any fun k => k.2 == n

/-- The directory rewritten with another map: the copy that is not in use takes the next sequence number. -/
def Flash.writeDir (f : Flash) (m : List (Nat × Nat)) : Flash :=
  { f with dirs := f.dirs.set (1 - f.dirAt) ⟨((f.dirs[f.dirAt]?).map (·.seq)).getD 0 + 1, m, true⟩ }

/-- A sector is mapped to the lowest free spare, if one is left. -/
def Flash.mapSector (f : Flash) (n : Nat) : Flash :=
  match f.freeSpares with
  | [] => f
  | p :: _ => f.writeDir (f.map ++ [(f.sectorAt n, p)])

/-! ## Firmware images (R401) -/

def Image.level (i : Image) : Nat := fld i.header 6 2
def Image.version (i : Image) : Nat := fld i.header 8 4
def Image.seq (i : Image) : Nat := fld i.header 12 4
def Image.digest (i : Image) : Bytes := sub i.header 64 48

/-- Every rule of the header holds against a MIN_FW_SEQ, and digest and signature verify. -/
def Image.ok (minSeq : Nat) (i : Image) : Bool :=
  i.header.length == 256 && fld i.header 0 4 == 0x5746584B && fld i.header 4 2 == 1 && decide (3 ≤ i.level)
    && decide (minSeq ≤ i.seq) && fld i.header 16 4 == 256 + i.body.length && decide (fld i.header 16 4 ≤ 16 * 1024 * 1024)
    && sub i.header 20 44 == zeros 44 && sub i.header 208 48 == zeros 48 && i.sigOk && i.digest == sha384 i.body

/-- An image with a header that names a digest. -/
def Image.make (level version seq : Nat) (body digest sig : Bytes) : Image :=
  { header := toLE 4 0x5746584B ++ toLE 2 1 ++ toLE 2 level ++ toLE 4 version ++ toLE 4 seq ++ toLE 4 (256 + body.length)
      ++ zeros 44 ++ digest ++ sub sig 0 96 ++ zeros 48
    body := body, sigOk := true }

/-- Erased flash where an image, a part or a block stood: no rule holds of it. -/
def Image.erased : Image := ⟨[], [], false⟩
def Part.erased : Part := ⟨[], false, false⟩

/-! ## The parts of the Stack Record (R404) -/

/-- Data padded to 16 bytes. -/
def pad16 (b : Bytes) : Bytes := b ++ zeros (ceilDiv b.length 16 * 16 - b.length)

/-- A section: TYPE, length of the data, the data padded to 16 bytes. -/
def sectionBytes (k : Nat × Bytes) : Bytes := toLE 2 k.1 ++ zeros 2 ++ toLE 4 k.2.length ++ zeros 8 ++ pad16 k.2

/-- A number of sections read one after the other. -/
def sectionsOf : Nat → Bytes → List (Nat × Bytes)
  | 0, _ => []
  | n + 1, b =>
    if b.length < 16 then []
    else (fld b 0 2, sub b 16 (fld b 4 4)) :: sectionsOf n (b.drop (16 + ceilDiv (fld b 4 4) 16 * 16))

def Part.seq (p : Part) : Nat := fld p.bytes 4 4
def Part.sections (p : Part) : List (Nat × Bytes) := sectionsOf (fld p.bytes 12 4) (p.bytes.drop 256)

def factoryMagic : Nat := 0x5246584B
def operatorMagic : Nat := 0x52464F4B

/-- A copy verifies: magic, length, the sections of its count, zeros, digest and signature. -/
def Part.ok (magic : Nat) (p : Part) : Bool :=
  fld p.bytes 0 4 == magic && p.sigOk && decide (256 ≤ p.bytes.length) && fld p.bytes 8 4 == p.bytes.length
    && sub p.bytes 160 96 == zeros 96 && (p.sections.flatMap sectionBytes).length + 256 == p.bytes.length
    && p.sections.length == fld p.bytes 12 4 && sub p.bytes 16 48 == sha384 (p.bytes.drop 256)

/-- A copy with a header that names a digest. -/
def Part.make (magic seq : Nat) (secs : List (Nat × Bytes)) (digest sig : Bytes) : Part :=
  let b := secs.flatMap sectionBytes
  { bytes := toLE 4 magic ++ toLE 4 seq ++ toLE 4 (256 + b.length) ++ toLE 4 secs.length ++ digest ++ sub sig 0 96 ++ zeros 96 ++ b
    sigOk := true, keyOk := true }

/-- The copy in use: of those that verify the one with the higher sequence number. -/
def usedCopy (magic : Nat) (l : List Part) : Option Nat :=
  match (l[0]?).filter (Part.ok magic), (l[1]?).filter (Part.ok magic) with
  | some a, some b => some (if a.seq < b.seq then 1 else 0)
  | some _, none => some 0
  | none, some _ => some 1
  | none, none => none

/-- Fields of `n` bytes, one after the other, with the numbers that they get. -/
def numbered (n count first : Nat) (b : Bytes) : Tbl Nat := (chunks n count b).zipIdx.map fun k => (first + k.2, leNat k.1)

/-- Signed 16-bit fields as trims are held: two's complement in 32 bits. -/
def numbered16 (count first : Nat) (b : Bytes) : Tbl Nat := (numbered 2 count first b).map fun k => (k.1, twos 32 (sext 16 k.2))

/-- A bank's place in its section (DESIGN CHOICE, log 159). -/
def Bank.ofBytes (b : Bytes) : Bank :=
  { law := fld b 0 1, nx := fld b 1 1, dmin := fld b 4 2, dmax := fld b 6 2
    coef := (chunks 4 32 (b.drop 8)).map leNat, shift := (chunks 1 32 (b.drop 136)).map leNat }

def Bank.bytes (b : Bank) : Bytes :=
  toLE 1 b.law ++ toLE 1 b.nx ++ zeros 2 ++ toLE 2 b.dmin ++ toLE 2 b.dmax ++ b.coef.flatMap (toLE 4) ++ b.shift.flatMap (toLE 1)

/-- What the sections of a factory part say; the places of fields inside sections are the model's (DESIGN CHOICE, log 159). -/
def Factory.ofPart (p : Part) : Factory :=
  let d := fun (ty : Nat) => ((p.sections.find? fun k => k.1 == ty).map (·.2)).getD []
  let id := d 0x0001
  { seq := p.seq, stackId := fld id 0 8, vendor := fld id 8 2, subVendor := fld id 10 2, subsystem := fld id 12 2
    mac := sub id 16 6, serial := fld id 24 8, minFwSeq := fld id 32 4, chain := d 0x0002, provKey := d 0x0003
    rowRepairs := (chunks 4 ((d 0x0004).length / 4) (d 0x0004)).map leNat
    laneRepairs := (chunks 4 ((d 0x0005).length / 4) (d 0x0005)).map leNat
    trims := numbered 1 2144 0x2000 (d 0x0006) ++ numbered 1 32 0x3000 ((d 0x0006).drop 2144) ++ numbered16 16384 0x4000 (d 0x0008)
      ++ numbered16 256 0x8000 (d 0x0009) ++ numbered16 64 0x8400 ((d 0x0009).drop 512) ++ numbered 4 10 0x8500 (d 0x000A)
    banks := (chunks 168 5 (d 0x0007)).map Bank.ofBytes
    oscCoef := (numbered 2 1024 0 ((d 0x0008).drop 32768)).map fun k => (k.1, sext 16 k.2)
    helper := d 0x000B
    unknown := (p.sections.map (·.1)).filter fun ty => !(decide (0x0001 ≤ ty ∧ ty ≤ 0x000B)) }

/-- The sections of a part with an identity, a chain, a provisioning key and control banks alone. -/
def Factory.sections (x : Factory) : List (Nat × Bytes) :=
  [(0x0001, toLE 8 x.stackId ++ toLE 2 x.vendor ++ toLE 2 x.subVendor ++ toLE 2 x.subsystem ++ zeros 2 ++ sub x.mac 0 6 ++ zeros 2
      ++ toLE 8 x.serial ++ toLE 4 x.minFwSeq),
   (0x0002, x.chain), (0x0003, x.provKey), (0x0007, x.banks.flatMap Bank.bytes)]

/-- The length of a DER element, header included. -/
def derSize (b : Bytes) : Nat :=
  let n := fld b 1 1
  if n < 128 then 2 + n else 2 + (n - 128) + beNat (sub b 2 (n - 128))

/-- DER certificates one after the other, at most `n`. -/
def derSplit : Nat → Bytes → List Bytes
  | 0, _ => []
  | n + 1, b => if b.length < 2 ∨ fld b 0 1 ≠ 0x30 then [] else b.take (derSize b) :: derSplit n (b.drop (derSize b))

/-- What the sections of an operator identity say. -/
def Operator.ofPart (p : Part) : Operator :=
  let d := fun (ty : Nat) => ((p.sections.find? fun k => k.1 == ty).map (·.2)).getD []
  { seq := p.seq, certs := derSplit 8 (d 0x0101), ipv4 := sub (d 0x0102) 0 4, ipv6 := sub (d 0x0102) 4 16
    unknown := (p.sections.map (·.1)).filter fun ty => ty != 0x0101 && ty != 0x0102 }

/-! ## Configuration blocks (R405) -/

def CfgBlock.seq (b : CfgBlock) : Nat := fld b.bytes 4 4

/-- The part of a block that its digest covers: the entries below ID 0x1000 in ascending ID, the NOTCH_LIMITs of tiles 0 to
1,023, 4 bits each. -/
def cfgBody (seq : Nat) (fields : List (Nat × Nat)) (limit : Nat → Nat) : Bytes :=
  let e := fields.flatMap fun k => toLE 2 k.1 ++ zeros 2 ++ toLE 4 k.2
  toLE 4 0x4346584B ++ toLE 4 seq ++ zeros 8 ++ sub e 0 360 ++ zeros 8
    ++ (List.range 512).map fun i => BitVec.ofNat 8 (limit (2 * i) % 16 + 16 * (limit (2 * i + 1) % 16))

/-- A block as the drover forms and signs it; `sign` is ECDSA under the identity key. -/
def CfgBlock.form (sign : Bytes → Bytes) (body : Bytes) : CfgBlock :=
  let b := body ++ sha256 body
  ⟨b ++ sub (sign b) 0 96, true⟩

/-- A block verifies: length, magic, zeros, digest and signature. -/
def CfgBlock.ok (b : CfgBlock) : Bool :=
  b.bytes.length == 1024 && b.sigOk && fld b.bytes 0 4 == 0x4346584B && sub b.bytes 8 8 == zeros 8
    && sub b.bytes 376 8 == zeros 8 && sub b.bytes 896 32 == sha256 (b.bytes.take 896)

/-- The values of a block, by ascending ID. -/
def CfgBlock.values (b : CfgBlock) : List (Nat × Nat) :=
  ((chunks 8 45 (sub b.bytes 16 360)).map fun e => (fld e 0 2, fld e 4 4))
    ++ (sub b.bytes 384 512).zipIdx.flatMap fun k => [(0x1000 + 2 * k.2, k.1.toNat % 16), (0x1001 + 2 * k.2, k.1.toNat / 16)]

/-- A block whose program is cut short after some pages of 256 bytes: the rest reads as erased flash (R397, R398, R405). -/
def CfgBlock.cut (b : CfgBlock) (pages : Nat) : CfgBlock :=
  ⟨b.bytes.take (256 * pages) ++ List.replicate (1024 - 256 * pages) 0xFF#8, false⟩

/-- What programming left does not read back as written. -/
def CfgBlock.garbled (b : CfgBlock) : CfgBlock := { b with sigOk := false }

/-! ## The Life Record (R432, R433) -/

/-- An entry with its CRC-32 over the sequence number and the body. -/
def JEntry.make (type seq : Nat) (body : Bytes) : JEntry := ⟨type, seq, crc32 (toLE 8 seq ++ body), body⟩

def JEntry.ok (e : JEntry) : Bool := e.crc == crc32 (toLE 8 e.seq ++ e.body)

/-- Bytes of an entry on flash. -/
def JEntry.size (e : JEntry) : Nat := 16 + e.body.length

/-- The bytes of an entry (R433). -/
def JEntry.bytes (e : JEntry) : Bytes := toLE 2 e.type ++ toLE 2 e.body.length ++ toLE 4 e.crc ++ toLE 8 e.seq ++ e.body

/-- An entry whose program is cut short: the header stands, the body reads as erased flash. -/
def JEntry.cut (e : JEntry) : JEntry := { e with body := List.replicate e.body.length 0xFF#8 }

/-- The header of a sector (R432). -/
def Sector.head (erases first opened : Nat) : Bytes :=
  let h := toLE 4 0x4A4C584B ++ toLE 4 erases ++ toLE 8 first ++ toLE 4 opened
  h ++ toLE 4 (crc32 h) ++ zeros 40

/-- The header verifies; one that does not is treated as empty (R434). -/
def Sector.ok (x : Sector) : Bool :=
  !x.bad && fld x.header 0 4 == 0x4A4C584B && fld x.header 20 4 == crc32 (x.header.take 20)

def Sector.erases (x : Sector) : Nat := if x.ok then fld x.header 4 4 else 0
def Sector.first (x : Sector) : Nat := fld x.header 8 8
def Sector.opened (x : Sector) : Nat := fld x.header 16 4

/-- Bytes used in a sector: its header and its entries. -/
def Sector.used (x : Sector) : Nat := x.entries.foldl (fun n e => n + e.size) 64

/-! ## SNAPSHOT entries (R433; their inner layout is the model's: DESIGN CHOICE, log 161) -/

def historyWords (k : Nat × History) : List Nat :=
  let h := k.2
  [k.1, h.lifeCharged, h.lifeUncharged, h.suspectAt, b2n h.replace + 2 * b2n h.penned + 4 * b2n h.viaTie, h.charges.length]
    ++ h.charges.flatMap fun c => [c.1, c.2.1, b2n c.2.2.1, c.2.2.2.1, c.2.2.2.2]

/-- The account as 64-bit words. -/
def Snapshot.words (n : Snapshot) : List Nat :=
  [n.minutes, n.dstate, n.life.length] ++ n.life.flatMap (fun k => [k.1, k.2]) ++ [n.histories.length]
    ++ n.histories.flatMap historyWords

def takePairs : Nat → List Nat → Tbl Nat × List Nat
  | n + 1, a :: b :: r => let k := takePairs n r; ((a, b) :: k.1, k.2)
  | _, r => ([], r)

def takeCharges : Nat → List Nat → List (Nat × Nat × Bool × Nat × Nat) × List Nat
  | n + 1, a :: b :: c :: d :: e :: r => let k := takeCharges n r; ((a, b, c == 1, d, e) :: k.1, k.2)
  | _, r => ([], r)

def takeHistories : Nat → List Nat → Tbl History
  | n + 1, u :: c :: x :: at' :: f :: m :: r =>
    let k := takeCharges m r
    (u, { charges := k.1, lifeCharged := c, lifeUncharged := x, suspectAt := at', replace := bit f 0, penned := bit f 1, viaTie := bit f 2 })
      :: takeHistories n k.2
  | _, _ => []

def Snapshot.ofWords : List Nat → Snapshot
  | m :: d :: n :: r =>
    let k := takePairs n r
    { minutes := m, dstate := d, life := k.1, histories := takeHistories (k.2.headD 0) k.2.tail }
  | _ => ⟨0, 0, [], []⟩

/-- The account's bytes in each part of a SNAPSHOT: with its own 16 bytes, a part stays below 32,768. -/
def partBytes : Nat := 32736

/-- The bodies of the n parts: k and n, then the account's bytes in turn. -/
def Snapshot.parts (n : Snapshot) : List Bytes :=
  let b := n.words.flatMap (toLE 8)
  let l := chunks partBytes (b.length / partBytes + 1) b
  l.zipIdx.map fun k => pad16 (toLE 2 (k.2 + 1) ++ toLE 2 l.length ++ zeros 12 ++ k.1)

/-- The account from the bodies of its parts. -/
def Snapshot.ofParts (l : List Bytes) : Snapshot :=
  let b := l.flatMap (·.drop 16)
  Snapshot.ofWords ((chunks 8 (b.length / 8) b).map leNat)

/-! ## The flash of a new part -/

def History.reset : History :=
  { charges := [], lifeCharged := 0, lifeUncharged := 0, suspectAt := 0, replace := false,
    penned := false, viaTie := false }

def Sector.reset : Sector := ⟨[], [], false⟩

/-- A control bank that a new part carries (DESIGN CHOICE, log 4). -/
def Bank.reset : Bank := ⟨1, 3, 0, 39321, List.replicate 32 0, List.replicate 32 0⟩

/-- The factory part of a new part (DESIGN CHOICE, log 4). -/
def Factory.reset : Factory :=
  { seq := 1, stackId := 1, vendor := 0, subVendor := 0, subsystem := 0, mac := zeros 6, serial := 0, minFwSeq := 0,
    chain := [0x30#8, 0x00#8], provKey := zeros 96, rowRepairs := [], laneRepairs := [], trims := [],
    banks := List.replicate 5 Bank.reset, oscCoef := [], helper := [], unknown := [] }

/-- A good firmware image of level 3 without a body (DESIGN CHOICE, log 4). -/
def Image.reset : Image := Image.make 3 0 0 [] (toBE 48 0x38B060A751AC96384CD9327EB1B1E36A21FDB71114BE07434C0CC7BF63F6E1DA274EDEBFE76F65FBD51AD2F14898B95B) []

/-- A good factory part (DESIGN CHOICE, log 4). -/
def Part.reset : Part := Part.make factoryMagic 1 Factory.reset.sections (toBE 48 0xCEC9B67C0CA3A96145FF846A636B77EC592570DFF9BD161E37833C5321F3F90CE773A4AF23FF35EBA84B79BC9CCB9643) []

/-- The flash of a new part: two good images and factory parts, no operator identity, an empty log (DESIGN CHOICE, log 4). -/
def Flash.reset : Flash :=
  { dirs := [⟨1, [], true⟩, ⟨1, [], true⟩], images := [Image.reset, Image.reset], factory := [Part.reset, Part.reset],
    operator := [Part.erased, Part.erased], log := [], other := [], half := 0, refreshed := [], busy := none }

end Sys2Proof.Machine
end

