-- ==== Sys2Proof/Machine/State.lean ====
section
/-! DEFINITION. The state of the stratum as plain data: registers, memories, queues, and every
piece of bookkeeping that the spec gives the drover and the engines. -/
namespace Sys2Proof.Machine

/-! ## A tile -/

/-- The capture of a failed check: position, the bits found, the bound, and c (R63, R68, R210); for a
shadow mismatch the element, both results and the operands. -/
structure Capture where
  row : Nat
  col : Nat
  y : Nat
  b : Nat
  c : Nat
  /-- The captured step of a vector operation (`vecStep`), and its operands. -/
  fn : Nat := 0
  ops : List Nat := []
  deriving DecidableEq, Repr

/-- An operation of the Tensor Array or the vector unit (R83): its number, its descriptor as read at
issue, NBC_TOL.EXTRA at issue, the island cycles, in thousandths, at its issue and from its start on at its start, those
at which its last output can be written, whether its outputs are written, when it completed, a failed check, its output signature (R208) and its class for
charging (R425). -/
structure UnitOp where
  num : Nat
  desc : Bytes
  tol : Nat
  start : Nat
  ready : Nat
  written : Bool
  done : Option Nat
  exempt : Bool
  viol : Option Capture
  sig : Nat
  cls : Nat
  /-- The format class of its busy cycles: 1 the two-level and 4-bit pairs, 2 the 8-bit ones, 3 BF16 (R337). -/
  fmt : Nat
  /-- The grace epoch in which its page reads began (R164). -/
  epoch : Nat
  /-- The output-stage generator's state before its outputs (R54). -/
  rng : Nat
  /-- The address of the instruction that issued it (R110). -/
  pc : Nat
  /-- The Dual comparison of its signature found both alike (R208). -/
  paired : Bool
  deriving DecidableEq, Repr

/-- A message in a send buffer, on the mesh, in a hold store or in ingest (R91 to R101). `poison` has
one flag per 64 payload bytes. `ta` and `vec` count the operations issued when KX.MSEND retired. -/
structure Msg where
  src : Nat
  sch : Nat
  dst : Nat
  dch : Nat
  gen : Nat
  seq : Nat
  job : Nat
  payload : Bytes
  poison : List Bool
  rstack : Nat
  rtile : Nat
  rch : Nat
  ta : Nat
  vec : Nat
  tSend : Nat
  deriving DecidableEq, Repr

/-- What a credit message does at the sender (R443). -/
inductive CreditKind where
  | grant | back | discard | revoke
  deriving DecidableEq, Repr

/-- A grant, a credit return or a revoke on its way to a send channel. -/
structure Credit where
  kind : CreditKind
  src : Nat
  srcJob : Nat
  dst : Nat
  ch : Nat
  n : Nat
  maxlen : Nat
  gen : Nat
  deriving DecidableEq, Repr

/-- A put or get (R104): its descriptor, and its status once complete. -/
structure Xfer where
  tag : Nat
  put : Bool
  loc : Nat
  rem : Nat
  tile : Nat
  lspace : Nat
  rspace : Nat
  len : Nat
  /-- The grace epoch, in the pool it reads, in which it began (R164). -/
  epoch : Nat
  status : Option Nat
  deriving DecidableEq, Repr

/-- What the core waits for inside an instruction. -/
inductive CoreWait where
  | taIssue (rd : Nat) (desc : Nat)
  | vecIssue (rd : Nat) (desc : Nat)
  | taOp (rd : Nat) (num : Nat)
  | vecOp (rd : Nat) (num : Nat)
  /-- A KX.MSEND that waits for a credit or the send buffer, with its NB flag (R96). -/
  | send (rd : Nat) (addr len ch : Nat) (nb : Bool)
  | mwait (rd : Nat) (mask : Nat) (deadline : Option Nat)
  | xferStart (rd : Nat) (put : Bool) (desc : Nat)
  | xfer (rd : Nat) (tag : Nat)
  /-- A store or AMO behind the input guard: its bytes, and what its retirement writes. -/
  | store (addr : Nat) (data : Bytes) (rd v len : Nat)
  /-- A store to TILE_PG_CMD behind the tile's running pool command (R157). -/
  | pool (word len : Nat)
  deriving DecidableEq, Repr

/-- A pool command in its unit (R158): its fields; once it runs, its result and the time at which it is
complete. -/
structure PoolCmd where
  drover : Bool
  op : Nat
  index : Nat
  fmt : Nat
  count : Nat
  rsvd : Bool
  ready : Nat
  resIndex : Nat
  resStatus : Nat
  deriving DecidableEq, Repr

/-- A swap under way on a tile (R168, R170): the flow table entry, the direction, the frames released or
allocated, whether the image's digest matched, and the slot of the image. -/
structure SwapWork where
  entry : Nat
  out : Bool
  frames : List Nat
  ok : Bool
  slot : Nat
  deriving DecidableEq, Repr

/-- A write waiting behind the input guard (R206): a delivery, a transfer of a tile, the core's own
store (held in `CoreWait.store`), or the outputs of a running operation with its silicon fault. -/
inductive GuardedWrite where
  | deliver (m : Msg)
  | xfer (tag : Nat) (owner : Nat)
  | store
  | taOut (fault : Option ArithFault)
  | vecOut (fault : Option LaneFault)
  deriving DecidableEq, Repr

/-- What the drover writes into a tile's scratchpad or registers inside an update window (R156). -/
inductive WinAct where
  | spad (addr : Nat) (data : Bytes)
  | keySlot (cur prev : Nat)
  | poolUnref (frame : Nat)
  /-- A flow of a function whose swap image is lost is retired (R173). -/
  | loseFlow (fn handle : Nat)
  deriving DecidableEq, Repr

/-- One 64-byte line of a column on the array: ciphertext and the 20 used sideband bits (R240). -/
structure Line where
  ct : Bytes
  sb : Nat
  deriving DecidableEq, Repr

/-- A line held for check handling (R238, R244): refetches made, when the first check failed, whether the
drover has it, what a partial write would merge, whether a request of the tile itself waits on it (R248), and whether an
invalidation has met it, which marks it after its handling (R251), and whether an undo entry awaits what it then holds
(R220, R238). -/
structure HeldLine where
  tries : Nat
  since : Nat
  drover : Bool
  merge : Option (Nat × Bytes)
  own : Bool
  mark : Bool
  undo : Bool
  deriving DecidableEq, Repr

/-- A signature waiting for its partner in Dual mode (R208). `kind` 0 Tensor Array, 1 vector unit,
2 outbound message, with its operation. -/
structure DualSig where
  kind : Nat
  num : Nat
  sig : Nat
  at' : Nat
  op : Option UnitOp
  deriving DecidableEq, Repr

/-- A detection on a tile that its job's restart handles (R205): trigger 0 NBC, 1 shadow lane, 2 Dual,
3 tile fault, 4 flock; the operation; the fault's cause, or for Dual the partner's signature plus 1 (0 when none
came); whether JOB_FAULT_DETECT has taken it up. -/
structure Detection where
  trigger : Nat
  op : Option UnitOp
  cause : Nat
  at' : Nat
  taken : Bool
  deriving DecidableEq, Repr

/-- A recompute on a partner's port (R212): the original tile, the detection, when it was issued, and the
notch to which the partner returns. -/
structure Recompute where
  orig : Nat
  det : Detection
  issued : Nat
  notch : Nat
  deriving DecidableEq, Repr

/-- What a checkpoint slot holds of a tile (R218). The scratchpad image also stands in the column. -/
structure Ckpt where
  seq : Nat
  at' : Nat
  tag : Nat
  x : Vector W64 32
  pc : W64
  state : Nat
  regs : Tbl Nat
  counters : Tbl Nat
  poison : List Nat
  spad : List Host.Cell
  txSeq : Tbl Nat
  txGen : Tbl Nat
  rxGen : Tbl Nat
  rxSeq : Tbl Nat
  taCount : Nat
  vecCount : Nat
  /-- Transfers that are complete and not yet reported, and the next tag. -/
  xfers : List Xfer
  nextTag : Nat
  sendBuf : Option Msg
  /-- The next token ordinal of each flow of the tile, by handle. -/
  ordinals : List (Nat × Nat)
  /-- Flow table entries for which FETCH has been issued and not served (R170). -/
  fetches : List Nat
  deriving DecidableEq, Repr

/-- A frame of the rein between a tile and its fold's engine (R277). -/
structure ReinFrame where
  type : Nat
  seq : Nat
  payload : Nat
  crc : Nat
  deriving DecidableEq, Repr

/-- A hint on the rein or in force (R278, R279). -/
structure HintRec where
  at' : Nat
  start : Nat
  stop : Nat
  load : Nat
  applied : Bool
  raise : Nat
  deriving DecidableEq, Repr

/-- The scheduler of one tile (R354): the grid, the running period and the service rate. -/
structure Sched where
  k : Nat
  s : Nat
  p : Nat
  rate : Rat
  rated : Bool
  admitted : Nat
  done : Nat
  firstAt : Nat
  lastDone : Nat
  behind : Nat
  /-- Host tokens admitted and not yet delivered; a period has begun. -/
  host : Nat
  begun : Bool
  deriving DecidableEq, Repr

/-- The part of a tile that no register of a catalogue holds. -/
structure Tile where
  /-- x1 to x31 at index 1 to 31; x0 reads zero (R69). -/
  x : Vector W64 32
  pc : W64
  /-- The 64-byte line an LR holds (R76). -/
  resv : Option Nat
  wait : Option CoreWait
  /-- The core is halted by an update window, a held rail, the debugger, a job restart, a checkpoint. -/
  haltWin : Bool
  haltRail : Bool
  haltDbg : Bool
  haltJob : Bool
  haltCkpt : Bool
  dbg : Bool
  spad : List Host.Cell
  /-- Lines of the scratchpad with the poison marker (R78). -/
  poison : List Nat
  /-- Lines of the instruction cache by physical line number (R73, R77). -/
  icache : Tbl Bytes
  taCount : Nat
  vecCount : Nat
  taQ : List UnitOp
  vecQ : List UnitOp
  taRun : Option UnitOp
  vecRun : Option UnitOp
  /-- Completed operations whose checks are open (R67). -/
  taOpen : List UnitOp
  /-- The island cycles, in thousandths, at which the last Tensor Array operation ended (R83). -/
  taEnd : Option Nat
  /-- The smallest number of an operation of each unit that was abandoned since the tile reset (R111). -/
  taLost : Option Nat
  vecLost : Option Nat
  /-- Seed writes waiting for earlier conversions: operations issued at the write, value (R54). -/
  seedTa : List (Nat × Nat)
  seedVec : List (Nat × Nat)
  /-- Tile counters of R89 but counter 1. -/
  counters : Tbl Nat
  /-- Busy cycles of the Tensor Array by charge class (R337). -/
  busyBy : Tbl Nat
  /-- For the activity estimate: the counters of R89, and from 16 on the busy cycles by class, as they stood when they were last
  weighed; and their advances in this window, each times the square of the set-point code of the notch it was made at, of the TAR
  at key 0 (R337). -/
  estBase : Tbl Nat
  estSum : Tbl Nat
  /-- The trim of the island's oscillator as the drover wrote it last (R346). -/
  oscTrim : Int
  /-- Island cycles counted up to `cycAt`; later ones follow from the notch. -/
  cycles : Nat
  cycAt : Nat
  shadow : Tbl Nat
  shadowEpoch : Nat
  /-- Watchdog: ns left when it was last reloaded, held or resumed, and since when it counts. -/
  wdogLeft : Nat
  wdogFrom : Option Nat
  sendBuf : Option Msg
  txSeq : Tbl Nat
  txGen : Tbl Nat
  rxGen : Tbl Nat
  rxSeq : Tbl Nat
  xfers : List Xfer
  nextTag : Nat
  /-- Writes behind the input guard, oldest first, each with the time since when it waits. -/
  guarded : List (Nat × GuardedWrite)
  /-- Tile Off (R294), island clock stopped, retune under way, powered steps of a Tile On. -/
  off : Bool
  clkStop : Bool
  /-- Header stages closed, when the last one closed, and channel 131 just before it (R293). -/
  hdrStages : Nat
  /-- The header sequence is the slow one (R293). -/
  hdrSlow : Bool
  hdrAt : Nat
  hdrVib : Nat
  lost : Bool
  /-- The SEQ of the latest NOTCH frame, and TILE_STATE before HOLD (R276, R295). -/
  notchSeq : Nat
  heldState : Nat
  dual : List DualSig
  detections : List Detection
  recomp : Option Recompute
  /-- Tiles whose self-test decides a detection here (R214). -/
  boundWait : List Nat
  /-- Norm-map descriptors whose pairs the drover regenerates, each with its next row (R215). -/
  regen : List (Bytes × Nat)
  /-- Flow table place and size, pool command running, commands waiting. -/
  ftab : Nat
  nfte : Nat
  poolRun : Option PoolCmd
  poolQ : List PoolCmd
  /-- Frames whose checkpoint condition of R165 is still open. -/
  ckWait : List Nat
  /-- Frames to overwrite with zeros before they return to the free list (R247). -/
  zeroFrames : List Nat
  failedAlloc : Option Nat
  inWin : Bool
  winActs : List WinAct
  /-- A command of the host waits for an update window, and acts in it (R195). -/
  winReq : Bool
  /-- When the pool's grace epoch began. -/
  epochAt : Nat
  /-- Flow table entries that the drover chose to swap out or was asked to swap in, and swaps under way. -/
  victims : List Nat
  fetches : List Nat
  swaps : List SwapWork
  col : Tbl Line
  heldLines : Tbl HeldLine
  /-- Times of the latest sixteen failed checks (R265); corrections not yet recorded (R249). -/
  failTimes : List Nat
  corrRun : Nat
  lastRefresh : Tbl Nat
  lastCentre : Nat
  ckpts : Tbl Ckpt
  curSlot : Nat
  /-- Undo entries, newest first: the block, and its lines before the write (`none` poisoned) (R220). -/
  undo : List (Nat × Tbl (Option Bytes))
  ingest : List Msg
  logBytes : Nat
  /-- Slots of each receive channel from a welt port freed since the checkpoint, and how many of these frees
  have returned their credit (R216, R221). -/
  freed : Tbl Nat
  credited : Tbl Nat
  /-- It takes the place of a tile whose column nothing reached any more (R149, R233). -/
  colGone : Bool
  restored : Bool
  ckptDone : Bool
  /-- Highest sequence number released per send channel since the checkpoint, with its digest (R221). -/
  relSeq : Tbl (List (Nat × Bytes))
  selftest : Bool
  selftestFor : Option (Nat × Nat)
  /-- Brought on from Tile Off for its self-test, and switched off after it. -/
  testOn : Bool
  /-- A watchdog expiry asked for the coming self-test (R231, R234). -/
  hangTest : Bool
  /-- Cleared by HLTH_CLEAR_UNIT, and free only after its self-test (R430). -/
  cleared : Bool
  toFce : List ReinFrame
  toTile : List ReinFrame
  /-- The next SEQ toward the FCE and toward the tile (R277). -/
  reinSeqTx : Nat
  reinSeqRx : Nat
  /-- Frames sent, the last of each SEQ in each direction (true: to the tile), with how often each was sent
  again; and the SEQ last accepted from the tile and from the FCE. -/
  reinSent : List (Bool × Nat × ReinFrame)
  reinFromTile : Option Nat
  reinFromFce : Option Nat
  /-- A NOTCH frame that goes out at the next output phase, with the period it counts for (R327). -/
  notchDue : Option (Nat × Nat)
  /-- The notch at which the engine takes the island to run, and the one before its last raise (R276). -/
  fceNotch : Nat
  fceWas : Nat
  /-- The command whose ST_OK reached the island before its NOTCH. -/
  ackOk : Option Nat
  hint : Option HintRec
  sched : Sched
  digests : List (Nat × Bytes)
  deriving DecidableEq, Repr

/-! ## Regulators, converters and loops -/

/-- A set-point command under way (R275). -/
structure SetCmd where
  seq : Nat
  code : Nat
  clamped : Bool
  notch : Nat
  arrived : Option Nat
  deriving DecidableEq, Repr

/-- The part of a regulator that the TLR_ registers do not hold. -/
structure Regul where
  /-- Reference code when the slewer last retargeted, at that time, and where it goes (R274). -/
  refFrom : Nat
  refAt : Nat
  refTo : Nat
  /-- The slewer waits for RETUNED (R276). -/
  frozen : Bool
  cmd : Option SetCmd
  tripped : Bool
  limited : Tbl Nat
  loads : List Int
  uvRun : Nat
  lowRun : Nat
  shedBlock : Nat
  frames : List (List Int)
  balRun : Nat
  burstPhase : Nat
  ovAt : Option Nat
  suspect : Bool
  stopAt : Option Nat
  /-- Vref when the last duty word was written (R274). -/
  wordRef : Nat
  /-- Tie under way: the partner regulator and when its fault was detected. -/
  tying : Option (Nat × Nat)
  sagRun : Nat
  /-- A tie's source stopped by an overload: it starts again on its own (R298). -/
  again : Bool
  /-- It was cleared and returns to service: once both tiles of the pair are held it starts softly, and after that the tie opens
  (R430). -/
  back : Bool
  deriving DecidableEq, Repr

/-- The part of a control loop that the FCE_LOOP registers do not hold (R321 to R328). -/
structure Loop where
  lawNext : Option Nat
  nxNext : Option Nat
  uprev : Nat
  holdHi : Bool
  holdLo : Bool
  word : Option Nat
  /-- The next swap starts a tie from zero states (R326). -/
  fresh : Bool
  sumY : Nat
  sumI : Int
  sumP : Nat
  minY : Nat
  minAt : Nat
  n : Nat
  deriving DecidableEq, Repr

/-- The part of a fold that no register holds. -/
structure Fold where
  off : Bool
  /-- The last 1 ms window that ended (R328). -/
  window : Nat
  /-- Mask words written during a scan (R310). -/
  maskNext : Tbl Nat
  urgBusy : Nat
  /-- The corrected code of an urgent request that is being served (R314). -/
  urgDue : Option Nat
  missRun : Nat
  vibHi : Nat
  vibLo : Nat
  /-- The header budget sum of the latest frame, in eighths of a mA (R293). -/
  hdrSum : Nat
  /-- In this window channel 138 was off by more than 3, or channel 131 read 1.75 to 1.80 V (R292, R312). -/
  midOff : Bool
  vibDip : Bool
  /-- The lowest code of channel 131 in this window, and when it was read (R335). -/
  vibMin : Nat
  vibMinAt : Nat
  /-- The tiles of the fold are turned on one at a time (R294). -/
  bringUp : Bool
  memStop : Option Nat
  /-- The tiles at or above 110 °C, each with the sample since which it has been so, and the tiles that rose by 8 °C/ms in the
  latest sample (R349, R350). -/
  critTiles : List (Nat × Nat)
  rorTiles : List Nat
  /-- The trim of the gain reference, channel 137, as the drover wrote it last (R346). -/
  refTrim : Int
  /-- The action that the release follows: 1 the critical limit, 2 the rate of rise, 0 none. -/
  critCause : Nat
  deriving DecidableEq, Repr

/-! ## The drover -/

/-- A request as the drover copied it (R180). -/
structure Req where
  opcode : Nat
  len : Nat
  tag : Nat
  object : Nat
  rsvd : Nat
  payload : Bytes
  order : Nat
  /-- When the command was accepted. -/
  at' : Nat
  /-- The time T of the epoch for which an HLTH_TALLY waits (R420). -/
  latch : Option Nat
  deriving DecidableEq, Repr

/-- A background slot (R186). -/
structure BgSlot where
  opid : Nat
  opcode : Nat
  state : Nat
  progress : Nat
  status : Nat
  result : Bytes
  /-- The object and the arguments of the operation. -/
  object : Nat
  args : List Nat
  /-- The management connection that started it has closed: the slot is freed at its end (R389). -/
  orphan : Bool
  deriving DecidableEq, Repr

/-- The part of a mailbox that no register holds. -/
structure Mailbox where
  request : List Host.Cell
  reply : Bytes
  go : Bool
  accepted : Option Req
  bg : Tbl BgSlot
  nextOpid : Nat
  /-- REQUEST frames waiting on a management mailbox (R390). -/
  queue : List Bytes
  evlog : Tbl Bytes
  deriving DecidableEq, Repr

/-- One section entry of a job image (R192). -/
structure Section where
  type : Nat
  recomp : Bool
  tile : Nat
  dest : Nat
  src : Nat
  len : Nat
  deriving DecidableEq, Repr

/-- The policy of a job (R193). -/
structure Policy where
  kind : Nat
  mode : Nat
  priority : Nat
  ingestCh : Nat
  ntiles : Nat
  wdog : Nat
  flockK : Nat
  period : Nat
  ckpt : Nat
  digest : Nat
  flock : Nat
  deriving DecidableEq, Repr

/-- A restart or restore under way (R216): when it began; whether it ends PARKED; whether RECOMP sections are
reloaded (R229, R230); whether a JOB_RESTORE asked for it. -/
structure Restart where
  at' : Nat
  park : Bool
  reload : Bool
  restore : Bool
  deriving DecidableEq, Repr

/-- A job (R190). -/
structure Job where
  handle : Nat
  tag : Nat
  fn : Nat
  state : Nat
  tiles : List Nat
  twins : List Nat
  policy : Policy
  imgAddr : Nat
  imgLen : Nat
  entry : Nat
  sections : List Section
  norms : List (Nat × Bytes)
  restarts : Nat
  lastCkpt : Nat
  first : Option (Nat × Nat × Nat)
  startAt : Nat
  restart : Option Restart
  ckptOp : Option (Nat × Nat)
  ckptOn : Bool
  ckptSeq : Nat
  ckptCount : Nat
  ckptDue : Bool
  /-- It owes the checkpoint of a drain's step 3 (R428, R429). -/
  drainOwed : Bool
  patches : List (Nat × Nat × Bytes)
  wdogHit : Bool
  poisonHit : List (Nat × Nat)
  digestAt : Nat
  /-- The digest point whose digests wait for a held line (R228, R238). -/
  digestDue : Option Nat
  /-- It is PARKED once its checkpoint is complete (R351, R429). -/
  parkNext : Bool
  /-- An expulsion under way (R230): the point, the majority member asked, the next tile index, the tiles that
  differ. -/
  expel : Option (Nat × Nat × Nat × List Nat)
  /-- Of each period of R355 that some tiles have ended: how many, and the latest time at which one was done. -/
  grid : Tbl (Nat × Nat)
  deriving DecidableEq, Repr

/-- A flow as the drover knows it (R148, R196). -/
structure Flow where
  handle : Nat
  job : Nat
  fn : Nat
  tile : Nat
  entry : Nat
  ordinal : Nat
  live : Bool
  deriving DecidableEq, Repr

/-- A swap image in host memory (R169): flow, place in the swap area, length, key generation; what its
header says of each page it holds (list position, FMT, COUNT); and the page lines that carry poison (R246). -/
structure SwapImg where
  flow : Nat
  /-- The tile, of a Dual pair the one, whose pages these are. -/
  tile : Nat
  slot : Nat
  len : Nat
  gen : Nat
  pages : List (Nat × Nat × Nat)
  bad : List Nat
  /-- Its flow is swapped out; an image that has been swapped in stays for the checkpoint that names it (R166). -/
  live : Bool
  deriving DecidableEq, Repr

/-- A session of a PCIe function (R189, R256, R261). -/
structure Session where
  state : Nat
  gen : Nat
  keyGen : Nat
  /-- A rotation still holds the old slot; bulk passes have all ended; its background slot; pages moved. -/
  rotating : Bool
  bulkDone : Bool
  rotSlot : Nat
  rotMoved : Nat
  written : List Nat
  exportKey : Nat
  swap : Option (Nat × Nat)
  swaps : List SwapImg
  closeSlot : Option Nat
  scrubbed : List Nat
  bytes : Nat
  deriving DecidableEq, Repr

/-- An event record before its bytes are written (R422). -/
structure EventRec where
  code : Nat
  cls : Nat
  charged : Bool
  unit : Nat
  at' : Nat
  temp : Nat
  rail : Nat
  opcode : Nat
  job : Nat
  tenant : Nat
  flow : Nat
  reps : Nat
  seq : Nat
  detail : Bytes
  deriving DecidableEq, Repr

/-- A held outbound message (R222): its hold ID once sent, when its last flit left. -/
structure Held where
  msg : Msg
  id : Nat
  sent : Option Nat
  deriving DecidableEq, Repr

/-- A released result waiting for its ring (R200). -/
structure RingItem where
  msg : Msg
  at' : Nat
  deriving DecidableEq, Repr

/-- A held message in quarantine at a receiving port (R225). -/
structure Quarantined where
  id : Nat
  msg : Msg
  at' : Nat
  deriving DecidableEq, Repr

/-- A grant kept by the link layer (R372). -/
structure GrantEntry where
  tile : Nat
  ch : Nat
  sch : Nat
  credits : Nat
  maxlen : Nat
  gen : Nat
  deriving DecidableEq, Repr

/-- A flit that the port sends (R361): type, VC, the HELD, FIRST and LAST flags as bits 0 to 2, SEQ (zero
when unsequenced), the ACK and the credit return that it carries, and the body bytes that are not trailing
zeros of the format. `tag` is the link layer's own: 1 plus the hold ID of the message it belongs to. -/
structure OutFlit where
  type : Nat
  vc : Nat
  flags : Nat
  seq : Nat
  ack : Nat
  cvc : Nat
  ccnt : Nat
  tag : Nat
  body : Bytes
  /-- The lane of the port that carried it last, and how often it has been sent again (R360, R365). -/
  lane : Nat
  tries : Nat
  deriving DecidableEq, Repr

/-- The part of a welt port that no register holds. -/
structure Port where
  txSeq : Nat
  rxNext : Nat
  /-- Sequenced flits that wait for a credit or for replay room (R364, R365). -/
  outQ : List OutFlit
  replay : List OutFlit
  /-- The flits that have left, newest last, each with its lane; the number of the next one since the lanes in service last changed,
  and the mask of those lanes (R360). -/
  line : List OutFlit
  lineNo : Nat
  lineMask : Nat
  /-- Of the peer's MARKERs: the mask of its lanes in service, and the lanes whose MARKER of the present row has come (R360). -/
  rxMask : Nat
  rxSeen : Nat
  credits : List Nat
  /-- Flit credits of the own buffers that are freed and not yet returned, by virtual channel (R364). -/
  owed : List Nat
  since : Nat
  lastHello : Nat
  lastSent : Nat
  helloRx : Bool
  helloAcked : Bool
  holdStore : List Held
  sentHeld : List Held
  quarantine : List Quarantined
  ingest : List Msg
  grants : List GrantEntry
  horizon : Tbl Nat
  /-- The last TIME stamps: own transmit, peer transmit, peer arrival, echo. -/
  timeSt : List Nat
  peerHops : Nat
  /-- Own barrier stamps that wait for a HELLO, oldest first (R367); the last period of each member whose
  lateness was recorded (R355). -/
  stamps : List BarrierStamp
  lateAt : Tbl Nat
  /-- The own fingerprint at the last CONFIG_MISMATCH (R368). -/
  fpSeen : Nat
  /-- The stack number that the last own HELLO carried (R410). -/
  ownNo : Nat
  deriving DecidableEq, Repr

/-- An SPDM request (R395). -/
inductive SpdmReq where
  | version
  | capabilities
  | algorithms (asym hash : W32)
  | digests
  | certificate (slot : BitVec 4) (off len : BitVec 16)
  | challenge (slot : BitVec 4) (nonce : Bytes)
  | measurements (index : Byte) (nonce : Bytes)
  | other (code : Byte)
  deriving DecidableEq, Repr

/-- A frame of a client (R390). -/
inductive MgtFrame where
  | request (body : Bytes)
  | status
  | bad
  | spdm (r : SpdmReq)
  deriving DecidableEq, Repr

/-- A management connection (R388 to R391). -/
structure Conn where
  mbx : Nat
  lastFrame : Nat
  trace : Option (Nat × Nat)
  traced : List Bytes
  /-- Trace records dropped from a full buffer (R393). -/
  dropped : Nat
  /-- Closed while its command runs; the mailbox is free after that command (R389). -/
  closing : Bool
  /-- Frames sent to the client, newest last: TYPE and body. -/
  frames : List (Nat × Bytes)
  /-- Frames that the stratum has not read yet, since four REQUESTs wait (R390), oldest first. -/
  unread : List MgtFrame
  deriving DecidableEq, Repr

/-- Where the part stands: PERST# asserted, the boot ROM, the firmware's start-up, mailboxes open, recovery mode,
everything stopped until PERST# (R291, R353), or a drover restart (R402, R414, R415). -/
inductive Phase where
  | reset | rom | firmware | open | recovery | stopped | drover
  deriving DecidableEq, Repr

/-- A flit of drover traffic on a port (R375). -/
inductive DrvIn where
  | put (p : Nat) (b : DputBody)
  | ask (p : Nat) (b : DgetBody)
  | answer (p : Nat) (b : DgetBody) (digests : List Bytes)
  deriving DecidableEq, Repr

/-- A flock record of a digest point (R229). -/
structure FlockRec where
  flock : Nat
  kind : Nat
  point : Nat
  origin : Nat
  recSeq : Nat
  digest : Bytes
  tiles : Nat
  deriving DecidableEq, Repr

/-- A telemetry record of one unit and window (R335). -/
structure Tele where
  start : Nat
  ma : Int
  mv : Nat
  n : Nat
  mvAt : Nat
  mw : Nat
  est : Nat
  grant : Nat
  vib : Nat
  flags : Nat
  deriving DecidableEq, Repr

/-- An export image that the drover wrote (R194): its job's function and session, its bytes in host memory and,
per job tile, the checkpoint and the written lines of the column (`none` poisoned). -/
structure Export where
  fn : Nat
  gen : Nat
  key : Nat
  image : Bytes
  at' : Nat
  policy : Policy
  patches : List (Nat × Nat × Bytes)
  /-- The tiles, twins included, that the job held. -/
  ids : List Nat
  tiles : List (Ckpt × Tbl (Option Bytes))
  deriving DecidableEq, Repr

/-- The whole machine. -/
structure State where
  /-- Commands that are waiting, first in, first out. -/
  pending : List Instr
  /-- Stack time in ns (R6), and the fraction of a ns in 10^-6 (R377). -/
  now : Nat
  frac : Nat
  /-- Rate correction of stack time in ppm, and until when (R377). -/
  ppm : Int
  ppmUntil : Nat
  timeLocked : Bool
  /-- Exchanges in a row within 20 ns (R377); a configured root sees another of lower STACKID (R376). -/
  lockRun : Nat
  rootConflict : Bool
  /-- When a lane last left service or was last retrained (R369). -/
  laneAt : Tbl Nat
  /-- Drover traffic that came while the drover restarts, oldest first (R378). -/
  drvIn : List DrvIn
  jobEver : Bool
  phase : Phase
  /-- Free values drawn so far: the model's own counter (DESIGN CHOICE, log 3). -/
  drawn : Nat
  /-- The fields of the register catalogue that do not stand at their Reset values. -/
  regs : Tbl Nat
  /-- What flash holds of the LREC_ fields of class K4 while recovery mode shows their Reset values (R13). -/
  lrecHeld : Tbl Nat
  tiles : Tbl Tile
  folds : Tbl Fold
  reguls : Tbl Regul
  loops : Tbl Loop
  mboxes : Tbl Mailbox
  sessions : Tbl Session
  ports : Tbl Port
  conns : Tbl Conn
  jobs : List Job
  flows : List Flow
  exports : List Export
  /-- Messages and credit messages on the mesh, oldest first. -/
  mesh : List Msg
  credits : List Credit
  meshStop : Bool
  /-- Credits, grants and revokes that wait while injection is stopped (R102), with the receive channel. -/
  creditQ : List (Nat × Credit)
  /-- The drover's answer to the last Fold Off command (R102): a status of R183. -/
  foldReply : Nat
  /-- The 32 key slots, by slot, as 512-bit numbers (R256). -/
  keys : Tbl Nat
  /-- Results held for the drover's rings, and released results waiting, by ring (R200, R222). -/
  ringHeld : List Held
  ringQ : Tbl (List RingItem)
  ringIrq : Tbl (Nat × Nat)
  /-- Credits of ingest channels that the drover holds as sender 0x410 (R93). -/
  drvGrants : List Credit
  drvHorizon : Tbl Nat
  host : List Host.Cell
  busMaster : Nat
  /-- MSI-X vectors raised, counted by 8 × function + vector (R188). -/
  msix : Tbl Nat
  /-- The words of the MSI-X tables that software wrote, by 32 × function + word (R383). -/
  msixTab : Tbl Nat
  /-- The pending bits of masked vectors, by 8 × function + vector (R383). -/
  msixPend : Tbl Nat
  events : List EventRec
  evSeq : Nat
  evKept : List Bytes
  cfg : Tbl Nat
  /-- NOTCH_MAX and NOTCH_LIMITs as the current 1 ms window takes them, by field ID (R410). -/
  limits : Tbl Nat
  report : List (Nat × Nat × Nat)
  flash : Flash
  /-- What the drover has read of the Stack Record: the factory part, and the operator identity if one verifies (R404). -/
  stackRecord : Factory
  operator : Option Operator
  fwVersion : Nat
  fwLevel : Nat
  fwImage : Nat
  fwFails : Nat
  acceptSeq : Nat
  /-- Where the drover's round of the mailboxes goes on (R202), by place: 0 to 3 for mailboxes 16 to 19, then 0 to 15. -/
  acceptPos : Nat
  sessGen : Nat
  jobTag : Nat
  handles : Nat
  dstate : Nat
  /-- A drain of R428 under way: when it began; units it will pen. -/
  drain : Option Nat
  drainUnits : List Nat
  /-- DRAINING was entered by HLTH_DRAIN (R428, R429). -/
  opDrain : Bool
  histories : Tbl History
  life : Tbl Nat
  bins : Tbl Nat
  histAt : Nat
  /-- A charge or a change of state has been journalled since the last HIST entry (R419). -/
  histOwed : Bool
  epoch : Nat
  tallyAt : Option Nat
  /-- Collected counters of the last epochs: (epoch, unit × 2048 + index → value). -/
  tallies : List (Nat × Nat × Tbl Nat)
  /-- The shadow registers of the units that are no tiles (R421), by the key of the register latched. -/
  shadows : Tbl Nat
  /-- Life Record: buffered entries, sectors, head, next sequence. -/
  buffer : List JEntry
  sectors : Tbl Sector
  coalesced : Tbl (Nat × Nat)
  snapMin : Nat
  minuteAt : Nat
  tele : Tbl (List Tele)
  discRun : Nat
  discGap : Nat
  avsFails : Nat
  avsOk : Bool
  avsMa : Nat
  avsMv : Nat
  vibWritten : Nat
  /-- VIB_SET is to be written, from a time on; the transition rate has been written; Voltage was read in this window; VIB has
  been commanded off (R291, R300, R302). -/
  vibOwed : Bool
  vibFrom : Nat
  avsRate : Bool
  avsRead : Bool
  vibOff : Bool
  mismatchRun : Nat
  lostAvs : Bool
  /-- Energy below 1 mJ, µJ (R336). -/
  energyUj : Nat
  /-- Thermal loop: earlier readings per tile, newest first, with their times; release runs. -/
  temps : Tbl (List (Nat × Int))
  stuck : Tbl Nat
  cool : Tbl Nat
  /-- The thresholds of R348 that a tile's schedule follows since its last release: 1 the tile's, 2 the memory's, 3 both. -/
  heatBy : Tbl Nat
  /-- Memory diodes found broken, by 2 × fold + diode (R347). -/
  diodeBad : Tbl Nat
  thmAt : Nat
  fastRun : Nat
  warnAt : Tbl Nat
  /-- When a trim at its limit was last recorded, by tile, and by 1,024 + fold (R346). -/
  trimAt : Tbl Nat
  coolFrom : Option Nat
  /-- The stop decided: 1 orderly, 2 immediate, 0 none, 3 the return from an orderly one; and when it was decided (R350 to R352). -/
  stopKind : Nat
  stopAt : Nat
  trip : Bool
  flocks : List FlockRec
  flockAt : Tbl Nat
  /-- The latest point decided, by flock and kind. -/
  flockDone : Tbl Nat
  relayed : List (Nat × Nat)
  drecSeq : Nat
  standby : Bool
  idleFrom : Nat
  ptpRun : Nat
  ptpAt : Nat
  ptpOff : Nat
  authFails : List (Nat × Nat)
  /-- TLS alerts sent, with the address, oldest first (R388). -/
  alerts : List (Nat × Nat)
  spdmOut : List (Nat × Bytes)
  deriving DecidableEq, Repr

/-- Reasons to stop with a fault: there are none, since no command of the spec stops the block. -/
inductive Fault where
  deriving DecidableEq, Repr

/-- Reasons to refuse a command. -/
inductive Refusal where
  /-- Raised by `exec` alone, for a command that has no meaning yet. Safe: nothing is claimed of it. -/
  | notModelled (mnemonic : String)
  deriving DecidableEq, Repr

/-- The outcome of a command. -/
abbrev Out := Host.Outcome State Fault Refusal

/-- A tile as reset leaves it. -/
def Sched.reset : Sched := ⟨0, 0, 0, 0, false, 0, 0, 0, 0, 0, 0, false⟩

def Tile.reset : Tile :=
  { x := Vector.replicate 32 0#64, pc := 0#64, resv := none, wait := none,
    haltWin := false, haltRail := false, haltDbg := false, haltJob := false, haltCkpt := false,
    dbg := false, spad := [], poison := [], icache := [], taCount := 0, vecCount := 0,
    taQ := [], vecQ := [], taRun := none, vecRun := none, taOpen := [], taEnd := none,
    taLost := none, vecLost := none, seedTa := [], seedVec := [], counters := [], busyBy := [], estBase := [], estSum := [], oscTrim := 0, cycles := 0, cycAt := 0, shadow := [],
    shadowEpoch := 0, wdogLeft := 50000, wdogFrom := none, sendBuf := none, txSeq := [],
    txGen := [], rxGen := [], rxSeq := [], xfers := [], nextTag := 0, guarded := [],
    off := true, clkStop := true, hdrStages := 0, hdrSlow := false, hdrAt := 0, hdrVib := 0, lost := false, notchSeq := 0, heldState := 0, dual := [], detections := [],
    recomp := none, boundWait := [], regen := [], ftab := 0, nfte := 0, poolRun := none, poolQ := [],
    ckWait := [], zeroFrames := [], failedAlloc := none, inWin := false, winActs := [], winReq := false, epochAt := 0,
    victims := [], fetches := [], swaps := [], col := [], heldLines := [], failTimes := [], corrRun := 0,
    lastRefresh := [], lastCentre := 0, ckpts := [], curSlot := 0, undo := [], ingest := [],
    logBytes := 0, freed := [], credited := [], colGone := false, restored := false, ckptDone := false, relSeq := [], selftest := false,
    selftestFor := none, testOn := false, hangTest := false, cleared := false, toFce := [], toTile := [], reinSeqTx := 0, reinSeqRx := 0,
    reinSent := [], reinFromTile := none, reinFromFce := none, notchDue := none, fceNotch := 12,
    fceWas := 12, ackOk := none, hint := none, sched := Sched.reset,
    digests := [] }

/-- A regulator at reset: its reference code stands at zero, since it is off (R304). -/
def Regul.reset : Regul :=
  { refFrom := 0, refAt := 0, refTo := 0, frozen := false, cmd := none, tripped := false,
    limited := [], loads := [], uvRun := 0, lowRun := 0, shedBlock := 0, frames := [], balRun := 0,
    burstPhase := 0, ovAt := none, suspect := false, stopAt := none, wordRef := 0, tying := none, sagRun := 0,
    again := false, back := false }

def Loop.reset : Loop :=
  { lawNext := none, nxNext := none, uprev := 0, holdHi := false, holdLo := false, word := none,
    fresh := false, sumY := 0, sumI := 0, sumP := 0, minY := 0, minAt := 0, n := 0 }

/-- A fold before its bring-up (R294, R402). -/
def Fold.reset : Fold :=
  { off := true, window := 0, maskNext := [], urgBusy := 0, urgDue := none, missRun := 0, vibHi := 0, vibLo := 0,
    hdrSum := 0, midOff := false, vibDip := false, vibMin := 4095, vibMinAt := 0, bringUp := false, memStop := none,
    critTiles := [], rorTiles := [], refTrim := 0, critCause := 0 }

def Mailbox.reset : Mailbox :=
  { request := [], reply := [], go := false, accepted := none, bg := [], nextOpid := 1,
    queue := [], evlog := [] }

def Session.reset : Session :=
  { state := 0, gen := 0, keyGen := 0, rotating := false, bulkDone := false, rotSlot := 0,
    rotMoved := 0, written := [], exportKey := 0, swap := none, swaps := [], closeSlot := none,
    scrubbed := [], bytes := 0 }

def Port.reset : Port :=
  { txSeq := 0, rxNext := 0, outQ := [], replay := [], line := [], lineNo := 0, lineMask := 0, rxMask := 0, rxSeen := 0, credits := [0, 0, 0], owed := [0, 0, 0],
    since := 0, lastHello := 0, lastSent := 0, helloRx := false, helloAcked := false,
    holdStore := [], sentHeld := [], quarantine := [], ingest := [], grants := [], horizon := [],
    timeSt := [0, 0, 0, 0], peerHops := 255, stamps := [], lateAt := [], fpSeen := 0, ownNo := 0 }

def Conn.reset : Conn := ⟨0, 0, none, [], 0, false, [], []⟩

/-- The machine right after cold power-on with PERST# still asserted: every field of the register
catalogue at its Reset value (R12, R415), memories empty, no job, no session, mailboxes NOT_READY. -/
def State.reset : State :=
  { pending := [], now := 0, frac := 0, ppm := 0, ppmUntil := 0, timeLocked := false, lockRun := 0, rootConflict := false, laneAt := [], drvIn := [],
    jobEver := false, phase := .reset, drawn := 0, regs := [], lrecHeld := [], tiles := [], folds := [],
    reguls := [], loops := [], mboxes := [], sessions := [], ports := [], conns := [], jobs := [],
    flows := [], exports := [], mesh := [], credits := [], meshStop := false, creditQ := [], foldReply := 0, keys := [], ringHeld := [],
    ringQ := [], ringIrq := [], drvGrants := [], drvHorizon := [], host := [], busMaster := 0,
    msix := [], msixTab := [], msixPend := [], events := [], evSeq := 1, evKept := [], cfg := [], limits := [], report := [],
    flash := Flash.reset, stackRecord := Factory.reset, operator := none, fwVersion := 0, fwLevel := 0, fwImage := 0, fwFails := 0, acceptSeq := 0, acceptPos := 0,
    sessGen := 0, jobTag := 0, handles := 0, dstate := 0, drain := none, drainUnits := [], opDrain := false,
    histories := [], life := [], bins := [], histAt := 0, histOwed := false, epoch := 0, tallyAt := none,
    tallies := [], shadows := [], buffer := [], sectors := [], coalesced := [], snapMin := 0, minuteAt := 0,
    tele := [], discRun := 0, discGap := 0, avsFails := 0, avsOk := false, avsMa := 0, avsMv := 0,
    vibWritten := 0, vibOwed := false, vibFrom := 0, avsRate := false, avsRead := false, vibOff := false, mismatchRun := 0, lostAvs := false, energyUj := 0, temps := [], stuck := [],
    cool := [], heatBy := [], diodeBad := [], thmAt := 0, fastRun := 0, warnAt := [], trimAt := [], coolFrom := none, stopKind := 0, stopAt := 0,
    trip := false, flocks := [], flockAt := [], flockDone := [], relayed := [], drecSeq := 0, standby := false,
    idleFrom := 0, ptpRun := 0, ptpAt := 0, ptpOff := 0, authFails := [], alerts := [], spdmOut := [] }

end Sys2Proof.Machine
end

