-- ==== Sys2Proof/Machine/Ops.lean ====
section
/-! DEFINITION. The named operations over registers, units, numbering (R21 to R23), time, the tile's
clock, counters and watchdog, and the scratchpad, which every family calls. -/
namespace Sys2Proof.Machine

/-! ## Numbering -/

def foldOf (t : Nat) : Nat := (t / 32) / 4 * 8 + (t % 32) / 4
def quadOf (t : Nat) : Nat := (t / 32) / 16 * 2 + (t % 32) / 16
def localOf (t : Nat) : Nat := (t / 32) % 4 * 4 + (t % 32) % 4

/-- The tile with a local index in a fold. -/
def tileAt (f n : Nat) : Nat := (f / 8 * 4 + n / 4) * 32 + f % 8 * 4 + n % 4

/-- The fold successor (R22). -/
def succOf (t : Nat) : Nat := tileAt (foldOf t) ((localOf t + 1) % 16)

/-- The pair-tie neighbour (R23). -/
def tieOf (t : Nat) : Nat := if t % 32 = 31 then t - 1 else t + 1

/-- The tiles of a fold. -/
def tilesOf (f : Nat) : List Nat := (List.range 16).map (tileAt f)

/-- Regulator numbers (R268). -/
def tlrOf (t : Nat) : Nat := t
def tarOf (t : Nat) : Nat := 1024 + t
def cirOf (f : Nat) : Nat := 2048 + f
def lkrOf (l : Nat) : Nat := 2112 + l

/-- The fold of a regulator's converter channels, for the three families on the stratum. -/
def foldOfReg (r : Nat) : Nat :=
  if r < 1024 then foldOf r else if r < 2048 then foldOf (r - 1024) else (r - 2048) % 64

/-- Unit IDs (R417). -/
def tileUnit (t : Nat) : Nat := 0x01000000 + t
def chanUnit (t : Nat) : Nat := 0x02000000 + t
def regUnit (r : Nat) : Nat := 0x03000000 + r
def laneUnit (l : Nat) : Nat := 0x04000000 + l
def fcvUnit (f : Nat) : Nat := 0x05000000 + f
def stratumUnit : Nat := 0x07000000
def portUnit (p : Nat) : Nat := 0x08000000 + p

/-- Whether a unit ID names a unit (R417). -/
def unitExists (u : Nat) : Bool :=
  let i := u % 2 ^ 24
  match u / 2 ^ 24 with
  | 1 => decide (i < 1024)
  | 2 => decide (i < 1024)
  | 3 => decide (i < 2144)
  | 4 => decide (i < 32)
  | 5 => decide (i < 64)
  | 6 => decide (i < 5)
  | 7 => decide (i = 0)
  | 8 => decide (i < 8)
  | _ => false

/-! ## Registers -/

/-- The key of a field of a unit in `State.regs`. -/
def regKey (f : Field) (u : Nat) : Nat := ((u * 32 + f.blk.code) * 65536 + f.off) * 64 + f.lo

/-- The Reset value of a field in a unit. -/
def Field.resetAt (f : Field) (u : Nat) : Nat :=
  match f.reset with
  | .const n => n
  | .tileId => u
  | .foldId => foldOf u
  | .quadId => quadOf u
  | .localIndex => localOf u
  | .tileIdPlus1 => u + 1
  | .vecSeed => 0x80000000 + u + 1
  | .familyCode => if u < 2048 then 150 else if u < 2112 then 180 else 160
  | .loopRegulator =>
    let f := u / 36
    let n := u % 36
    if n < 16 then tlrOf (tileAt f n) else if n < 32 then tarOf (tileAt f (n - 16))
    else if n = 32 then cirOf f else 0

/-- The value of a field. -/
def State.rd (s : State) (f : Field) (u : Nat) : Nat :=
  (s.regs.find (regKey f u)).getD (f.resetAt u)

/-- A field of one bit as a truth value. -/
def State.rdb (s : State) (f : Field) (u : Nat) : Bool := s.rd f u != 0

/-- The state with a field set by the stratum itself. -/
def State.wr (s : State) (f : Field) (u v : Nat) : State :=
  let n := v % 2 ^ f.w
  { s with regs := if n = f.resetAt u then s.regs.del (regKey f u) else s.regs.set (regKey f u) n }

/-- A counter field advanced by `k`, stopping at its largest value. -/
def State.cnt (s : State) (f : Field) (u k : Nat) : State :=
  s.wr f u (satAdd f.w (s.rd f u) k)

/-- A counter field advanced by `k`, wrapping. -/
def State.inc (s : State) (f : Field) (u k : Nat) : State := s.wr f u (s.rd f u + k)

/-- The 32-bit word of a block at an offset: the fields that lie in it; reserved bits read zero
(R10). -/
def State.regWord (s : State) (b : Blk) (u off : Nat) : Nat :=
  b.fields.foldl (fun acc f =>
    let base := f.off + f.lo / 32 * 4
    if base = off then acc + bf (s.rd f u) 0 (min f.w (32 - f.lo % 32)) * 2 ^ (f.lo % 32)
    else if f.lo + f.w > 32 ∧ f.lo < 32 ∧ f.off + 4 = off then acc + (s.rd f u) / 2 ^ (32 - f.lo)
    else acc) 0

/-- Fields of a block at a unit whose survival code does not outlive an event of a rank go back
to their Reset values: the keys leave the table (R12). -/
def State.resetRegs (s : State) (hit : Blk → Nat → Bool) (rank : Nat) : State :=
  { s with regs := s.regs.drop (fun k =>
      let u := k / 64 / 65536 / 32
      match Blk.ofCode (k / 64 / 65536 % 32) with
      | none => false
      | some b => hit b u && b.fields.any (fun f =>
          decide (regKey f u = k) && decide (f.kept.rank < rank))) }

/-! ## Units -/

def State.tile (s : State) (t : Nat) : Tile := (s.tiles.find t).getD Tile.reset
def State.setTile (s : State) (t : Nat) (x : Tile) : State := { s with tiles := s.tiles.set t x }
def State.modTile (s : State) (t : Nat) (f : Tile → Tile) : State := s.setTile t (f (s.tile t))
def State.fold (s : State) (f : Nat) : Fold := (s.folds.find f).getD Fold.reset
def State.setFold (s : State) (f : Nat) (x : Fold) : State := { s with folds := s.folds.set f x }
def State.modFold (s : State) (f : Nat) (g : Fold → Fold) : State := s.setFold f (g (s.fold f))
def State.regul (s : State) (r : Nat) : Regul := (s.reguls.find r).getD Regul.reset
def State.setRegul (s : State) (r : Nat) (x : Regul) : State :=
  { s with reguls := s.reguls.set r x }
def State.modRegul (s : State) (r : Nat) (g : Regul → Regul) : State := s.setRegul r (g (s.regul r))
def State.loop (s : State) (l : Nat) : Loop := (s.loops.find l).getD Loop.reset
def State.setLoop (s : State) (l : Nat) (x : Loop) : State := { s with loops := s.loops.set l x }
def State.mbox (s : State) (m : Nat) : Mailbox := (s.mboxes.find m).getD Mailbox.reset
def State.setMbox (s : State) (m : Nat) (x : Mailbox) : State :=
  { s with mboxes := s.mboxes.set m x }
def State.modMbox (s : State) (m : Nat) (g : Mailbox → Mailbox) : State := s.setMbox m (g (s.mbox m))
def State.sess (s : State) (f : Nat) : Session := (s.sessions.find f).getD Session.reset
def State.setSess (s : State) (f : Nat) (x : Session) : State :=
  { s with sessions := s.sessions.set f x }
def State.modSess (s : State) (f : Nat) (g : Session → Session) : State := s.setSess f (g (s.sess f))
def State.port (s : State) (p : Nat) : Port := (s.ports.find p).getD Port.reset
def State.setPort (s : State) (p : Nat) (x : Port) : State := { s with ports := s.ports.set p x }
def State.modPort (s : State) (p : Nat) (g : Port → Port) : State := s.setPort p (g (s.port p))
def State.hist (s : State) (u : Nat) : History := (s.histories.find u).getD History.reset
def State.setHist (s : State) (u : Nat) (h : History) : State :=
  { s with histories := s.histories.set u h }

/-- The state after one transformation for each member of a list. -/
def State.each (s : State) : List Nat → (State → Nat → State) → State
  | [], _ => s
  | a :: r, f => State.each (f s a) r f

/-- The value of a free-value counter, and the state in which it has advanced. -/
def State.draw (s : State) : State := { s with drawn := s.drawn + 1 }

/-! ## Operands whose length the spec does not give (DESIGN CHOICE, log 118) -/

/-- A list operand of a command. Within the limits of the spec it stands as it is; else how many members count, within the
limits, and what stands where none was given are free values. -/
def State.fit {α : Type} (s : State) (lo hi : Nat) (l : List α) (mk : BitVec 64 → α) : State × List α :=
  if lo ≤ l.length ∧ l.length ≤ hi then (s, l)
  else
    let n := lo + (Config.free s.drawn).toNat % (hi + 1 - lo)
    ({ s with drawn := s.drawn + hi + 1 }, (l ++ (List.range n).map fun i => mk (Config.free (s.drawn + 1 + i))).take n)

/-- Bytes of a command, fitted. -/
def State.fitBytes (s : State) (lo hi : Nat) (b : Bytes) : State × Bytes := s.fit lo hi b (·.setWidth 8)

/-! ## Whether units serve -/

/-- The fold is in Fold Off (R24). -/
def State.foldOff (s : State) (f : Nat) : Bool := (s.fold f).off

/-- A unit is penned (R233). -/
def State.penned (s : State) (u : Nat) : Bool := (s.hist u).penned

/-- The firmware has taken up the supplies: neither PERST#, nor the boot ROM, nor recovery mode, nor a stop until PERST# (R291, R402,
R414). -/
def State.inService (s : State) : Bool := s.phase == .firmware || s.phase == .open || s.phase == .drover

/-- The drover acts on the supplies: it does not restart (R415). -/
def State.droverActs (s : State) : Bool := s.phase == .firmware || s.phase == .open

/-- The channel over a tile answers: trained, not penned, its fold on (R24, R233, R266). -/
def State.chanUp (s : State) (t : Nat) : Bool :=
  s.phase != .stopped && !s.foldOff (foldOf t) && s.rd VCH_STATE_STATE t == 2

/-- A column that nothing reaches: its channel is penned, its fold off, or everything stopped (R24, R233, R239). -/
def State.chanClosed (s : State) (t : Nat) : Bool :=
  s.penned (chanUnit t) || s.foldOff (foldOf t) || s.phase == .stopped

/-- The fold in which an endpoint's router stands (R91, R102). -/
def endpointFold (e : Nat) : Nat :=
  if e < 1024 then foldOf e else (Config.spineFold e).toNat

/-- Whether an endpoint code is defined (R91). -/
def endpointOk (e : Nat) : Bool := decide (e < 0x408) || e == 0x410

/-! ## The tile clock (R107, R331) -/

/-- Island frequency of a notch, MHz (R331). -/
def notchMHz (n : Nat) : Nat :=
  if n ≤ 12 then 400 + 100 * n else if n = 13 then 1725 else if n = 14 then 1850 else 2000

/-- TLR set-point code of a notch (R331). -/
def notchCode (n : Nat) : Nat :=
  if n ≤ 12 then 90 + 5 * n else if n = 13 then 162 else if n = 14 then 176 else 190

/-- TAR set-point code of a notch (R331). -/
def notchTarCode (n : Nat) : Nat := max 120 (notchCode n)

/-- Frequency of a tile's island, MHz. -/
def State.mhz (s : State) (t : Nat) : Nat := notchMHz (s.rd TILE_NOTCH_CUR t)

/-- Island cycles of the tile so far, in thousandths. -/
def State.milliCycles (s : State) (t : Nat) : Nat :=
  let x := s.tile t
  if x.clkStop then x.cycles else x.cycles + (s.now - x.cycAt) * s.mhz t

/-- Island cycles counted up to now (counter 1 of R89). -/
def State.cyclesOf (s : State) (t : Nat) : Nat := s.milliCycles t / 1000

/-- The cycle count brought up to now, before the clock changes. -/
def State.settle (s : State) (t : Nat) : State :=
  let c := s.milliCycles t
  s.modTile t fun x => { x with cycles := c, cycAt := s.now }

/-- The island clock stops or runs (R107). It stays stopped while the stratum waits for PERST# (R291, R292). -/
def State.clock (s : State) (t : Nat) (stop : Bool) : State :=
  (s.settle t).modTile t fun x => { x with clkStop := stop || s.phase == .stopped }

/-- Nanoseconds that `c` island cycles of the tile take, rounded up. -/
def State.cyclesNs (s : State) (t c : Nat) : Nat := ceilDiv (c * 1000) (s.mhz t)

/-! ## Counters of R89 -/

/-- Island cycles for which the running operation of the Tensor Array has kept it busy. -/
def State.busyNow (s : State) (t : Nat) : Nat :=
  match (s.tile t).taRun with
  | some op => (s.milliCycles t - op.start) / 1000
  | none => 0

/-- The live value of a tile counter (R89): 0 for index 0 and the reserved indices. -/
def State.counter (s : State) (t i : Nat) : Nat :=
  if i = 1 then s.cyclesOf t % 2 ^ 64
  else if i = 4 then ((((s.tile t).counters.find 4).getD 0) + s.busyNow t) % 2 ^ 64
  else if 2 ≤ i ∧ i ≤ 12 then ((s.tile t).counters.find i).getD 0
  else 0

/-- A counter advanced, modulo 2^64. -/
def Tile.count (x : Tile) (i k : Nat) : Tile :=
  { x with counters := x.counters.set i ((((x.counters.find i).getD 0) + k) % 2 ^ 64) }

/-- Some cycles of the running Tensor Array operation are counted as busy (R89, R337). -/
def State.bookCycles (s : State) (t : Nat) (op : UnitOp) (n : Nat) : State :=
  s.modTile t fun x => ({ x with busyBy := x.busyBy.set op.fmt ((x.busyBy.find op.fmt).getD 0 + n) } : Tile).count 4 n

/-- The cycles of a Tensor Array operation that ends without completing stay counted (R89, R337). -/
def State.bookBusy (s : State) (t : Nat) : State :=
  match (s.tile t).taRun with
  | none => s
  | some op => s.bookCycles t op (s.busyNow t)

/-- N_0 of a job's period grid (R355): its start; of a flock's member the start of the last one, which the drover learns from its peers
(a free value, log 32). -/
def Job.origin (j : Job) : Nat :=
  if j.policy.flock = 0 then j.startAt else max j.startAt (Config.flockStart j.policy.flock j.startAt)

/-! ## The counts of the activity estimate (R337) -/

/-- The counts that the estimate uses: counters of R89, and 16 + format class for busy cycles. -/
def estCounters : List Nat := [1, 2, 5, 6, 7, 9, 17, 18, 19]

/-- One of them as it stands now. -/
def State.estCount (s : State) (t i : Nat) : Nat :=
  if i < 16 then s.counter t i
  else
    let run := match (s.tile t).taRun with
      | some op => if op.fmt + 16 = i then s.busyNow t else 0
      | none => 0
    ((s.tile t).busyBy.find (i - 16)).getD 0 + run

/-- What the counts of a tile have advanced by since they were last weighed goes to its sums, with the squares of the notch's
set-point codes: V_n is the rail voltage at which the cycles passed. -/
def State.weigh (s : State) (t : Nat) : State :=
  let n := s.rd TILE_NOTCH_CUR t
  let x := s.tile t
  let now := estCounters.map fun i => (i, s.estCount t i)
  let adv := fun (i : Nat) => ((now.find? (·.1 == i)).map (·.2)).getD 0 - (x.estBase.find i).getD 0
  let old := fun (i : Nat) => (x.estSum.find i).getD 0
  let sums := (0, old 0 + adv 1 * notchTarCode n * notchTarCode n)
    :: estCounters.map fun i => (i, old i + adv i * notchCode n * notchCode n)
  s.modTile t fun x => { x with estBase := now, estSum := sums }

/-- Counters 1 to 15 have been set to zero; the busy cycles by class go on. -/
def Tile.rebase (x : Tile) : Tile := { x with estBase := x.estBase.drop fun i => decide (i < 16) }

/-! ## The watchdog (R108) -/

/-- Nanoseconds left before expiry. -/
def State.wdogRemain (s : State) (t : Nat) : Nat :=
  let x := s.tile t
  match x.wdogFrom with
  | none => x.wdogLeft
  | some f => x.wdogLeft - (s.now - f)

/-- The watchdog holds its value. -/
def State.wdogHold (s : State) (t : Nat) : State :=
  let r := s.wdogRemain t
  s.modTile t fun x => { x with wdogLeft := r, wdogFrom := none }

/-- A line is held for check handling: later requests to it wait (R238). -/
def State.lineHeld (s : State) (t l : Nat) : Bool := ((s.tile t).heldLines.find l).isSome

/-- A line of a range is held (R238). -/
def State.rangeHeld (s : State) (t first count : Nat) : Bool :=
  (s.tile t).heldLines.any fun k => decide (first ≤ k.1 ∧ k.1 < first + count)

/-- The column ranges that a transfer of a tile reads and writes: tile, first line, lines. -/
def Xfer.lines (k : Xfer) (t : Nat) : List (Nat × Nat × Nat) :=
  (if k.lspace = 1 then [(t, k.loc / 64, k.len / 64)] else []) ++ (if k.rspace = 1 then [(k.tile, k.rem / 64, k.len / 64)] else [])

/-- A line of a transfer is held (R238). -/
def State.xferHeld (s : State) (t : Nat) (k : Xfer) : Bool := (k.lines t).any fun c => s.rangeHeld c.1 c.2.1 c.2.2

/-- A request that the tile issued waits on a recompute of the drover: one on its own channel, or a transfer that it
started, wherever that is served (R248). -/
def State.awaitsDrover (s : State) (t : Nat) : Bool :=
  let x := s.tile t
  x.heldLines.any (fun h => h.2.drover && h.2.own)
    || x.xfers.any fun k => k.status.isNone && (k.lines t).any fun c =>
      (s.tile c.1).heldLines.any fun h => h.2.drover && decide (c.2.1 ≤ h.1 ∧ h.1 < c.2.1 + c.2.2)

/-- Whether the watchdog may count: STATE RUNNING, no update window, no wait in KX.MWAIT, none of
the tile's own requests waiting on a drover recompute (R108, R156, R248), and the core not halted by the drover
for a restart, a checkpoint or the debugger (DESIGN CHOICE, log 45). -/
def State.wdogRuns (s : State) (t : Nat) : Bool :=
  let x := s.tile t
  s.rd TILE_STATE_STATE t == 1 && !x.inWin && !x.haltRail
    && !x.haltJob && !x.haltCkpt && !x.haltDbg && (match x.wait with | some (.mwait ..) => false | _ => true)
    && !s.awaitsDrover t

/-- The watchdog counts on if nothing holds it. -/
def State.wdogGo (s : State) (t : Nat) : State :=
  if s.wdogRuns t then
    s.modTile t fun x => { x with wdogFrom := some (x.wdogFrom.getD s.now) }
  else s.wdogHold t

/-- The watchdog is reloaded from its limit (R108). -/
def State.wdogReload (s : State) (t : Nat) : State :=
  let l := s.rd TILE_WDOG_LIMIT t * 1000
  s.modTile t fun x => { x with wdogLeft := l, wdogFrom := x.wdogFrom.map fun _ => s.now }

/-! ## The core -/

/-- The core retires instructions: RUNNING, no wait, not halted, the island clocked. -/
def State.runs (s : State) (t : Nat) : Bool :=
  let x := s.tile t
  s.rd TILE_STATE_STATE t == 1 && x.wait.isNone && !x.haltWin && !x.haltRail && !x.haltDbg
    && !x.haltJob && !x.haltCkpt && !x.clkStop && !x.off

/-- The core, waiting in an instruction, would go on if its condition came to hold. -/
def State.waits (s : State) (t : Nat) : Bool :=
  let x := s.tile t
  s.rd TILE_STATE_STATE t == 1 && x.wait.isSome && !x.haltWin && !x.haltRail && !x.haltDbg
    && !x.haltJob && !x.haltCkpt && !x.clkStop && !x.off

/-- Register x`r`; x0 reads zero. -/
def Tile.xr (x : Tile) (r : Nat) : Nat := if r = 0 then 0 else (x.x[r]?.getD 0#64).toNat

/-- Register x`r` written; a write to x0 has no effect. -/
def Tile.setX (x : Tile) (r v : Nat) : Tile :=
  if r = 0 then x else { x with x := x.x.setIfInBounds r (BitVec.ofNat 64 v) }

/-- An instruction of `len` bytes retires with `v` in rd. -/
def State.retire (s : State) (t rd v len : Nat) : State :=
  s.modTile t fun x =>
    ({ x.setX rd v with pc := x.pc + BitVec.ofNat 64 len }).count 2 1

/-- The value that an rd with status takes (R82). -/
def statusWord (st low : Nat) : Nat := st * 2 ^ 32 + low % 2 ^ 32

/-! Tile status codes (R82). -/
def kxOk : Nat := 0
def kxEmpty : Nat := 1
def kxNoCredit : Nat := 2
def kxDestOff : Nat := 3
def kxBadArg : Nat := 4
def kxNotOpen : Nat := 5
def kxTimeout : Nat := 6
def kxDenied : Nat := 7
def kxClamped : Nat := 8
def kxPoisoned : Nat := 9

/-! ## The scratchpad (R75, R76, R78) -/

/-- 4 MiB. -/
def spadSize : Nat := 0x400000

/-- The scratchpad lines that a range of bytes touches. -/
def linesOf (a len : Nat) : List Nat :=
  if len = 0 then [] else (List.range ((a + len - 1) / 64 - a / 64 + 1)).map (· + a / 64)

def Tile.rdSpad (x : Tile) (a n : Nat) : Bytes := Memory.getN x.spad a n

/-- Bytes written; a reservation on a line written is broken (R76). -/
def Tile.wrSpad (x : Tile) (a : Nat) (b : Bytes) : Tile :=
  { x with
    spad := Memory.putN x.spad a b
    resv := match x.resv with
      | some l => if l ∈ linesOf a b.length then none else some l
      | none => none }

/-- Whether any line of a range carries the poison marker. -/
def Tile.poisonedIn (x : Tile) (a len : Nat) : Bool := (linesOf a len).any (· ∈ x.poison)

def Tile.setPoison (x : Tile) (l : Nat) : Tile :=
  if l ∈ x.poison then x else { x with poison := l :: x.poison }

def Tile.clrPoison (x : Tile) (l : Nat) : Tile := { x with poison := x.poison.filter (· ≠ l) }

/-- One mover writes a range: each line takes the marker when the move brings poison into it, and
loses it when the move writes all of its 64 bytes without poison (R78). -/
def Tile.move (x : Tile) (a : Nat) (b : Bytes) (bad : Nat → Bool) : Tile :=
  (linesOf a b.length).foldl (fun x l =>
    if bad l then x.setPoison l
    else if a ≤ l * 64 ∧ l * 64 + 64 ≤ a + b.length then x.clrPoison l
    else x) (x.wrSpad a b)

/-! ## Tracing (R393) -/

/-- A trace record goes to the connection that traces the tile; a full buffer drops its oldest records, counted. -/
def State.traceRec (s : State) (t kind data : Nat) : State :=
  { s with conns := s.conns.map fun k => match k.2.trace with
      | some (u, kib) =>
        if u = t then
          let l := k.2.traced ++ [toLE 8 s.now ++ toLE 2 t ++ toLE 1 kind ++ toLE 1 0 ++ toLE 4 data]
          let excess := l.length - 64 * kib
          (k.1, { k.2 with traced := l.drop excess, dropped := k.2.dropped + excess })
        else k
      | none => k }

/-- The 32 bits of an Xkraxa instruction (R81). -/
def kxBits (opcode funct7 funct3 rd rs1 rs2 : Nat) : Nat :=
  funct7 * 2 ^ 25 + rs2 * 2 ^ 20 + rs1 * 2 ^ 15 + funct3 * 2 ^ 12 + rd * 2 ^ 7 + opcode

/-- An Xkraxa instruction of a core that runs is issued: trace kind 1. -/
def State.kxIssue (s : State) (t bits : Nat) : State := if s.runs t then s.traceRec t 1 bits else s

/-! ## Configuration fields (R305, R325, R339, R380, R410) -/

/-- A configuration field: minimum, default, maximum, step. -/
structure CfgField where
  id : Nat
  lo : Nat
  dflt : Nat
  hi : Nat
  step : Nat
  deriving DecidableEq, Repr

/-- The catalogue but for NOTCH_LIMIT (0x1000 + t), which `cfgField` adds. -/
def cfgCatalogue : List CfgField :=
  [⟨0x0100, 600, 2200, 2400, 1⟩, ⟨0x0101, 0, 15, 15, 1⟩, ⟨0x0102, 0, 0x24, 63, 1⟩,
   ⟨0x0200, 0, 1, 1, 1⟩, ⟨0x0201, 50, 200, 400, 50⟩, ⟨0x0202, 0, 1, 63, 1⟩,
   ⟨0x0203, 20, 80, 640, 20⟩, ⟨0x0204, 0, 40, 200, 5⟩, ⟨0x0205, 0, 1, 1, 1⟩,
   ⟨0x0206, 0, 1, 1, 1⟩, ⟨0x0207, 1800, 2000, 2200, 5⟩, ⟨0x0208, 5, 20, 50, 5⟩,
   ⟨0x0209, 0, 0, 15, 1⟩, ⟨0x020A, 1, 100, 1000, 1⟩,
   ⟨0x0300, 1, 1, 2, 1⟩, ⟨0x0301, 1, 1, 2, 1⟩, ⟨0x0302, 1, 1, 2, 1⟩, ⟨0x0303, 0, 0, 15, 1⟩,
   ⟨0x0400, 1, 30, 365, 1⟩, ⟨0x0401, 1, 3, 15, 1⟩, ⟨0x0402, 1, 2, 15, 1⟩,
   ⟨0x0500, 0, 0, 255, 1⟩]
  ++ (List.range 8).map (fun p => ⟨0x0501 + p, 0, 16, 16, 1⟩)
  ++ (List.range 8).map (fun p => ⟨0x0509 + p, 0, 15, 15, 1⟩)
  ++ [⟨0x0511, 0, 0, 1, 1⟩, ⟨0x0512, 1, 7440, 65535, 1⟩, ⟨0x0513, 0, 1, 1, 1⟩,
      ⟨0x0514, 10, 300, 3600, 1⟩, ⟨0x0515, 0, 0, 31, 1⟩, ⟨0x0516, 0, 0, 127, 1⟩,
      ⟨0x0600, 0, 600, 86400, 1⟩]

def cfgField (id : Nat) : Option CfgField :=
  if 0x1000 ≤ id ∧ id < 0x1400 then some ⟨id, 0, 15, 15, 1⟩
  else cfgCatalogue.find? (fun c => c.id == id)

/-- The value of a configuration field in the active configuration. -/
def State.conf (s : State) (id : Nat) : Nat :=
  (s.cfg.find id).getD (match cfgField id with | some c => c.dflt | none => 0)

/-- Owner function of a welt port; 16 means none (R370). -/
def State.portOwner (s : State) (p : Nat) : Nat := s.conf (0x0501 + p)

/-! ## Jobs and flows -/

def State.jobByTag (s : State) (tag : Nat) : Option Job :=
  if tag = 0 then none else s.jobs.find? (fun j => j.tag == tag)

/-- The job that a tile belongs to, by TILE_JOB. -/
def State.jobOf (s : State) (t : Nat) : Option Job := s.jobByTag (s.rd TILE_JOB_JOB t)

def State.setJob (s : State) (j : Job) : State :=
  { s with jobs := s.jobs.map (fun k => if k.tag = j.tag then j else k) }

def State.modJob (s : State) (tag : Nat) (f : Job → Job) : State :=
  { s with jobs := s.jobs.map (fun k => if k.tag = tag then f k else k) }

/-- Every tile of a job, twins included. -/
def Job.all (j : Job) : List Nat := j.tiles ++ j.twins

/-- The Dual partner of a job's tile (R208). -/
def Job.partner (j : Job) (t : Nat) : Option Nat :=
  match (j.tiles.zip j.twins).find? (fun p => p.1 = t ∨ p.2 = t) with
  | some p => some (if p.1 = t then p.2 else p.1)
  | none => none

/-- The key slot of a function's session now in use: 2f + g (R256). -/
def State.slotOf (s : State) (f : Nat) : Nat := 2 * f + (s.sess f).keyGen

/-- Host memory. -/
def State.rdHost (s : State) (a n : Nat) : Bytes := Memory.getN s.host a n
def State.wrHost (s : State) (a : Nat) (b : Bytes) : State :=
  { s with host := Memory.putN s.host a b }

/-- Whether a function may reach host memory (R385). -/
def State.masters (s : State) (f : Nat) : Bool := bit s.busMaster f

/-- An MSI-X vector of a function is raised (R188); one that its table entry masks stays pending (R383; the mask is bit 0 of the
entry's fourth word: PRESUMED, log 163). -/
def State.irq (s : State) (f v : Nat) : State :=
  if f < 16 then
    let k := 8 * f + v
    if bit ((s.msixTab.find (32 * f + 4 * v + 3)).getD 0) 0 then { s with msixPend := s.msixPend.set k 1 }
    else { s with msix := s.msix.set k (((s.msix.find k).getD 0) + 1) }
  else s

/-- Credits, grants and revokes that a test does not name are dropped, on the mesh and before it. -/
def State.keepCredits (s : State) (p : Credit → Bool) : State :=
  { s with credits := s.credits.filter p, creditQ := s.creditQ.filter fun k => p k.2 }

end Sys2Proof.Machine
end

