-- ==== Sys2Proof/Machine/Journal.lean ====
section
/-! DEFINITION. The Life Record: entries in the retained buffer, sectors, SNAPSHOTs and the head (R424, R432 to R436, R439). -/
namespace Sys2Proof.Machine

/-- Powered minutes (R424). -/
def State.minutes (s : State) : Nat := s.rd LREC_POWERED_MIN 0

def State.sector (s : State) (i : Nat) : Sector := (s.sectors.find i).getD Sector.reset
def State.setSector (s : State) (i : Nat) (x : Sector) : State := { s with sectors := s.sectors.set i x }

/-! ## SNAPSHOTs (R433, R435) -/

/-- The lifetime account. -/
def State.account (s : State) : Snapshot := ⟨s.minutes, s.dstate, s.histories, s.life⟩

/-- The entries of the parts of a SNAPSHOT of the account, numbered from NEXT on. -/
def State.snapEntries (s : State) : List JEntry :=
  s.account.parts.zipIdx.map fun k => JEntry.make 6 (s.rd LREC_SEQ_NEXT 0 + k.2) k.1

/-- Every entry that some sectors hold whole, by sequence number. -/
def entriesOf (l : List Sector) : Tbl JEntry :=
  (l.flatMap fun x => if x.ok then x.entries.filter JEntry.ok else []).foldl (fun (t : Tbl JEntry) e => t.set e.seq e) []

/-- The parts of a SNAPSHOT whose first part is entry `q`, when all of them are there. -/
def partsAt (t : Tbl JEntry) (q : Nat) : Option (List JEntry) :=
  match t.find q with
  | none => none
  | some e =>
    let n := fld e.body 2 2
    let l := (List.range n).filterMap fun k => (t.find (q + k)).filter fun p =>
      p.type == 6 && fld p.body 0 2 == k + 1 && fld p.body 2 2 == n
    if e.type = 6 ∧ n ≠ 0 ∧ l.length = n then some l else none

/-- The newest SNAPSHOT whose n parts all verify: its first entry's number and its parts. -/
def newestSnap (t : Tbl JEntry) : Option (Nat × List JEntry) :=
  t.foldl (fun a k => match partsAt t k.1 with
    | some l => some (k.1, l)
    | none => a) none

/-- The entries on flash. -/
def State.flashEntries (s : State) : Tbl JEntry := entriesOf (s.sectors.map (·.2))

/-! ## Sectors (R432, R435, R439) -/

/-- The sectors still good. -/
def State.goodSectors (s : State) : Nat := 512 - (s.sectors.filter fun k => k.2.bad).length

/-- The next good sector of the ring. -/
def State.nextSector (s : State) (i : Nat) : Option Nat :=
  ((List.range 512).map fun k => (i + 1 + k) % 512).find? fun k => !(s.sector k).bad

/-- Erased, with its header written: the erase count plus 1, the number of the first entry, the minute of opening. -/
def State.openSector (s : State) (i first : Nat) : State :=
  let n := (s.sector i).erases + 1
  (s.setSector i { s.sector i with header := Sector.head n first s.minutes, entries := [] }).wr LREC_ERASEMAX_COUNT 0
    (max (s.rd LREC_ERASEMAX_COUNT 0) n)

/-- An entry placed at the end of a sector. -/
def State.putEntry (s : State) (i : Nat) (e : JEntry) : State :=
  s.setSector i { s.sector i with entries := (s.sector i).entries ++ [e] }

/-- A SNAPSHOT of the account written at the head. -/
def State.snapHere (s : State) : State :=
  let l := s.snapEntries
  let s := l.foldl (fun s e => s.putEntry (s.rd LREC_STAT_HEAD 0) e) s
  ({ s with snapMin := s.minutes } : State).inc LREC_SEQ_NEXT 0 l.length

/-- A sector holds a part of the newest complete SNAPSHOT. -/
def State.holdsSnap (s : State) (i : Nat) : Bool :=
  match newestSnap s.flashEntries with
  | some n => (s.sector i).ok && (s.sector i).entries.any fun e => decide (n.1 ≤ e.seq ∧ e.seq < n.1 + n.2.length)
  | none => false

/-- The head enters the next good sector. A newest SNAPSHOT that the erasure would lose, and for whose successor the old head
had no room, is written anew there (DESIGN CHOICE, log 162). -/
def State.advanceHead (s : State) (first : Nat) : State :=
  match s.nextSector (s.rd LREC_STAT_HEAD 0) with
  | none => s
  | some i =>
    let lost := s.holdsSnap i
    let t := (s.openSector i (if lost then s.rd LREC_SEQ_NEXT 0 else first)).wr LREC_STAT_HEAD 0 i
    if lost then t.snapHere else t

/-- Before an entry takes the room that a new SNAPSHOT needs, and the next sector holds part of the newest one, the new one is
written at the head (R435). -/
def State.snapAhead (s : State) (e : JEntry) : State :=
  let h := s.rd LREC_STAT_HEAD 0
  let need := (s.snapEntries.map JEntry.size).sum
  let used := (s.sector h).used
  match s.nextSector h with
  | none => s
  | some i => if i ≠ h ∧ s.holdsSnap i ∧ used + need ≤ 65536 ∧ 65536 < used + e.size + need then s.snapHere else s

/-- An entry goes to the head; no entry crosses a sector's end (R433). A sector that opens with a `copied` entry shows the number
that the next new entry takes, so that the head is found by the highest number (R434; DESIGN CHOICE, log 162). -/
def State.append (s : State) (e : JEntry) (copied : Bool := false) : State :=
  let first := fun (s : State) => if copied then s.rd LREC_SEQ_NEXT 0 else e.seq
  let s := s.snapAhead e
  let h := s.rd LREC_STAT_HEAD 0
  let s := if !(s.sector h).ok then s.openSector h (first s)
    else if 65536 < (s.sector h).used + e.size then s.advanceHead (first s) else s
  s.putEntry (s.rd LREC_STAT_HEAD 0) e

/-- SNAPSEC: the sector of the newest complete SNAPSHOT's first part. -/
def State.snapState (s : State) : State :=
  match newestSnap s.flashEntries with
  | some n => s.wr LREC_STAT_SNAPSEC 0
      (((s.sectors.find? fun k => k.2.ok && k.2.entries.any fun e => e.seq == n.1 && e.type == 6).map (·.1)).getD 0)
  | none => s

/-- Entry types that fewer than 64 good sectors still take (R439). -/
def keptTypes : List Nat := [2, 3, 4, 6]

/-- Every buffered entry goes to flash; with fewer than 64 good sectors those of other types are dropped (R439). -/
def State.flush (s : State) : State :=
  if s.goodSectors = 0 then s
  else
    let low := s.rdb LREC_STAT_LOWSPARE 0
    let b := s.buffer.filter fun e => !low || keptTypes.contains e.type
    let s := s.cnt LREC_LOST_COUNT 0 (s.buffer.length - b.length)
    (b.foldl (fun (s : State) e => s.append e) { s with buffer := [] }).snapState

/-! ## The retained buffer (R436) -/

/-- Bytes of buffered entries. -/
def bufBytes (b : List JEntry) : Nat := b.foldl (fun n e => n + e.size) 0

/-- The oldest entry that meets a test leaves the buffer. -/
def dropFirst (p : JEntry → Bool) : List JEntry → Option (List JEntry)
  | [] => none
  | e :: r => if p e then some r else (dropFirst p r).map (e :: ·)

/-- EVENT entries are dropped, oldest first, then every other entry but CHARGE, CLEAR and STATE, oldest first, until the buffer
fits its 64 KiB; `fuel` bounds the walk. -/
def State.trimBuffer (s : State) : Nat → State
  | 0 => s
  | n + 1 =>
    if bufBytes s.buffer ≤ 65536 then s
    else match (dropFirst (fun e => e.type == 1) s.buffer).orElse fun _ => dropFirst (fun e => !([2, 3, 4].contains e.type)) s.buffer with
      | none => s
      | some b => State.trimBuffer ({ s with buffer := b }.cnt LREC_LOST_COUNT 0 1) n

/-- An entry is appended to the buffered journal (R433, R436, R439). Types: 1 EVENT, 2 CHARGE, 3 CLEAR, 4 STATE, 5 HIST, 6 a part
of a SNAPSHOT, 7 POWERED. A buffer full of entries that are never dropped goes to flash at once (DESIGN CHOICE, log 162). In
recovery mode the Life Record is not written (R13, R414). -/
def State.journal (s : State) (type : Nat) (body : Bytes) : State :=
  if s.phase = .recovery ∨ (s.rdb LREC_STAT_LOWSPARE 0 && !keptTypes.contains type) then s
  else
    let e := JEntry.make type (s.rd LREC_SEQ_NEXT 0) (pad16 body)
    let s := { s with buffer := s.buffer ++ [e], histOwed := s.histOwed || type == 2 || type == 4 }.inc LREC_SEQ_NEXT 0 1
    let s := s.trimBuffer (s.buffer.length)
    if bufBytes s.buffer ≤ 65536 then s else s.flush

/-- A SNAPSHOT of the account is journalled (R433, R435). -/
def State.snapshot (s : State) : State :=
  s.account.parts.foldl (fun s b => s.journal 6 b) ({ s with snapMin := s.minutes } : State)

end Sys2Proof.Machine
end

