-- ==== Sys2Proof/Machine/Account.lean ====
section
/-! DEFINITION. Event records (R422, R423) and the Life Record journal (R432 to R437). -/
namespace Sys2Proof.Machine

/-! ## Event codes (R423) -/
def evStateChange : Nat := 0x0001
def evUnitSuspect : Nat := 0x0002
def evUnitPenned : Nat := 0x0003
def evReplaceRequest : Nat := 0x0004
def evUnitCleared : Nat := 0x0005
def evLrecEntryBad : Nat := 0x0006
def evNbcViolation : Nat := 0x0100
def evDualMismatch : Nat := 0x0101
def evShadowMismatch : Nat := 0x0102
def evTileFault : Nat := 0x0103
def evJobRestart : Nat := 0x0104
def evNormCorrupt : Nat := 0x0105
def evCheckUnexplained : Nat := 0x0106
def evReplayDivergence : Nat := 0x0107
def evCheckpointCorrupt : Nat := 0x0108
def evPoisonRepeat : Nat := 0x0109
def evHeldLost : Nat := 0x010A
def evHoldExpired : Nat := 0x010B
def evFlockMissed : Nat := 0x010C
def evFlockMismatch : Nat := 0x010D
def evFlockExpelled : Nat := 0x010E
def evSelftestFail : Nat := 0x010F
def evLineCorrected : Nat := 0x0200
def evLineRecomputed : Nat := 0x0201
def evLinePoisoned : Nat := 0x0202
def evPoisonRead : Nat := 0x0203
def evChannelRetrain : Nat := 0x0204
def evChannelDown : Nat := 0x0205
def evFlowRetired : Nat := 0x0206
def evFlowStateLost : Nat := 0x0207
def evFlowSwapCorrupt : Nat := 0x0208
def evPoolExhausted : Nat := 0x0209
def evRegFault : Nat := 0x0300
def evRegTied : Nat := 0x0301
def evRailOvPersist : Nat := 0x0302
def evVspnFault : Nat := 0x0303
def evVibOv : Nat := 0x0304
def evVibUv : Nat := 0x0305
def evVibLow : Nat := 0x0306
def evAvsLost : Nat := 0x0307
def evVibMismatch : Nat := 0x0308
def evFcvLinearity : Nat := 0x0309
def evFcvSliceRetired : Nat := 0x030A
def evFcvFault : Nat := 0x030B
def evPowerModelDiscrepancy : Nat := 0x0400
def evCapUnreachable : Nat := 0x0401
def evThermalWarn : Nat := 0x0402
def evThermalRorWarn : Nat := 0x0403
def evThermalCritical : Nat := 0x0404
def evThermalRorAct : Nat := 0x0405
def evThermalStop : Nat := 0x0406
def evThermalTrip : Nat := 0x0407
def evThermalResume : Nat := 0x0408
def evSensorBroken : Nat := 0x0409
def evOscTrimLimit : Nat := 0x040A
def evRefTrimLimit : Nat := 0x040B
def evDeadlineBehind : Nat := 0x040C
def evBarrierLate : Nat := 0x040D
def evConfigMismatch : Nat := 0x0500
def evStackIdConflict : Nat := 0x0501
def evLaneOut : Nat := 0x0502
def evTimeRootConflict : Nat := 0x0503
def evTimeUnlocked : Nat := 0x0504
def evMgtAuthFail : Nat := 0x0505
def evPtpLost : Nat := 0x0506
def evOperatorAbsent : Nat := 0x0600
def evFlashSparesOut : Nat := 0x0601

/-! Charge classes (R425). -/
def clsMatmul4 : Nat := 1
def clsMatmul8 : Nat := 2
def clsMatmulBf16 : Nat := 3
def clsAttn : Nat := 4
def clsVector : Nat := 5
def clsCore : Nat := 6
def clsChecker : Nat := 7
def clsMesh : Nat := 8
def clsSpad : Nat := 9
def clsHang : Nat := 10
def clsChannel : Nat := 11
def clsWeights : Nat := 12
def clsRegulator : Nat := 13
def clsLane : Nat := 14
def clsMeasurement : Nat := 15

/-! ## Records -/

/-- The 64 bytes of a record (R422). -/
def EventRec.bytes (e : EventRec) : Bytes :=
  toLE 2 e.code ++ toLE 1 e.cls ++ toLE 1 (b2n e.charged + 2 * b2n (decide (e.reps > 1)))
    ++ toLE 4 e.unit ++ toLE 8 e.at' ++ toLE 2 e.temp ++ toLE 2 e.rail ++ toLE 4 e.opcode
    ++ toLE 2 e.job ++ toLE 1 e.tenant ++ toLE 1 0 ++ toLE 4 e.flow ++ toLE 4 e.reps
    ++ toLE 4 e.seq ++ sub e.detail 0 24

/-- The hottest reading of a tile sensor that is not broken (R347, R422), as a 16-bit code. -/
def State.hottest (s : State) : Nat :=
  let valid := (List.range 1024).filter fun t => !bit (s.rd THM_BROKEN_TILE (t / 32)) (t % 32)
  twos 16 (valid.foldl (fun m t => max m (sext 16 (s.rd TILE_TEMP_TEMP t))) (-32768))

/-- The temperature of a unit (R422). -/
def State.unitTemp (s : State) (u : Nat) : Nat :=
  let k := u / 2 ^ 24
  if k = 1 ∨ k = 2 then s.rd TILE_TEMP_TEMP (u % 2 ^ 24)
  else if k = 7 then s.hottest
  else (Config.unitTemp u).toNat

/-- The output of a lane's LKR in mV, as the base die brings it (R270, R304). -/
def State.lkrMv (s : State) (l : Nat) : Nat :=
  let k := s.rd TLR_STAT_STATE (lkrOf l)
  if 1 ≤ k ∧ k ≤ 5 then (Config.lkrCopy (lkrOf l) 0x28 s.now).toNat / 65536 else 0

/-- The rail voltage of a unit at its latest sample, mV (R270, R308, R309, R422). -/
def State.unitRail (s : State) (u : Nat) : Nat :=
  let i := u % 2 ^ 24
  let ch := fun (f c : Nat) => s.rd FCV_LAST_CODE (144 * f + c) * 5 / 16
  match u / 2 ^ 24 with
  | 1 => ch (foldOf i) (8 * localOf i)
  | 2 => ch (foldOf i) 128
  | 3 => if i < 1024 then ch (foldOf i) (8 * localOf i)
         else if i < 2048 then ch (foldOf (i - 1024)) (8 * localOf (i - 1024) + 5)
         else if i < 2112 then ch (i - 2048) 128 else s.lkrMv (i - 2112)
  | 4 => s.lkrMv i
  | 5 => (Config.vspnMv s.now).toNat
  | _ => 0

/-! ## The journal -/

/-- Journalling of an event: one by one or coalesced per code and unit (R437). -/
def State.journalEvent (s : State) (e : EventRec) : State :=
  if e.cls ≠ 0 ∨ (1 ≤ e.code ∧ e.code ≤ 6) ∨ e.code = evThermalStop ∨ e.code = evThermalTrip then
    s.journal 1 e.bytes
  else
    let k := e.code * 2 ^ 32 + e.unit
    match s.coalesced.find k with
    | some (last, n) =>
      if s.now < last + 60000000000 then
        { s with coalesced := s.coalesced.set k (last, n + e.reps) }.cnt LREC_COAL_COUNT 0 e.reps
      else
        { s with coalesced := s.coalesced.set k (s.now, 0) }.journal 1
          { e with reps := n + e.reps }.bytes
    | none => { s with coalesced := s.coalesced.set k (s.now, 0) }.journal 1 e.bytes

/-- A lifetime counter of R418 advances: key 65,536 × unit ID + index. -/
def State.lifeInc (s : State) (u i k : Nat) : State :=
  let key := u * 65536 + i
  { s with life := s.life.set key (((s.life.find key).getD 0 + k) % 2 ^ 64) }

/-- A port's counter and its lifetime counter advance (R379, R418). -/
def State.portCnt (s : State) (f : Field) (p i k : Nat) : State := (s.cnt f p k).lifeInc (portUnit p) i k

/-- A sample of a histogram of R419, by its stratum counter index; the lifetime totals take the bins at the next HIST entry. -/
def State.sample (s : State) (i : Nat) : State :=
  { s with bins := s.bins.set i ((s.bins.find i).getD 0 + 1) }

/-- An event is reported: its record waits to be written (R187, R422), and is journalled. `j` gives
job tag and tenant. -/
def State.event (s : State) (code unit : Nat) (j : Option Job) (opcode : Nat := 0)
    (detail : Bytes := []) (cls : Nat := 0) (flow : Nat := 0) (reps : Nat := 1)
    (tenant : Option Nat := none) : State :=
  let e : EventRec :=
    { code := code, cls := cls, charged := decide (cls ≠ 0), unit := unit, at' := s.now,
      temp := s.unitTemp unit, rail := s.unitRail unit, opcode := opcode,
      job := (j.map (·.tag)).getD 0,
      tenant := (match tenant with | some f => f | none => (j.map (·.fn)).getD 0xFF),
      flow := flow, reps := reps, seq := s.evSeq, detail := detail }
  let h := s.hist unit
  let s := if cls = 0 then s.setHist unit { h with lifeUncharged := h.lifeUncharged + 1 } else s
  { s with events := s.events ++ [e], evSeq := s.evSeq + 1 }.journalEvent e

/-- A sector of the flash is found bad, by its number in the map of R399: the lowest free spare takes its place, if one is left
(R400). -/
def State.badSector (s : State) (n : Nat) : State :=
  if s.flash.freeSpares.isEmpty then s
  else
    let s : State := { s with flash := s.flash.mapSector n }
    if s.flash.freeSpares.isEmpty then s.event evFlashSparesOut stratumUnit none else s

end Sys2Proof.Machine
end

