-- ==== Sys2Proof/Machine/Flits.lean ====
section
/-! DEFINITION. Flits on the wire (R361, R363), and sending on a welt port: virtual channel credits, sequence numbers, the replay buffer
(R361 to R366), and the flits that other families send. -/
namespace Sys2Proof.Machine

/-- The 256 bytes of a flit: its header, its body, and the CRC-32 over both (R361, R363). -/
def OutFlit.bytes (f : OutFlit) : Bytes :=
  let b := toLE 1 f.type ++ toLE 1 (f.vc + 4 * f.flags) ++ toLE 2 f.seq ++ toLE 2 f.ack ++ toLE 2 (f.cvc + 4 * f.ccnt)
    ++ f.body ++ zeros (244 - f.body.length)
  b ++ toLE 4 (crc32 b)

/-- Whether a flit type is sequenced (R362). -/
def sequenced (type : Nat) : Bool := !(type == 0 || type == 3 || type == 4)

/-- The virtual channel of a sequenced type (R362). -/
def vcOf (type : Nat) : Nat :=
  if type = 8 then 0 else if 0x0C ≤ type ∧ type ≤ 0x0E then 2 else 1

/-! ## Leaving on a lane (R360) -/

/-- The lanes of a mask, ascending. -/
def lanesOf (mask : Nat) : List Nat := (List.range 4).filter fun i => bit mask i

/-- The header that a flit takes as it leaves: the ACK of what came in order, and a credit return of the
first channel that owes one (R361, R364). -/
def Port.stamp (x : Port) (f : OutFlit) : Port × OutFlit :=
  let vc := ((List.range 3).find? fun v => x.owed.getD v 0 != 0).getD 0
  let n := min 16383 (x.owed.getD vc 0)
  ({ x with owed := x.owed.set vc (x.owed.getD vc 0 - n) },
   { f with ack := (x.rxNext + 65535) % 65536, cvc := vc, ccnt := n })

/-- A flit with its header leaves on the lane whose turn it is: flit n on the (n mod L)-th in service. -/
def Port.lay (x : Port) (mask : Nat) (f : OutFlit) : Port × OutFlit :=
  let l := lanesOf mask
  let k := x.stamp { f with lane := l.getD (x.lineNo % max 1 l.length) 0 }
  ({ k.1 with line := k.1.line ++ [k.2], lineNo := k.1.lineNo + 1 }, k.2)

/-- Where a row of slots begins that carries MARKER flits, they leave, one on each lane in service: every 4,096 slots of a lane,
counted from the last change of those lanes over the flits that leave (DESIGN CHOICE, log 141). -/
def Port.markers (x : Port) (mask : Nat) : Port :=
  let l := lanesOf mask
  let x := if x.lineMask = mask then x else { x with lineMask := mask, lineNo := 0 }
  if x.lineNo % (4096 * l.length) ≠ 0 then x
  else l.foldl (fun x i => (x.lay mask ⟨4, 0, 0, 0, 0, 0, 0, 0, toLE 1 i ++ toLE 1 mask, 0, 0⟩).1) x

/-- The stamps that the link layer puts into a body as it leaves: the time into the first flit of a message (R371) and into TIME, with
the stamps of the peer's last one (R377). -/
def Port.stampBody (x : Port) (now : Nat) (f : OutFlit) : Port × OutFlit :=
  if f.type = 8 ∧ bit f.flags 1 ∧ f.tries = 0 then
    (x, { f with body := f.body.take 24 ++ toLE 8 now ++ f.body.drop 32 })
  else if f.type = 2 then
    ({ x with timeSt := x.timeSt.set 0 now },
     { f with body := toLE 8 now ++ toLE 8 (x.timeSt.getD 1 0) ++ toLE 8 (x.timeSt.getD 2 0) })
  else (x, f)

/-- What governs the flits of a port as they leave: whether it is UP, whether the stack numbers conflict, whether the drover restarts,
the time, and the lanes in service. -/
structure Way where
  up : Bool
  conflict : Bool
  restart : Bool
  now : Nat
  mask : Nat
  deriving DecidableEq, Repr

/-- A flit leaves. -/
def Port.put (x : Port) (w : Way) (f : OutFlit) : Port × OutFlit :=
  let k := x.stampBody w.now f
  (k.1.markers w.mask).lay w.mask k.2

/-! ## Credits and replay (R364 to R366) -/

/-- Flits that wait whatever credit there is: MSG, GRANT and DPUT while the stack numbers conflict (R368), and drover traffic while the
drover restarts (R378). They hold nothing else up. -/
def Way.holds (w : Way) (type : Nat) : Bool :=
  (w.conflict && [8, 0x0B, 0x0C].contains type) || (w.restart && decide (0x0C ≤ type ∧ type ≤ 0x0E))

/-- Whether a waiting flit may go now: a credit for its channel and room in the replay buffer. A port
that is not UP sends HELLO flits only, without credits (R364, R366). -/
def Port.maySend (x : Port) (up : Bool) (f : OutFlit) : Bool :=
  decide (x.replay.length < 2048) &&
    (if up then decide (0 < x.credits.getD f.vc 0) else f.type == 1)

/-- The first waiting flit whose channel no earlier waiting flit holds up goes out: it takes a credit
and the next SEQ (R364, R365). A RETRACT of a message of which flits still wait goes after them. -/
def Port.pump1 (x : Port) (w : Way) : List Nat → List OutFlit → List OutFlit → Option Port
  | _, _, [] => none
  | shut, before, f :: r =>
    if w.holds f.type || (f.type == 0x0A && f.tag != 0 && before.any (fun g => g.tag == f.tag)) then
      Port.pump1 x w shut (before ++ [f]) r
    else if (!w.up || !shut.contains f.vc) && x.maySend w.up f then
      let k := x.put w { f with seq := x.txSeq }
      some { k.1 with
        outQ := before ++ r
        replay := x.replay ++ [k.2]
        txSeq := (x.txSeq + 1) % 65536
        credits := if w.up then x.credits.set f.vc (x.credits.getD f.vc 0 - 1) else x.credits }
    else Port.pump1 x w (f.vc :: shut) (before ++ [f]) r

/-- Waiting flits go out while they may. -/
def Port.pump (w : Way) : Nat → Port → Port
  | 0, x => x
  | n + 1, x => match x.pump1 w [] [] x.outQ with
    | some y => Port.pump w n y
    | none => x

/-- Held messages whose last flit has left take that time (R222). -/
def Port.markSent (x : Port) (now : Nat) : Port :=
  { x with sentHeld := x.sentHeld.map fun h =>
      if h.sent.isNone && !x.outQ.any (fun f => f.tag == h.id + 1) then { h with sent := some now } else h }

/-- Unacknowledged flits that `which` picks are sent again, in order, each counted (R365, R369). -/
def Port.resend (x : Port) (w : Way) (which : OutFlit → Bool) : Port :=
  let k := x.replay.foldl (fun (acc : Port × List OutFlit) f =>
    if which f then
      let r := acc.1.put w { f with tries := f.tries + 1 }
      (r.1, acc.2 ++ [r.2])
    else (acc.1, acc.2 ++ [f])) (x, [])
  { k.1 with replay := k.2 }

/-- The port is UP (R366). -/
def State.portUp (s : State) (p : Nat) : Bool := s.rd WELT_PSTAT_STATE p == 4

def State.way (s : State) (p : Nat) : Way :=
  ⟨s.portUp p, s.rdb WELT_PSTAT_CONFLICT p, s.phase == .drover, s.now, s.rd WELT_PSTAT_LANES p⟩

/-- Waiting flits of a port go out while they may. -/
def State.pumpPort (s : State) (p : Nat) : State :=
  s.modPort p fun x => (Port.pump (s.way p) x.outQ.length x).markSent s.now

/-- A flit is sent on a port. -/
def State.sendFlit (s : State) (p type flags : Nat) (body : Bytes) (tag : Nat := 0) : State :=
  let f : OutFlit := ⟨type, if sequenced type then vcOf type else 0, flags, 0, 0, 0, 0, tag, body, 0, 0⟩
  if sequenced type then (s.modPort p fun x => { x with outQ := x.outQ ++ [f] }).pumpPort p
  else s.modPort p fun x => (x.put (s.way p) f).1

/-- A RELEASE (0x09) or RETRACT (0x0A) naming hold IDs, at most 60 in a flit (R374). -/
def State.sendIds (s : State) (p type : Nat) : Nat → List Nat → State
  | 0, _ => s
  | n + 1, ids =>
    if ids.isEmpty then s
    else
      let k := ids.take 60
      State.sendIds (s.sendFlit p type 0
        (toLE 2 k.length ++ toLE 2 0 ++ k.flatMap (toLE 4))) p type n (ids.drop 60)

/-- A function has an open session (R189). -/
def State.sessOpen (s : State) (f : Nat) : Bool := decide (f < 16) && (s.sess f).state == 1

/-- The owner of a port has a session, and no stack number conflict stands (R368, R370). -/
def State.portCarries (s : State) (p : Nat) : Bool :=
  s.sessOpen (s.portOwner p) && !s.rdb WELT_PSTAT_CONFLICT p

/-- A GRANT flit (R372): OP 1 grant, 2 revoke, 3 discard notice. While the port's owner has no session only the revokes of an owner
that leaves go out (R370). -/
def State.sendGrant (s : State) (p op tile ch sch credits maxlen gen : Nat) : State :=
  if op ≠ 2 ∧ !s.sessOpen (s.portOwner p) then s
  else s.sendFlit p 0x0B 0 (toLE 1 op ++ toLE 1 0 ++ toLE 2 tile ++ toLE 1 (ch + 16 * sch) ++ toLE 1 0
    ++ toLE 2 credits ++ toLE 2 maxlen ++ toLE 2 gen)

/-- Flits of a message (R371). -/
def msgFlitCount (len : Nat) : Nat := 1 + ceilDiv (len - 212) 244

/-- Flits of a held message that still wait. -/
def Port.waiting (x : Port) (h : Held) : Nat := (x.outQ.filter fun f => f.tag == h.id + 1).length

/-- No flit of a held message has left. -/
def Port.unsent (x : Port) (h : Held) : Bool := x.waiting h == msgFlitCount h.msg.payload.length

/-- Every held result of a job on a port of which a flit has left and which is not released is retracted; those not yet
sent are discarded, with their flits (R27, R216, R224). -/
def State.retractJob (s : State) (p tag : Nat) : State :=
  let x := s.port p
  let mine := x.sentHeld.filter (fun h => h.msg.job == tag)
  let ids := (mine.filter fun h => x.waiting h == 0).map (·.id)
  let part := (mine.filter fun h => x.waiting h != 0 && !x.unsent h).map (·.id)
  let s := s.setPort p { x with
    sentHeld := x.sentHeld.filter (fun h => h.msg.job != tag)
    holdStore := x.holdStore.filter (fun h => h.msg.job != tag)
    outQ := x.outQ.filter fun f => !(mine.any fun h => x.unsent h && f.tag == h.id + 1) }
  let s := s.sendIds p 0x0A (ids.length) ids
  s.each part fun s i => s.sendFlit p 0x0A 0 (toLE 2 1 ++ toLE 2 0 ++ toLE 4 i) (tag := i + 1)

end Sys2Proof.Machine
end

