-- ==== Sys2Proof/Machine/Halt.lean ====
section
/-! DEFINITION. Background slots (R186), the end of a job, and the halt that begins a restart (R216,
R217, R224). -/
namespace Sys2Proof.Machine

/-! ## Status codes (R182) -/
def stOk : Nat := 0x0000
def stEmpty : Nat := 0x0001
def stBadArg : Nat := 0x0004
def stDenied : Nat := 0x0007
def stClamped : Nat := 0x0008
def stUnsupported : Nat := 0x0010
def stBusy : Nat := 0x0011
def stNoSpace : Nat := 0x0012
def stBadState : Nat := 0x0013
def stNoSession : Nat := 0x0014
def stScrubbing : Nat := 0x0015
def stDraining : Nat := 0x0016
def stRetired : Nat := 0x0017
def stRecovery : Nat := 0x0018
def stIntegrity : Nat := 0x0019
def stHostFault : Nat := 0x001A
def stNoTiles : Nat := 0x001B
def stAborted : Nat := 0x001C

/-! ## Background slots -/

/-- The background slot of a mailbox. -/
def State.bg (s : State) (m k : Nat) : Option BgSlot := (s.mbox m).bg.find k

/-- The lowest free slot, of eight. -/
def State.bgFree (s : State) (m : Nat) : Option Nat :=
  (List.range 8).find? (fun k => ((s.mbox m).bg.find k).isNone)

/-- Slots in which an operation of a given opcode runs on an object. -/
def State.bgOn (s : State) (m op object : Nat) : Option Nat :=
  ((s.mbox m).bg.find? (fun b => b.2.opcode == op && b.2.object == object && b.2.state == 1)).map (·.1)

/-- The OPID of the next background operation (R186: nonzero; its values are free). -/
def opidOf (n : Nat) : Nat := (Config.opidBase + n) % (2 ^ 32 - 1) + 1

/-- A background operation starts in a slot; its STATE change raises MSI-X vector 6. -/
def State.bgStart (s : State) (m k op object : Nat) (args : List Nat) : State :=
  let b := s.mbox m
  let slot : BgSlot := ⟨opidOf b.nextOpid, op, 1, 0, 0, [], object, args, false⟩
  (s.setMbox m { b with bg := b.bg.set k slot, nextOpid := b.nextOpid + 1 }).irq m 6

/-- The slot changes STATE: RESULT and STATUS first, then STATE, then MSI-X vector 6 (R186). The slot of a closed
management connection is freed at its end (R389). -/
def State.bgSet (s : State) (m k state status : Nat) (result : Bytes) : State :=
  match s.bg m k with
  | none => s
  | some b =>
    let c := { b with state := state, status := status, result := result, progress := 100 }
    (s.modMbox m fun x => { x with bg := if b.orphan && state == 2 then x.bg.del k else x.bg.set k c }).irq m 6

/-- The operation ends: the slot is done. -/
def State.bgEnd (s : State) (m k status : Nat) (result : Bytes := []) : State :=
  s.bgSet m k 2 status result

/-- Every running operation of a mailbox ends with ST_ABORTED (R189, R204); what it still waited for is forgotten. -/
def State.bgAbort (s : State) (m : Nat) : State :=
  let s := s.each (((s.mbox m).bg.filter (fun b => b.2.state == 1)).map (·.1)) fun s k => s.bgEnd m k stAborted
  let mine := fun (o : Option (Nat × Nat)) => o.filter fun k => k.1 != m
  { s with
    jobs := s.jobs.map fun j => { j with ckptOp := mine j.ckptOp }
    tiles := s.tiles.map fun k => (k.1, { k.2 with selftestFor := mine k.2.selftestFor })
    sessions := s.sessions.map fun k => (k.1, if k.1 = m then { k.2 with closeSlot := none } else k.2) }

/-! ## Halting -/

/-- NBC_STATUS.OPEN: operations that have started and whose checks are open (R67). -/
def Tile.openOps (x : Tile) : Nat := x.taOpen.length + (match x.taRun with | some _ => 1 | none => 0)

/-- NBC_STATUS.OPEN brought up to date. -/
def State.setOpen (s : State) (t : Nat) : State := s.wr NBC_STATUS_OPEN t (min 15 (s.tile t).openOps)

/-- The transfers of a tile that wait behind input guards go. -/
def State.dropGuarded (s : State) (t : Nat) : State :=
  { s with tiles := s.tiles.map fun k => (k.1, { k.2 with guarded := k.2.guarded.filter fun g =>
      match g.2 with | .xfer _ o => decide (o ≠ t) | _ => true }) }

/-- Deliveries from welt ports that wait behind the input guard. -/
def Tile.heldIngest (x : Tile) : List Msg :=
  x.guarded.filterMap fun g => match g.2 with
    | .deliver m => if 0x400 ≤ m.src ∧ m.src < 0x408 then some m else none
    | _ => none

/-- The smallest number of an operation abandoned, once those of a queue are (R111). -/
def firstNum (o : Option Nat) (q : List UnitOp) : Option Nat :=
  q.foldl (fun o op => some (min (o.getD op.num) op.num)) o

/-- A tile abandons its running and queued operations, transfers and send buffer, with the checks of
what it abandons; checks of completed operations stay open (R216). Link messages that wait behind the input guard
go back to wait on the mesh (R216, R221). -/
def State.abandon (s : State) (t : Nat) : State :=
  let s : State := { s with mesh := (s.tile t).heldIngest ++ s.mesh }
  (((s.dropGuarded t).bookBusy t).modTile t fun x => { x with
    taLost := firstNum x.taLost (x.taRun.toList ++ x.taQ), vecLost := firstNum x.vecLost (x.vecRun.toList ++ x.vecQ)
    taQ := [], vecQ := [], taRun := none, vecRun := none, xfers := [], sendBuf := none,
    wait := none, guarded := [], poolQ := [] }).setOpen t

/-- A checkpoint in progress is abandoned: its slot ends with ST_ABORTED (R217). -/
def State.abortCkpt (s : State) (tag : Nat) : State :=
  match s.jobByTag tag with
  | none => s
  | some j =>
    let s := match j.ckptOp with
      | some (m, k) => s.bgEnd m k stAborted
      | none => s
    let s := s.modJob tag fun j => { j with ckptOn := false, ckptOp := none }
    s.each j.all fun s t => (s.modTile t fun x => { x with haltCkpt := false, ckptDone := false }).wdogGo t

/-- The credit of an outbound message that will never be delivered goes back to its channel (R443). -/
def State.refund (s : State) (m : Msg) : State :=
  let k := 16 * m.src + m.sch
  if 0x400 ≤ m.dst ∧ ((s.tile m.src).txGen.find m.sch).getD 0 = m.gen then
    s.wr TILE_TXC_CREDIT_CREDITS k (min 127 (s.rd TILE_TXC_CREDIT_CREDITS k + 1))
  else s

/-- The outbound messages of a job that have not been released. -/
def State.outbound (s : State) (tag : Nat) : List Msg :=
  ((s.tiles.filterMap (fun x => x.2.sendBuf)) ++ s.mesh
    ++ s.ports.flatMap (fun p => (p.2.holdStore ++ p.2.sentHeld).map (·.msg))
    ++ s.ringHeld.map (·.msg)).filter fun m => m.job == tag && decide (0x400 ≤ m.dst)

/-- Every held result of a job is retracted or discarded, on the ports and at the drover's rings; what
the rings had already released stays (R201, R216, R224). -/
def State.dropHeld (s : State) (tag : Nat) : State :=
  let s := s.each (List.range 8) fun s p => s.retractJob p tag
  { s with ringHeld := s.ringHeld.filter (fun h => h.msg.job != tag) }

/-- Operations of a unit that have completed, before any are abandoned. -/
def Tile.doneOf (x : Tile) (kind : Nat) : Nat :=
  if kind = 0 then (firstNum x.taLost (x.taRun.toList ++ x.taQ)).getD x.taCount
  else (firstNum x.vecLost (x.vecRun.toList ++ x.vecQ)).getD x.vecCount

/-- Of a Dual pair's signatures only those stay whose partner has completed as well: the checks of what is
abandoned are dropped (R208, R216). -/
def State.dropLone (s : State) (j : Job) : State :=
  s.each j.all fun s t =>
    match j.partner t with
    | none => s
    | some u =>
      let y := s.tile u
      s.modTile t fun x => { x with dual := x.dual.filter fun d =>
        (d.kind != 2 && decide (d.num < Tile.doneOf y d.kind))
          || (d.kind == 2 && y.dual.any (fun e => e.kind == 2 && e.num == d.num)) }

/-- Every tile of a job is halted and abandons its work; messages of the job on the mesh go. -/
def State.haltJob (s : State) (tag : Nat) : State :=
  match s.jobByTag tag with
  | none => s
  | some j =>
    let s := (s.dropLone j).each j.all fun s t =>
      ((s.abandon t).modTile t fun x => { x with haltJob := true, restored := false }).wdogHold t
    ({ s with mesh := s.mesh.filter (fun m => m.job != tag) } : State).keepCredits fun c => c.srcJob != tag

/-- No outbound message of a failed job that is not released ever leaves: in send buffers, on the mesh, in the hold stores
(R27, R62). -/
def State.dropOutbound (s : State) (tag : Nat) : State :=
  let mine := fun (m : Msg) => m.job == tag && decide (0x400 ≤ m.dst)
  let s := (s.outbound tag).foldl State.refund s
  let s : State := { s with
    mesh := s.mesh.filter (!mine ·)
    tiles := s.tiles.map fun k => (k.1, { k.2 with sendBuf := k.2.sendBuf.filter (!mine ·) }) }
  s.dropHeld tag

/-- A restart begins: halt, retracts, the checkpoint in progress abandoned, JOB_RESTART recorded
(R205, R216, R217). A restore in progress starts over. -/
def State.beginRestart (s : State) (tag : Nat) (park : Bool) : State :=
  match s.jobByTag tag with
  | none => s
  | some j =>
    let s := (s.outbound tag).foldl State.refund (s.abortCkpt tag)
    let s := (s.haltJob tag).dropHeld tag
    let s := s.modJob tag fun j => { j with
      state := 4, restarts := min 65535 (j.restarts + 1),
      restart := some ⟨s.now, park || j.parkNext, false, false⟩, parkNext := false, digestDue := none }
    s.event evJobRestart stratumUnit (some j)

/-- A job ends without restart: FAILED, its tiles held for reading; checks already open go on closing
and what it holds is released as they pass (R111, R205). -/
def State.failJob (s : State) (tag : Nat) : State :=
  match s.jobByTag tag with
  | none => s
  | some j =>
    let s := s.abortCkpt tag
    let s := s.each j.all fun s t => (s.modTile t fun x =>
      { x with haltJob := true, restored := false }).wdogHold t
    s.modJob tag fun j => { j with state := 7, restart := none }

end Sys2Proof.Machine
end

