-- ==== Sys2Proof/Machine/Charge.lean ====
section
/-! DEFINITION. Charges and unit histories (R231, R232, R424 to R426), the degraded-operation state
(R427), and the drain that a permanent-suspect unit starts (R428). -/
namespace Sys2Proof.Machine

/-! ## Charges -/

/-- The charges of a unit that count toward R232, as their classes. -/
def State.inWindow (s : State) (h : History) : List Nat :=
  (h.charges.filter (fun c =>
    !c.2.2.1 && decide (s.minutes - c.1 < s.conf 0x0400 * 1440))).map (·.2.1)

/-- Whether the charges of a unit reach a threshold of R232. -/
def State.suspects (s : State) (h : History) : Bool :=
  let w := s.inWindow h
  decide (s.conf 0x0401 ≤ w.length) || w.any (fun c => decide (s.conf 0x0402 ≤ w.count c))

/-- A STATE entry: the state and the pen list (R431, R433). -/
def State.journalState (s : State) : State :=
  let pens := s.histories.filter (fun h => h.2.penned)
  s.journal 4 (toLE 1 s.dstate ++ toLE 1 (s.rd LREC_STAT_REPLACE 0) ++ toLE 2 pens.length
    ++ pens.flatMap (fun h => toLE 4 h.1))

/-- DSTATE changes: every status page, MSI-X vector 7, a STATE_CHANGE record (R427), a STATE entry
(R433). -/
def State.setDstate (s : State) (d : Nat) : State :=
  if s.dstate = d then s
  else
    let s := { s with dstate := d }
    let s := s.each (List.range 20) fun s m => (s.wr MBX_SP_INFO_DSTATE m d).irq m 7
    (s.event evStateChange stratumUnit none d).journalState

/-- The tiles that a unit's failure takes with it: its own, its channel's, its regulator's, or those
of its converter's fold (R428). -/
def tilesHolding (u : Nat) : List Nat :=
  let i := u % 2 ^ 24
  match u / 2 ^ 24 with
  | 1 => [i]
  | 2 => [i]
  | 3 => if i < 1024 then [i] else if i < 2048 then [i - 1024]
         else if i < 2112 then tilesOf (i - 2048) else []
  | 5 => tilesOf i
  | _ => []

/-- A unit becomes permanent-suspect: its records and replacement request, and the drain of R428
begins or is joined. A job holding the unit restarts toward PARKED; every other running job owes one
checkpoint. A regulator that a tie serves, or is about to (`tied`), parks no job (R299, R428). -/
def State.suspect (s : State) (u : Nat) (tied : Bool := false) : State :=
  let h := s.hist u
  if h.replace then s
  else
    let s := s.setHist u { h with suspectAt := s.minutes, replace := true }
    let s := s.event evUnitSuspect u none
    let s := s.event evReplaceRequest u none
    let s := s.wr LREC_STAT_REPLACE 0 1
    let hold := if h.viaTie || tied then [] else tilesHolding u
    let first := s.drain.isNone
    let s : State := s.each (s.jobs.map (·.tag)) fun s tag =>
      match s.jobByTag tag with
      | none => s
      | some j =>
        if j.all.any (· ∈ hold) then
          if j.state = 3 then s.beginRestart tag true
          else s.modJob tag fun j => { j with restart := j.restart.map fun r => { r with park := true } }
        else if j.state = 3 ∧ first then s.modJob tag fun j => { j with ckptDue := true, drainOwed := true }
        else s
    let s : State := { s with
      drain := some (s.drain.getD s.now)
      drainUnits := if u ∈ s.drainUnits then s.drainUnits else s.drainUnits ++ [u] }
    if s.dstate = 0 ∨ s.dstate = 2 then s.setDstate 1 else s

/-- A charge is entered in a unit's history (R231, R425, R426), and the suspect test of R232 follows. `seq` is the sequence number
of its event; `atOnce` makes the unit suspect whatever the counts; `tied`: a tie will serve its tile. -/
def State.enterCharge (s : State) (u cls code seq : Nat) (atOnce tied : Bool) : State :=
  let h := s.hist u
  let h := { h with charges := (s.minutes, cls, false, code, seq) :: h.charges,
                    lifeCharged := h.lifeCharged + 1 }
  let s := (s.setHist u h).journal 2
    (toLE 4 u ++ toLE 1 cls ++ toLE 1 0 ++ toLE 2 code ++ toLE 4 s.minutes ++ toLE 4 seq)
  if atOnce || s.suspects h then s.suspect u tied else s

/-- A charge with its record (R231, R425). `atOnce` makes the unit suspect whatever the counts; `tied`: a tie will serve its tile. -/
def State.charge (s : State) (u cls code : Nat) (j : Option Job) (opcode : Nat := 0)
    (detail : Bytes := []) (atOnce : Bool := false) (tied : Bool := false) : State :=
  let seq := s.evSeq
  (s.event code u j opcode detail cls).enterCharge u cls code seq atOnce tied

/-- The history record of a unit (R426). -/
def State.historyRecord (s : State) (u : Nat) : Bytes :=
  let h := s.hist u
  let w := s.inWindow h
  toLE 4 u ++ toLE 1 (if h.penned then 1 else if h.viaTie && h.replace then 2 else 0)
    ++ toLE 1 (b2n h.replace) ++ toLE 2 w.length ++ toLE 4 h.suspectAt ++ zeros 4
    ++ toLE 8 h.lifeCharged ++ toLE 8 h.lifeUncharged
    ++ ((List.range 15).flatMap fun c => toLE 1 (min 255 (w.count (c + 1)))) ++ zeros 17
    ++ sub ((h.charges.take 16).flatMap fun c =>
        toLE 4 c.1 ++ toLE 1 c.2.1 ++ toLE 1 (b2n c.2.2.1) ++ toLE 2 c.2.2.2.1
          ++ toLE 4 c.2.2.2.2) 0 192

end Sys2Proof.Machine
end

