-- ==== Sys2Proof/Machine/Column.lean ====
section
/-! DEFINITION. A tile's column: the line on the array (R240, R241), classification (R242), encryption and
key slot selection (R255 to R258), writes with their undo entries (R220, R243), the page descriptor and
pool frames (R150, R152), and the handling of poisoned lines (R245, R246, R249). -/
namespace Sys2Proof.Machine

/-- Lines of a column (R237). -/
def colLines : Nat := 2 ^ 22

/-- Where a column byte address lies in the memory strata. -/
structure Place where
  layer : Nat
  bank : Nat
  row : Nat
  /-- Line within the row. -/
  line : Nat
  byte : Nat
  deriving DecidableEq, Repr

/-- The decoding of a column byte address (R237). -/
def placeOf (a : Nat) : Place := ⟨bf a 6 2, bf a 8 4, bf a 17 11, bf a 12 5, bf a 0 6⟩

/-- The sideband of the unwritten mark (R240). -/
def markUnwritten : Nat := 0x05A5A

/-- An array line; an unlisted one carries the unwritten mark over zero data. -/
def Tile.line (x : Tile) (l : Nat) : Line := (x.col.find l).getD ⟨zeros 64, markUnwritten⟩

/-- The line check (R241): ciphertext, then the line index in four bytes. -/
def lineCrc (ct : Bytes) (l : Nat) : Nat := crc16 (ct ++ toLE 4 l)

/-- The classes of R242. -/
inductive LineClass where
  | unwritten | good | poisoned | failed
  deriving DecidableEq, Repr

/-- A line as it reaches the controller is classified by its sideband and CRC (R242). -/
def classify (n : Line) (l : Nat) : LineClass :=
  if n.sb % 2 ^ 20 = markUnwritten then .unwritten
  else if n.sb % 2 ^ 16 ≠ lineCrc n.ct l ∨ bf n.sb 16 2 ≠ 3 then .failed
  else if bf n.sb 18 2 = 0 then .good
  else if bf n.sb 18 2 = 3 then .poisoned
  else .failed

/-- A line read with bits flipped on its way: 64 data bytes and 4 sideband bytes. -/
def Line.flipped (n : Line) (flip : Bytes) : Line :=
  ⟨xorBytes n.ct (sub flip 0 64), n.sb ^^^ (fld flip 64 4)⟩

/-- The tweak of a line (R255). -/
def lineTweak (t l : Nat) : Nat := l * 64 + t * 2 ^ 32

/-- A good line as a whole-line write leaves it (R243). -/
def goodLine (key t l : Nat) (data : Bytes) : Line :=
  let ct := xtsEncrypt key (lineTweak t l) data
  ⟨ct, lineCrc ct l + 3 * 2 ^ 16⟩

/-- A line as a poisoning write leaves it (R243). -/
def poisonLine (l : Nat) : Line := ⟨zeros 64, lineCrc (zeros 64) l + 15 * 2 ^ 16⟩

/-! ## Page descriptors and the pool (R150, R152) -/

/-- A page descriptor. -/
structure PageDesc where
  addr : Nat
  fmt : Nat
  count : Nat
  kslot : Nat
  reclaim : Bool
  ckheld : Bool
  refcnt : Nat
  frame : Nat
  zepoch : Nat
  deriving DecidableEq, Repr

def PageDesc.ofBytes (b : Bytes) : PageDesc :=
  ⟨bf (fld b 0 4) 6 22 * 64, fld b 4 1 % 4, fld b 5 1 % 32, fld b 6 1 % 32, bit (fld b 7 1) 0,
   bit (fld b 7 1) 1, fld b 8 2, fld b 10 2, fld b 12 4⟩

def PageDesc.bytes (d : PageDesc) : Bytes :=
  toLE 4 d.addr ++ toLE 1 d.fmt ++ toLE 1 d.count ++ toLE 1 d.kslot
    ++ toLE 1 (b2n d.reclaim + 2 * b2n d.ckheld) ++ toLE 2 d.refcnt ++ toLE 2 d.frame
    ++ toLE 4 d.zepoch

/-- Frames in a tile's pool; 0 means no pool. -/
def State.nframes (s : State) (t : Nat) : Nat := s.rd TILE_PG_FRAMES_NFRAMES t

/-- D of a tile's pool (R150). -/
def State.poolD (s : State) (t : Nat) : Nat := 32 * 2 ^ s.rd TILE_PG_GEOM_DCODE t

/-- Bytes of a page of a format: 34D for KV8, 18D for KV4 (R150). -/
def pageBytes (fmt d : Nat) : Nat := if fmt = 2 then 18 * d else 34 * d

/-- Bytes of a frame. -/
def State.frameBytes (s : State) (t : Nat) : Nat :=
  if s.rdb TILE_PG_GEOM_FFMT t then 18 * s.poolD t else 34 * s.poolD t

/-- Column offset of a frame. -/
def State.frameAddr (s : State) (t i : Nat) : Nat :=
  s.rd TILE_PG_BASE_FBASE t * 64 + i * s.frameBytes t

/-- Scratchpad offset of the directory. -/
def State.dirAddr (s : State) (t : Nat) : Nat := s.rd TILE_PG_DIR_DIR t * 16

/-- A directory entry. -/
def State.dirEntry (s : State) (t i : Nat) : PageDesc :=
  PageDesc.ofBytes ((s.tile t).rdSpad (s.dirAddr t + 16 * i) 16)

def State.setDir (s : State) (t i : Nat) (d : PageDesc) : State :=
  s.modTile t fun x => x.wrSpad (s.dirAddr t + 16 * i) d.bytes

/-- The pool frame in which a line lies. -/
def State.frameOf (s : State) (t l : Nat) : Option Nat :=
  let base := s.rd TILE_PG_BASE_FBASE t * 64
  let i := (l * 64 - base) / s.frameBytes t
  if s.nframes t ≠ 0 ∧ base ≤ l * 64 ∧ i < s.nframes t then some i else none

/-! ## Key slots -/

/-- The slot that an access to a line selects, but for the page list's own choice (R257). -/
def State.slotFor (s : State) (t l : Nat) : Nat :=
  let plain :=
    if s.rdb VCH_KEY_ROT t ∧ s.rd VCH_ROT_MARK_MARK t ≤ l then s.rd VCH_KEY_PREV t
    else s.rd VCH_KEY_CUR t
  match s.frameOf t l with
  | none => plain
  | some i =>
    let d := s.dirEntry t i
    if d.fmt = 0 then s.rd VCH_KEY_CUR t else d.kslot

/-- The key in a slot; an empty slot has none (R256). -/
def State.key (s : State) (slot : Nat) : Option Nat := s.keys.find slot

/-! ## Checkpoint slots (R218) -/

def ckptBase (k : Nat) : Nat := 0x0F000000 + k * 0x00800000

/-- An unlisted line of a slot that holds a checkpoint: of the scratchpad image its bytes; of the state record, or
of the used part of the log, bytes in a layout that the spec does not give. -/
def State.slotLine (s : State) (t l : Nat) : Option Bytes :=
  let a := l * 64
  if a < 0x0F000000 then none
  else
    let k := (a - 0x0F000000) / 0x00800000
    let o := a - ckptBase k
    match (s.tile t).ckpts.find k with
    | none => none
    | some c =>
      if 0x4000 ≤ o ∧ o < 0x404000 then some (Memory.getN c.spad (o - 0x4000) 64)
      else if o < 0x4000 ∨ (k = (s.tile t).curSlot ∧ o < 0x404000 + (s.tile t).logBytes) then
        some (toLE 64 (Config.slotLine t l c.seq).toNat)
      else none

/-- A line as it stands on the array, a checkpoint slot's included. -/
def State.arrayLine (s : State) (t l : Nat) : Line :=
  match (s.tile t).col.find l, s.slotLine t l with
  | none, some b => match s.key (s.slotFor t l) with
    | some k => goodLine k t l b
    | none => (s.tile t).line l
  | _, _ => (s.tile t).line l

/-! ## Reading -/

/-- What a read of a line delivers: the plaintext, whether it carries poison, and the class. -/
structure Delivery where
  data : Bytes
  poison : Bool
  cls : LineClass
  empty : Bool
  deriving DecidableEq, Repr

/-- The delivery of a line in a class under a slot (R242, R258). -/
def State.deliver (s : State) (t l slot : Nat) (n : Line) : Delivery :=
  match classify n l with
  | .unwritten =>
    match (s.tile t).col.find l, s.slotLine t l with
    | none, some b => ⟨b, false, .good, false⟩
    | _, _ => ⟨zeros 64, false, .unwritten, false⟩
  | .poisoned => ⟨zeros 64, true, .poisoned, false⟩
  | .failed => ⟨zeros 64, true, .failed, false⟩
  | .good =>
    match s.key slot with
    | none => ⟨zeros 64, true, .good, true⟩
    | some k => ⟨xtsDecrypt k (lineTweak t l) n.ct, false, .good, false⟩

/-- VCH_ERR records a line and an outcome. -/
def State.vchErr (s : State) (t l outcome : Nat) : State :=
  (s.wr VCH_ERR_LINE t l).wr VCH_ERR_OUTCOME t outcome

/-- Failed checks counted in VCH_CRCERR and for life; the times of the latest sixteen stay (R249, R265, R418). -/
def State.crcErr (s : State) (t k : Nat) : State :=
  ((s.cnt VCH_CRCERR_COUNT t k).lifeInc (chanUnit t) 0 k).modTile t fun x =>
    { x with failTimes := (List.replicate k s.now ++ x.failTimes).take 16 }

/-- A poisoned line has been read (R249). -/
def State.poisonRead (s : State) (t l : Nat) : State :=
  ((s.vchErr t l 4).lifeInc (chanUnit t) 4 1).event evPoisonRead (chanUnit t) (s.jobOf t)

/-- The corrections of the 1 ms window that ends, one record for each channel that had any (R249). -/
def State.corrRecords (s : State) : State :=
  (s.tiles.filter fun k => decide (k.2.corrRun ≠ 0)).foldl (fun s k =>
    (s.event evLineCorrected (chanUnit k.1) (s.jobOf k.1) (reps := k.2.corrRun)).modTile k.1 fun x => { x with corrRun := 0 }) s

/-- The array line replaced. -/
def State.putLine (s : State) (t l : Nat) (n : Line) : State :=
  s.modTile t fun x => { x with col := x.col.set l n }

/-- A line neither corrected nor recomputed is poisoned, and the channel charged once (R246). -/
def State.poison (s : State) (t l : Nat) : State :=
  let s := s.putLine t l (poisonLine l)
  let s := ((s.cnt VCH_POISONED_COUNT t 1).vchErr t l 3).lifeInc (chanUnit t) 3 1
  s.charge (chanUnit t) clsChannel evLinePoisoned (s.jobOf t)

/-- The last section of the job's image with RECOMP set that covers a line of a tile, as the host
address of the line's bytes (R192, R245). -/
def State.recompSource (s : State) (t l : Nat) : Option (Job × Nat) :=
  match s.jobOf t with
  | none => none
  | some j =>
    let idx := (j.tiles.idxOf? t).getD ((j.twins.idxOf? t).getD 0xFFFF)
    match (j.sections.filter (fun x => x.type == 2 && x.recomp
        && (x.tile == 0xFFFF || x.tile == idx)
        && decide (x.dest ≤ l * 64) && decide (l * 64 < x.dest + x.len))).getLast? with
    | none => none
    | some x => some (j, j.imgAddr + x.src + (l * 64 - x.dest))

/-! ## Writing -/

/-- A line of the array that fails its check at every refetch: reload from the image if recomputable, else poison (R244
to R246). The reload leaves no undo entry. -/
def State.settleRaw (s : State) (t l : Nat) : State :=
  match s.recompSource t l, s.key (s.slotFor t l) with
  | some (j, a), k =>
    if s.masters j.fn then
      let s := match k with
        | some key => s.putLine t l (goodLine key t l (s.rdHost a 64))
        | none => s
      let s := ((s.cnt VCH_RECOMP_COUNT t 1).vchErr t l 2).lifeInc (chanUnit t) 2 1
      s.event evLineRecomputed (chanUnit t) (some j)
    else s.poison t l
  | none, _ => s.poison t l

/-- A read of one line by the stratum itself, with what R242 and R249 make of its class; `settle` handles a line whose
refetches fail. -/
def State.readWith (settle : State → State) (s : State) (t l slot : Nat) : State × Delivery :=
  let d := s.deliver t l slot ((s.tile t).line l)
  match d.cls with
  | .failed =>
    let s := settle ((s.crcErr t 3).vchErr t l 0)
    (s, s.deliver t l slot ((s.tile t).line l))
  | .poisoned => (s.poisonRead t l, d)
  | _ => (if d.empty then s.vchErr t l 5 else s, d)

/-- A line as an undo entry takes it up, read through the channel (R220, R249). -/
def State.undoLine (s : State) (t l : Nat) : State × Tbl (Option Bytes) :=
  let r := s.readWith (fun s => s.settleRaw t l) t l (s.slotFor t l)
  if r.2.cls = .unwritten then (s, []) else (r.1, [(l, if r.2.poison then none else some r.2.data)])

/-- The lines of a 4 KiB block as an undo entry holds them. One that is held for check handling is read once that ends
(R238). -/
def State.blockLines (s : State) (t blk : Nat) : State × Tbl (Option Bytes) :=
  (List.range 64).foldl (fun a i =>
    let l := blk * 64 + i
    match (a.1.tile t).heldLines.find l with
    | some h => (a.1.modTile t fun x => { x with heldLines := x.heldLines.set l { h with undo := true } }, a.2)
    | none => let r := a.1.undoLine t l; (r.1, a.2 ++ r.2)) (s, [])

/-- Bytes of the log of a slot (R218). -/
def logRoom : Nat := 0x400000 - 0x4000

/-- The first write since the checkpoint to a block outside the frames and the slots leaves an undo
entry; a full log asks for a checkpoint (R219, R220). -/
def State.undoFor (s : State) (t l : Nat) : State :=
  let x := s.tile t
  let blk := l / 64
  if x.ckpts.isEmpty ∨ (s.frameOf t l).isSome ∨ 0x0F000000 ≤ l * 64 ∨ x.undo.any (fun u => u.1 == blk) then s
  else
    let k := s.blockLines t blk
    let s := k.1.modTile t fun x => { x with undo := (blk, k.2) :: x.undo, logBytes := x.logBytes + 64 + 4096 }
    if logRoom < (s.tile t).logBytes + 64 + 4096 then
      s.modJob (s.rd TILE_JOB_JOB t) fun j => { j with ckptDue := true }
    else s

/-- The session whose job writes a column keeps the tile on its map (R261). -/
def State.markWritten (s : State) (t : Nat) : State :=
  match s.jobOf t with
  | none => s
  | some j => s.modSess j.fn fun x =>
      if t ∈ x.written then x else { x with written := x.written ++ [t] }

/-- A whole-line write under a key slot; an empty slot writes nothing (R243, R258). -/
def State.writeLine (s : State) (t l slot : Nat) (data : Bytes) : State :=
  match s.key slot with
  | none => s
  | some k =>
    let s := (s.undoFor t l).markWritten t
    s.putLine t l (goodLine k t l data)

/-- A line moved in with poison is written by a poisoning write (R243). -/
def State.writePoison (s : State) (t l : Nat) : State :=
  ((s.undoFor t l).markWritten t).putLine t l (poisonLine l)

/-- A line can be reloaded: its section is recomputable and its function may read host memory (R245). -/
def State.canReload (s : State) (t l : Nat) : Bool := match s.recompSource t l with
  | some (j, _) => s.masters j.fn
  | none => false

/-- Handling of a line of the array whose check fails at every refetch (R244 to R246). The reload of a recomputable line is
a write like any other: an undo entry that it makes has read, and so handled, a line that fails on the array (R220). -/
def State.settleFailed (s : State) (t l : Nat) : State :=
  if !s.canReload t l then s.settleRaw t l
  else
    let failed := fun (s : State) => decide (classify ((s.tile t).line l) l = .failed)
    let r := (s.undoFor t l).markWritten t
    if failed s && !failed r then r else r.settleRaw t l

/-- A read of one line by the stratum itself (R242, R249). -/
def State.readLine (s : State) (t l slot : Nat) : State × Delivery := s.readWith (fun s => s.settleFailed t l) t l slot

/-- `n` lines from a column, with whether each carries poison. -/
def State.readLines (s : State) (t : Nat) : Nat → Nat → State × List Delivery
  | _, 0 => (s, [])
  | l, n + 1 =>
    let r := s.readLine t l (s.slotFor t l)
    let r2 := r.1.readLines t (l + 1) n
    (r2.1, r.2 :: r2.2)

/-- A partial write: read, merge, write; a poisoned line stays poisoned (R243). -/
def State.mergeLine (s : State) (t l slot off : Nat) (data : Bytes) : State :=
  let r := s.readLine t l slot
  if r.2.poison then r.1
  else r.1.writeLine t l slot
    (r.2.data.take off ++ data ++ r.2.data.drop (off + data.length))

/-- Bytes merged into a column from any address, line by line; `n` bounds the lines. -/
def State.mergeCol (s : State) (t slot : Nat) : Nat → Nat → Bytes → State
  | 0, _, _ => s
  | n + 1, a, b =>
    if b.isEmpty then s
    else
      let k := 64 - a % 64
      State.mergeCol (s.mergeLine t (a / 64) slot (a % 64) (b.take k)) t slot n (a + k) (b.drop k)

/-- A range of lines holds a whole checkpoint slot. -/
def coversSlot (k first count : Nat) : Bool :=
  decide (first ≤ ckptBase k / 64 ∧ ckptBase k / 64 + 0x20000 ≤ first + count)

/-- The lines of a range that stand for the checkpoint in their slot, unlisted in the column. -/
def State.slotLines (s : State) (t first count : Nat) : List Nat :=
  let lo := max first (ckptBase 0 / 64)
  ((List.range (first + count - lo)).map (lo + ·)).filter fun l =>
    ((s.tile t).col.find l).isNone && (s.slotLine t l).isSome

/-- Lines invalidated: the mark goes into their sideband, the data stays (R250). A line held for check handling is marked
after its handling ends (R251). A slot of which every line is marked holds no checkpoint any more. -/
def State.invalidate (s : State) (t first count : Nat) : State :=
  let hit := fun (l : Nat) => decide (first ≤ l ∧ l < first + count)
  let s := s.modTile t fun x => { x with ckpts := x.ckpts.drop (fun k => coversSlot k first count) }
  let free := s.slotLines t first count
  let blank : Line := ⟨zeros 64, markUnwritten⟩
  let kept := fun (l : Nat) => (s.slotLine t l).isSome
  s.modTile t fun x => { x with
    col := free.foldl (fun c l => c.set l blank) (List.filter (fun e => decide (e.2 ≠ blank) || kept e.1)
      (x.col.map fun e => if hit e.1 && !(x.heldLines.find e.1).isSome then (e.1, ⟨e.2.ct, markUnwritten⟩) else e))
    heldLines := x.heldLines.map fun h => if hit h.1 then (h.1, { h.2 with mark := true }) else h }

/-- A whole column invalidated, with the checkpoint slots it held. -/
def State.invalidateAll (s : State) (t : Nat) : State :=
  (s.invalidate t 0 colLines).modTile t fun x => { x with ckpts := [], undo := [], ingest := [], logBytes := 0 }

/-- What a column held is lost with its supply, and never read (R239). -/
def State.loseColumn (s : State) (t : Nat) : State :=
  s.modTile t fun x => { x with col := [], ckpts := [], undo := [], ingest := [], logBytes := 0, heldLines := [] }

end Sys2Proof.Machine
end

