-- ==== Sys2Proof/Machine/Fault.lean ====
section
/-! DEFINITION. What stops a tile's core: faults and exits (R71, R72, R110, R111), and the detections that
a job's restart handles (R205). -/
namespace Sys2Proof.Machine

/-- The core stops: TILE_STATE, TILE_FAULT, TILE_FAULT_PC and TILE_FAULT_VAL; the tile abandons its queued
operations, its transfers and its send buffer, and what runs runs on (R71, R111). `at'` is the address of the
faulting instruction where that is not the core's pc. -/
def State.stopCore (s : State) (t state cause val exit : Nat) (at' : Option Nat := none) : State :=
  let pc := at'.getD (s.tile t).pc.toNat
  let s := ((s.wr TILE_STATE_STATE t state).wr TILE_FAULT_CAUSE t cause).wr TILE_FAULT_VALID t 1
  let s := ((s.wr TILE_FAULT_EXIT t exit).wr TILE_FAULT_PC_PC t pc).wr TILE_FAULT_VAL_VAL t val
  let s := (s.dropGuarded t).wdogHold t
  s.modTile t fun x => { x with
    taLost := firstNum x.taLost x.taQ, vecLost := firstNum x.vecLost x.vecQ
    taQ := [], vecQ := [], xfers := [], sendBuf := none, wait := none
    guarded := x.guarded.filter fun g => match g.2 with | .store => false | _ => true }

/-- The job's first fault or exit, kept for JOB_STATUS (R111). -/
def State.firstFault (s : State) (tag t cause exit : Nat) : State :=
  s.modJob tag fun j => { j with first := match j.first with
    | some f => some f
    | none => some (t, cause, exit) }

/-- A detection waits for JOB_FAULT_DETECT (R205, R216). -/
def State.detect (s : State) (t trigger : Nat) (op : Option UnitOp) (cause : Nat) : State :=
  if (s.jobOf t).isSome then
    s.modTile t fun x => { x with detections := x.detections ++ [⟨trigger, op, cause, s.now, false⟩] }
  else s

/-- Causes of class Program (R110). -/
def programCause (c : Nat) : Bool := [0x01, 0x02, 0x03, 0x05, 0x06, 0x07, 0x18].contains c

/-- The line on which poison was consumed, by the address in TILE_FAULT_VAL. -/
def poisonLineOf (val : Nat) : Nat := val / 64

/-- (A fault on a RUNNING tile without a job is recorded and nothing more: DESIGN CHOICE, log 115.)
A fault of R110 at the instruction at pc, or at the one that `at'` names, with what the drover makes of its class (R111, R226, R231,
R234). -/
def State.tileFault (s : State) (t cause val : Nat) (at' : Option Nat := none) : State :=
  let s := (s.stopCore t 4 cause val 0 at').traceRec t 2 cause
  let u := tileUnit t
  match s.jobOf t with
  | none => s.event evTileFault u none cause
  | some j =>
    let s := s.firstFault j.tag t cause 0
    if programCause cause then (s.event evTileFault u (some j) cause).failJob j.tag
    else if cause = 0x19 then
      let s := s.event evTileFault u (some j) cause
      if (t, poisonLineOf val) ∈ j.poisonHit then
        (s.event evPoisonRepeat u (some j) cause).failJob j.tag
      else
        (s.modJob j.tag fun j => { j with poisonHit := (t, poisonLineOf val) :: j.poisonHit }).detect
          t 3 none cause
    else if cause = 0x1A then
      let s := ((s.lifeInc u 67 1).event evTileFault u (some j) cause).modTile t fun x =>
        { x with selftest := true, hangTest := true }
      if j.wdogHit then s.failJob j.tag
      else (s.modJob j.tag fun j => { j with wdogHit := true }).detect t 3 none cause
    else
      (s.detect t 3 none cause).charge u (if cause = 0x1B then clsMesh else clsSpad) evTileFault (some j) cause

/-- ECALL (R72, R111): FINISHED, or EXITED_ERROR, which ends the job without restart or charge. -/
def State.tileExit (s : State) (t code : Nat) : State :=
  let s := s.traceRec t 3 code
  if code = 0 then s.stopCore t 2 0x0B 0 0
  else
    let s := s.stopCore t 3 0x0B 0 code
    match s.jobOf t with
    | none => s
    | some j =>
      ((s.firstFault j.tag t 0x0B code).event evTileFault (tileUnit t) (some j) 0x0B).failJob j.tag

end Sys2Proof.Machine
end

