-- ==== Sys2Proof/Machine/Float.lean ====
section
/-! DEFINITION. Exact values and FP32 arithmetic (R30, R42, R43, R143): every operation is computed
exactly on rationals and rounded once. -/
namespace Sys2Proof.Machine

/-- A decoded value: NaN, an infinity, or a finite rational. `neg` is the sign bit, which is all
that tells −0 from +0. -/
inductive Val where
  | nan
  | inf (neg : Bool)
  | fin (neg : Bool) (q : Rat)
  deriving DecidableEq, Repr

/-- 2 to an integer power. -/
def pow2 (e : Int) : Rat :=
  if 0 ≤ e then ((2 ^ e.toNat : Nat) : Rat) else 1 / ((2 ^ (-e).toNat : Nat) : Rat)

/-- The magnitude of a rational. -/
def rabs (q : Rat) : Rat := if q < 0 then -q else q

/-- floor(log2 q) of a positive rational. -/
def flog2 (q : Rat) : Int :=
  let k : Int := (q.num.toNat.log2 : Int) - (q.den.log2 : Int)
  if q < pow2 k then k - 1 else k

/-- The greatest integer not above a rational. -/
def rfloor (q : Rat) : Int := q.num / (q.den : Int)

/-- Nearest integer, ties to even (R45 for integer targets). -/
def rneInt (q : Rat) : Int :=
  let f := rfloor q
  let r := q - (f : Rat)
  if r < 1 / 2 then f else if 1 / 2 < r then f + 1 else if f % 2 = 0 then f else f + 1

/-- The least integer not below a rational. -/
def rceil (q : Rat) : Int := - rfloor (-q)

/-- A signed value that carries no sign of its own at zero: +0. -/
def Val.ofRat (q : Rat) : Val := .fin (decide (q < 0)) q

/-- A finite value made from a magnitude and a sign. -/
def Val.mk' (neg : Bool) (mag : Rat) : Val := .fin neg (if neg then -mag else mag)

def Val.isNeg : Val → Bool
  | .nan => false
  | .inf n => n
  | .fin n _ => n

def Val.isFinite : Val → Bool
  | .fin _ _ => true
  | _ => false

def Val.rat : Val → Rat
  | .fin _ q => q
  | _ => 0

/-- The value +0. -/
def Val.zero : Val := .fin false 0

/-- The spacing of a binary floating grid at a positive magnitude, `mb` mantissa bits, smallest
normal exponent `emin`. -/
def gridStep (mb : Nat) (emin : Int) (mag : Rat) : Rat := pow2 (max (flog2 mag) emin - (mb : Int))

/-- Rounding of a magnitude to a floating grid without an upper end, ties to even. -/
def rneGrid (mb : Nat) (emin : Int) (mag : Rat) : Rat :=
  if mag = 0 then 0 else
    let s := gridStep mb emin mag
    (rneInt (mag / s) : Rat) * s

/-- Rounding of a signed value toward +infinity on a floating grid without an upper end. -/
def upGrid (mb : Nat) (emin : Int) (q : Rat) : Rat :=
  if q = 0 then 0 else
    let s := gridStep mb emin (rabs q)
    (rceil (q / s) : Rat) * s

/-- (2 − 2^-23) × 2^127, the largest finite FP32 value (R30). -/
def fp32Max : Rat := pow2 128 - pow2 104

/-- rne32 of a nonzero or zero exact value with a sign (R39, R42). -/
def rne32s (neg : Bool) (mag : Rat) : Val :=
  let m := rneGrid 23 (-126) mag
  if fp32Max < m then .inf neg else Val.mk' neg m

/-- rne32 of an exact rational; an exact zero is +0 (R40). -/
def rne32 (q : Rat) : Val := rne32s (decide (q < 0)) (rabs q)

/-- rne32 of a decoded value. -/
def rne32v : Val → Val
  | .fin n q => rne32s n (rabs q)
  | v => v

/-- ru32: an exact value rounded to FP32 toward +infinity (R58). -/
def ru32 (q : Rat) : Val :=
  let m := upGrid 23 (-126) q
  if fp32Max < m then .inf false
  else if m < -fp32Max then Val.ofRat (-fp32Max) else .fin (decide (q < 0)) m

/-- FP32 addition (R42). -/
def fadd : Val → Val → Val
  | .nan, _ => .nan
  | _, .nan => .nan
  | .inf a, .inf b => if a = b then .inf a else .nan
  | .inf a, _ => .inf a
  | _, .inf b => .inf b
  | .fin a p, .fin b q => if p + q = 0 then .fin (a && b && decide (p = 0)) 0 else rne32 (p + q)

def Val.neg : Val → Val
  | .nan => .nan
  | .inf n => .inf (!n)
  | .fin n q => .fin (!n) (-q)

/-- FP32 subtraction. -/
def fsub (a b : Val) : Val := fadd a b.neg

/-- The exact product of two decoded values. -/
def vmul : Val → Val → Val
  | .nan, _ => .nan
  | _, .nan => .nan
  | .inf a, .inf b => .inf (a != b)
  | .inf a, .fin b q => if q = 0 then .nan else .inf (a != b)
  | .fin a p, .inf b => if p = 0 then .nan else .inf (a != b)
  | .fin a p, .fin b q => .fin (a != b) (p * q)

/-- FP32 multiplication. -/
def fmul (a b : Val) : Val := rne32v (vmul a b)

/-- Fused multiply-add, one rounding (R43). -/
def ffma (a b c : Val) : Val :=
  match vmul a b, c with
  | .nan, _ => .nan
  | _, .nan => .nan
  | .inf x, .inf y => if x = y then .inf x else .nan
  | .inf x, _ => .inf x
  | _, .inf y => .inf y
  | .fin x p, .fin y q =>
    if p + q = 0 then .fin (x && y && decide (p = 0)) 0 else rne32 (p + q)

/-- FP32 division. -/
def fdiv : Val → Val → Val
  | .nan, _ => .nan
  | _, .nan => .nan
  | .inf _, .inf _ => .nan
  | .inf a, .fin b _ => .inf (a != b)
  | .fin a _, .inf b => .fin (a != b) 0
  | .fin a p, .fin b q =>
    if q = 0 then (if p = 0 then .nan else .inf (a != b))
    else rne32s (a != b) (rabs (p / q))

/-- The order that R43 gives minimum and maximum: −0 below +0. -/
def vlt : Val → Val → Bool
  | .inf a, .inf b => a && !b
  | .inf a, .fin _ _ => a
  | .fin _ _, .inf b => !b
  | .fin a p, .fin b q => decide (p < q) || (decide (p = q) && a && !b)
  | _, _ => false

/-- R43 minimum. -/
def fmin (a b : Val) : Val :=
  match a, b with
  | .nan, _ => .nan
  | _, .nan => .nan
  | _, _ => if vlt b a then b else a

/-- R43 maximum. -/
def fmax (a b : Val) : Val :=
  match a, b with
  | .nan, _ => .nan
  | _, .nan => .nan
  | _, _ => if vlt a b then b else a

/-- The integer square root, bit by bit from the top. -/
def isqrtBits : Nat → Nat → Nat → Nat
  | 0, _, r => r
  | k + 1, n, r =>
    let r' := r + 2 ^ k
    if r' * r' ≤ n then isqrtBits k n r' else isqrtBits k n r

def isqrt (n : Nat) : Nat := isqrtBits (n.log2 / 2 + 1) n 0

/-- The positive square root of a rational, exact or with its last bit set to say that digits
follow; 60 bits or more, so one later rounding is correct. -/
def sqrtSticky (q : Rat) : Rat :=
  let sh : Nat := 200 + 2 * (q.den.log2 + 1)
  let n : Nat := (rfloor (q * pow2 sh)).toNat
  let s := isqrt n
  let exact := decide ((s * s : Nat) = n) && decide (pow2 sh * q = (n : Rat))
  if exact then (s : Rat) * pow2 (-((sh / 2 : Nat) : Int))
  else ((2 * s + 1 : Nat) : Rat) * pow2 (-((sh / 2 : Nat) : Int) - 1)

/-- sqrt32 (R143): the IEEE 754 square root. -/
def fsqrt : Val → Val
  | .nan => .nan
  | .inf n => if n then .nan else .inf false
  | .fin n q => if q = 0 then .fin n 0 else if q < 0 then .nan else rne32 (sqrtSticky q)

/-- rsqrt32 (R143). -/
def frsqrt : Val → Val
  | .nan => .nan
  | .inf n => if n then .nan else .fin false 0
  | .fin n q => if q = 0 then .inf n else if q < 0 then .nan else rne32 (sqrtSticky (1 / q))

/-- recip32 (R143): the IEEE 754 division of 1. -/
def frecip (a : Val) : Val := fdiv (.fin false 1) a

/-- The Taylor sum of e^r in fixed point with `p` fraction bits, from term `i` on. -/
def expTaylor (p : Nat) (r : Int) : Nat → Nat → Int → Int
  | 0, _, t => t
  | n + 1, i, t => t + expTaylor p r n (i + 1) (t * r / ((2 ^ p * (i + 1) : Nat) : Int))

/-- Repeated squaring in fixed point. -/
def sqTimes (p : Nat) : Nat → Int → Int
  | 0, v => v
  | n + 1, v => sqTimes p n (v * v / ((2 ^ p : Nat) : Int))

/-- e^q for |q| below 256, as a value within 2^-100 of its size whose last bit is set: for q ≠ 0 the
exact value is irrational, so one later rounding is that of the exact value unless a rounding
boundary lies within 2^-100. -/
def expSticky (q : Rat) : Rat :=
  let p : Nat := 420
  let r : Int := rfloor (q * pow2 p) / 1024
  let v := sqTimes p 10 (expTaylor p r 60 0 ((2 ^ p : Nat) : Int))
  ((2 * v + 1 : Int) : Rat) * pow2 (-((p + 1 : Nat) : Int))

/-- exp32(x) = rne32(e^x), exp32(−infinity) = +0 (R136, R143). -/
def fexp : Val → Val
  | .nan => .nan
  | .inf n => if n then .fin false 0 else .inf false
  | .fin _ q =>
    if q = 0 then .fin false 1
    else if 128 < q then .inf false
    else if q < -128 then .fin false 0
    else rne32 (expSticky q)

/-- The FP32 bits of a value that lies on the FP32 grid (R30); every NaN is canonical (R42). -/
def fp32Bits : Val → Nat
  | .nan => 0x7FC00000
  | .inf n => (if n then 0x80000000 else 0) + 0x7F800000
  | .fin n q =>
    let s := if n then 0x80000000 else 0
    let m := rabs q
    if m = 0 then s
    else
      let k := flog2 m
      if k < -126 then s + (rfloor (m * pow2 149)).toNat
      else s + (k + 127).toNat * 2 ^ 23 + (rfloor (m * pow2 (23 - k))).toNat - 2 ^ 23

/-- The value of a binary floating code with `eb` exponent bits, `mb` mantissa bits and a bias, when
no code is special (R30). -/
def floatVal (eb mb : Nat) (bias : Int) (c : Nat) : Val :=
  let m := bf c 0 mb
  let e := bf c mb eb
  let neg := bit c (eb + mb)
  if e = 0 then Val.mk' neg ((m : Rat) * pow2 (1 - bias - (mb : Int)))
  else Val.mk' neg (((2 ^ mb + m : Nat) : Rat) * pow2 ((e : Int) - bias - (mb : Int)))

/-- An FP32 code as a value. -/
def fp32Val (c : Nat) : Val :=
  if bf c 23 8 = 255 then (if bf c 0 23 = 0 then .inf (bit c 31) else .nan) else floatVal 8 23 127 c

/-- A BF16 code as a value. -/
def bf16Val (c : Nat) : Val := fp32Val (c * 65536)

/-- An FP16 code (IEEE 754 binary16, the KV8 scales of R127). -/
def fp16Val (c : Nat) : Val :=
  if bf c 10 5 = 31 then (if bf c 0 10 = 0 then .inf (bit c 15) else .nan) else floatVal 5 10 15 c

end Sys2Proof.Machine
end

