-- ==== Sys2Proof/Machine/Formats.lean ====
section
/-! DEFINITION. Element formats and scaled blocks (R30 to R37), packing (R31), scale records (R117) and
conversions with their rounding and random draws (R44 to R54, R129). -/
namespace Sys2Proof.Machine

/-! Bits of TA_AFLAGS (R56). -/
def afIntOvf : Nat := 1
def afNonfinite : Nat := 2
def afScaleSign : Nat := 4
def afKtRsvd : Nat := 8
def afNanZero : Nat := 16
def afSat : Nat := 32
def afInfNan : Nat := 64

/-! ## Format codes (R34) -/

/-- Scaling classes of a format. -/
inductive Scaling where
  | none | twoLevel | mx
  deriving DecidableEq, Repr

/-- Defined format codes. -/
def fmtOk (c : Nat) : Bool :=
  [0, 1, 2, 3, 4, 5, 6, 8, 9, 10, 12, 13, 16, 17, 18, 19, 20, 21].contains c

def fmtScaling (c : Nat) : Scaling :=
  if 8 ≤ c ∧ c ≤ 13 then .twoLevel else if 16 ≤ c then .mx else .none

/-- Bits of an element. -/
def fmtBits (c : Nat) : Nat :=
  match c with
  | 0 => 32
  | 1 => 16
  | 2 => 8
  | 3 => 8
  | 4 => 8
  | 12 => 2
  | 13 => 2
  | 17 => 6
  | 18 => 6
  | 19 => 8
  | 20 => 8
  | 21 => 8
  | _ => 4

/-- Bytes of `n` packed elements (R31). -/
def packedBytes (c n : Nat) : Nat :=
  if fmtBits c = 6 then 3 * ceilDiv n 4 else ceilDiv (n * fmtBits c) 8

/-- Size of a scale record over a length (R117). -/
def recordBytes (c l : Nat) : Nat :=
  match fmtScaling c with
  | .none => 0
  | .twoLevel => 4 * ceilDiv (ceilDiv l 256 + ceilDiv l 16) 4
  | .mx => 4 * ceilDiv (ceilDiv l 32) 4

/-- The code of element `n` of a packed run. -/
def elemCode (c : Nat) (b : Bytes) (n : Nat) : Nat :=
  let w := fmtBits c
  bf (fld b (n * w / 8) 5) (n * w % 8) w

/-- Codes packed by R31. -/
def packCodes (c : Nat) (codes : List Nat) : Bytes :=
  let w := fmtBits c
  toLE (packedBytes c codes.length) (codes.foldr (fun k acc => acc * 2 ^ w + k % 2 ^ w) 0)

/-! ## Decoding -/

/-- E4M3 (R33). -/
def e4m3Val (c : Nat) : Val := if c % 128 = 127 then .nan else floatVal 4 3 7 c

/-- E5M2 (R33). -/
def e5m2Val (c : Nat) : Val :=
  if bf c 2 5 = 31 then (if bf c 0 2 = 0 then .inf (bit c 7) else .nan) else floatVal 5 2 15 c

/-- E8M0 (R30): none for 0xFF. -/
def e8m0Val (c : Nat) : Option Rat := if c = 255 then none else some (pow2 ((c : Int) - 127))

/-- The value of an element code, before scales (R30, R32, R33, R36). -/
def elemVal (c code : Nat) : Val :=
  match c with
  | 0 => fp32Val code
  | 1 => bf16Val code
  | 2 => e4m3Val code
  | 3 => e5m2Val code
  | 4 => Val.ofRat (sext 8 code : Int)
  | 5 => Val.ofRat (sext 4 code : Int)
  | 9 => Val.ofRat (sext 4 code : Int)
  | 8 => Val.ofRat ((code : Rat) - 15 / 2)
  | 12 => Val.ofRat ((code : Rat) - 3 / 2)
  | 13 => if code = 1 then .fin false 1 else if code = 3 then .fin true (-1) else Val.zero
  | 17 => floatVal 2 3 1 code
  | 18 => floatVal 3 2 3 code
  | 19 => e4m3Val code
  | 20 => e5m2Val code
  | 21 => Val.ofRat ((sext 8 code : Rat) / 64)
  | _ => floatVal 2 1 1 code

/-- A value times a scale: a non-finite scale governs, and under a zero scale the value is 0, whatever the
code (R37; its sign +0, DEDUCED, log 92). -/
def scaled (v : Val) (s : Option Rat) : Val :=
  match s with
  | none => .nan
  | some q => if q = 0 then Val.zero else match v with
    | .fin n p => .fin n (p * q)
    | .inf n => .inf n
    | .nan => .nan

/-- The scale of element `k` by a row's record: the magnitude of s1 × s2, or X (R35 to R37). -/
def scaleOf (c l : Nat) (rec : Bytes) (k : Nat) : Option Rat :=
  match fmtScaling c with
  | .none => some 1
  | .mx => e8m0Val (fld rec (k / 32) 1)
  | .twoLevel =>
    match e8m0Val (fld rec (k / 256) 1), e4m3Val (fld rec (ceilDiv l 256 + k / 16) 1 % 128) with
    | some a, .fin _ b => some (a * b)
    | _, _ => none

/-- The `l` values of a row, with the flags that reading it sets (R32, R37, R56). -/
def decodeRow (c l : Nat) (b rec : Bytes) : List Val × Nat :=
  let vals := (List.range l).map fun k => scaled (elemVal c (elemCode c b k)) (scaleOf c l rec k)
  let sign := match fmtScaling c with
    | .twoLevel => (List.range (ceilDiv l 16)).any fun i => bit (fld rec (ceilDiv l 256 + i) 1) 7
    | _ => false
  let badScale := (List.range l).any fun k => (scaleOf c l rec k).isNone
  let rsvd := c == 13 && (List.range l).any fun k => elemCode c b k == 2
  (vals, (if vals.any (fun v => !v.isFinite) || badScale then afNonfinite else 0)
    ||| (if sign then afScaleSign else 0) ||| (if rsvd then afKtRsvd else 0))

/-! ## Target grids -/

/-- The grid of a target element. -/
inductive Grid where
  /-- Floating: exponent bits, mantissa bits, bias, largest finite value. -/
  | flt (eb mb : Nat) (bias : Int) (top : Rat)
  /-- Integers from `lo` to `hi` times a unit, `w` bits. -/
  | int (w : Nat) (lo hi : Int) (unit : Rat)
  /-- Odd halves: `n` magnitudes each side (K2: 2, A4: 8). -/
  | half (n : Nat)
  | kt
  deriving DecidableEq, Repr

/-- The grid of a format's elements. -/
def gridOf (c : Nat) : Grid :=
  match c with
  | 0 => .flt 8 23 127 fp32Max
  | 1 => .flt 8 7 127 (pow2 128 - pow2 120)
  | 2 => .flt 4 3 7 448
  | 19 => .flt 4 3 7 448
  | 3 => .flt 5 2 15 57344
  | 20 => .flt 5 2 15 57344
  | 17 => .flt 2 3 1 (15 / 2)
  | 18 => .flt 3 2 3 28
  | 4 => .int 8 (-128) 127 1
  | 21 => .int 8 (-128) 127 (1 / 64)
  | 5 => .int 4 (-8) 7 1
  | 9 => .int 4 (-8) 7 1
  | 8 => .half 8
  | 12 => .half 2
  | 13 => .kt
  | _ => .flt 2 1 1 6

/-- The largest magnitude on a side of a grid. -/
def Grid.top (g : Grid) (neg : Bool) : Rat :=
  match g with
  | .flt _ _ _ t => t
  | .int _ lo hi u => if neg then -(lo : Rat) * u else (hi : Rat) * u
  | .half n => (n : Rat) - 1 / 2
  | .kt => 1

/-- The code of a grid value given by sign and magnitude. -/
def Grid.code (g : Grid) (neg : Bool) (mag : Rat) : Nat :=
  match g with
  | .flt eb mb bias _ =>
    let s := if neg then 2 ^ (eb + mb) else 0
    if mag = 0 then s
    else
      let k := flog2 mag
      if k < 1 - bias then s + (rfloor (mag * pow2 (bias - 1 + (mb : Int)))).toNat
      else s + (k + bias).toNat * 2 ^ mb + (rfloor (mag * pow2 ((mb : Int) - k))).toNat - 2 ^ mb
  | .int w _ _ u => twos w (if neg then -rfloor (mag / u) else rfloor (mag / u))
  | .half n => if neg then n - 1 - (rfloor mag).toNat else n + (rfloor mag).toNat
  | .kt => if mag = 0 then 0 else if neg then 3 else 1

/-- Nearest rounding of a magnitude on a grid continued above its end (R45, R46): the side matters
for integers, whose ties go to even. -/
def Grid.nearest (g : Grid) (mag : Rat) : Rat :=
  match g with
  | .flt _ mb bias _ => rneGrid mb (1 - bias) mag
  | .int _ _ _ u => (rneInt (mag / u) : Rat) * u
  | .half _ => if mag = 0 then 1 / 2 else (rceil mag : Rat) - 1 / 2
  | .kt => (rceil (mag - 1 / 2) : Rat)

/-- Stochastic rounding of a value whose magnitude is not above the grid's end, by the draw `r`
(R51): sign and magnitude of the result. -/
def Grid.stochastic (g : Grid) (neg : Bool) (t : Rat) (r : Nat) : Bool × Rat :=
  let fin := fun (a s : Rat) =>
    let f := (rfloor ((t - a) / s * (2 ^ 32 : Nat))).toNat
    let v := if 2 ^ 32 ≤ f + r then a + s else a
    (if v = 0 then neg else decide (v < 0), rabs v)
  match g with
  | .flt _ mb bias _ =>
    if t = 0 then (neg, 0)
    else
      let s := gridStep mb (1 - bias) (rabs t)
      fin ((rfloor (t / s) : Rat) * s) s
  | .int _ _ _ u => fin ((rfloor (t / u) : Rat) * u) u
  | .half _ => if t = 0 then (neg, 1 / 2) else fin ((rfloor (t - 1 / 2) : Rat) + 1 / 2) 1
  | .kt => fin (rfloor t : Rat) 1

/-- The NaN and +infinity codes of a target, where it has them (R47). -/
def nanCode (c : Nat) : Option Nat :=
  match c with
  | 0 => some 0x7FC00000
  | 1 => some 0x7FC0
  | 2 => some 0x7F
  | 19 => some 0x7F
  | 3 => some 0x7E
  | 20 => some 0x7E
  | _ => none

def infCode (c : Nat) : Option Nat :=
  match c with
  | 0 => some 0x7F800000
  | 1 => some 0x7F80
  | 3 => some 0x7C
  | _ => none

/-- The outcome of an overflow in a format (R46, R47): saturation, or infinity or NaN with SATF = 0. -/
def overflowCode (c : Nat) (satf neg : Bool) : Nat × Nat :=
  let g := gridOf c
  let sgn := if neg then 2 ^ (fmtBits c - 1) else 0
  if c = 0 then (0x7F800000 + sgn, 0)
  else if !satf ∧ (c = 1 ∨ c = 2 ∨ c = 3) then
    ((match infCode c with | some k => k | none => 0x7F) + sgn, afInfNan)
  else (g.code neg (g.top neg), afSat)

/-- One element converted to a format's grid (R45 to R47, R51), with the flags it sets. A draw is
given in stochastic mode; a conversion to FP32 does not use it (R44, R53). -/
def cvtElem (c : Nat) (satf : Bool) (draw : Option Nat) (v : Val) : Nat × Nat :=
  let g := gridOf c
  match v with
  | .nan => match nanCode c with
    | some k => (k, 0)
    | none => (g.code false (g.nearest 0), afNanZero)
  | .inf n => match fmtScaling c, infCode c with
    | .none, some k => (k + (if n then 2 ^ (fmtBits c - 1) else 0), 0)
    | _, _ => overflowCode c satf n
  | .fin n q =>
    let mag := rabs q
    match (if c = 0 then none else draw) with
    | none =>
      let m := g.nearest mag
      if g.top n < m then overflowCode c satf n else (g.code n m, 0)
    | some r =>
      if g.top n < mag then overflowCode c satf n
      else
        let x := g.stochastic n q r
        if g.top x.1 < x.2 then overflowCode c satf x.1 else (g.code x.1 x.2, 0)

/-! ## The generators (R52) -/

/-- One draw: the generator advances and returns its new state. -/
def xorshift (x : Nat) : Nat :=
  let x := (x ^^^ (x <<< 13)) % 2 ^ 32
  let x := x ^^^ (x >>> 17)
  (x ^^^ (x <<< 5)) % 2 ^ 32

/-! ## Converting a run -/

/-- A converted run: codes, scale record, flags, generator state after its draws. -/
structure Cvt where
  codes : List Nat
  scales : Bytes
  flags : Nat
  rng : Nat
  deriving DecidableEq, Repr

/-- Elements converted in order, each after division by its scale (R53: one draw per element in
stochastic mode). A zero scale gives the code of +0, with CVT_NAN_ZERO for a NaN (R48, R49). -/
def cvtList (c : Nat) (satf stoch : Bool) : List (Val × Rat) → Nat → Cvt
  | [], g => ⟨[], [], 0, g⟩
  | (v, s) :: r, g =>
    let g' := if stoch then xorshift g else g
    let e := if s = 0 then
        (match v with
         | .nan => (((gridOf c).code false ((gridOf c).nearest 0)), afNanZero)
         | _ => (((gridOf c).code false ((gridOf c).nearest 0)), 0))
      else cvtElem c satf (if stoch then some g' else none) (match v with
        | .fin n q => .fin n (q / s)
        | w => w)
    let rest := cvtList c satf stoch r g'
    ⟨e.1 :: rest.codes, [], e.2 ||| rest.flags, rest.rng⟩

/-- The greatest magnitude of a run; NaN ignored, infinity as the FP32 maximum (R47 to R49). -/
def amax (vs : List Val) : Rat :=
  vs.foldl (fun m v => match v with
    | .nan => m
    | .inf _ => max m fp32Max
    | .fin _ q => max m (rabs q)) 0

/-- qmax of the two-level formats (R48). -/
def qmax2L (c : Nat) : Rat :=
  match c with
  | 12 => 3 / 2
  | 13 => 1
  | 8 => 15 / 2
  | 9 => 7
  | _ => 6

/-- emax of the MX element formats (R49). -/
def emaxMx (c : Nat) : Int :=
  match c with
  | 18 => 4
  | 19 => 8
  | 20 => 15
  | 21 => 0
  | _ => 2

/-- Pieces of `n` values, at most `k` of them. -/
def pieces (n : Nat) : Nat → List Val → List (List Val)
  | 0, _ => []
  | k + 1, vs => if vs.isEmpty then [] else vs.take n :: pieces n k (vs.drop n)

/-- The s2 code of a segment (R48). -/
def s2Code (seg : List Val) : Nat :=
  let a := amax seg
  if a = 0 then 0 else (clampI (-127) 127 (flog2 a - 7) + 127).toNat

/-- The s1 code of a block under its segment's s2 code (R48). A quotient beyond 448, which R48 says never occurs, has a
free code (DESIGN CHOICE, log 142). -/
def s1Code (c s2 : Nat) (blk : List Val) : Nat :=
  let a := amax blk
  let k := a / (pow2 ((s2 : Int) - 127) * qmax2L c)
  if a = 0 then 0
  else if 448 < k then (Config.s1Beyond c s2 a).toNat
  else (gridOf 2).code false (upGrid 3 (-6) k)

/-- The X code of an MX block (R49). -/
def xCode (c : Nat) (blk : List Val) : Nat :=
  let a := amax blk
  if a = 0 then 0 else (clampI (-127) 127 (flog2 a - emaxMx c) + 127).toNat

/-- A run of values converted to a format from its element 0 (R44 to R53, R117). -/
def cvtRun (c : Nat) (satf stoch : Bool) (vs : List Val) (g : Nat) : Cvt :=
  let l := vs.length
  match fmtScaling c with
  | .none => cvtList c satf stoch (vs.map (·, 1)) g
  | .twoLevel =>
    let segs := pieces 256 (ceilDiv l 256) vs
    let s2 := segs.map s2Code
    let blks := segs.zip s2 |>.flatMap fun (seg, k) =>
      (pieces 16 16 seg).map fun b => (b, k, s1Code c k b)
    let pairs := blks.flatMap fun (b, k, s1) =>
      b.map fun v => (v, (e4m3Val s1).rat * pow2 ((k : Int) - 127))
    let r := cvtList c true stoch pairs g
    let codes := s2 ++ blks.map (·.2.2)
    { r with scales := sub (codes.flatMap (toLE 1)) 0 (recordBytes c l) }
  | .mx =>
    let blks := (pieces 32 (ceilDiv l 32) vs).map fun b => (b, xCode c b)
    let pairs := blks.flatMap fun (b, x) => b.map fun v =>
      (v, if amax b = 0 then 1 else pow2 ((x : Int) - 127))
    let r := cvtList c true stoch pairs g
    { r with scales := sub (blks.flatMap fun b => toLE 1 b.2) 0 (recordBytes c l) }

/-- A run's bytes: packed codes, then what R117 writes beyond the length in its last byte. -/
def Cvt.bytes (r : Cvt) (c : Nat) : Bytes :=
  let pad := (gridOf c).code false ((gridOf c).nearest 0)
  let per := if fmtBits c = 6 then 4 else max 1 (8 / fmtBits c)
  let n := ceilDiv r.codes.length per * per
  packCodes c (r.codes ++ List.replicate (n - r.codes.length) pad)

end Sys2Proof.Machine
end

