-- ==== Sys2Proof/Machine/Operands.lean ====
section
/-! DEFINITION. Descriptors of the Tensor Array and the vector unit: their fields (R120, R130, R141), the
refusals (R123, R132, R146), their regions, the input guard's regions (R206), their times (R125, R140, R147)
and their charge classes (R231). -/
namespace Sys2Proof.Machine

/-- A run of scratchpad bytes. -/
structure Region where
  addr : Nat
  len : Nat
  deriving DecidableEq, Repr

def Region.overlaps (a b : Region) : Bool :=
  decide (0 < a.len ∧ 0 < b.len ∧ a.addr < b.addr + b.len ∧ b.addr < a.addr + a.len)

def Region.fits (a : Region) : Bool := decide (a.len = 0 ∨ a.addr + a.len ≤ spadSize)

/-- `n` units of `size` bytes at a stride. -/
def rowsRegion (addr stride n size : Nat) : Region :=
  ⟨addr, if n = 0 ∨ size = 0 then 0 else (n - 1) * stride + size⟩

/-- Rounding mode of a CTRL.RND code under TA_ARITH.RMODE (R50, R120). -/
def stochMode (rnd rmode : Nat) : Bool := rnd == 2 || (rnd == 0 && rmode == 1)

/-! ## MATMUL (R120) -/

structure Matmul where
  wf : Nat
  xf : Nat
  yf : Nat
  accin : Bool
  rnd : Nat
  flagen : Bool
  m : Nat
  n : Nat
  k : Nat
  w : Nat
  ws : Nat
  x : Nat
  xs : Nat
  y : Nat
  ys : Nat
  wsc : Nat
  xsc : Nat
  ysc : Nat
  norm : Nat
  flag : Nat
  deriving DecidableEq, Repr

def Matmul.of (d : Bytes) : Matmul :=
  let c := fld d 4 1
  ⟨fld d 1 1, fld d 2 1, fld d 3 1, bit c 0, bf c 1 2, bit c 3, fld d 8 2, fld d 10 2, fld d 12 4,
   fld d 16 4, fld d 20 4, fld d 24 4, fld d 28 4, fld d 32 4, fld d 36 4, fld d 40 4, fld d 44 4,
   fld d 48 4, fld d 52 4, fld d 56 4⟩

/-- Two-level 4-bit formats. -/
def is2L4 (c : Nat) : Bool := c == 8 || c == 9 || c == 10

/-- A pair of formats that R38 allows: chunk size, whether the accumulator is INT32, and the reduction
cycles per index in eighths (R124). -/
def pairOf (w x : Nat) : Option (Nat × Bool × Nat) :=
  if (w == 12 || w == 13) && is2L4 x then some (16, false, 4)
  else if is2L4 w && is2L4 x then some (16, false, 8)
  else if w == 16 && x == 16 then some (32, false, 8)
  else if w == 5 && x == 5 then some (16, true, 8)
  else if (w == 17 || w == 18) && (x == 17 || x == 18) then some (32, false, 16)
  else if (w == 19 || w == 20) && (x == 19 || x == 20) then some (32, false, 16)
  else if w == 21 && x == 21 then some (32, false, 16)
  else if (w == 2 || w == 3) && (x == 2 || x == 3) then some (16, false, 16)
  else if w == 4 && x == 4 then some (16, true, 16)
  else if w == 1 && x == 1 then some (1, false, 64)
  else none

def Matmul.empty (a : Matmul) : Bool := a.m == 0 || a.n == 0 || a.k == 0

def Matmul.regW (a : Matmul) : Region := rowsRegion a.w a.ws a.m (packedBytes a.wf a.k)
def Matmul.regX (a : Matmul) : Region := rowsRegion a.x a.xs a.n (packedBytes a.xf a.k)
def Matmul.regY (a : Matmul) : Region := rowsRegion a.y a.ys a.n (packedBytes a.yf a.m)
def Matmul.regWS (a : Matmul) : Region := ⟨a.wsc, a.m * recordBytes a.wf a.k⟩
def Matmul.regXS (a : Matmul) : Region := ⟨a.xsc, a.n * recordBytes a.xf a.k⟩
def Matmul.regYS (a : Matmul) : Region := ⟨a.ysc, a.n * recordBytes a.yf a.m⟩
def Matmul.regNorm (a : Matmul) : Region := ⟨a.norm, 8 * a.m⟩
def Matmul.regFlag (a : Matmul) : Region := ⟨a.flag, if a.flagen then a.n else 0⟩

/-- Whether a MATMUL descriptor is refused (R120, R122, R123). -/
def Matmul.refused (d : Bytes) : Bool :=
  let a := Matmul.of d
  let addrs := [a.w, a.ws, a.x, a.xs, a.y, a.ys, a.norm]
    ++ (if recordBytes a.wf 1 = 0 then [] else [a.wsc])
    ++ (if recordBytes a.xf 1 = 0 then [] else [a.xsc])
    ++ (if recordBytes a.yf 1 = 0 then [] else [a.ysc])
    ++ (if a.flagen then [a.flag] else [])
  (pairOf a.wf a.xf).isNone || !fmtOk a.yf || a.rnd == 3
    || fld d 4 1 ≥ 16 || fld d 5 3 != 0 || fld d 60 4 != 0
    || a.m > 4096 || a.n > 4096 || a.k > 65536
    || addrs.any (· ≥ spadSize)
    || [a.w, a.ws, a.x, a.xs, a.y, a.ys].any (· % 64 != 0)
    || a.norm % 4 != 0
    || (recordBytes a.wf 1 != 0 && a.wsc % 4 != 0)
    || (recordBytes a.xf 1 != 0 && a.xsc % 4 != 0)
    || (recordBytes a.yf 1 != 0 && a.ysc % 4 != 0)
    || (a.m > 1 && a.ws < packedBytes a.wf a.k)
    || (a.n > 1 && (a.xs < packedBytes a.xf a.k || a.ys < packedBytes a.yf a.m))
    || [a.regW, a.regX, a.regY, a.regWS, a.regXS, a.regYS, a.regNorm, a.regFlag].any (!·.fits)
    || [a.regW, a.regX, a.regWS, a.regXS, a.regYS, a.regNorm, a.regFlag].any (a.regY.overlaps ·)
    || (a.accin && a.yf != 0)

/-- Island cycles of a MATMUL (R125). -/
def Matmul.cycles (a : Matmul) : Nat :=
  match pairOf a.wf a.xf with
  | none => 0
  | some (g, _, e) =>
    40 + ceilDiv a.m 64 * ceilDiv a.n 64
      * (ceilDiv (ceilDiv a.k g * g * e) 8 + 16 + (match fmtScaling a.yf with | .none => 0 | _ => 64))

/-! ## ATTN (R130) -/

structure Attn where
  qf : Nat
  yf : Nat
  causal : Bool
  append : Bool
  flagen : Bool
  masken : Bool
  g : Nat
  d : Nat
  qt : Nat
  scale : Nat
  pos0 : Nat
  window : Nat
  np : Nat
  plist : Nat
  q : Nat
  y : Nat
  knew : Nat
  vnew : Nat
  mask : Nat
  flag : Nat
  deriving DecidableEq, Repr

def Attn.of (d : Bytes) : Attn :=
  let c := fld d 3 1
  ⟨fld d 1 1, fld d 2 1, bit c 0, bit c 1, bit c 2, bit c 3, 2 ^ (fld d 4 1 % 4), 32 * 2 ^ (fld d 5 1 % 4),
   fld d 6 1, fld d 8 4, fld d 12 4, fld d 16 4, fld d 20 2, fld d 24 4, fld d 28 4, fld d 32 4,
   fld d 36 4, fld d 40 4, fld d 44 4, fld d 48 4⟩

def Attn.rows (a : Attn) : Nat := a.g * a.qt

def Attn.width (f : Nat) : Nat := if f = 0 then 4 else 2

/-- The page descriptors of an ATTN as its list holds them. -/
def Attn.pages (a : Attn) (x : Tile) : List Bytes :=
  (List.range a.np).map fun p => x.rdSpad (a.plist + 16 * p) 16

/-- The token count after any append (R131). -/
def Attn.tokens (a : Attn) (x : Tile) : Nat :=
  16 * (a.np - 1) + fld (x.rdSpad (a.plist + 16 * (a.np - 1)) 16) 5 1 % 32
    + (if a.append then a.qt else 0)

def Attn.regQ (a : Attn) : Region := ⟨a.q, a.rows * a.d * Attn.width a.qf⟩
def Attn.regY (a : Attn) : Region := ⟨a.y, a.rows * a.d * Attn.width a.yf⟩
def Attn.regList (a : Attn) : Region := ⟨a.plist, 16 * a.np⟩
def Attn.regK (a : Attn) : Region := ⟨a.knew, if a.append then a.qt * a.d * 4 else 0⟩
def Attn.regV (a : Attn) : Region := ⟨a.vnew, if a.append then a.qt * a.d * 4 else 0⟩
def Attn.regMask (a : Attn) (x : Tile) : Region :=
  ⟨a.mask, if a.masken then ceilDiv (a.tokens x) 8 else 0⟩
def Attn.regFlag (a : Attn) : Region := ⟨a.flag, if a.flagen then a.rows else 0⟩

/-- Whether a page descriptor of a list stops its ATTN (R132). -/
def pageBad (d : Nat) (last : Bool) (b : Bytes) : Bool :=
  let fmt := fld b 4 1 % 4
  let cnt := fld b 5 1 % 32
  !(fmt == 1 || fmt == 2) || fld b 0 4 % 64 != 0 || fld b 0 4 + pageBytes fmt d > 2 ^ 28
    || cnt > 16 || (!last && cnt < 16)

/-- Whether an ATTN descriptor is refused (R132). A QT outside 1 to 16 is a reserved code of its field (R130; DEDUCED, log
111). -/
def Attn.refused (x : Tile) (d : Bytes) : Bool :=
  let a := Attn.of d
  let ps := a.pages x
  let last := fld (ps.getLastD []) 5 1 % 32
  let used := [a.regQ, a.regY, a.regList, a.regK, a.regV, a.regMask x, a.regFlag]
  a.qf > 1 || a.yf > 1 || fld d 3 1 ≥ 16 || fld d 4 1 > 3 || fld d 5 1 > 3
    || fld d 7 1 != 0 || fld d 22 2 != 0 || fld d 52 4 != 0 || fld d 56 4 != 0 || fld d 60 4 != 0
    || a.qt == 0 || a.qt > 16 || a.rows > 64 || a.np == 0 || a.np > 4096
    || bf a.scale 23 8 == 255
    || a.plist % 16 != 0 || a.q % 4 != 0 || a.y % 4 != 0
    || (a.append && (a.knew % 4 != 0 || a.vnew % 4 != 0))
    || used.any (fun r => !r.fits)
    || [a.regQ, a.regList, a.regK, a.regV, a.regMask x, a.regFlag].any (a.regY.overlaps ·)
    || ps.zipIdx.any (fun (b, i) => pageBad a.d (i + 1 == a.np) b)
    || (a.append && last + a.qt > 16)

/-- Column lines of a page of a format. -/
def pageLines (fmt d : Nat) : Nat := pageBytes fmt d / 64

/-- Time of an ATTN at an island frequency in MHz, in millionths of an island cycle (R140). -/
def Attn.work (a : Attn) (x : Tile) (mhz : Nat) : Nat :=
  let tc := fun c => c * 1000000
  tc 64 + (if a.append then tc 96 + 2 * a.qt * ceilDiv a.d 64 * 625 * mhz else 0)
    + (a.pages x).foldl (fun n b =>
        n + max (pageLines (fld b 4 1 % 4) a.d * 625 * mhz) (tc (48 + ceilDiv (a.rows * a.d) 16))) 0
    + tc 32

/-! ## Vector operations (R141) -/

structure Vec where
  op : Nat
  af : Nat
  yf : Nat
  bscalar : Bool
  rnd : Nat
  len : Nat
  rows : Nat
  a : Nat
  as' : Nat
  b : Nat
  bs : Nat
  y : Nat
  ys : Nat
  asc : Nat
  ysc : Nat
  imm : Nat
  eps : Nat
  deriving DecidableEq, Repr

def Vec.of (d : Bytes) : Vec :=
  let c := fld d 3 1
  ⟨fld d 0 1, fld d 1 1, fld d 2 1, bit c 0, bf c 1 2, fld d 8 4, fld d 12 4, fld d 16 4, fld d 20 4,
   fld d 24 4, fld d 28 4, fld d 32 4, fld d 36 4, fld d 40 4, fld d 44 4, fld d 48 4, fld d 52 4⟩

/-- Operations that read b_k (R143, R145). -/
def Vec.usesB (v : Vec) : Bool := (1 ≤ v.op && v.op ≤ 6) || v.op == 0x11

/-- Operations that write one value per row. -/
def Vec.reduces (v : Vec) : Bool := v.op == 0x0E || v.op == 0x0F

def Vec.aBytes (v : Vec) : Nat := packedBytes v.af v.len
def Vec.yBytes (v : Vec) : Nat := packedBytes v.yf (if v.reduces then 1 else v.len)
def Vec.regA (v : Vec) : Region := rowsRegion v.a v.as' v.rows v.aBytes
def Vec.regB (v : Vec) : Region :=
  if v.usesB && !v.bscalar then rowsRegion v.b v.bs v.rows (4 * v.len) else ⟨v.b, 0⟩
def Vec.regY (v : Vec) : Region := rowsRegion v.y v.ys v.rows v.yBytes
def Vec.regAS (v : Vec) : Region := ⟨v.asc, if v.op = 0x0D then v.rows * recordBytes v.af v.len else 0⟩
def Vec.regYS (v : Vec) : Region := ⟨v.ysc, if v.op = 0x0D then v.rows * recordBytes v.yf v.len else 0⟩

/-- Whether a vector descriptor is refused (R141, R146). -/
def Vec.refused (d : Bytes) : Bool :=
  let v := Vec.of d
  let addrs := [v.a, v.as', v.b, v.bs, v.y, v.ys, v.asc, v.ysc]
  v.op == 0 || v.op > 0x11 || v.rnd == 3
    || (if v.op = 0x0D then !fmtOk v.af || !fmtOk v.yf else v.af > 1 || v.yf > 1)
    || (v.op == 4 && v.yf != 0)
    || fld d 3 1 ≥ 8 || fld d 4 4 != 0 || fld d 56 4 != 0 || fld d 60 4 != 0
    || v.len > 1048576 || v.rows > 65535
    || addrs.any (fun a => a % 4 != 0 || a ≥ spadSize)
    || (v.rows > 1 && (v.as' < v.aBytes || v.ys < v.yBytes))
    || (v.rows > 1 && v.usesB && !v.bscalar && v.bs != 0 && v.bs < 4 * v.len)
    || [v.regA, v.regB, v.regY, v.regAS, v.regYS].any (!·.fits)
    || (v.regY.overlaps v.regA && !(v.y == v.a && v.ys == v.as'))
    || (v.regY.overlaps v.regB && !(v.y == v.b && v.ys == v.bs))

/-- Cycles per group of 32 elements, and after each row (R147). A CVT from a scaled format to an unscaled one takes the row
of the table for scaled formats (DESIGN CHOICE, log 112). -/
def Vec.ct (v : Vec) : Nat × Nat :=
  if v.op = 0x0D then
    (match fmtScaling v.af, fmtScaling v.yf with | .none, .none => (1, 0) | _, _ => (2, 8))
  else if v.op ≤ 7 then (1, 0)
  else if v.op = 8 then (5, 0)
  else if v.op ≤ 0x0C then (4, 0)
  else if v.op ≤ 0x0F then (1, 8)
  else if v.op = 0x10 then (9, 16)
  else (3, 24)

/-- Island cycles of a vector operation (R147). -/
def Vec.cycles (v : Vec) : Nat := 16 + v.rows * (ceilDiv v.len 32 * v.ct.1 + v.ct.2)

/-! ## Shared -/

/-- Whether a Tensor Array descriptor is refused (R113). -/
def taRefused (x : Tile) (d : Bytes) : Bool :=
  if fld d 0 1 = 1 then Matmul.refused d
  else if fld d 0 1 = 2 then Attn.refused x d
  else true

/-- A Tensor Array operation that starts nothing (R121). -/
def taEmpty (d : Bytes) : Bool := fld d 0 1 == 1 && (Matmul.of d).empty

/-- A vector operation that completes at once (R142). -/
def vecEmpty (d : Bytes) : Bool := (Vec.of d).len == 0 || (Vec.of d).rows == 0

/-- The input regions that the guard protects for a Tensor Array operation (R206). -/
def taInputs (x : Tile) (d : Bytes) : List Region :=
  if fld d 0 1 = 1 then
    let a := Matmul.of d
    [a.regW, a.regX, a.regWS, a.regXS, a.regNorm] ++ (if a.accin then [a.regY] else [])
  else
    let a := Attn.of d
    [a.regQ, a.regList, a.regK, a.regV, a.regMask x]

/-- The input regions of a vector operation (R206, R442). -/
def vecInputs (d : Bytes) : List Region :=
  let v := Vec.of d
  [v.regA, v.regB, v.regAS] ++ (if v.op = 4 then [v.regY] else [])

/-- The output regions of a Tensor Array operation in the scratchpad; of an append also the count in its page list. -/
def taOutputs (d : Bytes) : List Region :=
  if fld d 0 1 = 1 then [(Matmul.of d).regY, (Matmul.of d).regYS, (Matmul.of d).regFlag]
  else
    let a := Attn.of d
    [a.regY, a.regFlag] ++ (if a.append then [⟨a.plist + 16 * (a.np - 1) + 5, 1⟩] else [])

def vecOutputs (d : Bytes) : List Region := [(Vec.of d).regY, (Vec.of d).regYS]

/-- Operations whose inputs are guarded: started, checks open; a vector operation until it completes
(R206). -/
def Tile.guardOps (x : Tile) : List (Bool × UnitOp) :=
  (x.taOpen ++ x.taRun.toList).map (fun o => (false, o)) ++ x.vecRun.toList.map (fun o => (true, o))

/-- Whether the input guard stalls a write to a region. `own` names the writing unit's running
operation, whose own writes are not stalled. -/
def Tile.guards (x : Tile) (r : Region) (own : Option (Bool × Nat) := none) : Bool :=
  x.guardOps.any fun (v, o) =>
    own != some (v, o.num) &&
      (if v then vecInputs o.desc else taInputs x o.desc).any (r.overlaps ·)

/-- The charge class of an operation (R231, R425). -/
def opClass (vec : Bool) (d : Bytes) : Nat :=
  if vec then clsVector
  else if fld d 0 1 = 2 then clsAttn
  else
    let w := fld d 1 1
    if w = 1 then clsMatmulBf16
    else if [2, 3, 4, 17, 18, 19, 20, 21].contains w then clsMatmul8 else clsMatmul4

end Sys2Proof.Machine
end

