-- ==== Sys2Proof/Machine/Arith.lean ====
section
/-! DEFINITION. The arithmetic of MATMUL (R39 to R42, R116 to R122), ATTN (R127 to R137), the vector unit
(R142 to R145) and their checks (R58 to R61, R138, R207), as functions of a tile's scratchpad and of pages
already read. -/
namespace Sys2Proof.Machine

/-- What an operation produces: the runs it writes, the TA_AFLAGS bits, whether a row was exempt, the first
failed check, and its generator afterwards. -/
structure OpResult where
  writes : List (Nat × Bytes)
  flags : Nat
  exempt : Bool
  viol : Option Capture
  rng : Nat
  deriving DecidableEq, Repr

/-- The first capture of a list in order. -/
def firstSome {α β : Type} (f : α → Option β) : List α → Option β
  | [] => none
  | a :: r => match f a with
    | some b => some b
    | none => firstSome f r

/-! ## Exact sums -/

/-- The exact sum of products of a chunk (R40): NaN, or an infinity, or a finite value whose zero is +0. -/
def chunkSum (l : List (Val × Val)) : Val :=
  let ps := l.map fun (a, b) => vmul a b
  if ps.any (· == .nan) then .nan
  else
    let pos := ps.any (· == .inf false)
    let neg := ps.any (· == .inf true)
    if pos && neg then .nan else if pos then .inf false else if neg then .inf true
    else Val.ofRat (ps.foldl (fun a v => a + v.rat) 0)

/-- Pieces of `n` pairs, at most `k` of them. -/
def pairPieces (n : Nat) : Nat → List (Val × Val) → List (List (Val × Val))
  | 0, _ => []
  | k + 1, l => if l.isEmpty then [] else l.take n :: pairPieces n k (l.drop n)

/-- The floating accumulation of R39 from an initial value. -/
def accFloat (g : Nat) (c : Val) (l : List (Val × Val)) : Val :=
  (pairPieces g l.length l).foldl (fun acc p => fadd acc (rne32v (chunkSum p))) c

/-- The saturating accumulation of R41, and whether it saturated. -/
def accInt (g : Nat) (c : Int) (l : List (Val × Val)) : Int × Bool :=
  (pairPieces g l.length l).foldl (fun acc p =>
    let v := acc.1 + rfloor (chunkSum p).rat
    let w := clampI (-2147483648) 2147483647 v
    (w, acc.2 || decide (w ≠ v))) (c, false)

/-! ## The Norm Bound Check (R58 to R61) -/

/-- ru32 of an exact value, or what is not finite unchanged. -/
def ru32v : Val → Val
  | .fin _ q => ru32 q
  | v => v

/-- The exact magnitude of a value. -/
def vabs : Val → Val
  | .nan => .nan
  | .inf _ => .inf false
  | .fin _ q => .fin false (rabs q)

/-- The exact sum of two values. -/
def vsum : Val → Val → Val
  | .fin _ p, .fin _ q => Val.ofRat (p + q)
  | a, b => fadd a b

/-- ru32 of an exact product and of an exact sum. -/
def rumul (a b : Val) : Val := ru32v (vmul a b)
def ruadd (a b : Val) : Val := ru32v (vsum a b)

/-- b_tol from b (the last four lines of R58). -/
def btol (b : Val) (n e : Nat) : Val :=
  let f := ru32 (1 + ((min (n + e) (2 ^ 23 - 1) : Nat) : Rat) * pow2 (-23))
  let b1 := rumul b f
  match b1 with
  | .fin _ q => if pow2 (-126) ≤ q then b1 else ru32 (q + (n : Rat) * pow2 (-149))
  | v => v

/-- Whether a result breaks its bound (R61): NaN against a finite bound, or a larger magnitude. -/
def breaks (y b : Val) : Bool :=
  match y, b with
  | .nan, .fin _ _ => true
  | .nan, _ => false
  | _, .nan => false
  | y, b => vlt b (vabs y) && !(y.rat == 0 && b.rat == 0 && y.isFinite && b.isFinite)

/-- M_j (R59), or the largest magnitude of a run. -/
def maxMag (vs : List Val) : Val := ru32 (vs.foldl (fun m v => max m (rabs v.rat)) 0)

/-- Σ of magnitudes, each addition by ru32 (R60, R138). -/
def normSum (vs : List Val) : Val := vs.foldl (fun a v => ruadd a (vabs v)) Val.zero

/-- The largest scale of a row's blocks (R60); with a non-finite one among them it is a free value (log 93). -/
def largestScale (rec : Bytes) (scales : List (Option Rat)) : Val :=
  if scales.any Option.isNone then fp32Val (Config.nonFiniteScale rec).toNat
  else ru32 (scales.foldl (fun m q => max m (q.getD 0)) 0)

/-- The canonical pair of a weight row (R60): s_i and N_i. -/
def canonicalPair (c l : Nat) (b rec : Bytes) : Val × Val :=
  let n := normSum ((List.range l).map fun k => elemVal c (elemCode c b k))
  match fmtScaling c with
  | .none => (.fin false 1, n)
  | .mx => (largestScale rec ((List.range (ceilDiv l 32)).map fun i => e8m0Val (fld rec i 1)), n)
  | .twoLevel => (largestScale rec ((List.range (ceilDiv l 16)).map fun i => scaleOf c l rec (16 * i)), n)

/-! ## MATMUL -/

/-- Decoded rows of an operand, and the flags that reading them sets. -/
def operandRows (x : Tile) (c l n addr stride saddr : Nat) : List (List Val) × Nat :=
  (List.range n).foldr (fun i acc =>
    let r := decodeRow c l (x.rdSpad (addr + i * stride) (packedBytes c l))
      (x.rdSpad (saddr + i * recordBytes c l) (recordBytes c l))
    (r.1 :: acc.1, r.2 ||| acc.2)) ([], 0)

/-- A result element of the array: its bits, its value, whether the accumulator saturated. -/
structure Elem where
  bits : Nat
  val : Val
  ovf : Bool
  deriving DecidableEq, Repr

/-- An FP32 element with a fault of the silicon applied. -/
def Elem.float (v : Val) (flip : Nat) : Elem :=
  let b := fp32Bits v ^^^ flip
  ⟨b, if flip = 0 then v else fp32Val b, false⟩

/-- An INT32 element with a fault of the silicon applied. -/
def Elem.int (v : Int) (ovf : Bool) (flip : Nat) : Elem :=
  let b := twos 32 v ^^^ flip
  ⟨b, Val.ofRat (sext 32 b : Int), ovf⟩

/-- One element y_ij of a MATMUL (R39). -/
def matElem (isInt : Bool) (g cbits : Nat) (w x : List Val) (flip : Nat) : Elem :=
  if isInt then
    let r := accInt g (sext 32 cbits) (w.zip x)
    Elem.int r.1 r.2 flip
  else Elem.float (accFloat g (fp32Val cbits) (w.zip x)) flip

/-- The bits of c_ij (R118). -/
def Matmul.cbits (a : Matmul) (x : Tile) (i j : Nat) : Nat :=
  if a.accin then leNat (x.rdSpad (a.y + j * a.ys + 4 * i) 4) else 0

/-- The check of y_ij by its bound (R58, R61); `none` passes. -/
def matCheck (x : Tile) (a : Matmul) (isInt : Bool) (g e i j cb : Nat) (mj : Val) (y : Elem) : Option Capture :=
  let s := fp32Val (leNat (x.rdSpad (a.norm + 8 * i) 4))
  let n := fp32Val (leNat (x.rdSpad (a.norm + 8 * i + 4) 4))
  let c : Val := if isInt then Val.ofRat (sext 32 cb : Int) else fp32Val cb
  let b := ruadd (vabs c) (rumul (rumul s n) mj)
  let bt := btol b (if isInt then 0 else 2 * ceilDiv a.k g) e
  if breaks y.val bt then some { row := i, col := j, y := y.bits, b := fp32Bits bt, c := cb } else none

/-- A MATMUL whose descriptor is not empty (R116 to R122). A result element to which a non-finite element contributes is
exempt from its check; the other elements of its row are checked (R61; DESIGN CHOICE, log 134). `satf`, RMODE, the generator,
NBC_TOL.EXTRA at
issue, and a fault of the silicon. -/
def matmulRun (x : Tile) (a : Matmul) (satf : Bool) (rmode rng e : Nat) (fault : Option ArithFault) :
    OpResult :=
  match pairOf a.wf a.xf with
  | none => ⟨[], 0, false, none, rng⟩
  | some (g, isInt, _) =>
    let w := operandRows x a.wf a.k a.m a.w a.ws a.wsc
    let xs := operandRows x a.xf a.k a.n a.x a.xs a.xsc
    let flip := fun i j => match fault with
      | some f => if f.row = i ∧ f.col = j then f.flip.toNat else 0
      | none => 0
    let wnf := w.1.map fun r => r.any (!·.isFinite)
    let cols := xs.1.zipIdx.map fun (xr, j) =>
      let xnf := xr.any (!·.isFinite)
      let mj := maxMag xr
      w.1.zipIdx.map fun (wr, i) =>
        let cb := a.cbits x i j
        let y := matElem isInt g cb wr xr (flip i j)
        let cnf := !isInt && !(fp32Val cb).isFinite
        let ex := xnf || cnf || wnf.getD i false
        (y, ex, if ex then none else matCheck x a isInt g e i j cb mj y, cnf)
    let out := cols.foldl (fun (acc : List (List (Elem × Bool × Option Capture × Bool) × Cvt) × Nat) col =>
        let r := if a.yf = 0 then (⟨[], [], 0, acc.2⟩ : Cvt)
          else cvtRun a.yf satf (stochMode a.rnd rmode) (col.map (·.1.val)) acc.2
        (acc.1 ++ [(col, r)], r.rng)) ([], rng)
    let ovf := cols.any fun col => col.any fun k => k.1.ovf
    let flags := w.2 ||| xs.2 ||| (if ovf then afIntOvf else 0)
      ||| (if cols.any (fun col => col.any (·.2.2.2)) then afNonfinite else 0)
      ||| out.1.foldl (fun f k => f ||| k.2.flags) 0
    let writes := out.1.zipIdx.flatMap fun ((col, r), j) =>
      (a.y + j * a.ys, if a.yf = 0 then col.flatMap (fun k => toLE 4 k.1.bits) else r.bytes a.yf)
      :: (if recordBytes a.yf a.m = 0 then [] else [(a.ysc + j * recordBytes a.yf a.m, r.scales)])
      ++ (if a.flagen then
        [(a.flag + j, toLE 1 (b2n (col.any (·.1.ovf)) + 2 * b2n (col.any (·.2.1))
          + 8 * b2n (r.flags &&& afSat != 0)))] else [])
    let viol := firstSome (fun i => firstSome (fun col => (col.getD i
      (⟨0, .nan, false⟩, false, none, false)).2.2.1) cols) (List.range a.m)
    ⟨writes, flags, cols.any (fun col => col.any (·.2.1)), viol, out.2⟩

/-! ## Pages (R127 to R129) -/

/-- Where the data and the scales of a token lie in a page: (data, data bytes, scales, scale bytes), for the
key or the value. -/
def tokenAt (fmt d : Nat) (value : Bool) (u : Nat) : Nat × Nat × Nat × Nat :=
  if fmt = 2 then
    let b := if value then 9 * d else 0
    (b + u * d / 2, d / 2, b + 8 * d + u * d / 16, d / 16)
  else
    let b := if value then 17 * d else 0
    (b + u * d, d, b + 16 * d + u * d / 16, d / 16)

/-- A stored row of a page decoded, and whether a lowest code set CVT_SAT (R128). A KV4 scale with sign bit 1 counts with
its sign and sets no flag (DESIGN CHOICE, log 144). -/
def pageRow (fmt d : Nat) (value : Bool) (u : Nat) (b : Bytes) : List Val × Bool :=
  let p := tokenAt fmt d value u
  let codes : List Int := (List.range d).map fun k =>
    if fmt = 2 then sext 4 (bf (fld b (p.1 + k / 2) 1) (k % 2 * 4) 4) else sext 8 (fld b (p.1 + k) 1)
  let low : Int := if fmt = 2 then -8 else -128
  let vals := codes.zipIdx.map fun (c, k) =>
    let sc := if fmt = 2 then e4m3Val (fld b (p.2.2.1 + k / 16) 1)
      else fp16Val (fld b (p.2.2.1 + k / 32 * 2) 2)
    match sc with
    | .fin n q => (Val.ofRat (((max c (low + 1) : Int) : Rat) * (if n then -rabs q else q)))
    | _ => .nan
  (vals, codes.any (· == low))

/-- One group of an appended row quantised (R129): the scale code, the element codes, the flags. -/
def quantGroup (fmt : Nat) (vs : List Val) : Nat × List Nat × Nat :=
  let a := amax vs
  let qm : Int := if fmt = 2 then 7 else 127
  let top : Rat := if fmt = 2 then 448 else 65504
  let s0 := if a = 0 then 0 else if fmt = 2 then upGrid 3 (-6) (a / qm) else upGrid 10 (-14) (a / qm)
  let sat := decide (top < s0)
  let s := if sat then top else s0
  let g : Grid := if fmt = 2 then gridOf 2 else .flt 5 10 15 65504
  let nan := vs.any (· == .nan)
  let code := fun (v : Val) => if s = 0 then 0 else match v with
    | .nan => 0
    | .inf n => twos 8 (if n then -qm else qm)
    | .fin _ q => twos 8 (clampI (-qm) qm (rneInt (q / s)))
  (g.code false s, vs.map code, (if sat then afSat else 0) ||| (if nan then afNanZero else 0))

/-- An appended row quantised: data bytes, scale bytes, flags. -/
def quantRow (fmt : Nat) (vs : List Val) : Bytes × Bytes × Nat :=
  let n := if fmt = 2 then 16 else 32
  let gs := (pieces n vs.length vs).map (quantGroup fmt)
  let codes := gs.flatMap (·.2.1)
  (if fmt = 2 then packCodes 5 (codes.map (· % 16)) else codes.flatMap (toLE 1),
   gs.flatMap (fun g => toLE (if fmt = 2 then 1 else 2) g.1),
   gs.foldl (fun f g => f ||| g.2.2) 0)

/-! ## ATTN (R134 to R139) -/

/-- A token as read: its page, its index, its key and its value. -/
structure Tok where
  page : Nat
  t : Nat
  k : List Val
  v : List Val
  deriving DecidableEq, Repr

/-- The visibility of a token to a query row (R134). -/
def Attn.sees (a : Attn) (x : Tile) (r t : Nat) : Bool :=
  let qt := r / a.g
  (!a.causal || decide (t ≤ a.pos0 + qt))
    && (a.window == 0 || decide (a.pos0 + qt < t + a.window))
    && (!a.masken || !bit (fld (x.rdSpad (a.mask + t / 8) 1) 0 1) (t % 8))

/-- The score of a token (R135). -/
def attnScore (q k : List Val) (scale : Val) : Val := fmul (accFloat 16 Val.zero (q.zip k)) scale

/-- The running computation of R136 over one page's visible tokens. -/
def attnPage (st : Val × Val × List Val) (toks : List (Tok × Val)) : Val × Val × List Val :=
  let mb := toks.foldl (fun m k => fmax m k.2) (.inf true)
  let mn := fmax st.1 mb
  let a := fexp (fsub st.1 mn)
  let ps := toks.map fun k => fexp (fsub k.2 mn)
  let l := fadd (fmul st.2.1 a) (rne32v (chunkSum (ps.map fun p => (p, .fin false 1))))
  let o := st.2.2.zipIdx.map fun (o, d) =>
    fadd (fmul o a) (rne32v (chunkSum (ps.zip (toks.map fun k => k.1.v.getD d Val.zero))))
  (mn, l, o)

/-- The result of one query row: its outputs in FP32, the row flags NONFINITE_IN and EMPTY_ATTN, and the
first failed check. -/
structure AttnRow where
  out : List Elem
  exempt : Bool
  none : Bool
  viol : Option Capture
  deriving DecidableEq, Repr

/-- The scores of a query row with a fault of the silicon (R135). -/
def attnScored (a : Attn) (r : Nat) (q : List Val) (toks : List Tok) (fault : Option ArithFault) :
    List (Tok × Elem) :=
  toks.map fun k => (k, Elem.float (attnScore q k.k (fp32Val a.scale)) (match fault with
    | some f => if f.row = r ∧ f.col = 0x1000 + k.t then f.flip.toNat else 0
    | none => 0))

/-- The check of one score (R138); `none` passes. -/
def scoreCheck (a : Attn) (r e : Nat) (mq : Val) (k : Tok × Elem) : Option Capture :=
  let b := btol (rumul (vabs (fp32Val a.scale)) (rumul (normSum k.1.k) mq)) (2 * (a.d / 16) + 1) e
  if breaks k.2.val b then some { row := r, col := 0xFFF, y := k.2.bits, b := fp32Bits b, c := 0 } else none

/-- The largest magnitude of a query row, exactly (R138). -/
def queryMag (q : List Val) : Val := Val.ofRat (q.foldl (fun m v => max m (rabs v.rat)) 0)

/-- One query row (R135 to R138), with a fault of the silicon. A row with no visible token is the zero vector whatever its
query holds (R137; DESIGN CHOICE, log 113). -/
def attnRow (a : Attn) (r e : Nat) (q : List Val) (toks : List Tok) (fault : Option ArithFault) : AttnRow :=
  let flip := fun c => match fault with
    | some f => if f.row = r ∧ f.col = c then f.flip.toNat else 0
    | none => 0
  let sc := attnScored a r q toks fault
  let bad := (q.any (!·.isFinite) && !sc.isEmpty) || sc.any (fun k => !k.2.val.isFinite || k.1.k.any (!·.isFinite)
    || k.1.v.any (!·.isFinite))
  if bad then ⟨(List.range a.d).map fun _ => ⟨0x7FC00000, .nan, false⟩, true, false, none⟩
  else
    let pages := ((List.range a.np).map fun p => (sc.filter fun k => k.1.page == p).map
      fun k => (k.1, k.2.val)).filter (!·.isEmpty)
    let st := pages.foldl attnPage (.inf true, Val.zero, List.replicate a.d Val.zero)
    let out := st.2.2.zipIdx.map fun (o, d) =>
      Elem.float (if pages.isEmpty then Val.zero else fdiv o st.2.1) (flip d)
    let vmax := fun d => Val.ofRat (toks.foldl (fun m k => max m (rabs (k.v.getD d Val.zero).rat)) 0)
    let vo := firstSome (fun (y, d) =>
      let b := btol (vmax d) (6 * pages.length + 2) e
      if breaks y.val b then some { row := r, col := d, y := y.bits, b := fp32Bits b, c := 0 } else none) out.zipIdx
    let vs := firstSome (scoreCheck a r e (queryMag q)) sc
    ⟨out, false, pages.isEmpty, match vo with | some c => some c | none => vs⟩

/-- The query row r decoded. -/
def Attn.query (a : Attn) (x : Tile) (r : Nat) : List Val :=
  let w := Attn.width a.qf
  (decodeRow a.qf a.d (x.rdSpad (a.q + r * a.d * w) (a.d * w)) []).1

/-- The tokens of pages already read: for each page its format, its bytes and its token count. -/
def pageToks (d : Nat) (ps : List (Nat × Bytes × Nat)) : List Tok × Bool :=
  let rows := ps.zipIdx.flatMap fun ((fmt, b, n), p) => (List.range n).map fun u =>
    let k := pageRow fmt d false u b
    let v := pageRow fmt d true u b
    ((⟨p, 16 * p + u, k.1, v.1⟩ : Tok), k.2 || v.2)
  (rows.map (·.1), rows.any (·.2))

/-- An ATTN over pages already read, after any append (R134 to R138). -/
def attnRun (x : Tile) (a : Attn) (ps : List (Nat × Bytes × Nat)) (satf : Bool) (rng e : Nat)
    (fault : Option ArithFault) : OpResult :=
  let toks := pageToks a.d ps
  let rows := (List.range a.rows).map fun r =>
    let vis := toks.1.filter fun k => a.sees x r k.t
    let y := attnRow a r e (a.query x r) vis fault
    let cv := y.out.map fun o => if a.yf = 0 then (o.bits, 0) else cvtElem 1 satf none o.val
    (y, cv)
  let w := Attn.width a.yf
  let writes := rows.zipIdx.flatMap fun ((y, cv), r) =>
    (a.y + r * a.d * w, cv.flatMap fun c => toLE w c.1)
    :: (if a.flagen then [(a.flag + r, toLE 1 (2 * b2n y.exempt + 4 * b2n y.none
        + 8 * b2n (cv.any fun c => c.2 &&& afSat != 0)))] else [])
  let inf := rows.any (·.1.exempt) || (List.range a.rows).any fun r => (a.query x r).any (!·.isFinite)
  let flags := (if toks.2 then afSat else 0) ||| (if inf then afNonfinite else 0)
    ||| rows.foldl (fun f k => k.2.foldl (fun f c => f ||| c.2) f) 0
  ⟨writes, flags, rows.any (·.1.exempt), firstSome (fun k => k.1.viol) rows, rng⟩

/-! ## The vector unit (R142 to R145) -/

/-- One step of the vector unit from the operands of its formula (R143 to R145): an element step has the code of its
operation, 0x00 takes the operand as it stands, 0x10 and 0x11 are the quotient of SOFTMAX and the products of RMSNORM,
0x12 is the exponential of SOFTMAX. The tree steps are 0x01 and 0x06, the squares of RMSNORM 0x04, its r 0x0C. -/
def vecStep (fn : Nat) (o : List Val) : Val :=
  let a := o.getD 0 Val.zero
  let b := o.getD 1 Val.zero
  let c := o.getD 2 Val.zero
  match fn with
  | 0x01 => fadd a b
  | 0x02 => fsub a b
  | 0x03 => fmul a b
  | 0x04 => ffma a b c
  | 0x05 => fmin a b
  | 0x06 => fmax a b
  | 0x07 => fmax a Val.zero
  | 0x08 => fmul a (frecip (fadd (.fin false 1) (fexp a.neg)))
  | 0x09 => fexp a
  | 0x0A => frecip a
  | 0x0B => fsqrt a
  | 0x0C => frsqrt a
  | 0x0D => rne32v a
  | 0x10 => fdiv a b
  | 0x11 => fmul (fmul a b) c
  | 0x12 => fexp (fsub a b)
  | _ => a

/-- The element index that NBC_VSH_ELEM holds for a tree step or a final step (R207). -/
def finalElem : Nat := 0x1FFFFF

/-- A row of a vector operation in its cycles: its first element cycle and the cycles of a group, its first t cycle and
how many there are (R147); its tree steps, and which step gives its final result (R207). -/
structure RowCycles where
  row : Nat
  op : Nat
  m0 : Nat
  c : Nat
  m1 : Nat
  t : Nat
  trees : Nat
  last : Nat

def Vec.rowCycles (v : Vec) (row : Nat) : RowCycles :=
  let (c, t) := v.ct
  let n := ceilDiv v.len 32 * c
  { row := row, op := v.op, m0 := row * (n + t), c := c, m1 := row * (n + t) + n, t := t
    trees := if v.op = 0x10 then 62 else 31, last := if v.op = 0x10 then 61 else if v.op = 0x11 then 31 else 30 }

/-- The step of an element that its lane performs in a cycle of its group: the one step that most operations have; for
SOFTMAX and RMSNORM a free value (R207; log 123). -/
def RowCycles.stepIn (r : RowCycles) (i : Nat) : Nat :=
  if r.op = 0x10 ∨ r.op = 0x11 then Config.laneStep r.op i else 0

/-- Whether the shadow lane repeats a step (R207): the step that the element's lane performs in a cycle in which the
shadow repeats that lane, the tree steps from step m mod 31 on, and the final step. -/
def RowCycles.shadows (r : RowCycles) (elem step : Nat) : Bool :=
  if elem = finalElem then
    step == r.last || (List.range (r.t - 1)).any fun i => (r.m1 % 31 + i) % r.trees == step
  else (List.range r.c).any fun i => (r.m0 + elem / 32 * r.c + i) % 32 == elem % 32 && r.stepIn i == step

/-- A value with the capture of its step. -/
abbrev Stepped := Val × Option Capture

/-- A step that a fault of the silicon may hit: the lane's result, and the capture if the shadow lane differs. -/
def RowCycles.step (r : RowCycles) (fault : Option LaneFault) (elem step fn : Nat) (ops : List Val) : Stepped :=
  let v := vecStep fn ops
  match fault with
  | none => (v, none)
  | some f =>
    if f.row = r.row ∧ f.elem = elem ∧ f.step = step then
      let main := fp32Bits v ^^^ f.lane.toNat
      let shad := fp32Bits v ^^^ f.shadow.toNat
      (if f.lane = 0#32 then v else fp32Val main,
       if main ≠ shad ∧ r.shadows elem step then
         some { row := r.row, col := elem, y := main, b := shad, c := 0, fn := fn, ops := ops.map fp32Bits }
       else none)
    else (v, none)

/-- The first capture of two. -/
def orCapture (a b : Option Capture) : Option Capture := match a with | some c => some c | none => b

/-- The lane values of a reduction (R144): lane k mod 32 combines ascending k from the first. -/
def laneFold (step : Nat → Option Val → Val → Stepped) (l : List Val) : List (Option Val) × Option Capture :=
  l.zipIdx.foldl (fun acc (a, k) =>
    let r := step k (acc.1.getD (k % 32) none) a
    (acc.1.set (k % 32) (some r.1), orCapture acc.2 r.2)) (List.replicate 32 none, none)

/-- One level of the tree of R43, its steps numbered from `n`. -/
def treeLevel (f : Nat → Val → Val → Stepped) : Nat → List Val → List Stepped
  | n, a :: b :: r => f n a b :: treeLevel f (n + 1) r
  | _, r => r.map fun a => (a, none)

/-- The five levels over 32 lanes: 16, 8, 4, 2 and 1 steps. -/
def reduceTree (f : Nat → Val → Val → Stepped) (l : List Val) : Stepped :=
  let r := [0, 16, 24, 28, 30].foldl (fun (acc : List Val × Option Capture) n =>
    let k := treeLevel f n acc.1
    (k.map (·.1), orCapture acc.2 (firstSome (·.2) k))) (l, none)
  (r.1.headD Val.zero, r.2)

/-- The sum (`fn` 0x01) or maximum (0x06) of a row, or the sum of its squares: lane steps are step `p` of their
elements, tree steps count from `base`. -/
def RowCycles.reduce (r : RowCycles) (fault : Option LaneFault) (p base fn : Nat) (squares : Bool) (l : List Val) :
    Stepped :=
  let lanes := laneFold (fun k acc a =>
    if squares then r.step fault k p 0x04 [a, a, acc.getD Val.zero]
    else match acc with
      | none => r.step fault k p 0x00 [a]
      | some z => r.step fault k p fn [z, a]) l
  let empty : Val := if fn = 0x06 then .inf true else Val.zero
  let root := reduceTree (fun n a b => r.step fault finalElem (base + n) fn [a, b]) (lanes.1.map (·.getD empty))
  (root.1, orCapture lanes.2 root.2)

/-- One row of a vector operation: the FP32 results before any output conversion, and the capture of a faulty step.
`a`, `b`, `y` are the decoded elements. -/
def vecRow (v : Vec) (row : Nat) (fault : Option LaneFault) (a b y : List Val) : List Val × Option Capture :=
  let r := v.rowCycles row
  let each := fun (p fn : Nat) (a : List Val) (ops : Nat → Val → List Val) =>
    let rs := a.zipIdx.map fun (x, k) => r.step fault k p fn (ops k x)
    (rs.map (·.1), firstSome (·.2) rs)
  match v.op with
  | 0x0E =>
    let k := r.reduce fault 0 0 0x01 false a
    ([k.1], k.2)
  | 0x0F =>
    let k := r.reduce fault 0 0 0x06 false a
    ([k.1], k.2)
  | 0x10 =>
    let m := r.reduce fault 0 0 0x06 false a
    if m.1 = .inf true then (a.map fun _ => Val.zero, m.2)
    else
      let e := each 1 0x12 a fun _ x => [x, m.1]
      let l := r.reduce fault 2 31 0x01 false e.1
      let q := each 3 0x10 e.1 fun _ x => [x, l.1]
      (q.1, orCapture (orCapture m.2 e.2) (orCapture l.2 q.2))
  | 0x11 =>
    let ss := r.reduce fault 0 0 0x01 true a
    let z := fadd (fdiv ss.1 (Val.ofRat v.len)) (fp32Val v.eps)
    let k := r.step fault finalElem 31 0x0C [z]
    let ys := each 1 0x11 a fun k' x => [x, k.1, b.getD k' Val.zero]
    (ys.1, orCapture ss.2 (orCapture k.2 ys.2))
  | 0x04 => each 0 0x04 a fun k x => [x, b.getD k Val.zero, y.getD k Val.zero]
  | 0x07 => each 0 0x07 a fun _ x => [x, Val.zero]
  | _ => if v.usesB then each 0 v.op a fun k x => [x, b.getD k Val.zero] else each 0 v.op a fun _ x => [x]

/-- The bits of the FP32 or BF16 values of a run. -/
def plainRow (f l : Nat) (b : Bytes) : List Val := (decodeRow f l b []).1

/-- The flag of a non-finite element read (R56). -/
def nfFlag (vs : List Val) : Nat := if vs.any (!·.isFinite) then afNonfinite else 0

/-- A vector operation that is not empty (R142 to R145, R207). -/
def vecRun (x : Tile) (v : Vec) (satf : Bool) (rmode rng : Nat) (fault : Option LaneFault) : OpResult :=
  let stoch := stochMode v.rnd rmode
  (List.range v.rows).foldl (fun acc n =>
    let ra := decodeRow v.af v.len (x.rdSpad (v.a + n * v.as') v.aBytes)
      (if v.op = 0x0D then x.rdSpad (v.asc + n * recordBytes v.af v.len) (recordBytes v.af v.len) else [])
    let b := if !v.usesB then [] else if v.bscalar then List.replicate v.len (fp32Val v.imm)
      else plainRow 0 v.len (x.rdSpad (v.b + n * v.bs) (4 * v.len))
    let y := if v.op = 4 then plainRow 0 v.len (x.rdSpad (v.y + n * v.ys) (4 * v.len)) else []
    let r := vecRow v n fault ra.1 b y
    let src := if v.op = 0x0D then
        ra.1.zip r.1 |>.zipIdx.map fun ((d, m), k) => (match fault with
          | some f => if f.row = n ∧ f.elem = k ∧ f.step = 0 ∧ f.lane ≠ 0#32 then m else d
          | none => d)
      else r.1
    let raw := v.yf == 0 && v.op != 0x0D
    let cv := if raw then (⟨[], [], 0, acc.rng⟩ : Cvt) else cvtRun v.yf satf stoch src acc.rng
    let rsz := if v.op = 0x0D then recordBytes v.yf v.len else 0
    { writes := acc.writes
        ++ [(v.y + n * v.ys, if raw then src.flatMap (fun k => toLE 4 (fp32Bits k)) else cv.bytes v.yf)]
        ++ (if rsz = 0 then [] else [(v.ysc + n * rsz, cv.scales)])
      flags := acc.flags ||| ra.2 ||| nfFlag b ||| nfFlag y ||| cv.flags
      exempt := false
      viol := match acc.viol with | some c => some c | none => r.2
      rng := cv.rng }) ⟨[], 0, false, none, rng⟩

/-! ## Poison among inputs (R126, R442) -/

/-- Whether a line of `n` units at a stride carries poison. -/
def Tile.rowsPoisoned (x : Tile) (addr stride n size : Nat) : Bool :=
  (List.range n).any fun i => x.poisonedIn (addr + i * stride) size

def Matmul.poisoned (a : Matmul) (x : Tile) : Bool :=
  x.rowsPoisoned a.w a.ws a.m (packedBytes a.wf a.k)
    || x.rowsPoisoned a.x a.xs a.n (packedBytes a.xf a.k)
    || x.poisonedIn a.wsc (a.m * recordBytes a.wf a.k) || x.poisonedIn a.xsc (a.n * recordBytes a.xf a.k)
    || x.poisonedIn a.norm (8 * a.m) || (a.accin && x.rowsPoisoned a.y a.ys a.n (4 * a.m))

def Vec.poisoned (v : Vec) (x : Tile) : Bool :=
  x.rowsPoisoned v.a v.as' v.rows v.aBytes
    || (v.usesB && !v.bscalar && x.rowsPoisoned v.b v.bs v.rows (4 * v.len))
    || (v.op == 0x0D && x.poisonedIn v.asc (v.rows * recordBytes v.af v.len))
    || (v.op == 4 && x.rowsPoisoned v.y v.ys v.rows (4 * v.len))

def Attn.poisoned (a : Attn) (x : Tile) : Bool :=
  [a.regQ, a.regList, a.regK, a.regV, a.regMask x].any fun r => x.poisonedIn r.addr r.len

/-! ## Writing an operation's outputs -/

/-- A run put into a list in ascending address. -/
def insertRun (w : Nat × Bytes) : List (Nat × Bytes) → List (Nat × Bytes)
  | [] => [w]
  | k :: r => if w.1 < k.1 then w :: k :: r else k :: insertRun w r

/-- The output bytes in ascending address (R208). -/
def outBytes (ws : List (Nat × Bytes)) : Bytes := (ws.foldl (fun l w => insertRun w l) []).flatMap (·.2)

/-- Whether runs together write every byte of a line. -/
def wholeLine (ws : List (Nat × Bytes)) (l : Nat) : Bool :=
  (List.range 64).all fun i => ws.any fun w =>
    decide (w.1 ≤ l * 64 + i ∧ l * 64 + i < w.1 + w.2.length)

/-- One operation writes its outputs: each line takes the marker with poisoned inputs, and loses it when the
operation writes all of it without poison (R78, R126, R442). -/
def Tile.moveAll (x : Tile) (ws : List (Nat × Bytes)) (bad : Bool) : Tile :=
  let x := ws.foldl (fun x w => x.wrSpad w.1 w.2) x
  (ws.flatMap fun w => linesOf w.1 w.2.length).foldl (fun x l =>
    if bad then x.setPoison l else if wholeLine ws l then x.clrPoison l else x) x

end Sys2Proof.Machine
end

