-- ==== Sys2Proof/Machine/Flags.lean ====
section
/-! DEFINITION. The sticky flags of TA_AFLAGS (R56), the two random generators (R52 to R54, R57) and the
capture registers of the checks (R63, R68, R210). -/
namespace Sys2Proof.Machine

/-- Each flag of TA_AFLAGS with its bit in the model's flag words. -/
def aflagBits : List (Field × Nat) :=
  [(TA_AFLAGS_INT_OVF, 0), (TA_AFLAGS_NONFINITE_IN, 1), (TA_AFLAGS_SCALE_SIGN, 2),
   (TA_AFLAGS_KT_RSVD, 3), (TA_AFLAGS_CVT_NAN_ZERO, 4), (TA_AFLAGS_CVT_SAT, 5),
   (TA_AFLAGS_CVT_INF_NAN, 6)]

/-- Flags are set and stay set (R56). -/
def State.setFlags (s : State) (t bits : Nat) : State :=
  aflagBits.foldl (fun s f => if bit bits f.2 then s.wr f.1 t 1 else s) s

/-- A seed loads; zero loads 1 (R54). -/
def seedOf (v : Nat) : Nat := if v % 2 ^ 32 = 0 then 1 else v % 2 ^ 32

/-- Operations of the Tensor Array that have completed since the tile reset. -/
def Tile.taDone (x : Tile) : Nat := x.taCount - x.taQ.length - x.taRun.toList.length

/-- Operations of the vector unit that have completed since the tile reset. -/
def Tile.vecDone (x : Tile) : Nat := x.vecCount - x.vecQ.length - x.vecRun.toList.length

/-- Seed writes take effect once every conversion issued before them has completed (R54). -/
def State.applySeeds (s : State) (t : Nat) : State :=
  let x := s.tile t
  let ta := x.seedTa.filter fun k => decide (k.1 ≤ x.taDone)
  let vec := x.seedVec.filter fun k => decide (k.1 ≤ x.vecDone)
  let s := s.modTile t fun x => { x with
    seedTa := x.seedTa.filter fun k => !decide (k.1 ≤ x.taDone)
    seedVec := x.seedVec.filter fun k => !decide (k.1 ≤ x.vecDone) }
  let s := match ta.getLast? with
    | some k => s.wr TA_SRNG_TA_STATE t (seedOf k.2)
    | none => s
  match vec.getLast? with
  | some k => s.wr TA_SRNG_VEC_STATE t (seedOf k.2)
  | none => s

/-- A failed NBC check counts, and is captured unless an earlier one stands (R62, R63, R68). -/
def State.captureViol (s : State) (t num : Nat) (c : Capture) : State :=
  let s := s.cnt NBC_VIOLATIONS_COUNT t 1
  if s.rdb NBC_STATUS_VIOL t then s
  else
    let s := (s.wr NBC_STATUS_VIOL t 1).wr NBC_VIOL_SEQ_SEQ t num
    let s := (s.wr NBC_VIOL_POS_ROW t c.row).wr NBC_VIOL_POS_COL t c.col
    ((s.wr NBC_VIOL_Y_Y t c.y).wr NBC_VIOL_B_BTOL t c.b).wr NBC_VIOL_C_C t c.c

/-- A shadow-lane mismatch is captured unless an earlier one stands (R207, R210). -/
def State.captureShadow (s : State) (t num : Nat) (c : Capture) : State :=
  if s.rdb NBC_VSH_STAT_MISMATCH t then s
  else
    let s := (s.wr NBC_VSH_STAT_MISMATCH t 1).wr NBC_VSH_SEQ_SEQ t num
    let s := (s.wr NBC_VSH_ELEM_ELEM t c.col).wr NBC_VSH_ROW_ROW t c.row
    let s := (s.wr NBC_VSH_MAIN_MAIN t c.y).wr NBC_VSH_SHAD_SHAD t c.b
    [0, 1, 2].foldl (fun s n => s.wr NBC_VSH_OP_OP (3 * t + n) (c.ops.getD n 0)) s

/-- A failed pair comparison is captured unless an earlier one stands (R208, R210). -/
def State.captureDual (s : State) (t unit msg lag seq : Nat) : State :=
  if s.rdb NBC_DUAL_MISMATCH t then s
  else
    let s := (s.wr NBC_DUAL_MISMATCH t 1).wr NBC_DUAL_UNIT t unit
    ((s.wr NBC_DUAL_MSG t msg).wr NBC_DUAL_LAG t lag).wr NBC_DUAL_SEQ_SEQ t seq

/-- The drover clears a capture of the tile once the checking procedure of the last detection of its kind has ended
(R67, R210); a failed comparison stands on both tiles of a pair, and is cleared on both. -/
def State.clearCaptures (s : State) (t : Nat) (twin : Option Nat) : State :=
  let open' := fun (k u : Nat) => (s.tile u).detections.any (·.trigger == k)
  let s := if open' 0 t then s else s.wr NBC_STATUS_VIOL t 0
  let s := if open' 1 t then s else s.wr NBC_VSH_STAT_MISMATCH t 0
  if (t :: twin.toList).any (open' 2) then s else s.each (t :: twin.toList) fun s u => s.wr NBC_DUAL_MISMATCH u 0

end Sys2Proof.Machine
end

