-- ==== Sys2Proof/Machine/Tensor.lean ====
section
/-! DEFINITION. The Tensor Array as an engine: issue (R83), start under the hobble pause and the fifteen open
checks (R67, R83), MATMUL and ATTN with their outputs (R116 to R140), completion (R84). -/
namespace Sys2Proof.Machine

/-- The island's units may start and finish operations (R107, R295). -/
def Tile.unitsGo (x : Tile) : Bool := !x.clkStop && !x.off && !x.haltRail

/-- Bound mode (R65). -/
def State.boundMode (s : State) (t : Nat) : Bool := !s.rdb NBC_CTRL_MODE t

/-- A new operation (R83, R84, R85, R425). -/
def newOp (vec : Bool) (num cyc pc tol : Nat) (desc : Bytes) : UnitOp :=
  { num := num, desc := desc, tol := tol, start := cyc, ready := cyc, pc := pc, written := false, done := none,
    exempt := false, viol := none, sig := 0, cls := opClass vec desc, fmt := opClass vec desc, epoch := 0,
    rng := 0, paired := false }

/-- An operation completes: its unit is free, the watchdog reloads, seeds written before it load (R54, R84,
R108). -/
def State.afterOp (s : State) (t : Nat) : State := ((s.wdogReload t).applySeeds t).setOpen t

/-- A zero-dimension MATMUL completes at once, its checks passed (R121). -/
def State.emptyTa (s : State) (t : Nat) : State := (s.modTile t fun x => x.count 3 1).afterOp t

/-- KX.TAISSUE once it can go on: it consumes a number, and queues or refuses (R83, R113, R121). -/
def State.issueTa (s : State) (t rd addr : Nat) : State :=
  let x := s.tile t
  let num := x.taCount
  let desc := x.rdSpad addr 64
  let s := s.modTile t fun x => { x with taCount := x.taCount + 1, wait := none }
  if addr % 64 ≠ 0 ∨ spadSize < addr + 64 ∨ taRefused x desc then s.tileFault t 0x18 (num % 2 ^ 32)
  else if taEmpty desc ∧ x.taQ.isEmpty ∧ x.taRun.isNone then (s.emptyTa t).retire t rd (num % 2 ^ 32) 4
  else
    let op := newOp false num (s.milliCycles t) x.pc.toNat (s.rd NBC_TOL_EXTRA t) desc
    (s.modTile t fun x => { x with taQ := x.taQ ++ [op] }).retire t rd (num % 2 ^ 32) 4

/-- Row KX_TAISSUE (R83). -/
def execKxTaissue (t : TileId) (rd rs1 : XReg) (s : State) : Out :=
  let s := s.kxIssue t (kxBits 0x0B 0 0 rd rs1 0)
  let x := s.tile t
  if !s.runs t then .next s
  else if 8 ≤ x.taQ.length then
    .next (s.modTile t fun x => { x with wait := some (.taIssue rd (x.xr rs1)) })
  else .next (s.issueTa t rd (x.xr rs1))

/-- KX.VISSUE once it can go on (R83, R142, R146). -/
def State.issueVec (s : State) (t rd addr : Nat) : State :=
  let x := s.tile t
  let num := x.vecCount
  let desc := x.rdSpad addr 64
  let s := s.modTile t fun x => { x with vecCount := x.vecCount + 1, wait := none }
  if addr % 64 ≠ 0 ∨ spadSize < addr + 64 ∨ Vec.refused desc then s.tileFault t 0x18 (num % 2 ^ 32)
  else if vecEmpty desc ∧ x.vecQ.isEmpty ∧ x.vecRun.isNone then
    ((s.modTile t fun x => x.count 5 1).afterOp t).retire t rd (num % 2 ^ 32) 4
  else
    let op := newOp true num (s.milliCycles t) x.pc.toNat 0 desc
    (s.modTile t fun x => { x with vecQ := x.vecQ ++ [op] }).retire t rd (num % 2 ^ 32) 4

/-- Row KX_VISSUE (R83). -/
def execKxVissue (t : TileId) (rd rs1 : XReg) (s : State) : Out :=
  let s := s.kxIssue t (kxBits 0x0B 0 1 rd rs1 0)
  let x := s.tile t
  if !s.runs t then .next s
  else if 8 ≤ x.vecQ.length then
    .next (s.modTile t fun x => { x with wait := some (.vecIssue rd (x.xr rs1)) })
  else .next (s.issueVec t rd (x.xr rs1))

/-- Row TAISSUE_STALL_END (R83): the stalled issue goes on once the oldest queued operation has started. -/
def execTaissueStallEnd (t : TileId) (s : State) : Out :=
  let x := s.tile t
  if !s.waits t then .next s
  else match x.wait with
    | some (.taIssue rd addr) => .next (if x.taQ.length < 8 then s.issueTa t rd addr else s)
    | some (.vecIssue rd addr) => .next (if x.vecQ.length < 8 then s.issueVec t rd addr else s)
    | _ => .next s

/-- Whether a number counts as issued on a unit with `n` operations issued (R84). -/
def issued (n v : Nat) : Bool :=
  let d := ((n + 2 ^ 32 - 1) % 2 ^ 32 + 2 ^ 32 - v % 2 ^ 32) % 2 ^ 32
  decide (0 < n ∧ d < 2 ^ 31 ∧ d < n)

/-- Whether every operation up to a number has completed. -/
def completed (n done v : Nat) : Bool :=
  let d := ((n + 2 ^ 32 - 1) % 2 ^ 32 + 2 ^ 32 - v % 2 ^ 32) % 2 ^ 32
  decide (n - d ≤ done)

/-- Row KX_TAWAIT (R84). -/
def execKxTawait (t : TileId) (rd rs1 : XReg) (s : State) : Out :=
  let s := s.kxIssue t (kxBits 0x0B 0 2 rd rs1 0)
  let x := s.tile t
  let v := x.xr rs1 % 2 ^ 32
  if !s.runs t then .next s
  else if !issued x.taCount v then .next (s.retire t rd (statusWord kxBadArg 0) 4)
  else if completed x.taCount x.taDone v then .next (s.retire t rd (statusWord kxOk 0) 4)
  else .next (s.modTile t fun x => { x with wait := some (.taOp rd v) })

/-- Row KX_VWAIT (R84). -/
def execKxVwait (t : TileId) (rd rs1 : XReg) (s : State) : Out :=
  let s := s.kxIssue t (kxBits 0x0B 0 3 rd rs1 0)
  let x := s.tile t
  let v := x.xr rs1 % 2 ^ 32
  if !s.runs t then .next s
  else if !issued x.vecCount v then .next (s.retire t rd (statusWord kxBadArg 0) 4)
  else if completed x.vecCount x.vecDone v then .next (s.retire t rd (statusWord kxOk 0) 4)
  else .next (s.modTile t fun x => { x with wait := some (.vecOp rd v) })

/-- Row OP_WAIT_RETURN (R84). -/
def execOpWaitReturn (t : TileId) (s : State) : Out :=
  let x := s.tile t
  let back := fun (rd : Nat) => (s.modTile t fun x => { x with wait := none }).retire t rd (statusWord kxOk 0) 4
  if !s.waits t then .next s
  else match x.wait with
    | some (.taOp rd v) => .next (if completed x.taCount x.taDone v then back rd else s)
    | some (.vecOp rd v) => .next (if completed x.vecCount x.vecDone v then back rd else s)
    | _ => .next s

/-! ## Starting -/

/-- Island cycles of the hobble pause that the front operation, issued at a cycle count, still owed when it could have
started. -/
def State.pauseOwed (s : State) (t issuedAt : Nat) : Nat :=
  match (s.tile t).taEnd with
  | none => 0
  | some e => s.rd TILE_HOBBLE_PAUSE t - (max issuedAt e - e) / 1000

/-- The pause after the previous operation's end is over, in cycles of the island clock (R83). -/
def State.pauseOver (s : State) (t : Nat) : Bool :=
  match (s.tile t).taEnd with
  | none => true
  | some e => decide (e + 1000 * s.rd TILE_HOBBLE_PAUSE t ≤ s.milliCycles t)

/-- The cycle count at which a Tensor Array operation that starts now has written its last output (R125, R140). -/
def State.taReady (s : State) (t : Nat) (d : Bytes) : Nat :=
  s.milliCycles t + (if fld d 0 1 = 1 then 1000 * (Matmul.of d).cycles
    else ceilDiv ((Attn.of d).work (s.tile t) (s.mhz t)) 1000)

/-- The format class of an operation's busy cycles (R337). That of an ATTN is the one of its pages: 4-bit where every one is KV4, else
8-bit (DESIGN CHOICE, log 44). -/
def fmtClass (x : Tile) (d : Bytes) : Nat :=
  if fld d 0 1 = 1 then opClass false d
  else if ((Attn.of d).pages x).all fun b => fld b 4 1 % 4 == 2 then clsMatmul4 else clsMatmul8

/-- The oldest queued operation starts when the array is free, its pause is over and fewer than fifteen
operations have checks open (R67, R83, R114). A page list that an issued ATTN could no longer be accepted
with refuses it here (R132). -/
def State.taStart (s : State) (t : Nat) : State :=
  let x := s.tile t
  match x.taQ with
  | [] => s
  | op :: q =>
    if !x.unitsGo ∨ x.taRun.isSome then s
    else if taEmpty op.desc then (s.modTile t fun x => { x with taQ := q }).emptyTa t
    else if 15 ≤ x.taOpen.length ∨ !s.pauseOver t then s
    else if taRefused x op.desc then
      (s.modTile t fun x => { x with taQ := q }).tileFault t 0x18 (op.num % 2 ^ 32) (some op.pc)
    else
      let op' := { op with
        start := s.milliCycles t, ready := s.taReady t op.desc, fmt := fmtClass x op.desc
        epoch := s.rd TILE_PG_EPOCH_EPOCH t }
      (s.modTile t fun x => { x with taQ := q, taRun := some op' }.count 10 (s.pauseOwed t op.start)).setOpen t

/-- Row TA_OP_START (R83). -/
def execTaOpStart (t : TileId) (s : State) : Out := .next (s.taStart t)

/-- Row NBC_OPEN_WAIT_END (R67): the operation that waited for room among the open checks starts. -/
def execNbcOpenWaitEnd (t : TileId) (s : State) : Out := .next (s.taStart t)

/-! ## Computing and writing -/

/-- Whether a line of a page holds a byte of a token below a count (R127). -/
def lineUsed (fmt d n i : Nat) : Bool :=
  (List.range n).any fun u => [false, true].any fun v =>
    let p := tokenAt fmt d v u
    decide (p.1 < 64 * i + 64 ∧ 64 * i < p.1 + p.2.1)
      || decide (p.2.2.1 < 64 * i + 64 ∧ 64 * i < p.2.2.1 + p.2.2.2)

/-- A page read through the channel under its list entry's key slot: the lines that hold a present token
(R127, R257). -/
def State.readPage (s : State) (t d : Nat) (p : PageDesc) : State × Bytes × Bool :=
  (List.range (pageLines p.fmt d)).foldl (fun acc i =>
    if lineUsed p.fmt d p.count i then
      let r := acc.1.readLine t (p.addr / 64 + i) p.kslot
      (r.1, acc.2.1 ++ r.2.data, acc.2.2 || r.2.poison)
    else (acc.1, acc.2.1 ++ zeros 64, acc.2.2)) (s, [], false)

/-- The pages of an ATTN's list read in order. -/
def State.readPages (s : State) (t : Nat) (a : Attn) : State × List (Nat × Bytes × Nat) × Bool :=
  (a.pages (s.tile t)).foldl (fun acc b =>
    let p := PageDesc.ofBytes b
    let r := acc.1.readPage t a.d p
    (r.1, acc.2.1 ++ [(p.fmt, r.2.1, p.count)], acc.2.2 || r.2.2)) (s, [], false)

/-- The lines of a run of column bytes poisoned. -/
def State.poisonCol (s : State) (t addr len : Nat) : State :=
  s.each (linesOf addr len) fun s l => s.writePoison t l

/-- Scratchpad offset of the last page descriptor of an ATTN's list. -/
def Attn.lastDesc (a : Attn) : Nat := a.plist + 16 * (a.np - 1)

/-- The lines that an append writes into the last page, and the list's line with the new count, poisoned (R126). `p` is
the descriptor before the append. -/
def State.appendPoison (s : State) (t : Nat) (a : Attn) (p : PageDesc) : State :=
  let s := (List.range a.qt).foldl (fun s i => [false, true].foldl (fun s v =>
    let k := tokenAt p.fmt a.d v (p.count + i)
    (s.poisonCol t (p.addr + k.1) k.2.1).poisonCol t (p.addr + k.2.2.1) k.2.2.2) s) s
  s.modTile t fun x => x.setPoison (a.lastDesc / 64)

/-- A new key (`v` false) or value row, quantised: its codes, its scales, and the flags of reading and quantising it (R56,
R129). -/
def Attn.newRow (a : Attn) (x : Tile) (fmt i : Nat) (v : Bool) : Bytes × Bytes × Nat :=
  let k := decodeRow 0 a.d (x.rdSpad ((if v then a.vnew else a.knew) + i * a.d * 4) (a.d * 4)) []
  let q := quantRow fmt k.1
  (q.1, q.2.1, q.2.2 ||| k.2)

/-- What an APPEND writes into a page with this descriptor, by offset in the page (R133). -/
def Attn.pageRuns (a : Attn) (x : Tile) (p : PageDesc) : List (Nat × Bytes) :=
  (List.range a.qt).flatMap fun i => [false, true].flatMap fun v =>
    let q := a.newRow x p.fmt i v
    let k := tokenAt p.fmt a.d v (p.count + i)
    [(k.1, q.1), (k.2.2.1, q.2.1)]

/-- The token count that an APPEND writes into the page list (R133). -/
def Attn.countRun (a : Attn) (p : PageDesc) : Nat × Bytes := (a.lastDesc + 5, toLE 1 (p.count + a.qt))

/-- The output signature of an operation (R208): the bytes it writes into the scratchpad in ascending address, then the
bytes that an appending ATTN writes into the column (DESIGN CHOICE, log 147: R208 orders no two address spaces). -/
def opSig (spad col : List (Nat × Bytes)) : Nat := crc64 (outBytes spad ++ outBytes col)

/-- APPEND: the new key and value rows quantised into the last page, and its count raised (R129, R133). -/
def State.attnAppend (s : State) (t : Nat) (a : Attn) (bad : Bool) : State × Nat :=
  let x := s.tile t
  let p := PageDesc.ofBytes (x.rdSpad a.lastDesc 16)
  let put := fun (s : State) (w : Nat × Bytes) => if bad then s else s.mergeCol t p.kslot 6 (p.addr + w.1) w.2
  let flags := (List.range a.qt).foldl (fun f i => f ||| (a.newRow x p.fmt i false).2.2 ||| (a.newRow x p.fmt i true).2.2) 0
  let s := ((a.pageRuns x p).foldl put s).modTile t fun x => x.wrSpad (a.countRun p).1 (a.countRun p).2
  (if bad then s.appendPoison t a p else s, flags)

/-- The running operation's result goes to the scratchpad, TA_AFLAGS and the output-stage generator. Poisoned
inputs poison every output line and close the checks as passed (R126). `count` and `col` are what an APPEND wrote before. -/
def State.taPut (s : State) (t : Nat) (op : UnitOp) (r : OpResult) (bad : Bool)
    (count : List (Nat × Bytes) := []) (col : List (Nat × Bytes) := []) : State :=
  let rng := s.rd TA_SRNG_TA_STATE t
  let s := (s.setFlags t r.flags).wr TA_SRNG_TA_STATE t r.rng
  s.modTile t fun x => { x.moveAll r.writes bad with
    taRun := some { op with
      written := true, exempt := r.exempt, viol := if bad then none else r.viol
      sig := opSig (r.writes ++ count) col, rng := rng } }

/-- The running MATMUL computes and writes. TA_ARITH holds for the whole operation as it stands here (DESIGN CHOICE, log
110). -/
def State.matmulWrite (s : State) (t : Nat) (op : UnitOp) (fault : Option ArithFault) : State :=
  let x := s.tile t
  let a := Matmul.of op.desc
  let r := matmulRun x a (s.rdb TA_ARITH_SATF t) (s.rd TA_ARITH_RMODE t) (s.rd TA_SRNG_TA_STATE t) op.tol fault
  s.taPut t op r (a.poisoned x)

/-- The running ATTN appends, reads its pages, computes and writes. -/
def State.attnWrite (s : State) (t : Nat) (op : UnitOp) (fault : Option ArithFault) : State :=
  let a := Attn.of op.desc
  let bad := a.poisoned (s.tile t)
  let d := PageDesc.ofBytes ((s.tile t).rdSpad a.lastDesc 16)
  let w := if a.append then s.attnAppend t a bad else (s, 0)
  let p := w.1.readPages t a
  let p := (if a.append && !bad && p.2.2 then p.1.appendPoison t a d else p.1, p.2)
  let r := attnRun (p.1.tile t) a p.2.1 (s.rdb TA_ARITH_SATF t) (s.rd TA_SRNG_TA_STATE t) op.tol fault
  if a.append then p.1.taPut t op { r with flags := r.flags ||| w.2 } (bad || p.2.2) [a.countRun d] (a.pageRuns (s.tile t) d)
  else p.1.taPut t op r (bad || p.2.2)

/-- A line of a page that an ATTN reads or appends to is held (R238). -/
def State.attnHeld (s : State) (t : Nat) (a : Attn) : Bool :=
  (a.pages (s.tile t)).any fun b =>
    let p := PageDesc.ofBytes b
    s.rangeHeld t (p.addr / 64) (pageLines p.fmt a.d)

/-- The running operation of the Tensor Array writes its outputs, or waits behind the input guard (R206).
`opc` is the operation that the row names. -/
def State.taWrite (s : State) (t opc : Nat) (fault : Option ArithFault) : State :=
  let x := s.tile t
  match x.taRun with
  | none => s
  | some op =>
    if op.written ∨ fld op.desc 0 1 ≠ opc ∨ !x.unitsGo ∨ (opc = 2 ∧ s.attnHeld t (Attn.of op.desc)) then s
    else if (taOutputs op.desc).any (fun r => x.guards r (some (false, op.num))) then
      if x.guarded.any (fun g => match g.2 with | .taOut _ => true | _ => false) then s
      else s.modTile t fun x => { x with guarded := x.guarded ++ [(s.now, .taOut fault)] }
    else if opc = 1 then s.matmulWrite t op fault else s.attnWrite t op fault

/-- Row MATMUL (R116). -/
def execMatmul (t : TileId) (fault : Option ArithFault) (s : State) : Out := .next (s.taWrite t 1 fault)

/-- Row ATTN (R136). -/
def execAttn (t : TileId) (fault : Option ArithFault) (s : State) : Out := .next (s.taWrite t 2 fault)

/-- Row TA_OP_COMPLETE (R84): no earlier than R125 or R140 gives; its checks stay open (R67); in Dual mode its
signature goes to the pair's comparison (R208). -/
def execTaOpComplete (t : TileId) (s : State) : Out :=
  let x := s.tile t
  match x.taRun with
  | none => .next s
  | some op =>
    if !op.written ∨ s.milliCycles t < op.ready ∨ !x.unitsGo then .next s
    else
      let busy := (s.milliCycles t - op.start) / 1000
      let sig : List DualSig := if s.boundMode t then [] else [⟨0, op.num, op.sig, s.now, some op⟩]
      let s := (s.bookCycles t op busy).modTile t fun x => { x with
        taRun := none, taOpen := x.taOpen ++ [{ op with done := some s.now }], taEnd := some (s.milliCycles t)
        dual := x.dual ++ sig }.count 3 1
      .next (s.afterOp t)

end Sys2Proof.Machine
end

