-- ==== Sys2Proof/Machine/Vector.lean ====
section
/-! DEFINITION. The vector unit as an engine (R83, R114, R142 to R147, R207, R442): start, one meaning per
operation, completion. -/
namespace Sys2Proof.Machine

/-- The oldest queued vector operation starts when the unit is free (R83, R114). An empty one completes at
once (R142). -/
def State.vecStart (s : State) (t : Nat) : State :=
  let x := s.tile t
  match x.vecQ with
  | [] => s
  | op :: q =>
    if !x.unitsGo ∨ x.vecRun.isSome then s
    else if vecEmpty op.desc then (s.modTile t fun x => { x with vecQ := q }.count 5 1).afterOp t
    else
      let op' := { op with start := s.milliCycles t, ready := s.milliCycles t + 1000 * (Vec.of op.desc).cycles }
      s.modTile t fun x => { x with vecQ := q, vecRun := some op' }

/-- Row VECTOR_OP_START (R83). -/
def execVectorOpStart (t : TileId) (s : State) : Out := .next (s.vecStart t)

/-- The running vector operation computes and writes. A mismatch of the shadow lane, in Bound mode and without
poison among its inputs, is captured and detected (R207, R442). -/
def State.vecPut (s : State) (t : Nat) (op : UnitOp) (fault : Option LaneFault) : State :=
  let x := s.tile t
  let v := Vec.of op.desc
  let bad := v.poisoned x
  let r := vecRun x v (s.rdb TA_ARITH_SATF t) (s.rd TA_ARITH_RMODE t) (s.rd TA_SRNG_VEC_STATE t) fault
  let viol := if bad ∨ !s.boundMode t then none else r.viol
  let op := { op with written := true, viol := viol, sig := crc64 (outBytes r.writes), rng := s.rd TA_SRNG_VEC_STATE t }
  let s := (s.setFlags t r.flags).wr TA_SRNG_VEC_STATE t r.rng
  let s := s.modTile t fun x => { x.moveAll r.writes bad with vecRun := some op }
  match viol with
  | none => s
  | some c => (s.captureShadow t op.num c).detect t 1 (some op) 0

/-- The running vector operation, of the operation code that a row names, writes its outputs, or waits behind
the input guard (R206). -/
def State.vecWrite (s : State) (t opc : Nat) (fault : Option LaneFault) : State :=
  let x := s.tile t
  match x.vecRun with
  | none => s
  | some op =>
    if op.written ∨ fld op.desc 0 1 ≠ opc ∨ !x.unitsGo then s
    else if (vecOutputs op.desc).any (fun r => x.guards r (some (true, op.num))) then
      if x.guarded.any (fun g => match g.2 with | .vecOut _ => true | _ => false) then s
      else s.modTile t fun x => { x with guarded := x.guarded ++ [(s.now, .vecOut fault)] }
    else s.vecPut t op fault

/-- Row ADD (R143). -/
def execAdd (t : TileId) (fault : Option LaneFault) (s : State) : Out := .next (s.vecWrite t 0x01 fault)

/-- Row SUB (R143). -/
def execSub (t : TileId) (fault : Option LaneFault) (s : State) : Out := .next (s.vecWrite t 0x02 fault)

/-- Row MUL (R143). -/
def execMul (t : TileId) (fault : Option LaneFault) (s : State) : Out := .next (s.vecWrite t 0x03 fault)

/-- Row FMA (R143). -/
def execFma (t : TileId) (fault : Option LaneFault) (s : State) : Out := .next (s.vecWrite t 0x04 fault)

/-- Row MIN (R143). -/
def execMin (t : TileId) (fault : Option LaneFault) (s : State) : Out := .next (s.vecWrite t 0x05 fault)

/-- Row MAX (R143). -/
def execMax (t : TileId) (fault : Option LaneFault) (s : State) : Out := .next (s.vecWrite t 0x06 fault)

/-- Row RELU (R143). -/
def execRelu (t : TileId) (fault : Option LaneFault) (s : State) : Out := .next (s.vecWrite t 0x07 fault)

/-- Row SILU (R143). -/
def execSilu (t : TileId) (fault : Option LaneFault) (s : State) : Out := .next (s.vecWrite t 0x08 fault)

/-- Row EXP (R143). -/
def execExp (t : TileId) (fault : Option LaneFault) (s : State) : Out := .next (s.vecWrite t 0x09 fault)

/-- Row RECIP (R143). -/
def execRecip (t : TileId) (fault : Option LaneFault) (s : State) : Out := .next (s.vecWrite t 0x0A fault)

/-- Row SQRT (R143). -/
def execSqrt (t : TileId) (fault : Option LaneFault) (s : State) : Out := .next (s.vecWrite t 0x0B fault)

/-- Row RSQRT (R143). -/
def execRsqrt (t : TileId) (fault : Option LaneFault) (s : State) : Out := .next (s.vecWrite t 0x0C fault)

/-- Row CVT (R143). -/
def execCvt (t : TileId) (fault : Option LaneFault) (s : State) : Out := .next (s.vecWrite t 0x0D fault)

/-- Row SUM (R144). -/
def execSum (t : TileId) (fault : Option LaneFault) (s : State) : Out := .next (s.vecWrite t 0x0E fault)

/-- Row MAXR (R144). -/
def execMaxr (t : TileId) (fault : Option LaneFault) (s : State) : Out := .next (s.vecWrite t 0x0F fault)

/-- Row SOFTMAX (R145). -/
def execSoftmax (t : TileId) (fault : Option LaneFault) (s : State) : Out := .next (s.vecWrite t 0x10 fault)

/-- Row RMSNORM (R145). -/
def execRmsnorm (t : TileId) (fault : Option LaneFault) (s : State) : Out := .next (s.vecWrite t 0x11 fault)

/-- Row VECTOR_OP_COMPLETE (R147). -/
def execVectorOpComplete (t : TileId) (s : State) : Out :=
  let x := s.tile t
  match x.vecRun with
  | none => .next s
  | some op =>
    if !op.written ∨ s.milliCycles t < op.ready ∨ !x.unitsGo then .next s
    else
      let sig : List DualSig := if s.boundMode t then [] else [⟨1, op.num, op.sig, s.now, some op⟩]
      let s := s.modTile t fun x => { x with vecRun := none, dual := x.dual ++ sig }.count 5 1
      .next (s.afterOp t)

end Sys2Proof.Machine
end

