-- ==== Sys2Proof/Machine/Messages.lean ====
section
/-! DEFINITION. Messages between tiles and toward the outside (R91 to R103), the credits of their channels
(R93, R94, R443), and the delivery into a receive ring (R95, R99). -/
namespace Sys2Proof.Machine

/-- The unit number of a channel's registers. -/
def chanOf (t ch : Nat) : Nat := 16 * t + ch

/-- Endpoint of a welt port. -/
def isPort (e : Nat) : Bool := decide (0x400 ≤ e ∧ e < 0x408)

/-! ## Dual pairs (R208) -/

/-- The tile is the twin of a Dual pair. -/
def State.isTwin (s : State) (t : Nat) : Bool :=
  match s.jobOf t with
  | some j => j.twins.contains t
  | none => false

/-- The other tile of a Dual pair. -/
def State.partnerOf (s : State) (t : Nat) : Option Nat := (s.jobOf t).bind (·.partner t)

/-- An endpoint as the program of a tile means it: a twin's tile endpoints are their twins. -/
def State.twinView (s : State) (t e : Nat) : Nat :=
  if e < 1024 ∧ s.isTwin t then
    match s.jobOf t with
    | some j => if j.tiles.contains e then (j.partner e).getD e else e
    | none => e
  else e

/-- The source endpoint that a receiver sees: the primary stands for its twin. -/
def State.shownSrc (s : State) (e : Nat) : Nat :=
  if e < 1024 ∧ s.isTwin e then (s.partnerOf e).getD e else e

/-- What arrives for a primary from outside its job goes to its twin as well. -/
def State.copies (s : State) (m : Msg) : List Msg :=
  match s.partnerOf m.dst with
  | some u => if s.isTwin m.dst then [m] else [m, { m with dst := u }]
  | none => [m]

/-! ## Channel registers -/

def State.slotSize (s : State) (t ch : Nat) : Nat := 128 * 2 ^ s.rd TILE_RXC_RING_SLOTSZ (chanOf t ch)
def State.rxMaxlen (s : State) (t ch : Nat) : Nat := min (s.slotSize t ch - 64) 4096
def Tile.rxGenOf (x : Tile) (ch : Nat) : Nat := (x.rxGen.find ch).getD 0
def Tile.txGenOf (x : Tile) (ch : Nat) : Nat := (x.txGen.find ch).getD 0

/-! ## Credits (R93, R94, R443) -/

/-- The credits that the drover holds for an ingest channel (R93). -/
def State.drvGrant (s : State) (t ch : Nat) : Option Credit :=
  s.drvGrants.find? fun c => c.src == t && c.ch == ch

def State.setDrvGrant (s : State) (c : Credit) : State :=
  { s with drvGrants := s.drvGrants.filter (fun k => !(k.src == c.src && k.ch == c.ch)) ++ [c] }

/-- A credit, grant or revoke reaches its end: a send channel over the mesh, a port's link layer, or the drover (R93, R372).
`ch` is the receive channel. -/
def State.carry (s : State) (ch : Nat) (c : Credit) : State :=
  if c.dst < 1024 then { s with credits := s.credits ++ [c] }
  else if isPort c.dst then
    s.sendGrant (c.dst - 0x400) (if c.kind = .revoke then 2 else if c.kind = .discard then 3 else 1)
      c.src ch c.ch c.n c.maxlen c.gen
  else
    match c.kind, s.drvGrant c.src ch with
    | .grant, _ => s.setDrvGrant ⟨.grant, c.src, c.srcJob, 0x410, ch, c.n, c.maxlen, c.gen⟩
    | .revoke, some g => s.setDrvGrant { g with n := 0 }
    | _, some g => if g.gen = c.gen then s.setDrvGrant { g with n := g.n + c.n } else s
    | _, none => s

/-- It enters the mesh, or waits while injection is stopped (R102). -/
def State.inject (s : State) (ch : Nat) (c : Credit) : State :=
  if s.meshStop then { s with creditQ := s.creditQ ++ [(ch, c)] } else s.carry ch c

/-- Injection goes on: what waited enters the mesh, in order (R102, R443). -/
def State.injectWaiting (s : State) : State :=
  s.creditQ.foldl (fun s k => s.carry k.1 k.2) { s with meshStop := false, creditQ := [] }

/-- A receive channel sends a grant, a freed-slot credit or a revoke to its source (R93, R94, R97, R372). A
twin's channel toward the drover or a port leaves that to its primary (R208). -/
def State.sendCredit (s : State) (kind : CreditKind) (t ch n gen : Nat) : State :=
  let k := chanOf t ch
  let src := s.rd TILE_RXC_SRC_SRC k
  let sch := s.rd TILE_RXC_SRC_SCH k
  let job := s.rd TILE_JOB_JOB t
  let ml := s.rxMaxlen t ch
  if s.isTwin t ∧ isPort src then s
  else s.inject ch ⟨kind, t, job, if src < 1024 then s.twinView t src else src, sch, n, ml, gen⟩

/-- The credit of a discarded message returns to its sender, whose DENIED is set there (R99, R373, R443). -/
def State.sendDiscard (s : State) (t : Nat) (m : Msg) : State :=
  if s.isTwin t ∧ 1024 ≤ m.src then s
  else s.inject m.dch ⟨.discard, t, s.rd TILE_JOB_JOB t, m.src, m.sch, 1, 0, m.gen⟩

/-- An opening grant applied at a send channel: CREDITS, MAXLEN and the generation; its messages count from
0 again (R95, R443). -/
def State.applyGrant (s : State) (t ch n ml gen : Nat) : State :=
  let k := chanOf t ch
  ((s.wr TILE_TXC_CREDIT_CREDITS k n).wr TILE_TXC_CREDIT_MAXLEN k ml).modTile t fun x =>
    { x with txGen := x.txGen.set ch gen, txSeq := x.txSeq.set ch 0 }

/-- A credit return adds only under the generation recorded (R443). -/
def State.applyBack (s : State) (t ch n gen : Nat) : State :=
  let k := chanOf t ch
  if (s.tile t).txGenOf ch = gen then
    s.wr TILE_TXC_CREDIT_CREDITS k (min 127 (s.rd TILE_TXC_CREDIT_CREDITS k + n))
  else s

/-- The first credit message for a send channel that a test names, and the list without it. -/
def takeCredit (p : Credit → Bool) : List Credit → Option (Credit × List Credit)
  | [] => none
  | c :: r => if p c then some (c, r) else (takeCredit p r).map fun k => (k.1, c :: k.2)

/-- A grant or revoke for a send channel, which its channel's earlier grants and revokes precede (R443). -/
def ordered (c : Credit) : Bool := c.kind == .grant || c.kind == .revoke

/-- Row CREDIT_GRANT (R93, R443): the oldest grant or revoke for the channel is a grant; one from a tile of
another job is discarded. -/
def execCreditGrant (t : TileId) (ch : ChId) (s : State) : Out :=
  match takeCredit (fun c => c.dst == t.val && c.ch == ch.val && ordered c) s.credits with
  | some (c, r) =>
    if c.kind ≠ .grant then .next s
    else
      let s := { s with credits := r }
      if c.src < 1024 ∧ c.srcJob ≠ s.rd TILE_JOB_JOB t then .next s
      else .next (s.applyGrant t ch c.n c.maxlen c.gen)
  | none => .next s

/-- Row CREDIT_RETURN (R97, R99, R443). -/
def execCreditReturn (t : TileId) (ch : ChId) (s : State) : Out :=
  match takeCredit (fun c => c.dst == t.val && c.ch == ch.val && !ordered c) s.credits with
  | some (c, r) =>
    let s := ({ s with credits := r } : State).applyBack t ch c.n c.gen
    .next (if c.kind = .discard then s.wr TILE_TXC_STAT_DENIED (chanOf t ch) 1 else s)
  | none => .next s

/-- Row CREDIT_REVOKE (R94). -/
def execCreditRevoke (t : TileId) (ch : ChId) (s : State) : Out :=
  match takeCredit (fun c => c.dst == t.val && c.ch == ch.val && ordered c) s.credits with
  | some (c, r) =>
    if c.kind ≠ .revoke then .next s
    else .next (({ s with credits := r } : State).wr TILE_TXC_CREDIT_CREDITS (chanOf t ch) 0)
  | none => .next s

/-! ## Opening and closing a receive channel -/

/-- EN = 1 written to a closed receive channel (R93, R443). -/
def State.rxcOpen (s : State) (t ch : Nat) : State :=
  let k := chanOf t ch
  if s.rdb TILE_RXC_RING_EN k then s
  else if spadSize < s.rd TILE_RXC_BASE_BASE k * 64 + s.rd TILE_RXC_RING_SLOTS k * s.slotSize t ch then
    s.wr TILE_RXC_STAT_CFG_ERR k 1
  else
    let gen := ((s.tile t).rxGenOf ch + 1) % 65536
    let s := ((s.wr TILE_RXC_STAT_HEAD k 0).wr TILE_RXC_STAT_FULL k 0).wr TILE_RXC_STAT_CFG_ERR k 0
    let s := (s.wr TILE_RXC_RING_EN k 1).modTile t fun x =>
      { x with rxGen := x.rxGen.set ch gen, rxSeq := x.rxSeq.set ch 0 }
    s.sendCredit .grant t ch (s.rd TILE_RXC_RING_SLOTS k) gen

/-- EN = 0 written to an open receive channel (R94). -/
def State.rxcClose (s : State) (t ch : Nat) : State :=
  let k := chanOf t ch
  if s.rdb TILE_RXC_RING_EN k then
    (s.wr TILE_RXC_RING_EN k 0).sendCredit .revoke t ch 0 ((s.tile t).rxGenOf ch)
  else s

/-- Row RXC_OPEN (R93). -/
def execRxcOpen (t : TileId) (ch : ChId) (s : State) : Out := .next (s.rxcOpen t ch)

/-- Row RXC_CLOSE (R94). -/
def execRxcClose (t : TileId) (ch : ChId) (s : State) : Out := .next (s.rxcClose t ch)

/-! ## Credits from the result rings and from the link layer's table (R201, R372) -/

/-- The unit number of a result ring's registers (R199). -/
def ringOf (f n : Nat) : Nat := 4 * f + n

/-- Entry size of a ring. -/
def State.ringES (s : State) (f n : Nat) : Nat := 64 * 2 ^ s.rd MBX_RING_CFG_ESC (ringOf f n)

/-- The ring has no room: PROD − CONS reaches 2^LOG2N (R201). -/
def State.ringFull (s : State) (r : Nat) : Bool :=
  decide (2 ^ s.rd MBX_RING_CFG_LOG2N r ≤ (s.rd MBX_RING_PROD_PROD r + 2 ^ 32 - s.rd MBX_RING_CONS_CONS r) % 2 ^ 32)

/-- STALL shows that released results wait because the ring is full (R199, R201). -/
def State.setStall (s : State) (r : Nat) : State :=
  s.wr MBX_RING_STAT_STALL r
    (b2n (!((s.ringQ.find r).getD []).isEmpty && s.rdb MBX_RING_CFG_EN r && s.ringFull r))

/-- The drover grants a send channel toward ring n of its job's function 4 credits, if the ring is enabled
(R201). -/
def State.ringGrant (s : State) (t ch : Nat) : State :=
  let k := chanOf t ch
  match s.jobOf t with
  | none => s
  | some j =>
    let n := s.rd TILE_TXC_CFG_DCH k
    if n < 4 ∧ s.rdb MBX_RING_CFG_EN (ringOf j.fn n) then
      let gen := ((s.tile t).txGenOf ch + 1) % 65536
      s.inject ch ⟨.grant, 0x410, j.tag, t, ch, 4, s.ringES j.fn n - 32, gen⟩
    else s

/-- Whether a send channel of a tile matches a grant of the port's table, for a peer's stack number (R372). -/
def State.matchesGrant (s : State) (p peer t ch : Nat) (g : GrantEntry) : Bool :=
  let k := chanOf t ch
  ch == g.sch && s.rdb TILE_TXC_CFG_EN k && s.rd TILE_TXC_CFG_DEST k == 0x400 + p
    && s.rd TILE_TXC_REMOTE_STACK k == peer && s.rd TILE_TXC_REMOTE_TILE k == g.tile
    && s.rd TILE_TXC_REMOTE_CH k == g.ch
    && (match s.jobOf t with | some j => j.fn == s.portOwner p | none => false)

/-- A grant applied to a send channel by the generation rule (R372, R443): another generation opens, the
same one adds. The twin's channel takes it as well (R208). -/
def State.applyWeltGrant (s : State) (t ch : Nat) (g : GrantEntry) : State :=
  let one := fun (s : State) (t : Nat) =>
    if (s.tile t).txGenOf ch = g.gen then s.applyBack t ch g.credits g.gen
    else s.applyGrant t ch g.credits g.maxlen g.gen
  let s := one s t
  match s.partnerOf t with
  | some u => one s u
  | none => s

/-- EN = 1 written to a send channel: what waits for it is granted (R201, R372). -/
def State.txcEnable (s : State) (t ch : Nat) : State :=
  let k := chanOf t ch
  let d := s.rd TILE_TXC_CFG_DEST k
  if s.rdb TILE_TXC_CFG_EN k then s
  else
    let s := s.wr TILE_TXC_CFG_EN k 1
    if d = 0x410 then s.ringGrant t ch
    else if isPort d then
      let p := d - 0x400
      let peer := s.rd WELT_PSTAT_PEERNO p
      match (s.port p).grants.find? (s.matchesGrant p peer t ch) with
      | some g => (s.applyWeltGrant t ch g).modPort p fun x => { x with grants := x.grants.erase g }
      | none => s
    else s

/-- Row TXC_ENABLE (R201). -/
def execTxcEnable (t : TileId) (ch : ChId) (s : State) : Out := .next (s.txcEnable t ch)

/-! ## Sending (R96, R101) -/

/-- The first poisoned line of a run of scratchpad bytes. -/
def Tile.firstPoison (x : Tile) (a len : Nat) : Option Nat := (linesOf a len).find? (· ∈ x.poison)

/-- Poison by 64 bytes of payload. -/
def Tile.poisonFlags (x : Tile) (a len : Nat) : List Bool :=
  (List.range (ceilDiv len 64)).map fun i => x.poisonedIn (a + 64 * i) (min 64 (len - 64 * i))

/-- The message that KX.MSEND puts into the send buffer (R96, R101). -/
def State.makeMsg (s : State) (t a len ch : Nat) : Msg :=
  let x := s.tile t
  let k := chanOf t ch
  { src := t, sch := ch, dst := s.twinView t (s.rd TILE_TXC_CFG_DEST k), dch := s.rd TILE_TXC_CFG_DCH k,
    gen := x.txGenOf ch, seq := (x.txSeq.find ch).getD 0, job := s.rd TILE_JOB_JOB t,
    payload := x.rdSpad a len, poison := x.poisonFlags a len,
    rstack := s.rd TILE_TXC_REMOTE_STACK k, rtile := s.rd TILE_TXC_REMOTE_TILE k,
    rch := s.rd TILE_TXC_REMOTE_CH k, ta := x.taCount, vec := x.vecCount, tSend := s.now }

/-- KX.MSEND resolved in the order of R96; `nb` is its NB flag. An outbound message that would carry poison
consumes it (R78): after the credit is seen, before the wait for the buffer, and without taking the credit (DESIGN CHOICE,
log 121). -/
def State.msend (s : State) (t rd a len ch : Nat) (nb : Bool) : State :=
  let x := s.tile t
  let k := chanOf t ch
  let st := fun (c : Nat) =>
    (s.modTile t fun x => { x with wait := none }).retire t rd (statusWord c 0) 4
  let wait := s.modTile t fun x => { x with wait := some (.send rd a len ch nb) }
  let dst := s.twinView t (s.rd TILE_TXC_CFG_DEST k)
  if len = 0 then st kxEmpty
  else if !s.rdb TILE_TXC_CFG_EN k then st kxNotOpen
  else if s.rd TILE_TXC_CREDIT_MAXLEN k < len ∨ spadSize < a + len then st kxBadArg
  else if s.foldOff (endpointFold dst) then st kxDestOff
  else if s.rd TILE_TXC_CREDIT_CREDITS k = 0 then (if nb then st kxNoCredit else wait)
  else match (if dst < 0x400 then none else x.firstPoison a len) with
    | some l => s.tileFault t 0x19 (l * 64)
    | none =>
      if x.sendBuf.isSome then wait
      else
        let m := s.makeMsg t a len ch
        let s' := (s.wr TILE_TXC_CREDIT_CREDITS k (s.rd TILE_TXC_CREDIT_CREDITS k - 1)).traceRec t 5 m.seq
        (s'.modTile t fun x => { x with
          sendBuf := some m, wait := none, txSeq := x.txSeq.set ch ((m.seq + 1) % 2 ^ 32) }.count 6 1).retire
            t rd (statusWord kxOk 0) 4

/-- Row KX_MSEND (R96). -/
def execKxMsend (t : TileId) (rd rs1 rs2 : XReg) (s : State) : Out :=
  let s := s.kxIssue t (kxBits 0x2B 0 0 rd rs1 rs2)
  let x := s.tile t
  let o := x.xr rs2
  if s.runs t then .next (s.msend t rd (x.xr rs1) (bf o 0 13) (bf o 16 4) (bit o 24)) else .next s

/-- Row MSEND_WAIT_END (R96): a waiting KX.MSEND goes on once it has a credit and the buffer is free; a non-blocking one
that waited for the buffer ends if its credits are gone. -/
def execMsendWaitEnd (t : TileId) (s : State) : Out :=
  if !s.waits t then .next s
  else match (s.tile t).wait with
    | some (.send rd a len ch nb) => .next (s.msend t rd a len ch nb)
    | _ => .next s

/-- Row MSG_INJECT (R102, R103, R208): the message leaves the send buffer; during a checkpoint it waits there (R219).
A twin's outbound message leaves
its signature only. -/
def execMsgInject (t : TileId) (s : State) : Out :=
  let x := s.tile t
  match x.sendBuf with
  | none => .next s
  | some m =>
    if s.meshStop ∨ x.off ∨ x.haltCkpt then .next s
    else
      let sig : List DualSig := if 0x400 ≤ m.dst ∧ !s.boundMode t then [⟨2, m.seq * 16 + m.sch, crc64 m.payload, s.now, none⟩]
        else []
      let s' := s.modTile t fun x => { x with sendBuf := none, dual := x.dual ++ sig }
      if 0x400 ≤ m.dst ∧ s.isTwin t then .next s'
      else .next { s' with mesh := s'.mesh ++ [m] }

/-! ## Delivery (R95, R99, R100) -/

/-- The header of a slot (R95). -/
def State.slotHeader (s : State) (t : Nat) (m : Msg) : Bytes :=
  let rem := isPort m.src
  toLE 2 m.payload.length ++ toLE 2 (s.shownSrc m.src) ++ toLE 1 m.sch
    ++ toLE 1 (b2n (m.poison.any id) + 2 * b2n rem) ++ toLE 2 0 ++ toLE 8 s.now
    ++ toLE 4 (((s.tile t).rxSeq.find m.dch).getD 0) ++ toLE 1 (if rem then m.rstack else 0) ++ zeros 43

/-- Where the next message of a receive channel goes. -/
def State.nextSlot (s : State) (t ch : Nat) : Nat :=
  let k := chanOf t ch
  s.rd TILE_RXC_BASE_BASE k * 64
    + (s.rd TILE_RXC_STAT_HEAD k + s.rd TILE_RXC_STAT_FULL k) % s.rd TILE_RXC_RING_SLOTS k * s.slotSize t ch

/-- The lines of a delivery: the header, then the payload padded with zeros. -/
def State.slotBytes (s : State) (t : Nat) (m : Msg) : Bytes :=
  s.slotHeader t m ++ sub m.payload 0 (ceilDiv m.payload.length 64 * 64)

/-- A delivered message of a welt endpoint enters the log of the current checkpoint slot (R220); a full log
asks for a checkpoint (R219). -/
def State.logIngest (s : State) (t : Nat) (m : Msg) : State :=
  let n := 64 + ceilDiv m.payload.length 64 * 64
  if isPort m.src ∧ !(s.tile t).ckpts.isEmpty then
    let s := s.modTile t fun x => { x with ingest := x.ingest ++ [m], logBytes := x.logBytes + n }
    if logRoom < (s.tile t).logBytes + 64 + 4096 then
      s.modJob (s.rd TILE_JOB_JOB t) fun j => { j with ckptDue := true }
    else s
  else s

/-- The message written into the next slot (R78, R95): whole lines, each with its marker set or cleared. -/
def State.putMsg (s : State) (t : Nat) (m : Msg) : State :=
  let a := s.nextSlot t m.dch
  let b := s.slotBytes t m
  let k := chanOf t m.dch
  let seq := ((s.tile t).rxSeq.find m.dch).getD 0
  let s := s.modTile t fun x => ({ x.move a b (fun l => a / 64 < l && m.poison.getD (l - a / 64 - 1) false) with
    rxSeq := x.rxSeq.set m.dch ((seq + 1) % 2 ^ 32) }.count 7 1)
  (s.wr TILE_RXC_STAT_FULL k (s.rd TILE_RXC_STAT_FULL k + 1)).logIngest t m

/-- The tests of R99 and R373. -/
def State.accepts (s : State) (t : Nat) (m : Msg) : Bool :=
  let k := chanOf t m.dch
  s.rdb TILE_RXC_RING_EN k && s.rd TILE_RXC_SRC_SRC k == s.shownSrc m.src && s.rd TILE_RXC_SRC_SCH k == m.sch
    && (s.tile t).rxGenOf m.dch == m.gen
    && (if isPort m.src then
          (match s.jobOf t with | some j => j.fn == s.portOwner (m.src - 0x400) | none => false)
        else s.rd TILE_JOB_JOB t == m.job && m.job != 0)

/-- A message discarded at its destination (R99). -/
def State.discardMsg (s : State) (t : Nat) (m : Msg) : State :=
  let s := s.cnt TILE_RXC_STAT_DISCARD (chanOf t m.dch) 1
  (s.modTile t fun x => x.count 8 1).sendDiscard t m

/-- The first message of the mesh that a test names, and the mesh without it. -/
def takeMsg (p : Msg → Bool) : List Msg → Option (Msg × List Msg)
  | [] => none
  | m :: r => if p m then some (m, r) else (takeMsg p r).map fun k => (k.1, m :: k.2)

/-- A delivery of the channel waits behind the input guard. -/
def Tile.heldDelivery (x : Tile) (ch : Nat) : Bool :=
  x.guarded.any fun g => match g.2 with | .deliver m => m.dch == ch | _ => false

/-- A token from a source outside the stack's tiles is done at a scoring tile (R354): its slot is freed. -/
def State.tokenDone (s : State) (t src : Nat) : State :=
  match s.jobOf t with
  | some j =>
    if j.policy.kind = 0 ∧ 0x400 ≤ src then
      s.modTile t fun x => { x with sched := { x.sched with done := x.sched.done + 1, lastDone := s.now } }
    else s
  | none => s

/-- A tile that can no longer run its job, or whose column nothing reaches (R233). -/
def State.lost (s : State) (t : Nat) : Bool := (s.tile t).off || s.penned (tileUnit t) || s.penned (chanUnit t)

/-- A message at its receive channel: discarded, held behind the input guard (R206), or delivered. A ring
that is full takes nothing. -/
def State.arrive (s : State) (t : Nat) (m : Msg) (rest : List Msg) : State :=
  let k := chanOf t m.dch
  if !s.accepts t m then (({ s with mesh := rest }).discardMsg t m).tokenDone t m.src
  else if s.rd TILE_RXC_RING_SLOTS k ≤ s.rd TILE_RXC_STAT_FULL k ∨ (s.tile t).heldDelivery m.dch then s
  else
    let r : Region := ⟨s.nextSlot t m.dch, (s.slotBytes t m).length⟩
    let s := { s with mesh := rest }
    if (s.tile t).guards r then
      s.modTile t fun x => { x with guarded := x.guarded ++ [(s.now, .deliver m)] }
    else s.putMsg t m

/-- The tile's job is being restarted: link traffic to it waits (R216, R221). -/
def State.restartingAt (s : State) (t : Nat) : Bool :=
  match s.jobOf t with
  | some j => j.state == 4
  | none => false

/-- Row MSG_DELIVER (R99): the oldest message on the mesh for the channel. It waits while the tile's job restarts,
and from the writing of the tile's checkpoint until that is complete (R216, R219). -/
def execMsgDeliver (t : TileId) (ch : ChId) (s : State) : Out :=
  if s.restartingAt t ∨ (s.tile t).ckptDone then .next s
  else match takeMsg (fun m => m.dst == t.val && m.dch == ch.val) s.mesh with
  | some (m, r) => .next (s.arrive t m r)
  | none => .next s

/-! ## Receiving and waiting (R97, R98) -/

/-- Row KX_MRECV (R97). -/
def execKxMrecv (t : TileId) (rd rs1 : XReg) (s : State) : Out :=
  let s := s.kxIssue t (kxBits 0x2B 0 1 rd rs1 0)
  if !s.runs t then .next s
  else
    let ch := (s.tile t).xr rs1 % 16
    let k := chanOf t ch
    if !s.rdb TILE_RXC_RING_EN k then .next (s.retire t rd (statusWord kxNotOpen 0) 4)
    else if s.rd TILE_RXC_STAT_FULL k = 0 then .next (s.retire t rd (statusWord kxEmpty 0) 4)
    else
      let a := s.rd TILE_RXC_BASE_BASE k * 64 + s.rd TILE_RXC_STAT_HEAD k * s.slotSize t ch
      .next ((s.wdogReload t).retire t rd (statusWord kxOk a) 4)

/-- A freed slot returns its credit. After a restart a welt channel returns none for a slot that it had freed
before the fault, for the peer holds that credit (R216, R221; DEDUCED, log 30). -/
def State.freeSlot (s : State) (t ch : Nat) : State :=
  let gen := (s.tile t).rxGenOf ch
  if isPort (s.rd TILE_RXC_SRC_SRC (chanOf t ch)) then
    let n := ((s.tile t).freed.find ch).getD 0 + 1
    let s := s.modTile t fun x => { x with freed := x.freed.set ch n }
    if ((s.tile t).credited.find ch).getD 0 < n then
      (s.modTile t fun x => { x with credited := x.credited.set ch n }).sendCredit .back t ch 1 gen
    else s
  else s.sendCredit .back t ch 1 gen

/-- Row KX_MFREE (R97). -/
def execKxMfree (t : TileId) (rd rs1 : XReg) (s : State) : Out :=
  let s := s.kxIssue t (kxBits 0x2B 0 2 rd rs1 0)
  if !s.runs t then .next s
  else
    let ch := (s.tile t).xr rs1 % 16
    let k := chanOf t ch
    if !s.rdb TILE_RXC_RING_EN k then .next (s.retire t rd (statusWord kxNotOpen 0) 4)
    else if s.rd TILE_RXC_STAT_FULL k = 0 then .next (s.retire t rd (statusWord kxEmpty 0) 4)
    else
      let s1 := s.wr TILE_RXC_STAT_FULL k (s.rd TILE_RXC_STAT_FULL k - 1)
      let s1 := s1.wr TILE_RXC_STAT_HEAD k ((s.rd TILE_RXC_STAT_HEAD k + 1) % s.rd TILE_RXC_RING_SLOTS k)
      .next (((s1.freeSlot t ch).tokenDone t (s1.rd TILE_RXC_SRC_SRC k)).retire t rd (statusWord kxOk 0) 4)

/-- The selected conditions that hold, bit for bit as in the mask (R98). -/
def State.ready (s : State) (t mask : Nat) : Nat :=
  (List.range 16).foldl (fun acc c =>
    let r := if bit mask c && s.rd TILE_RXC_STAT_FULL (chanOf t c) != 0 then 2 ^ c else 0
    let w := if bit mask (16 + c) && s.rd TILE_TXC_CREDIT_CREDITS (chanOf t c) != 0 then 2 ^ (16 + c) else 0
    acc + r + w) 0

/-- Row KX_MWAIT (R98). -/
def execKxMwait (t : TileId) (rd rs1 rs2 : XReg) (s : State) : Out :=
  let s := s.kxIssue t (kxBits 0x2B 0 3 rd rs1 rs2)
  if !s.runs t then .next s
  else
    let x := s.tile t
    let mask := x.xr rs1 % 2 ^ 32
    let lim := x.xr rs2
    let hit := s.ready t mask
    if mask = 0 then .next (s.retire t rd (statusWord kxEmpty 0) 4)
    else if hit ≠ 0 then .next (s.retire t rd (statusWord kxOk hit) 4)
    else if lim = 0 then .next (s.retire t rd (statusWord kxEmpty 0) 4)
    else
      let d := if lim = 2 ^ 64 - 1 then none else some (s.now + lim)
      .next ((s.modTile t fun x => { x with wait := some (.mwait rd mask d) }).wdogHold t)

/-- A waiting KX.MWAIT returns, and the watchdog counts on. -/
def State.mwaitEnd (s : State) (t rd v : Nat) : State :=
  ((s.modTile t fun x => { x with wait := none }).retire t rd v 4).wdogGo t

/-- Row MWAIT_WAKE (R98). -/
def execMwaitWake (t : TileId) (s : State) : Out :=
  if !s.waits t then .next s
  else match (s.tile t).wait with
    | some (.mwait rd mask _) =>
      let hit := s.ready t mask
      .next (if hit = 0 then s else s.mwaitEnd t rd (statusWord kxOk hit))
    | _ => .next s

/-- Row MWAIT_TIMEOUT (R98). -/
def execMwaitTimeout (t : TileId) (s : State) : Out :=
  if !s.waits t then .next s
  else match (s.tile t).wait with
    | some (.mwait rd mask (some d)) =>
      let hit := s.ready t mask
      .next (if s.now < d then s
        else if hit ≠ 0 then s.mwaitEnd t rd (statusWord kxOk hit)
        else s.mwaitEnd t rd (statusWord kxTimeout 0))
    | _ => .next s

end Sys2Proof.Machine
end

