-- ==== Sys2Proof/Machine/Transfers.lean ====
section
/-! DEFINITION. Put and get (R104 to R106), and the writes that resume once the input guard lets them go
(R206). -/
namespace Sys2Proof.Machine

/-- Size of a transfer's space: scratchpad or column. -/
def spaceSize (sp : Nat) : Nat := if sp = 0 then spadSize else 2 ^ 28

/-- The alignment that a space asks of addresses and lengths (R105). -/
def spaceAlign (sp : Nat) : Nat := if sp = 0 then 4 else 64

/-- What the checks of R105 find wrong in a descriptor. -/
def xferBad (d : Bytes) : Bool :=
  let l := fld d 0 8
  let r := fld d 8 8
  let n := fld d 20 4
  let ls := fld d 18 1 % 2
  let rs := fld d 18 1 / 2 % 2
  decide (spadSize < n) || decide (spaceSize ls < l + n) || decide (spaceSize rs < r + n)
    || l % spaceAlign ls != 0 || r % spaceAlign rs != 0 || n % spaceAlign ls != 0 || n % spaceAlign rs != 0
    || decide (1024 ≤ fld d 16 2) || decide (4 ≤ fld d 18 1) || fld d 19 1 != 0 || fld d 24 8 != 0

/-- Transfers that have not completed. -/
def Tile.outstanding (x : Tile) : Nat := (x.xfers.filter (·.status.isNone)).length

/-- KX.PUT or KX.GET resolved in the order of R105; behind sixteen outstanding transfers it stalls. -/
def State.startXfer (s : State) (t rd : Nat) (put : Bool) (a : Nat) : State :=
  let x := s.tile t
  let d := x.rdSpad a 32
  let st := fun (c : Nat) => (s.modTile t fun x => { x with wait := none }).retire t rd (statusWord c 0) 4
  if a % 32 ≠ 0 ∨ spadSize < a + 32 then st kxBadArg
  else if fld d 20 4 = 0 then st kxEmpty
  else if xferBad d then st kxBadArg
  else
    let rem := s.twinView t (fld d 16 2)
    if s.foldOff (foldOf rem) then st kxDestOff
    else if 16 ≤ x.outstanding then
      s.modTile t fun x => { x with wait := some (.xferStart rd put a) }
    else
      let tag := (Config.tagBase + x.nextTag) % 65536
      let src := if put then t else rem
      let k : Xfer :=
        { tag := tag, put := put, loc := fld d 0 8, rem := fld d 8 8, tile := rem,
          lspace := fld d 18 1 % 2, rspace := fld d 18 1 / 2 % 2, len := fld d 20 4,
          epoch := s.rd TILE_PG_EPOCH_EPOCH src, status := none }
      (s.modTile t fun x => { x with xfers := x.xfers ++ [k], nextTag := x.nextTag + 1, wait := none }).retire
        t rd (statusWord kxOk tag) 4

/-- Row KX_PUT (R104). -/
def execKxPut (t : TileId) (rd rs1 : XReg) (s : State) : Out :=
  let s := s.kxIssue t (kxBits 0x2B 0 4 rd rs1 0)
  .next (if s.runs t then s.startXfer t rd true ((s.tile t).xr rs1) else s)

/-- Row KX_GET (R104). -/
def execKxGet (t : TileId) (rd rs1 : XReg) (s : State) : Out :=
  let s := s.kxIssue t (kxBits 0x2B 0 5 rd rs1 0)
  .next (if s.runs t then s.startXfer t rd false ((s.tile t).xr rs1) else s)

/-- Row TRANSFER_STALL_END (R105). -/
def execTransferStallEnd (t : TileId) (s : State) : Out :=
  if !s.waits t then .next s
  else match (s.tile t).wait with
    | some (.xferStart rd put a) => .next (s.startXfer t rd put a)
    | _ => .next s

/-- A completed transfer's status goes to rd, and the tag is no longer known (R106). -/
def State.reportXfer (s : State) (t rd tag st : Nat) : State :=
  (s.modTile t fun x => { x with
    wait := none, xfers := x.xfers.filter (·.tag ≠ tag) }).retire t rd (statusWord st 0) 4

/-- Row KX_XWAIT (R106). -/
def execKxXwait (t : TileId) (rd rs1 : XReg) (s : State) : Out :=
  let s := s.kxIssue t (kxBits 0x2B 0 6 rd rs1 0)
  if !s.runs t then .next s
  else
    let x := s.tile t
    let tag := x.xr rs1 % 65536
    match x.xfers.find? (·.tag == tag) with
    | none => .next (s.retire t rd (statusWord kxBadArg 0) 4)
    | some k => match k.status with
      | some st => .next (s.reportXfer t rd tag st)
      | none => .next (s.modTile t fun x => { x with wait := some (.xfer rd tag) })

/-- Row XWAIT_RETURN (R106). -/
def execXwaitReturn (t : TileId) (s : State) : Out :=
  if !s.waits t then .next s
  else match (s.tile t).wait with
    | some (.xfer rd tag) =>
      match ((s.tile t).xfers.find? (·.tag == tag)).bind (·.status) with
      | some st => .next (s.reportXfer t rd tag st)
      | none => .next s
    | _ => .next s

/-! ## Moving -/

/-- The bytes of a range of a space of a tile, with poison by line of 64 bytes of the space. -/
def State.readSpace (s : State) (t sp a n : Nat) : State × Bytes × List Nat :=
  if sp = 0 then
    let x := s.tile t
    (s, x.rdSpad a n, (linesOf a n).filter (· ∈ x.poison))
  else
    let r := s.readLines t (a / 64) (n / 64)
    (r.1, r.2.flatMap (·.data), (r.2.zipIdx.filter (·.1.poison)).map (·.2 + a / 64))

/-- Whether source poison reaches a line of the destination. -/
def poisonReaches (src dst n : Nat) (bad : List Nat) (l : Nat) : Bool :=
  let lo := max dst (l * 64)
  let hi := min (dst + n) (l * 64 + 64)
  decide (lo < hi) && (linesOf (src + (lo - dst)) (hi - lo)).any (bad.contains ·)

/-- Bytes written to a column, whole lines; a line moved in with poison takes a poisoning write. The flag tells
whether a line selected an empty key slot (R243, R258). -/
def State.writeCol (s : State) (t : Nat) (bad : Nat → Bool) : Nat → List Bytes → State × Bool
  | _, [] => (s, false)
  | l, b :: r =>
    let slot := s.slotFor t l
    let empty := (s.key slot).isNone
    let s := if empty then s else if bad l then s.writePoison t l else s.writeLine t l slot b
    let k := s.writeCol t bad (l + 1) r
    (k.1, empty || k.2)

/-- A transfer moves its bytes and completes (R78, R106). -/
def State.moveXfer (s : State) (t : Nat) (k : Xfer) : State :=
  let loc := (t, k.lspace, k.loc)
  let rem := (k.tile, k.rspace, k.rem)
  let src := if k.put then loc else rem
  let dst := if k.put then rem else loc
  let r := s.readSpace src.1 src.2.1 src.2.2 k.len
  let bad := poisonReaches src.2.2 dst.2.2 k.len r.2.2
  let w := if dst.2.1 = 0 then (r.1.modTile dst.1 fun x => x.move dst.2.2 r.2.1 bad, false)
    else r.1.writeCol dst.1 bad (dst.2.2 / 64) (chunks 64 (k.len / 64) r.2.1)
  let st := if w.2 then kxDenied else if r.2.2.isEmpty then kxOk else kxPoisoned
  (w.1.wdogReload t).modTile t fun x => { x with
    xfers := x.xfers.map fun (y : Xfer) => if y.tag = k.tag then { y with status := some st } else y }.count 9 k.len

/-- A transfer ends without moving: its remote tile belongs to another job (R106). -/
def State.denyXfer (s : State) (t : Nat) (k : Xfer) : State :=
  (s.wdogReload t).modTile t fun x => { x with
    xfers := x.xfers.map fun (y : Xfer) => if y.tag = k.tag then { y with status := some kxDenied } else y }

/-- Row TRANSFER_COMPLETE (R106). Nothing of a transfer is injected while injection stands (R102), and its held column lines
make it wait (R238). -/
def execTransferComplete (t : TileId) (tag : BitVec 16) (s : State) : Out :=
  match (s.tile t).xfers.find? (fun k => k.tag == tag.toNat && k.status.isNone) with
  | none => .next s
  | some k =>
    if s.meshStop ∨ s.xferHeld t k then .next s
    else if s.rd TILE_JOB_JOB k.tile ≠ s.rd TILE_JOB_JOB t then .next (s.denyXfer t k)
    else
      let d := if k.put then k.tile else t.val
      let a := if k.put then k.rem else k.loc
      let sp := if k.put then k.rspace else k.lspace
      let x := s.tile d
      if x.guarded.any (fun g => g.2 == .xfer k.tag t) then .next s
      else if sp = 0 ∧ x.guards ⟨a, k.len⟩ then
        .next (s.modTile d fun x => { x with guarded := x.guarded ++ [(s.now, .xfer k.tag t)] })
      else .next (s.moveXfer t k)

/-! ## The input guard lets a write go (R206) -/

/-- The region that a waiting write writes, and the operation whose own write it is. -/
def State.guardedRegions (s : State) (t : Nat) : GuardedWrite → List Region × Option (Bool × Nat)
  | .deliver m => ([⟨s.nextSlot t m.dch, (s.slotBytes t m).length⟩], none)
  | .xfer tag o =>
    match (s.tile o).xfers.find? (·.tag == tag) with
    | some k => ([⟨if k.put then k.rem else k.loc, k.len⟩], none)
    | none => ([], none)
  | .store => match (s.tile t).wait with
    | some (.store a b _ _ _) => ([⟨a, b.length⟩], none)
    | _ => ([], none)
  | .taOut _ => match (s.tile t).taRun with
    | some op => (taOutputs op.desc, some (false, op.num))
    | none => ([], none)
  | .vecOut _ => match (s.tile t).vecRun with
    | some op => (vecOutputs op.desc, some (true, op.num))
    | none => ([], none)

/-- A waiting write goes. -/
def State.resumeWrite (s : State) (t : Nat) : GuardedWrite → State
  | .deliver m => if s.accepts t m then s.putMsg t m else s.discardMsg t m
  | .xfer tag o => match (s.tile o).xfers.find? (·.tag == tag) with
    | some k => s.moveXfer o k
    | none => s
  | .store => match (s.tile t).wait with
    | some (.store a b rd v len) =>
      (s.modTile t fun x => { x.wrSpad a b with wait := none }).retire t rd v len
    | _ => s
  | .taOut f => match (s.tile t).taRun with
    | some op => if fld op.desc 0 1 = 1 then s.matmulWrite t op f else s.attnWrite t op f
    | none => s
  | .vecOut f => match (s.tile t).vecRun with
    | some op => s.vecPut t op f
    | none => s

/-- The oldest waiting write that no guarded region stalls any more, and the others. -/
def takeGuarded (p : GuardedWrite → Bool) :
    List (Nat × GuardedWrite) → Option ((Nat × GuardedWrite) × List (Nat × GuardedWrite))
  | [] => none
  | g :: r => if p g.2 then some (g, r) else (takeGuarded p r).map fun k => (k.1, g :: k.2)

/-- A transfer that the guard let go still waits for injection and for held column lines (R102, R238). -/
def State.writeWaits (s : State) : GuardedWrite → Bool
  | .xfer tag o => match (s.tile o).xfers.find? (·.tag == tag) with
    | some k => s.meshStop || s.xferHeld o k
    | none => false
  | _ => false

/-- Row GUARDED_WRITE_RESUME (R206): NBC_GUARD counts the cycles for which the write waited. -/
def execGuardedWriteResume (t : TileId) (s : State) : Out :=
  let x := s.tile t
  let free := fun g =>
    let r := s.guardedRegions t g
    !s.writeWaits g && r.1.all fun k => !x.guards k r.2
  match takeGuarded free x.guarded with
  | none => .next s
  | some (g, r) =>
    let s := s.cnt NBC_GUARD_STALL t ((s.now - g.1) * s.mhz t / 1000)
    .next ((s.modTile t fun x => { x with guarded := r }).resumeWrite t g.2)

end Sys2Proof.Machine
end

