-- ==== Sys2Proof/Machine/Pool.lean ====
section
/-! DEFINITION. The page pool unit of a tile (R150 to R166): flow table entries, commands, grace epochs and
reclamation. -/
namespace Sys2Proof.Machine

/-! ## The flow table (R154) -/

/-- Scratchpad address of a flow table entry. -/
def Tile.fteAddr (x : Tile) (e : Nat) : Nat := x.ftab + 32 * e

/-- A little-endian field of a flow table entry. -/
def Tile.fte (x : Tile) (e off len : Nat) : Nat := leNat (x.rdSpad (x.fteAddr e + off) len)

/-- A field of a flow table entry written. -/
def State.setFte (s : State) (t e off len v : Nat) : State :=
  s.modTile t fun x => x.wrSpad (x.fteAddr e + off) (toLE len v)

def Tile.fteState (x : Tile) (e : Nat) : Nat := x.fte e 24 1

/-- An entry emptied: every byte zero. -/
def State.emptyFte (s : State) (t e : Nat) : State :=
  s.modTile t fun x => x.wrSpad (x.fteAddr e) (zeros 32)

/-- The page list of an entry: the scratchpad address of each live descriptor copy. -/
def Tile.pageList (x : Tile) (e : Nat) : List Nat :=
  (List.range (x.fte e 8 2)).map fun i => x.fte e 4 4 + 16 * i

/-- The frame that a descriptor copy names, by its COLADDR: bytes 7 to 15 of a copy are never read
(R153). -/
def State.listFrame (s : State) (t a : Nat) : Option Nat :=
  let p := PageDesc.ofBytes ((s.tile t).rdSpad a 16)
  if p.fmt = 0 then none else s.frameOf t (p.addr / 64)

/-- The frames that an entry's list names, in list order. -/
def State.listFrames (s : State) (t e : Nat) : List Nat :=
  ((s.tile t).pageList e).filterMap (s.listFrame t)

/-! ## Status codes (R159) -/
def pgOk : Nat := 0
def pgEmpty : Nat := 1
def pgBadArg : Nat := 4
def pgDenied : Nat := 7
def pgFull : Nat := 0x0A

/-! ## Frames -/

/-- The lowest-numbered free frame; one waiting for its zero lines is not yet on the free list (R247). -/
def State.freeFrame (s : State) (t : Nat) : Option Nat :=
  (List.range (s.nframes t)).find? fun i => (s.dirEntry t i).fmt == 0 && !(s.tile t).zeroFrames.contains i

/-- A frame leaves the free list with REFCNT 1 (R158, R172). -/
def State.takeFrame (s : State) (t i fmt count : Nat) : State :=
  let d : PageDesc := ⟨s.frameAddr t i, fmt, count, s.rd TILE_PG_GEOM_KSLOT t, false, false, 1, i, 0⟩
  (s.setDir t i d).wr TILE_PG_FREE_FREE t (s.rd TILE_PG_FREE_FREE t - 1)

/-- REFCNT − 1; at zero the frame awaits reclamation (R158). -/
def State.unrefFrame (s : State) (t i : Nat) : State :=
  let d := s.dirEntry t i
  if d.fmt = 0 ∨ d.refcnt = 0 then s
  else if d.refcnt = 1 then
    let s := s.setDir t i { d with
      refcnt := 0, reclaim := true, ckheld := true, zepoch := s.rd TILE_PG_EPOCH_EPOCH t }
    (s.wr TILE_PG_FREE_PENDING t (s.rd TILE_PG_FREE_PENDING t + 1)).modTile t fun x =>
      { x with ckWait := x.ckWait ++ [i] }
  else s.setDir t i { d with refcnt := d.refcnt - 1 }

/-- The lines of a page moved to a frame, decrypted under one slot and encrypted under another; poison moves
along (R78, R158). -/
def State.copyPage (s : State) (t fromLine toLine lines oldSlot newSlot : Nat) : State :=
  s.each (List.range lines) fun s i =>
    let r := s.readLine t (fromLine + i) oldSlot
    if r.2.poison then r.1.writePoison t (toLine + i) else r.1.writeLine t (toLine + i) newSlot r.2.data

/-- A flow is retired on its tile: UNREF of every frame of its list, and of those a swap-in has allocated for it, the entry
emptied (R158, R171). -/
def State.retireEntry (s : State) (t e : Nat) : State :=
  let mine := ((s.tile t).swaps.filter fun w => w.entry == e && !w.out).flatMap (·.frames)
  ((s.each (s.listFrames t e ++ mine) fun s i => s.unrefFrame t i).emptyFte t e).modTile t fun x => { x with
    victims := x.victims.filter (· ≠ e), fetches := x.fetches.filter (· ≠ e)
    swaps := x.swaps.filter (·.entry ≠ e) }

/-- The drover forgets that a flow is live. -/
def State.endFlow (s : State) (handle : Nat) : State :=
  { s with flows := s.flows.map fun f => if f.handle = handle then { f with live := false } else f }

/-! ## Commands (R157 to R160) -/

/-- What a command does, with its result INDEX and status (R158, R159). R154 binds the tile program's
commands, not the drover's. The result INDEX of a refused command is 0 (DESIGN CHOICE, log 145). -/
def State.poolAct (s : State) (t : Nat) (c : PoolCmd) : State × Nat × Nat :=
  let x := s.tile t
  let d := s.dirEntry t c.index
  let st := x.fteState c.index
  let badFrame := decide (s.nframes t ≤ c.index) || d.fmt == 0 || d.reclaim
  let badEntry := decide (x.nfte ≤ c.index)
  let no := fun (k : Nat) => (s, (0 : Nat), k)
  let full := ((s.wr TILE_PG_STAT_EXHAUSTED t 1).modTile t fun x =>
    { x with failedAlloc := some (if c.op = 1 then c.index else 0xFFFF) }, (0 : Nat), pgFull)
  if c.rsvd then no pgBadArg
  else match c.op with
  | 1 =>
    if badEntry ∨ c.fmt = 0 ∨ c.fmt = 3 ∨ (c.fmt = 1 ∧ s.rdb TILE_PG_GEOM_FFMT t) then no pgBadArg
    else if !c.drover ∧ st ≠ 1 ∧ st ≠ 5 then no pgDenied
    else match s.freeFrame t with
      | none => full
      | some i => (s.takeFrame t i c.fmt 0, i, pgOk)
  | 2 =>
    if badFrame ∨ d.refcnt = 65535 then no pgBadArg
    else (s.setDir t c.index { d with refcnt := d.refcnt + 1 }, c.index, pgOk)
  | 3 => if badFrame then no pgBadArg else (s.unrefFrame t c.index, c.index, pgOk)
  | 4 =>
    if badFrame then no pgBadArg
    else if d.refcnt = 1 then (s, c.index, pgOk)
    else match s.freeFrame t with
      | none => full
      | some i =>
        let new := s.rd TILE_PG_GEOM_KSLOT t
        let s := s.copyPage t (d.addr / 64) (s.frameAddr t i / 64) (pageLines d.fmt (s.poolD t)) d.kslot new
        ((s.takeFrame t i d.fmt d.count).unrefFrame t c.index, i, pgOk)
  | 5 =>
    if badFrame ∨ 16 < c.count ∨ c.count < d.count ∨ 1 < d.refcnt then no pgBadArg
    else if c.count = d.count then (s, c.index, pgEmpty)
    else (s.setDir t c.index { d with count := c.count }, c.index, pgOk)
  | 6 =>
    if badEntry then no pgBadArg
    else if !c.drover ∧ st ≠ 3 then no pgDenied
    else (s.modTile t fun x => { x with
      fetches := if c.index ∈ x.fetches then x.fetches else x.fetches ++ [c.index] }, 0, pgOk)
  | 7 =>
    if badEntry then no pgBadArg
    else if !c.drover ∧ st ≠ 1 then no pgDenied
    else
      let h := x.fte c.index 0 4
      let k := if x.fte c.index 8 2 = 0 then pgEmpty else pgOk
      let s := s.retireEntry t c.index
      if c.drover then (s, 0, k)
      else ((s.endFlow h).event evFlowRetired (tileUnit t) (s.jobOf t) (flow := h), 0, k)
  | _ => no pgBadArg

/-- The time of a command (R160). -/
def State.poolNs (s : State) (t : Nat) (c : PoolCmd) : Nat :=
  let d := s.dirEntry t c.index
  if c.op = 4 ∧ c.index < s.nframes t ∧ d.fmt ≠ 0 ∧ !d.reclaim ∧ d.refcnt ≠ 1 ∧ (s.freeFrame t).isSome then
    100 + ceilDiv (5 * pageLines d.fmt (s.poolD t)) 4
  else if c.op = 7 ∧ c.index < (s.tile t).nfte then 40 + 20 * (s.tile t).fte c.index 8 2
  else 40

/-- A line of a frame is held for check handling: what needs the frame waits (R238). -/
def State.frameHeld (s : State) (t i : Nat) : Bool :=
  decide (i < s.nframes t) && s.rangeHeld t (s.frameAddr t i / 64) (s.frameBytes t / 64)

/-- The unit begins a command: its effect on directory, table and lists. A COW of a frame with a held line waits at
the head of the queue (R238). -/
def State.poolBegin (s : State) (t : Nat) (c : PoolCmd) : State :=
  if c.op = 4 ∧ s.frameHeld t c.index then s.modTile t fun x => { x with poolQ := c :: x.poolQ }
  else
    let n := s.poolNs t c
    let r := s.poolAct t c
    r.1.modTile t fun x => { x with
      poolRun := some { c with ready := s.now + n, resIndex := r.2.1, resStatus := r.2.2 } }

/-- A command arrives at the unit: it begins, or waits its turn. A command of the tile clears DONE (R157). -/
def State.poolSubmit (s : State) (t : Nat) (c : PoolCmd) : State :=
  let s := if c.drover then s else s.wr TILE_PG_RES_DONE t 0
  if (s.tile t).poolRun.isSome ∨ !(s.tile t).poolQ.isEmpty then s.modTile t fun x => { x with poolQ := x.poolQ ++ [c] }
  else s.poolBegin t c

/-- A command of a row. -/
def poolRow (drover : Bool) (op index : Nat) (fmt : Nat := 0) (count : Nat := 0) : PoolCmd :=
  ⟨drover, op, index, fmt, count, false, 0, 0, 0⟩

/-- The command that a word stored to TILE_PG_CMD spells (R157). -/
def poolWord (w : Nat) : PoolCmd :=
  ⟨false, bf w 16 4, bf w 0 16, bf w 20 2, bf w 22 5, bf w 27 5 != 0, 0, 0, 0⟩

/-- Row ALLOC (R158). -/
def execAlloc (t : TileId) (drover : Bool) (index : BitVec 16) (fmt : BitVec 2) (s : State) : Out :=
  .next (s.poolSubmit t (poolRow drover 1 index.toNat (fmt := fmt.toNat)))

/-- Row REF (R158). -/
def execRef (t : TileId) (drover : Bool) (index : BitVec 16) (s : State) : Out :=
  .next (s.poolSubmit t (poolRow drover 2 index.toNat))

/-- Row UNREF (R158). -/
def execUnref (t : TileId) (drover : Bool) (index : BitVec 16) (s : State) : Out :=
  .next (s.poolSubmit t (poolRow drover 3 index.toNat))

/-- Row COW (R158). -/
def execCow (t : TileId) (drover : Bool) (index : BitVec 16) (s : State) : Out :=
  .next (s.poolSubmit t (poolRow drover 4 index.toNat))

/-- Row SETCOUNT (R158, R162). -/
def execSetcount (t : TileId) (drover : Bool) (index : BitVec 16) (count : BitVec 5) (s : State) : Out :=
  .next (s.poolSubmit t (poolRow drover 5 index.toNat (count := count.toNat)))

/-- Row FETCH (R158, R170). -/
def execFetch (t : TileId) (drover : Bool) (index : BitVec 16) (s : State) : Out :=
  .next (s.poolSubmit t (poolRow drover 6 index.toNat))

/-- Row RETIRE (R158). -/
def execRetire (t : TileId) (drover : Bool) (index : BitVec 16) (s : State) : Out :=
  .next (s.poolSubmit t (poolRow drover 7 index.toNat))

/-- What the tile sees of a completed command of its own: TILE_PG_RES and the result area (R157). -/
def State.poolResult (s : State) (t : Nat) (c : PoolCmd) : State :=
  let s := ((s.wr TILE_PG_RES_INDEX t c.resIndex).wr TILE_PG_RES_STATUS t c.resStatus).wr TILE_PG_RES_DONE t 1
  let b := if 6 ≤ c.op then zeros 16 else (s.tile t).rdSpad (s.dirAddr t + 16 * c.resIndex) 16
  if c.resStatus = pgOk ∨ c.resStatus = pgEmpty then s.modTile t fun x => x.wrSpad (s.dirAddr t - 16) b else s

/-- The next waiting command begins. -/
def State.poolNext (s : State) (t : Nat) : State :=
  match (s.tile t).poolQ with
  | [] => s
  | c :: q => (s.modTile t fun x => { x with poolQ := q }).poolBegin t c

/-- A command that waited for a held line begins (R238). -/
def State.poolWake (s : State) (t : Nat) : State := if (s.tile t).poolRun.isSome then s else s.poolNext t

/-- Row POOL_CMD_DONE (R157, R160): a store stalled behind the tile's command is accepted in the same cycle,
and then the earlier result is never visible. -/
def execPoolCmdDone (t : TileId) (s : State) : Out :=
  let x := s.tile t
  match x.poolRun with
  | none => .next s
  | some c =>
    if s.now < c.ready then .next s
    else
      let s := s.modTile t fun x => { x with poolRun := none }
      if c.drover then .next (s.poolNext t)
      else match x.wait with
        | some (.pool w len) =>
          let s := (s.modTile t fun x => { x with wait := none }).retire t 0 0 len
          .next ((s.modTile t fun x => { x with poolQ := x.poolQ ++ [poolWord w] }).poolNext t)
        | _ =>
          if x.poolQ.any (fun q => !q.drover) then .next (s.poolNext t)
          else .next ((s.poolResult t c).poolNext t)

/-! ## Grace epochs and reclamation (R164, R165) -/

/-- An epoch of the 32-bit counter is the current one or an earlier one (R164). -/
def begunBy (epoch e : Nat) : Bool := decide ((e + 2 ^ 32 - epoch) % 2 ^ 32 < 2 ^ 31)

/-- Whether a transfer that a tile started reads the pool frames of `u` and began in an epoch up to `e`. -/
def State.xferReads (s : State) (o u e : Nat) (k : Xfer) : Bool :=
  let src := if k.put then o else k.tile
  let sp := if k.put then k.lspace else k.rspace
  let a := if k.put then k.loc else k.rem
  k.status.isNone && src == u && sp == 1 && begunBy k.epoch e
    && (linesOf a k.len).any fun l => (s.frameOf u l).isSome

/-- The arguments of a scrub's slot: acceptance order, 1 + the time of its start, first line, lines, the lines corrected
before its end, then the tiles. -/
def BgSlot.scrubs (b : BgSlot) : List Nat := b.args.drop 5

/-- Every running scrub. -/
def State.scrubSlots (s : State) : List (Nat × Nat × BgSlot) :=
  s.mboxes.flatMap fun x => (x.2.bg.filter fun b => b.2.opcode == 0x4003 && b.2.state == 1).map fun b => (x.1, b.1, b.2)

/-- A scrub that has started reads the pool frames of a tile (R164, R254). -/
def State.scrubReads (s : State) (t : Nat) : Bool :=
  s.scrubSlots.any fun k => k.2.2.args.getD 1 0 != 0 && k.2.2.scrubs.contains t
    && decide (k.2.2.args.getD 2 0 < s.frameAddr t (s.nframes t) / 64
      ∧ s.frameAddr t 0 / 64 < k.2.2.args.getD 2 0 + k.2.2.args.getD 3 0)

/-- A running ATTN reads a page in the pool's frame range. -/
def State.attnReads (s : State) (t : Nat) (op : UnitOp) : Bool :=
  ((Attn.of op.desc).pages (s.tile t)).any fun b =>
    let d := PageDesc.ofBytes b
    (List.range (pageLines d.fmt (Attn.of op.desc).d)).any fun l => (s.frameOf t (d.addr / 64 + l)).isSome

/-- A read of the pool frames begun in the current epoch or earlier is outstanding: an ATTN that has started, a transfer,
a copy of COW, a held line, or a scrub. Other reads are one step each. -/
def State.readsOpen (s : State) (t : Nat) : Bool :=
  let e := s.rd TILE_PG_EPOCH_EPOCH t
  (match (s.tile t).poolRun with
    | some c => c.op == 4 && c.resStatus == pgOk && c.resIndex != c.index
    | none => false)
  || (s.tile t).heldLines.any (fun k => (s.frameOf t k.1).isSome) || s.scrubReads t
  || (match (s.tile t).taRun with
    | some op => fld op.desc 0 1 == 2 && !op.written && begunBy op.epoch e && s.attnReads t op
    | none => false)
  || s.tiles.any fun y => y.2.xfers.any (s.xferReads y.1 t e)

/-- A frame whose two conditions hold: epoch ZEPOCH + 1 has closed, of a counter of 32 bits that wraps, and a checkpoint has completed since its
REFCNT reached zero. -/
def State.reclaimable (s : State) (t i : Nat) : Bool :=
  let d := s.dirEntry t i
  d.fmt != 0 && d.reclaim && decide (2 ≤ (s.rd TILE_PG_EPOCH_EPOCH t + 2 ^ 32 - d.zepoch) % 2 ^ 32)
    && (!d.ckheld || !(s.tile t).ckWait.contains i)

/-- Frames that may go return to the free list: FREE, every other field zero except FRAME. One that awaits
its zero lines joins the list later (R247). -/
def State.reclaim (s : State) (t : Nat) : State :=
  s.each (List.range (s.nframes t)) fun s i =>
    if s.reclaimable t i then
      let s := s.setDir t i ⟨0, 0, 0, 0, false, false, 0, i, 0⟩
      let s := s.wr TILE_PG_FREE_PENDING t (s.rd TILE_PG_FREE_PENDING t - 1)
      if (s.tile t).zeroFrames.contains i then s
      else s.wr TILE_PG_FREE_FREE t (s.rd TILE_PG_FREE_FREE t + 1)
    else s

/-- Row GRACE_EPOCH_CLOSE (R164): at most one epoch closes at an instant. -/
def execGraceEpochClose (t : TileId) (s : State) : Out :=
  if s.nframes t = 0 ∨ s.now % 1000000 ≠ 0 ∨ s.now = (s.tile t).epochAt ∨ s.readsOpen t then .next s
  else
    let s := s.modTile t fun x => { x with epochAt := s.now }
    .next ((s.wr TILE_PG_EPOCH_EPOCH t (s.rd TILE_PG_EPOCH_EPOCH t + 1)).reclaim t)

/-- Row FRAME_ZERO_OVERWRITE (R247): a frame that became FREE has its lines overwritten with zeros, and joins
the free list. -/
def execFrameZeroOverwrite (t : TileId) (frame : Nat) (s : State) : Out :=
  if (s.tile t).zeroFrames.contains frame ∧ frame < s.nframes t ∧ (s.dirEntry t frame).fmt = 0
      ∧ !s.frameHeld t frame then
    let base := s.frameAddr t frame / 64
    let s := s.each (List.range (s.frameBytes t / 64)) fun s i =>
      s.writeLine t (base + i) (s.slotFor t (base + i)) (zeros 64)
    let s := s.modTile t fun x => { x with zeroFrames := x.zeroFrames.filter (· ≠ frame) }
    .next (s.wr TILE_PG_FREE_FREE t (s.rd TILE_PG_FREE_FREE t + 1))
  else .next s

/-- The registers of a tile's pool at their Reset values: no pool. -/
def State.dropPool (s : State) (t : Nat) : State :=
  let s := ((s.wr TILE_PG_DIR_DIR t 0).wr TILE_PG_FRAMES_NFRAMES t 0).wr TILE_PG_FRAMES_RESERVE t 0
  let s := ((s.wr TILE_PG_BASE_FBASE t 0).wr TILE_PG_GEOM_DCODE t 0).wr TILE_PG_GEOM_FFMT t 0
  ((s.wr TILE_PG_FREE_FREE t 0).wr TILE_PG_FREE_PENDING t 0).wr TILE_PG_EPOCH_EPOCH t 0

end Sys2Proof.Machine
end

