-- ==== Sys2Proof/Machine/Swap.lean ====
section
/-! DEFINITION. Update windows (R156), preemption, swap-out and swap-in (R167 to R170), re-pinning (R149), and
the page pass of a key rotation (R173, R174). -/
namespace Sys2Proof.Machine

/-! ## Update windows (R156) -/

/-- The tile's queues and transfers have drained. -/
def Tile.drained (x : Tile) : Bool :=
  x.taQ.isEmpty && x.taRun.isNone && x.vecQ.isEmpty && x.vecRun.isNone && x.outstanding == 0

/-- The session of the tile's job is rotating its key. -/
def State.rotatingAt (s : State) (t : Nat) : Bool :=
  match s.jobOf t with
  | some j => (s.sess j.fn).rotating
  | none => false

/-- A tile and its twin. -/
def Job.pair (j : Job) (t : Nat) : List Nat := t :: (j.partner t).toList

/-- The tile that FLOW_OPEN names, or the job tile with the most free frames of those that may take a flow, ties to the lowest tile ID (R148, R233). -/
def State.flowTile (s : State) (j : Job) (t : Nat) : Nat :=
  let l := j.tiles.filter fun u => !(j.pair u).any s.lost
  if t ≠ 0xFFFF then t
  else l.foldl (fun a u =>
    let fa := s.rd TILE_PG_FREE_FREE a
    let fu := s.rd TILE_PG_FREE_FREE u
    if fa < fu ∨ (fa = fu ∧ u < a) then u else a) (l.headD (j.tiles.headD 0))

/-- The tiles in whose flow table a FLOW_OPEN or FLOW_RETIRE acts. -/
def State.flowTargets (s : State) (r : Req) : List Nat :=
  if r.opcode = 0x3001 then
    match s.jobs.find? (·.handle == r.object) with
    | some j => j.pair (s.flowTile j (fld r.payload 0 2))
    | none => []
  else if r.opcode = 0x3004 then
    match s.flows.find? fun f => f.live && f.handle == r.object with
    | some f => f.tile :: (s.partnerOf f.tile).toList
    | none => []
  else []

/-- A FLOW_OPEN or FLOW_RETIRE that a mailbox still runs asked for a window on the tile in which it acts; the request of
any other is void. -/
def State.winAsked (s : State) (t : Nat) : Bool :=
  (s.tile t).winReq && s.mboxes.any fun m => s.rd MBX_STAT_STATE m.1 == 1 && (match m.2.accepted with
    | some r => (s.flowTargets r).contains t
    | none => false)

/-- The drover may write the page lists, flow table and directory of a tile: its job does not run, or it stands in a
drained update window (R156). -/
def State.mayWrite (s : State) (t : Nat) : Bool :=
  ((s.jobOf t).map (·.state)).getD 0 != 3 || ((s.tile t).inWin && (s.tile t).drained)

/-- A job has a flow to move from a penned tile (R149). -/
def State.repinDue (s : State) (j : Job) : Bool :=
  j.all.any fun t => s.penned (tileUnit t) && (s.tile t).nfte != 0

/-- The drover has something to do in a window on the tile: an action of the flow-state chapter, the
writing of regenerated norms (R215), or a self-test of a job tile (R234). -/
def State.winWanted (s : State) (t : Nat) : Bool :=
  let x := s.tile t
  s.winAsked t || !x.winActs.isEmpty || !x.victims.isEmpty || !x.fetches.isEmpty || !x.swaps.isEmpty || s.rotatingAt t
    || ((s.jobOf t).map s.repinDue).getD false
    || (match s.partnerOf t with | some u => (s.tile u).swaps.any (fun w => !w.out && !w.ok) | none => false)
    || (x.selftest && s.rd TILE_STATE_STATE t == 1)

/-- Row UPDATE_WINDOW_HALT (R156): the core halts at the instruction boundary; the watchdog is held. -/
def execUpdateWindowHalt (t : TileId) (s : State) : Out :=
  if (s.tile t).inWin ∨ !s.winWanted t then .next s
  else .next ((s.modTile t fun x => { x with inWin := true, haltWin := true }).wdogHold t)

/-- A flow is retired on its tiles. -/
def State.retireFlow (s : State) (ts : List Nat) (entry handle : Nat) : State :=
  (s.each ts fun s t => s.retireEntry t entry).endFlow handle

/-- A flow is retired because its image is lost or corrupt (R170, R173). -/
def State.loseFlow (s : State) (f handle : Nat) : State :=
  let s := s.modSess f fun y => { y with swaps := y.swaps.filter (·.flow ≠ handle) }
  match s.flows.find? (fun k => k.live && k.handle == handle) with
  | none => s
  | some k =>
    (s.retireFlow (k.tile :: (s.partnerOf k.tile).toList) k.entry handle).event evFlowSwapCorrupt (tileUnit k.tile)
      (s.jobOf k.tile) (flow := handle)

/-- The drover may write the tiles of a flow (R156). -/
def State.mayLose (s : State) (handle : Nat) : Bool :=
  match s.flows.find? (fun k => k.live && k.handle == handle) with
  | none => true
  | some k => (k.tile :: (s.partnerOf k.tile).toList).all s.mayWrite

/-- One write of the drover inside a window. -/
def State.winAct (s : State) (t : Nat) : WinAct → State
  | .spad a b => s.modTile t fun x => x.wrSpad a b
  | .keySlot cur prev =>
    let s := ((s.wr VCH_KEY_CUR t cur).wr VCH_KEY_PREV t prev).wr VCH_KEY_ROT t 1
    (s.wr VCH_ROT_MARK_MARK t 0).wr TILE_PG_GEOM_KSLOT t cur
  | .poolUnref i => s.unrefFrame t i
  | .loseFlow f h => s.loseFlow f h

/-- A key slot that a window still has to write (R259); it outlives a restart of the job. -/
def WinAct.isKey : WinAct → Bool
  | .keySlot _ _ => true
  | _ => false

/-- A write that a window still has to make after a restart of the job. -/
def WinAct.outlives : WinAct → Bool
  | .keySlot _ _ => true
  | .loseFlow _ _ => true
  | _ => false

/-- A flow to retire whose tiles do not all stand in a window yet. -/
def State.awaitsTwin (s : State) : WinAct → Bool
  | .loseFlow _ h => !s.mayLose h
  | _ => false

/-- Row UPDATE_WINDOW_WRITE (R156): once drained, and a self-test done (R234), the drover writes and resumes the
core. -/
def execUpdateWindowWrite (t : TileId) (s : State) : Out :=
  let x := s.tile t
  if !x.inWin ∨ !x.drained ∨ x.selftest ∨ s.winAsked t ∨ x.winActs.any s.awaitsTwin then .next s
  else
    let s := x.winActs.foldl (fun s a => s.winAct t a) s
    .next ((s.modTile t fun x => { x with
      inWin := false, haltWin := false, winActs := [], winReq := false }).wdogGo t)

/-! ## Preemption (R167) -/

/-- Frames of an entry that a swap-out would release: those with REFCNT 1, with their list positions. -/
def State.releasable (s : State) (t e : Nat) : List (Nat × Nat) :=
  (((s.tile t).pageList e).zipIdx).filterMap fun (a, i) =>
    match s.listFrame t a with
    | some f => if (s.dirEntry t f).refcnt = 1 ∧ !(s.dirEntry t f).reclaim then some (i, f) else none
    | none => none

/-- Bytes of the swap image of an entry: header, pages padded to their frames, digest. -/
def State.imageLen (s : State) (t n : Nat) : Nat := 64 + n * s.frameBytes t + 64

/-- Where an image of `len` bytes fits in a swap area: the lowest place after the start or another image,
in 64-byte units (DESIGN CHOICE, log 24). -/
def Session.room (x : Session) (len : Nat) : Option Nat :=
  match x.swap with
  | none => none
  | some (_, size) =>
    let free := fun (o : Nat) => decide (o * 64 + len ≤ size) &&
      x.swaps.all fun k => decide (o * 64 + len ≤ k.slot * 64 ∨ k.slot * 64 + k.len ≤ o * 64)
    let starts := (0 :: x.swaps.map fun k => k.slot + k.len / 64).filter free
    starts.foldl (fun a o => match a with | none => some o | some b => some (min b o)) none

/-- Resident entries in ascending LAST, ties to the lower index, without one entry and those already
chosen. -/
def State.candidates (s : State) (t skip : Nat) : List Nat :=
  let x := s.tile t
  let all := (List.range x.nfte).filter fun e =>
    x.fteState e == 1 && e != skip && !x.victims.contains e && !x.swaps.any (·.entry == e)
  all.mergeSort fun a b => decide (x.fte a 16 8 < x.fte b 16 8) || (x.fte a 16 8 == x.fte b 16 8 && decide (a ≤ b))

/-- Victims taken in order until enough frames come free. -/
def State.pickVictims (s : State) (t need : Nat) : Nat → List Nat → List Nat
  | _, [] => []
  | have', e :: r =>
    if need ≤ have' then [] else e :: s.pickVictims t need (have' + (s.releasable t e).length) r

/-- The frames that a swap-in of an entry needs. -/
def State.fetchNeeds (s : State) (t e : Nat) : Nat :=
  match s.jobOf t with
  | none => 0
  | some j => match (s.sess j.fn).swaps.find? (fun k => k.tile == t && k.flow == (s.tile t).fte e 0 4) with
    | some k => k.pages.length
    | none => 0

/-- Frames that flows already chosen, or on their way out, will release. -/
def State.comingFree (s : State) (t : Nat) : Nat :=
  let x := s.tile t
  (x.victims.map fun e => (s.releasable t e).length).sum + ((x.swaps.filter (·.out)).map (·.frames.length)).sum

/-- Row PREEMPT (R167, R168): the pool ran dry, or stands below RESERVE at a power window. Without a swap area with room
the drover preempts nothing and reports POOL_EXHAUSTED. -/
def execPreempt (t : TileId) (s : State) : Out :=
  let x := s.tile t
  let res := s.rd TILE_PG_FRAMES_RESERVE t
  let pool := s.rd TILE_PG_FREE_FREE t + s.rd TILE_PG_FREE_PENDING t
  if s.nframes t = 0 ∨ (x.failedAlloc.isNone ∧ (res ≤ pool ∨ s.now % 1000000 ≠ 0)) then .next s
  else
    let skip := x.failedAlloc.getD 0xFFFF
    let need := max (max 1 res) (if x.fetches.contains skip then s.fetchNeeds t skip else 0)
    let cands := s.candidates t skip
    let picked := s.pickVictims t need (pool + s.comingFree t) cands
    let s := s.modTile t fun x => { x with failedAlloc := none }
    match s.jobOf t, picked with
    | none, _ => .next s
    | some j, [] =>
      .next (if (s.sess j.fn).swap.isSome then s
        else s.event evPoolExhausted (tileUnit t) (some j) (detail := toLE 4 t))
    | some j, e :: _ =>
      if ((s.sess j.fn).room (s.imageLen t (s.releasable t e).length)).isNone then
        .next (s.event evPoolExhausted (tileUnit t) (some j) (detail := toLE 4 t))
      else .next (s.modTile t fun x => { x with victims := x.victims ++ picked })

/-! ## Swap-out (R168, R169) -/

/-- The tweak of a unit of a swap image: its offset in the area in 64-byte units, bit 63 set. -/
def swapTweak (u : Nat) : Nat := u + 2 ^ 63

/-- A run of whole units encrypted or decrypted at a place of the swap area. -/
def swapCrypt (enc : Bool) (key slot : Nat) (b : Bytes) : Bytes :=
  ((chunks 64 (b.length / 64) b).zipIdx).flatMap fun (c, i) =>
    if enc then xtsEncrypt key (swapTweak (slot + i)) c else xtsDecrypt key (swapTweak (slot + i)) c

/-- The pages of the released frames read through the channel, each padded to its frame, with the lines
that carry poison. -/
def State.readReleased (s : State) (t : Nat) : List (Nat × Nat) → State × Bytes × List Nat
  | [] => (s, [], [])
  | (_, f) :: r =>
    let d := s.dirEntry t f
    let n := pageLines d.fmt (s.poolD t)
    let a := s.readLines t (d.addr / 64) n
    let len := s.frameBytes t
    let b := a.1.readReleased t r
    let bad := (a.2.zipIdx.filter fun k => k.1.poison).map (·.2)
    (b.1, sub (a.2.flatMap (·.data)) 0 len ++ b.2.1, bad ++ b.2.2.map (· + len / 64))

/-- The plaintext of a swap image: header, pages, digest padded with zeros to a whole unit. -/
def sealImage (body : Bytes) : Bytes := body ++ sha256 body ++ zeros 32

/-- Row SWAP_OUT (R168 steps 1 and 2). -/
def execSwapOut (t : TileId) (entry : Nat) (s : State) : Out :=
  let x := s.tile t
  if !x.victims.contains entry ∨ x.fteState entry ≠ 1 ∨ !x.drained
      ∨ (s.releasable t entry).any (fun k => s.frameHeld t k.2) then .next s
  else match s.jobOf t with
  | none => .next s
  | some j =>
    let rel := s.releasable t entry
    let len := s.imageLen t rel.length
    let drop := s.modTile t fun x => { x with victims := x.victims.filter (· ≠ entry) }
    match (s.sess j.fn).room len, (s.sess j.fn).swap, s.key (s.slotOf j.fn) with
    | some slot, some (base, _), some key =>
      if !s.masters j.fn then .next s
      else
        let h := x.fte entry 0 4
        let shared := ((x.pageList entry).zipIdx).filterMap fun (a, i) =>
          (s.listFrame t a).bind fun f => if (s.dirEntry t f).refcnt = 1 then none else some (i, f)
        let s := drop.setFte t entry 24 1 2
        let r := s.readReleased t rel
        let head := toLE 64 (Config.swapHeader h (x.fte entry 8 2) (x.fte entry 12 4) shared).toNat
        let img := sealImage (head ++ r.2.1)
        let pages := rel.map fun (i, f) => (i, (s.dirEntry t f).fmt, (s.dirEntry t f).count)
        let rec' : SwapImg := ⟨h, t, slot, len, (s.sess j.fn).keyGen, pages, r.2.2, true⟩
        let s := (r.1.wrHost (base + slot * 64) (swapCrypt true key slot img)).modSess j.fn fun y =>
          { y with swaps := y.swaps ++ [rec'] }
        let w : SwapWork := ⟨entry, true, rel.map (·.2), true, slot⟩
        .next (s.modTile t fun x => { x with swaps := x.swaps ++ [w] })
    | _, _, _ => .next (drop.event evPoolExhausted (tileUnit t) (some j) (detail := toLE 4 t))

/-- Row SWAP_OUT_COMPLETE (R168 step 3). -/
def execSwapOutComplete (t : TileId) (entry : Nat) (s : State) : Out :=
  let x := s.tile t
  match x.swaps.find? (fun w => w.entry == entry && w.out) with
  | none => .next s
  | some w =>
    if !x.drained then .next s
    else
      let gone := (x.pageList entry).filter fun a => match s.listFrame t a with
        | some f => w.frames.contains f
        | none => false
      let s := s.each w.frames fun s f => s.unrefFrame t f
      let s := s.each gone fun s a => s.modTile t fun x => x.wrSpad (a + 4) (zeros 1)
      let s := (s.setFte t entry 28 4 w.slot).setFte t entry 24 1 3
      .next (s.modTile t fun x => { x with swaps := x.swaps.filter (· ≠ w) })

/-! ## Swap-in (R170) -/

/-- The first `n` free frames. -/
def State.freeFrames (s : State) (t n : Nat) : List Nat :=
  ((List.range (s.nframes t)).filter fun i =>
    (s.dirEntry t i).fmt == 0 && !(s.tile t).zeroFrames.contains i).take n

/-- An image decrypted from host memory, and whether its digest matches. -/
def State.openImage (s : State) (f : Nat) (k : SwapImg) : Bytes × Bool :=
  match (s.sess f).swap, s.key (2 * f + k.gen) with
  | some (base, _), some key =>
    let b := swapCrypt false key k.slot (s.rdHost (base + k.slot * 64) k.len)
    let body := b.take (k.len - 64)
    (body, decide (sub b (k.len - 64) 32 = sha256 body))
  | _, _ => ([], false)

/-- A page written into a frame, line by line, under the frame's slot. -/
def State.fillFrame (s : State) (t frame slot : Nat) (b : Bytes) (lines : Nat) (bad : Nat → Bool) : State :=
  let l0 := s.frameAddr t frame / 64
  s.each (List.range lines) fun s i =>
    if bad i then s.writePoison t (l0 + i) else s.writeLine t (l0 + i) slot (sub b (64 * i) 64)

/-- The image that a flow table entry names by its handle and SWAPREF (R169). -/
def State.imageAt (s : State) (f t entry : Nat) : Option SwapImg :=
  let x := s.tile t
  (s.sess f).swaps.find? fun k => k.live && k.tile == t && k.flow == x.fte entry 0 4 && k.slot == x.fte entry 28 4

/-- Row SWAP_IN (R170 steps 1 to 4): SWAPPING_IN at once; too few free frames call for preemption, and the frames are
allocated by a later row. -/
def execSwapIn (t : TileId) (entry : Nat) (s : State) : Out :=
  let x := s.tile t
  if !x.fetches.contains entry ∨ !(x.fteState entry == 3 || x.fteState entry == 4)
      ∨ x.swaps.any (fun w => w.entry == entry && !w.out) ∨ !x.drained then .next s
  else match s.jobOf t with
  | none => .next s
  | some j =>
    match s.imageAt j.fn t entry with
    | none => .next s
    | some k =>
      let s := s.setFte t entry 24 1 4
      let frames := s.freeFrames t k.pages.length
      if !s.masters j.fn ∨ frames.any (s.frameHeld t ·) then .next s
      else if frames.length < k.pages.length then
        .next (s.modTile t fun x => { x with failedAlloc := some entry })
      else
        let img := s.openImage j.fn k
        let cur := s.rd TILE_PG_GEOM_KSLOT t
        let fb := s.frameBytes t
        let s := s.each ((frames.zip k.pages).zipIdx.map (·.2)) fun s i =>
          let f := frames.getD i 0
          let p := k.pages.getD i (0, 0, 0)
          let s := s.takeFrame t f p.2.1 p.2.2
          if img.2 then
            s.fillFrame t f cur (sub img.1 (64 + i * fb) fb) (pageLines p.2.1 (s.poolD t))
              (fun l => k.bad.contains (i * (fb / 64) + l))
          else s
        let w : SwapWork := ⟨entry, false, frames, img.2, k.slot⟩
        .next (s.modTile t fun x => { x with
          swaps := x.swaps ++ [w], fetches := x.fetches.filter (· ≠ entry), failedAlloc := x.failedAlloc.filter (· ≠ entry) })

/-- Row SWAP_IN_COMPLETE (R170 step 5): the list is rebuilt, or on a bad digest the flow is retired. The image stays while
the latest checkpoint names it (R166; DESIGN CHOICE, log 152). -/
def execSwapInComplete (t : TileId) (entry : Nat) (s : State) : Out :=
  let x := s.tile t
  match x.swaps.find? (fun w => w.entry == entry && !w.out), s.jobOf t with
  | some w, some j =>
    let h := x.fte entry 0 4
    if !x.drained ∨ (!w.ok ∧ !s.mayLose h) then .next s
    else
      let k := s.imageAt j.fn t entry
      let s := s.modTile t fun x => { x with swaps := x.swaps.filter (· ≠ w) }
      let keep := fun (q : SwapImg) =>
        if some q != k then some q else if x.ckpts.isEmpty then none else some { q with live := false }
      let s := s.modSess j.fn fun y => { y with swaps := y.swaps.filterMap keep }
      if w.ok then
        let pos := (k.map (·.pages)).getD []
        let s := s.each (pos.zipIdx.map (·.2)) fun s i =>
          let f := w.frames.getD i 0
          let p := pos.getD i (0, 0, 0)
          s.modTile t fun x => x.wrSpad (x.fte entry 4 4 + 16 * p.1) (s.dirEntry t f).bytes
        .next ((s.setFte t entry 28 4 0).setFte t entry 24 1 1)
      else
        let s := s.each w.frames fun s f => s.unrefFrame t f
        .next ((s.loseFlow j.fn h).retireEntry t entry)
  | _, _ => .next s

/-! ## Re-pinning (R149) -/

/-- The lowest empty entry of a tile's flow table. -/
def State.emptyEntry (s : State) (t : Nat) : Option Nat :=
  let x := s.tile t
  (List.range x.nfte).find? fun e => x.fte e 0 4 == 0

/-- One page of a flow copied to a frame of another tile; the new list entry goes to the same place. -/
def State.repinPage (s : State) (t dest a : Nat) : State :=
  match s.listFrame t a with
  | none => s.modTile dest fun x => x.wrSpad a ((s.tile t).rdSpad a 16)
  | some f => match s.freeFrame dest with
    | none => s
    | some g =>
      let d := s.dirEntry t f
      let n := pageLines d.fmt (s.poolD t)
      let r := s.readLines t (d.addr / 64) n
      let bad := fun i => (r.2.getD i ⟨[], false, .good, false⟩).poison
      let s := r.1.takeFrame dest g d.fmt d.count
      let s := s.fillFrame dest g (s.rd TILE_PG_GEOM_KSLOT dest) (r.2.flatMap (·.data)) n bad
      s.modTile dest fun x => x.wrSpad a (s.dirEntry dest g).bytes

/-- One entry of a flow moves to an empty entry of another tile. -/
def State.repinEntry (s : State) (t entry dest e : Nat) : State :=
  let x := s.tile t
  let s := s.each (x.pageList entry) fun s a => s.repinPage t dest a
  (s.modTile dest fun y => y.wrSpad (y.fteAddr e) (x.rdSpad (x.fteAddr entry) 32)).retireEntry t entry

/-- The tokens of a flow that wait in ingest buffers go to its new tile (R28; DEDUCED, log 126: their payload begins with
the flow handle, as R196 gives a host token's). -/
def State.redirect (s : State) (handle t dest : Nat) : State :=
  let move := fun (m : Msg) => if (fld m.payload 0 4 == handle && m.dst == t) then { m with dst := dest } else m
  { s with ports := s.ports.map fun p => (p.1, { p.2 with ingest := p.2.ingest.map move }) }

/-- Whether an entry of a flow may move: the drover may write both tiles, the flow does not swap, no line of its pages is
held, and the new tile has an empty entry and frames enough. -/
def State.mayRepin (s : State) (t entry dest : Nat) : Bool :=
  let x := s.tile t
  s.mayWrite t && s.mayWrite dest && (s.emptyEntry dest).isSome
    && decide ((x.pageList entry).length ≤ (s.freeFrames dest (x.pageList entry).length).length)
    && !(s.listFrames t entry).any (s.frameHeld t)

/-- Row FLOW_REPIN (R149): the flow of a penned tile, or of a tile that its job no longer holds, moves to another tile of
the job, in Dual mode from pair to pair; behind a penned channel its pages cannot be read, and it is retired. -/
def execFlowRepin (t : TileId) (entry : Nat) (dest : TileId) (s : State) : Out :=
  let h := (s.tile t).fte entry 0 4
  match s.flows.find? (fun f => f.live && f.tile == t.val && f.entry == entry && f.handle == h) with
  | none => .next s
  | some f =>
    match s.jobs.find? (fun j => j.handle == f.job) with
    | none => .next s
    | some j =>
      let ts := t.val :: (j.partner t).toList
      let ds := dest.val :: (j.partner dest).toList
      let moves := ts.any fun u => (s.tile u).fteState entry == 2 || (s.tile u).fteState entry == 4
      if (s.tile t).nfte ≤ entry ∨ (!ts.any (fun u => s.penned (tileUnit u) || s.penned (chanUnit u)) ∧ j.all.contains t.val)
          ∨ moves ∨ !ts.all s.mayWrite then .next s
      else if ts.any fun u => s.penned (chanUnit u) then
        let s := s.modSess j.fn fun y => { y with swaps := y.swaps.filter (·.flow ≠ h) }
        .next ((s.retireFlow ts entry h).event evFlowStateLost (tileUnit t) (some j) (flow := h))
      else
        match s.emptyEntry dest with
        | none => .next s
        | some e =>
          if !j.tiles.contains dest.val ∨ dest.val = t.val ∨ ts.length ≠ ds.length
              ∨ !(ts.zip ds).all (fun p => s.mayRepin p.1 entry p.2) then .next s
          else
            let s := (ts.zip ds).foldl (fun s p => s.repinEntry p.1 entry p.2 e) s
            let s : State := { s with
              flows := s.flows.map fun g => if g.handle = h then { g with tile := dest.val, entry := e } else g }
            let s := s.modSess j.fn fun y => { y with swaps := y.swaps.map fun (k : SwapImg) =>
              if k.flow = h then { k with tile := ((ts.zip ds).find? fun p => p.1 == k.tile).elim k.tile (·.2) } else k }
            .next (s.redirect h t dest)

/-! ## The page pass of a rotation (R173, R174) -/

/-- The slot of the session's earlier generation. -/
def State.oldSlotOf (s : State) (f : Nat) : Nat := 2 * f + (1 - (s.sess f).keyGen)

/-- Tiles that hold a job of a function's session. -/
def State.sessTiles (s : State) (f : Nat) : List Nat := (s.jobs.filter (·.fn == f)).flatMap (·.all)

/-- Row PAGE_REKEY_MOVE (R173): one page moves from the old slot to a spare frame under the new one. -/
def execPageRekeyMove (t : TileId) (frame : Nat) (s : State) : Out :=
  match s.jobOf t with
  | none => .next s
  | some j =>
    let ses := s.sess j.fn
    let d := s.dirEntry t frame
    let old := s.oldSlotOf j.fn
    if !ses.rotating ∨ !ses.bulkDone ∨ s.nframes t ≤ frame ∨ d.fmt = 0 ∨ d.reclaim ∨ d.kslot ≠ old
        ∨ !(s.tile t).drained ∨ s.frameHeld t frame then .next s
    else match s.freeFrame t with
      | none => .next s
      | some i =>
        let x := s.tile t
        let lists := (List.range x.nfte).flatMap fun e => if x.fte e 0 4 = 0 then [] else x.pageList e
        let places := lists.filter fun a => s.listFrame t a == some frame
        let s := s.copyPage t (d.addr / 64) (s.frameAddr t i / 64) (pageLines d.fmt (s.poolD t)) old
          (s.rd TILE_PG_GEOM_KSLOT t)
        let s := s.takeFrame t i d.fmt d.count
        let s := s.setDir t i { s.dirEntry t i with refcnt := d.refcnt }
        let s := s.each places fun s a => s.modTile t fun x => x.wrSpad a (s.dirEntry t i).bytes
        let s := (s.setDir t frame { d with refcnt := 1 }).unrefFrame t frame
        let s := s.modTile t fun x => { x with swaps := x.swaps.map fun w =>
          { w with frames := w.frames.map fun f => if f = frame then i else f } }
        .next (s.modSess j.fn fun y => { y with rotMoved := y.rotMoved + 1 })

/-- An image is lost: it counts no more, and its flow is retired, at once or in the next window of its tiles. One that
stays for a checkpoint alone is dropped (R173). -/
def State.imageLost (s : State) (f : Nat) (k : SwapImg) : State :=
  if k.live ∧ s.mayLose k.flow then s.loseFlow f k.flow
  else
    let s := s.modSess f fun y => { y with swaps := y.swaps.filter fun q => q.slot != k.slot && (!k.live || q.flow != k.flow) }
    match s.flows.find? fun q => q.live && q.handle == k.flow with
    | some q =>
      if !k.live then s
      else s.each (q.tile :: (s.partnerOf q.tile).toList) fun s t => s.modTile t fun x =>
        { x with winActs := x.winActs ++ [.loseFlow f k.flow] }
    | none => s

/-- A host read or write of an image that moves to the new key has failed (R173). -/
def State.imageFails (s : State) (f : Nat) : State :=
  match (s.sess f).swaps.find? fun k => k.gen != (s.sess f).keyGen with
  | some k => s.imageLost f k
  | none => s

/-- Row SWAP_IMAGE_REKEY (R173): one image of the old generation is written back under the new key. -/
def execSwapImageRekey (f : FnId) (slot : Nat) (s : State) : Out :=
  let ses := s.sess f
  match ses.swaps.find? (fun k => k.slot == slot && k.gen != ses.keyGen), ses.swap, s.key (s.slotOf f) with
  | some k, some (base, _), some key =>
    if !ses.rotating ∨ !ses.bulkDone ∨ !s.masters f then .next s
    else
      let img := s.openImage f k
      if !img.2 then .next (s.imageLost f k)
      else
        let s := s.wrHost (base + slot * 64) (swapCrypt true key slot (sealImage img.1))
        .next (s.modSess f fun y => { y with swaps := y.swaps.map fun (q : SwapImg) =>
          if q.slot = slot then { q with gen := ses.keyGen } else q })
  | _, _, _ => .next s

/-- A tile's bulk pass is still to come or under way. -/
def State.bulkOpen (s : State) (t : Nat) : Bool :=
  s.rdb VCH_KEY_ROT t || (s.tile t).winActs.any WinAct.isKey

/-- When every bulk pass of a rotation has ended, the page pass begins (R259). -/
def State.bulkCheck (s : State) (f : Nat) : State :=
  if (s.sess f).rotating ∧ (s.sessTiles f).all (fun u => !s.bulkOpen u) then
    s.modSess f fun x => { x with bulkDone := true }
  else s

/-- The old slot's page count (R174). -/
def State.oldCount (s : State) (f : Nat) : Nat :=
  let old := s.oldSlotOf f
  (s.sessTiles f).foldl (fun n t => n + ((List.range (s.nframes t)).filter fun i =>
      (s.dirEntry t i).fmt != 0 && (s.dirEntry t i).kslot == old).length)
    ((s.sess f).swaps.filter (·.gen != (s.sess f).keyGen)).length

/-- Row OLD_SLOT_ERASE (R174, R259): the slot is erased and the rotation's background slot is done. -/
def execOldSlotErase (f : FnId) (s : State) : Out :=
  let ses := s.sess f
  if !ses.rotating ∨ !ses.bulkDone ∨ s.oldCount f ≠ 0 then .next s
  else
    let s : State := { s with keys := s.keys.del (s.oldSlotOf f) }
    let s := s.modSess f fun y => { y with rotating := false, bulkDone := false }
    .next (match s.bg f ses.rotSlot with
      | some b => if b.opcode = 0x5002 ∧ b.state = 1 then s.bgEnd f ses.rotSlot stOk (toLE 8 ses.rotMoved ++ toLE 8 s.now) else s
      | none => s)

end Sys2Proof.Machine
end

