-- ==== Sys2Proof/Machine/Frames.lean ====
section
/-! DEFINITION. Frames of the rein between a tile and its fold's engine (R277, R278): sending with SEQ, and
accepting without duplicates. `toTile` is the direction of a frame. -/
namespace Sys2Proof.Machine

/-! Frame types (R278). -/
def rfHint : Nat := 0x1
def rfRetuned : Nat := 0x2
def rfHeld : Nat := 0x3
def rfNotch : Nat := 0x8
def rfAck : Nat := 0x9
def rfHold : Nat := 0xA
def rfResume : Nat := 0xB
def rfNak : Nat := 0xF

/-- Bytes 0 to 8 of a frame: TYPE, SEQ and PAYLOAD in little-endian order (R277). -/
def reinBody (type seq payload : Nat) : Bytes := toLE 9 (type + 16 * seq + 256 * payload)

/-- The frame as it is sent, with its CRC-8 (R277). -/
def reinFrame (type seq payload : Nat) : ReinFrame := ⟨type, seq, payload, crc8 (reinBody type seq payload)⟩

/-- The frames under way in a direction. -/
def Tile.wire (x : Tile) (toTile : Bool) : List ReinFrame := if toTile then x.toTile else x.toFce

/-- The frames under way in a direction replaced. -/
def Tile.setWire (x : Tile) (toTile : Bool) (l : List ReinFrame) : Tile :=
  if toTile then { x with toTile := l } else { x with toFce := l }

/-- A frame is sent with the next SEQ of its direction; the sender keeps it for a NAK. -/
def Tile.reinSend (x : Tile) (toTile : Bool) (type payload : Nat) : Tile :=
  let seq := (if toTile then x.reinSeqRx else x.reinSeqTx) % 16
  let f := reinFrame type seq payload
  let x := x.setWire toTile (x.wire toTile ++ [f])
  let kept := x.reinSent.filter fun k => !(k.1 == toTile && k.2.2.seq == seq)
  let x := { x with reinSent := kept ++ [(toTile, 0, f)] }
  if toTile then { x with reinSeqRx := (seq + 1) % 16 } else { x with reinSeqTx := (seq + 1) % 16 }

/-- A NAK is sent with the SEQ of the bad frame, and is the latest frame of that SEQ, which a NAK asks for again (DESIGN CHOICE,
log 153: R277 gives a NAK no SEQ of its own). -/
def Tile.reinNak (x : Tile) (toTile : Bool) (seq : Nat) : Tile :=
  let f := reinFrame rfNak seq 0
  let x := x.setWire toTile (x.wire toTile ++ [f])
  { x with reinSent := (toTile, 0, f) :: x.reinSent.filter fun k => !(k.1 == toTile && k.2.2 == f) }

def State.reinSend (s : State) (t : Nat) (toTile : Bool) (type payload : Nat) : State :=
  s.modTile t fun x => x.reinSend toTile type payload

/-- The SEQ that the receiver of a direction last accepted. -/
def Tile.lastSeq (x : Tile) (toTile : Bool) : Option Nat := if toTile then x.reinFromFce else x.reinFromTile

/-- The receiver of a direction accepts a frame. -/
def Tile.accept (x : Tile) (toTile : Bool) (f : ReinFrame) : Tile :=
  if toTile then { x with reinFromFce := some f.seq } else { x with reinFromTile := some f.seq }

/-- A HELD frame that comes to the front of the link arrives: it asks for nothing more at the engine. -/
def Tile.takeHeld (x : Tile) : Tile :=
  match (x.toFce.takeWhile fun f => f.type == rfHeld).getLast? with
  | none => x
  | some f => { x with toFce := x.toFce.dropWhile fun f => f.type == rfHeld }.accept false f

/-- The frame at the front of a direction arrives where it is of a type and its CRC holds: the tile without it, and the frame
unless it duplicates the one last accepted. The link is serial: no frame overtakes another (R277). -/
def Tile.reinTake (x : Tile) (toTile : Bool) (type : Nat) : Option (Tile × Option ReinFrame) :=
  match x.wire toTile with
  | [] => none
  | f :: r =>
    if f.type ≠ type ∨ f.crc ≠ crc8 (reinBody f.type f.seq f.payload) then none
    else
      let y := x.setWire toTile r
      if x.lastSeq toTile = some f.seq then some (y.takeHeld, none)
      else some ((y.accept toTile f).takeHeld, some f)

/-- The meaning of a frame's arrival: nothing where it is not at the front; a duplicate is discarded. -/
def State.reinArrive (s : State) (t : Nat) (toTile : Bool) (type : Nat)
    (act : State → Nat → State) : State :=
  match (s.tile t).reinTake toTile type with
  | none => s
  | some (x, none) => s.setTile t x
  | some (x, some f) => act (s.setTile t x) f.payload

end Sys2Proof.Machine
end

