-- ==== Sys2Proof/Machine/Xkraxa.lean ====
section
/-! DEFINITION. The Xkraxa instructions for tolerance, hints, time, counters and the watchdog (R85 to R90), and
the tile registers whose write has a row of its own (R54, R64, R109). -/
namespace Sys2Proof.Machine

/-- The largest delay and duration of a hint, ns (R86). -/
def hintMaxDelay : Nat := 1000000
def hintMaxDuration : Nat := 10000000

/-- Row KX_NBCTOL (R85). -/
def execKxNbctol (t : TileId) (rd rs1 : XReg) (s : State) : Out :=
  let s := s.kxIssue t (kxBits 0x0B 0 4 rd rs1 0)
  if !s.runs t then .next s
  else
    let old := s.rd NBC_TOL_EXTRA t
    .next ((s.wr NBC_TOL_EXTRA t ((s.tile t).xr rs1 % 256)).retire t rd old 4)

/-- Row KX_HINT (R86, R87, R89): the frame's first bit leaves at the issue (log 21). -/
def execKxHint (t : TileId) (rd rs1 rs2 : XReg) (s : State) : Out :=
  let s := s.kxIssue t (kxBits 0x0B 0 5 rd rs1 rs2)
  if !s.runs t then .next s
  else
    let x := s.tile t
    let delay := bf (x.xr rs1) 0 20
    let dur := bf (x.xr rs2) 0 24
    let l := bf (x.xr rs2) 24 4
    if dur = 0 then .next (s.retire t rd (statusWord kxEmpty 0) 4)
    else
      let d := min hintMaxDelay delay
      let n := min hintMaxDuration dur
      let st := if d < delay ∨ n < dur then kxClamped else kxOk
      let s := s.modTile t fun x => x.count 11 1
      let s := if d < 2000 then s.modTile t fun x => x.count 12 1 else s
      .next ((s.reinSend t false rfHint (d + n * 2 ^ 20 + l * 2 ^ 44)).retire t rd (statusWord st 0) 4)

/-- Row KX_STIME (R88). -/
def execKxStime (t : TileId) (rd : XReg) (s : State) : Out :=
  let s := s.kxIssue t (kxBits 0x0B 1 0 rd 0 0)
  .next (if s.runs t then s.retire t rd s.now 4 else s)

/-- The value that a tally epoch latched (R89): index 0 gives the epoch's number. -/
def Tile.tally (x : Tile) (i : Nat) : Nat :=
  if i = 0 then x.shadowEpoch else (x.shadow.find i).getD 0

/-- Row KX_TALLY (R89). -/
def execKxTally (t : TileId) (rd rs1 : XReg) (s : State) : Out :=
  let s := s.kxIssue t (kxBits 0x0B 1 1 rd rs1 0)
  let x := s.tile t
  .next (if s.runs t then s.retire t rd (x.tally (x.xr rs1 % 64)) 4 else s)

/-- Row KX_CNTR (R89). -/
def execKxCntr (t : TileId) (rd rs1 : XReg) (s : State) : Out :=
  let s := s.kxIssue t (kxBits 0x0B 1 2 rd rs1 0)
  .next (if s.runs t then s.retire t rd (s.counter t ((s.tile t).xr rs1 % 64)) 4 else s)

/-- Row KX_PET (R90, R108). -/
def execKxPet (t : TileId) (s : State) : Out :=
  let s := s.kxIssue t (kxBits 0x0B 1 3 0 0 0)
  .next (if s.runs t then (s.wdogReload t).retire t 0 0 4 else s)

/-! ## Registers with a row of their own -/

/-- A seed of the output-stage generator waits for the conversions issued before it (R54). -/
def State.seedTa (s : State) (t v : Nat) : State :=
  (s.modTile t fun x => { x with seedTa := x.seedTa ++ [(x.taCount, v)] }).applySeeds t

/-- A seed of the vector generator waits for the conversions issued before it (R54). -/
def State.seedVec (s : State) (t v : Nat) : State :=
  (s.modTile t fun x => { x with seedVec := x.seedVec ++ [(x.vecCount, v)] }).applySeeds t

/-- LIMIT is clamped to 5 to 50 µs (R109). -/
def State.setWdog (s : State) (t v : Nat) : State := s.wr TILE_WDOG_LIMIT t (clampN 5 50 (v % 64))

/-- Row TA_SEED_TA_WRITE (R54). -/
def execTaSeedTaWrite (t : TileId) (v : W32) (s : State) : Out := .next (s.seedTa t v.toNat)

/-- Row TA_SEED_VEC_WRITE (R54). -/
def execTaSeedVecWrite (t : TileId) (v : W32) (s : State) : Out := .next (s.seedVec t v.toNat)

/-- Row NBC_TOL_WRITE (R64, R66). -/
def execNbcTolWrite (t : TileId) (v : W32) (s : State) : Out := .next (s.wr NBC_TOL_EXTRA t (v.toNat % 256))

/-- Row TILE_WDOG_WRITE (R109). -/
def execTileWdogWrite (t : TileId) (v : W32) (s : State) : Out := .next (s.setWdog t v.toNat)

end Sys2Proof.Machine
end

