-- ==== Sys2Proof/Machine/TileRegs.lean ====
section
/-! DEFINITION. Writing registers by their access codes (R9, R10), and the four register blocks of a tile as its
program sees them (R55 to R57, R65 to R68, R75, R79, R92, R157, R210, R266). -/
namespace Sys2Proof.Machine

/-! ## Access codes (R9) -/

/-- The part of a field that lies in the word at an offset: its lowest bit in the field, its lowest bit in
the word, and its width; none where the field has no bit there. -/
def Field.part (f : Field) (off : Nat) : Option (Nat × Nat × Nat) :=
  let base := f.off + f.lo / 32 * 4
  let lo := f.lo % 32
  if base = off then some (0, lo, min f.w (32 - lo))
  else if base + 4 = off ∧ 32 < lo + f.w then some (32 - lo, 0, f.w - (32 - lo))
  else none

/-- A word written to one field by its access code. -/
def State.writeField (s : State) (f : Field) (u off v : Nat) : State :=
  match f.part off with
  | none => s
  | some (fl, wl, w) =>
    let old := s.rd f u
    let x := bf v wl w
    match f.acc with
    | .rw => s.wr f u (bfSet old fl w x)
    | .w1c => s.wr f u (old - (old &&& (x * 2 ^ fl)))
    | .w1s => s.wr f u (old ||| (x * 2 ^ fl))
    | _ => s

/-- A word written to every field of a block at an offset; reserved bits are ignored (R10). -/
def State.writeWord (s : State) (b : Blk) (u off v : Nat) : State :=
  b.fields.foldl (fun s f => s.writeField f u off v) s

/-! ## Channels (R92) -/

/-- TILE_TXCn_CFG written: DEST and DCH are ignored while EN = 1; a reserved DEST keeps its value (R91). -/
def State.writeTxcCfg (s : State) (t ch v : Nat) : State :=
  let k := chanOf t ch
  let en := bit v 15
  if s.rdb TILE_TXC_CFG_EN k then (if en then s else s.wr TILE_TXC_CFG_EN k 0)
  else
    let d := bf v 0 11
    let s := if endpointOk d then s.wr TILE_TXC_CFG_DEST k d else s
    let s := s.wr TILE_TXC_CFG_DCH k (bf v 11 4)
    if en then s.txcEnable t ch else s

/-- TILE_RXCn_RING written: the geometry is ignored while EN = 1; SLOTSZ 7 is ignored and SLOTS clamped. -/
def State.writeRxcRing (s : State) (t ch v : Nat) : State :=
  let k := chanOf t ch
  let en := bit v 31
  if s.rdb TILE_RXC_RING_EN k then (if en then s else s.rxcClose t ch)
  else
    let z := bf v 0 3
    let s := if z = 7 then s else s.wr TILE_RXC_RING_SLOTSZ k z
    let s := s.wr TILE_RXC_RING_SLOTS k (clampN 1 64 (bf v 8 7))
    if en then s.rxcOpen t ch else s

/-- TILE_RXCn_SRC written: ignored while EN = 1; a reserved SRC keeps its value. -/
def State.writeRxcSrc (s : State) (t ch v : Nat) : State :=
  let k := chanOf t ch
  if s.rdb TILE_RXC_RING_EN k then s
  else
    let e := bf v 0 11
    let s := if endpointOk e then s.wr TILE_RXC_SRC_SRC k e else s
    s.wr TILE_RXC_SRC_SCH k (bf v 11 4)

/-- A word written to a channel register. -/
def State.writeChan (s : State) (t off v : Nat) : State :=
  let ch := off / 16 % 16
  let o := off % 16
  if off < 0x200 then
    if o = 0 then s.writeTxcCfg t ch v else s.writeWord .txc (chanOf t ch) o v
  else if o = 0 then
    (if s.rdb TILE_RXC_RING_EN (chanOf t ch) then s else s.writeWord .rxc (chanOf t ch) o v)
  else if o = 4 then s.writeRxcRing t ch v
  else if o = 8 then s.writeRxcSrc t ch v
  else s

/-! ## The four blocks (R75) -/

/-- A word that the tile program writes at an offset of its register window; 0 TILE_, 1 TA_, 2 NBC_,
3 VCH_. -/
def State.writeTile (s : State) (t off v : Nat) : State :=
  let o := off % 0x1000
  match off / 0x1000 with
  | 0 =>
    if o = 0x018 then s.setWdog t v
    else if o = 0x310 then s.poolSubmit t (poolWord v)
    else if 0x100 ≤ o ∧ o < 0x300 then s.writeChan t o v
    else s.writeWord .tile t o v
  | 1 =>
    if o = 0x088 then s.seedTa t v
    else if o = 0x08C then s.seedVec t v
    else s.writeWord .ta t o v
  | 2 => if o = 0x004 then s.wr NBC_TOL_EXTRA t (v % 256) else s.writeWord .nbc t o v
  | _ => s

/-- A word that a read of the register window returns. REMAIN counts live (R108); a twin shows its primary's
TILE_ID (R208). -/
def State.readTile (s : State) (t off : Nat) : Nat :=
  let o := off % 0x1000
  match off / 0x1000 with
  | 0 =>
    if o = 0x000 then s.regWord .tile (if s.isTwin t then (s.partnerOf t).getD t else t) o
    else if o = 0x018 then s.rd TILE_WDOG_LIMIT t + s.wdogRemain t / 1000 * 256
    else if 0x100 ≤ o ∧ o < 0x200 then s.regWord .txc (chanOf t (o / 16 % 16)) (o % 16)
    else if 0x200 ≤ o ∧ o < 0x300 then s.regWord .rxc (chanOf t (o / 16 % 16)) (o % 16)
    else s.regWord .tile t o
  | 1 => s.regWord .ta t o
  | 2 => if 0x050 ≤ o ∧ o < 0x05C then s.regWord .vshOp (3 * t + (o - 0x050) / 4) 0x050 else s.regWord .nbc t o
  | _ => s.regWord .vch t o

end Sys2Proof.Machine
end

