-- ==== Sys2Proof/Machine/CoreIsa.lean ====
section
/-! DEFINITION. The tile core (R69 to R78, R81, R110): fetch through the instruction cache, loads, stores and
atomic operations on the tile's address map, traps, counter CSRs and the dispatch of Xkraxa. -/
namespace Sys2Proof.Machine

/-! ## The address map (R75) -/

def regBase : Nat := 0x400000
def regEnd : Nat := 0x404000
def winBase : Nat := 0x100000000

/-- A range of bytes lies in the scratchpad. -/
def inSpad (a n : Nat) : Bool := decide (a + n ≤ spadSize)

/-- An aligned word of a register block. -/
def isReg (a n : Nat) : Bool := decide (regBase ≤ a ∧ a < regEnd ∧ a % 4 = 0 ∧ n = 4)

/-- The address that a read of poison reports: the access's own, or where it meets the first poisoned line
(DEDUCED, log 26). -/
def Tile.poisonAt (x : Tile) (a n : Nat) : Option Nat := (x.firstPoison a n).map fun l => max a (l * 64)

/-! ## Fetch (R73, R77) -/

/-- The lines of the instruction cache. -/
def icacheLines : Nat := 1024

/-- A line enters the instruction cache; a full cache gives up a line that the spec does not name. -/
def State.icFill (s : State) (t l : Nat) (b : Bytes) : State :=
  let x := s.tile t
  if x.icache.length < icacheLines then s.modTile t fun x => { x with icache := x.icache.set l b }
  else
    let v := Config.icacheVictim s.drawn % icacheLines
    s.draw.modTile t fun x =>
      let kept : Tbl Bytes := x.icache.eraseIdx v
      { x with icache := Tbl.set kept l b }

/-- The outcome of a fetch. -/
inductive Fetch (α : Type) where
  | got (s : State) (v : α)
  | miss
  | fault (cause val : Nat)

/-- The two bytes at a fetch address. -/
def State.fetchHalf (s : State) (t a : Nat) : Fetch Nat :=
  let l := a / 64
  let pick := fun (b : Bytes) => fld b (a % 64) 2
  match (s.tile t).icache.find l with
  | some b => .got s (pick b)
  | none =>
    if a < spadSize then
      if l ∈ (s.tile t).poison then .fault 0x19 a
      else
        let b := (s.tile t).rdSpad (l * 64) 64
        .got (s.icFill t l b) (pick b)
    else if winBase ≤ a ∧ a < winBase + 2 ^ 28 then .miss
    else .fault 0x01 a

/-- The instruction bits at the pc: 16 of them for a compressed encoding. -/
def State.fetchInstr (s : State) (t : Nat) : Fetch (Nat × Nat) :=
  let pc := (s.tile t).pc.toNat
  match s.fetchHalf t pc with
  | .miss => .miss
  | .fault c v => .fault c v
  | .got s lo =>
    if lo % 4 ≠ 3 then .got s (lo, 2)
    else match s.fetchHalf t ((pc + 2) % 2 ^ 64) with
      | .miss => .miss
      | .fault c v => .fault c (if c = 0x01 then pc else v)
      | .got s hi => .got s (lo + hi * 65536, 4)

/-! ## Retiring -/

/-- A jump or branch retires. -/
def State.goTo (s : State) (t rd : Nat) (link target : W64) : State :=
  s.modTile t fun x => ({ x.setX rd link.toNat with pc := target }).count 2 1

def Tile.xv (x : Tile) (r : Nat) : W64 := BitVec.ofNat 64 (x.xr r)

/-- An illegal instruction (R110). -/
def State.illegal (s : State) (t bits : Nat) : State := s.tileFault t 0x02 bits

/-! ## Loads and stores (R75, R76, R78) -/

/-- A load of `n` bytes; `isLw` marks the one form that reads registers. -/
def State.loadOp (s : State) (t rd a n len : Nat) (signed isLw : Bool) : State :=
  let x := s.tile t
  let put := fun (v : Nat) => s.retire t rd (if signed then twos 64 (sext (8 * n) v) else v) len
  if inSpad a n then
    match x.poisonAt a n with
    | some p => s.tileFault t 0x19 p
    | none => put (leNat (x.rdSpad a n))
  else if isLw && isReg a n then put (s.readTile t (a - regBase))
  else s.tileFault t 0x05 a

/-- Bytes stored to the scratchpad, then the instruction retires with `v` in rd; a store into a guarded
region waits (R206). -/
def State.storeSpad (s : State) (t a : Nat) (b : Bytes) (rd v len : Nat) : State :=
  if (s.tile t).guards ⟨a, b.length⟩ then
    s.modTile t fun x => { x with
      wait := some (.store a b rd v len), guarded := x.guarded ++ [(s.now, .store)] }
  else (s.modTile t fun x => x.wrSpad a b).retire t rd v len

/-- A command of the tile is in its pool unit (R157). -/
def Tile.poolBusy (x : Tile) : Bool :=
  (match x.poolRun with | some c => !c.drover | none => false) || x.poolQ.any (fun c => !c.drover)

/-- A store of `n` bytes. -/
def State.storeOp (s : State) (t a n v len : Nat) : State :=
  if inSpad a n then s.storeSpad t a (toLE n v) 0 0 len
  else if isReg a n then
    if a - regBase = 0x310 ∧ (s.tile t).poolBusy then
      s.modTile t fun x => { x with wait := some (.pool (v % 2 ^ 32) len) }
    else (s.writeTile t (a - regBase) (v % 2 ^ 32)).retire t 0 0 len
  else s.tileFault t 0x07 a

/-- An atomic operation of `n` bytes (R76): LR, SC and the AMOs. -/
def State.amoOp (s : State) (t w n bits : Nat) : State :=
  let x := s.tile t
  let rd := bf w 7 5
  let f5 := bf w 27 5
  let a := x.xr (bf w 15 5)
  let b := x.xr (bf w 20 5)
  let old := leNat (x.rdSpad a n)
  let ext := twos 64 (sext (8 * n) old)
  let stored : Option Nat :=
    if n = 4 then (rvAmo f5 (BitVec.ofNat 32 old) (BitVec.ofNat 32 b)).map (·.toNat)
    else (rvAmo f5 (BitVec.ofNat 64 old) (BitVec.ofNat 64 b)).map (·.toNat)
  let lr := f5 == 0x02
  let sc := f5 == 0x03
  if !lr && !sc && stored.isNone || lr && bf w 20 5 != 0 then s.illegal t bits
  else if a % n ≠ 0 then s.tileFault t 0x06 a
  else if !inSpad a n then s.tileFault t (if lr then 0x05 else 0x07) a
  else if sc then
    let s' := s.modTile t fun x => { x with resv := none }
    if x.resv = some (a / 64) then s'.storeSpad t a (toLE n b) rd 0 4 else s'.retire t rd 1 4
  else match x.poisonAt a n with
    | some p => s.tileFault t 0x19 p
    | none =>
      if lr then (s.modTile t fun x => { x with resv := some (a / 64) }).retire t rd ext 4
      else s.storeSpad t a (toLE n (stored.getD 0)) rd ext 4

/-! ## System instructions (R70 to R74) -/

/-- Row WFI (R70): a no-op. -/
def execWfi (t : TileId) (s : State) : Out := .next (if s.runs t then s.retire t 0 0 4 else s)

/-- FENCE.I: the next fetch of every line reads memory again (R77). -/
def State.fenceI (s : State) (t : Nat) : State := (s.modTile t fun x => { x with icache := [] }).retire t 0 0 4

/-- Row FENCE_I (R77). -/
def execFenceI (t : TileId) (s : State) : Out := .next (if s.runs t then s.fenceI t else s)

/-- Row ECALL (R72): the low 16 bits of a0. -/
def execEcall (t : TileId) (s : State) : Out :=
  .next (if s.runs t then s.tileExit t ((s.tile t).xr 10 % 65536) else s)

/-- EBREAK halts for an attached debugger, else faults (R72, R110). -/
def State.breakPoint (s : State) (t : Nat) : State :=
  if (s.tile t).dbg then (s.modTile t fun x => { x with haltDbg := true }).wdogHold t
  else s.tileFault t 0x03 0

/-- Row EBREAK (R72). -/
def execEbreak (t : TileId) (s : State) : Out := .next (if s.runs t then s.breakPoint t else s)

/-- The counter CSRs (R74). -/
def State.counterCsr (s : State) (t csr : Nat) : Option Nat :=
  match csr with
  | 0xC00 => some (s.counter t 1)
  | 0xC01 => some s.now
  | 0xC02 => some (s.counter t 2)
  | _ => none

/-- A CSR instruction: mtvec reads zero and ignores writes (R71); a counter CSR may only be read (R74);
another CSR does not exist (log 27). -/
def State.csrOp (s : State) (t rd csr : Nat) (write : Bool) (bits : Nat) : State :=
  if csr = 0x305 then s.retire t rd 0 4
  else match s.counterCsr t csr with
    | some v => if write then s.illegal t bits else s.retire t rd v 4
    | none => s.illegal t bits

/-- Row COUNTER_CSR_ACCESS (R74): CSRRS with x0 for a read, CSRRW with x0 for a write. -/
def execCounterCsrAccess (t : TileId) (rd : XReg) (csr : BitVec 12) (write : Bool) (s : State) : Out :=
  let bits := rvEncI 0x73 rd (if write then 1 else 2) 0 (sext 12 csr.toNat)
  .next (if s.runs t then s.csrOp t rd csr.toNat write bits else s)

/-- SYSTEM instructions. MRET is illegal: a machine mode that vectors no trap has none to return from (DESIGN CHOICE, log
120). -/
def State.system (s : State) (t : TileId) (w bits : Nat) : State :=
  let f3 := bf w 12 3
  if w = 0x00000073 then s.tileExit t ((s.tile t).xr 10 % 65536)
  else if w = 0x00100073 then s.breakPoint t
  else if w = 0x10500073 then s.retire t 0 0 4
  else if f3 = 0 ∨ f3 = 4 then s.illegal t bits
  else s.csrOp t (bf w 7 5) (bf w 20 12) (f3 % 4 == 1 || bf w 15 5 != 0) bits

/-! ## Xkraxa (R81) -/

/-- The state that a meaning answers. -/
def Out.or (o : Out) (s : State) : State :=
  match o with
  | .next t => t
  | _ => s

/-- An Xkraxa instruction; unused register fields must be zero (R81). -/
def State.xkraxa (s : State) (t : TileId) (w bits : Nat) : State :=
  let rdn := bf w 7 5
  let a := bf w 15 5
  let b := bf w 20 5
  let rd : XReg := Fin.ofNat 32 rdn
  let r1 : XReg := Fin.ofNat 32 a
  let r2 : XReg := Fin.ofNat 32 b
  let one := fun (o : Out) => if b = 0 then o.or s else s.illegal t bits
  match w % 128, bf w 25 7, bf w 12 3 with
  | 0x0B, 0, 0 => one (execKxTaissue t rd r1 s)
  | 0x0B, 0, 1 => one (execKxVissue t rd r1 s)
  | 0x0B, 0, 2 => one (execKxTawait t rd r1 s)
  | 0x0B, 0, 3 => one (execKxVwait t rd r1 s)
  | 0x0B, 0, 4 => one (execKxNbctol t rd r1 s)
  | 0x0B, 0, 5 => (execKxHint t rd r1 r2 s).or s
  | 0x0B, 1, 0 => if a = 0 ∧ b = 0 then (execKxStime t rd s).or s else s.illegal t bits
  | 0x0B, 1, 1 => one (execKxTally t rd r1 s)
  | 0x0B, 1, 2 => one (execKxCntr t rd r1 s)
  | 0x0B, 1, 3 => if rdn = 0 ∧ a = 0 ∧ b = 0 then (execKxPet t s).or s else s.illegal t bits
  | 0x2B, 0, 0 => (execKxMsend t rd r1 r2 s).or s
  | 0x2B, 0, 1 => one (execKxMrecv t rd r1 s)
  | 0x2B, 0, 2 => one (execKxMfree t rd r1 s)
  | 0x2B, 0, 3 => (execKxMwait t rd r1 r2 s).or s
  | 0x2B, 0, 4 => one (execKxPut t rd r1 s)
  | 0x2B, 0, 5 => one (execKxGet t rd r1 s)
  | 0x2B, 0, 6 => one (execKxXwait t rd r1 s)
  | _, _, _ => s.illegal t bits

/-! ## The base instructions -/

/-- OP-IMM and OP-IMM-32: the shift forms fix the bits above the shift amount. -/
def State.opImm (s : State) (t w len bits : Nat) : State :=
  let x := s.tile t
  let rd := bf w 7 5
  let f3 := bf w 12 3
  let a := x.xv (bf w 15 5)
  let imm := rvImmI w
  if w % 128 = 0x13 then
    let top := bf w 26 6
    if f3 = 1 ∧ top ≠ 0 ∨ f3 = 5 ∧ top ≠ 0 ∧ top ≠ 0x10 then s.illegal t bits
    else s.retire t rd (rvAlu f3 (f3 == 5 && top == 0x10) a imm).toNat len
  else
    let top := bf w 25 7
    if f3 = 1 ∧ top ≠ 0 ∨ f3 = 5 ∧ top ≠ 0 ∧ top ≠ 0x20 then s.illegal t bits
    else match rvAlu32 f3 (f3 == 5 && top == 0x20) a imm with
      | some v => s.retire t rd v.toNat len
      | none => s.illegal t bits

/-- OP and OP-32, with the M extension. -/
def State.opReg (s : State) (t w len bits : Nat) : State :=
  let x := s.tile t
  let rd := bf w 7 5
  let f3 := bf w 12 3
  let f7 := bf w 25 7
  let a := x.xv (bf w 15 5)
  let b := x.xv (bf w 20 5)
  let wide := w % 128 == 0x33
  let alt := f7 == 0x20 && (f3 == 0 || f3 == 5)
  let v : Option W64 :=
    if f7 = 1 then (if wide then some (rvMul f3 a b) else rvMul32 f3 a b)
    else if f7 = 0 ∨ alt then (if wide then some (rvAlu f3 alt a b) else rvAlu32 f3 alt a b)
    else none
  match v with
  | some v => s.retire t rd v.toNat len
  | none => s.illegal t bits

/-- One 32-bit instruction, or the one that a 16-bit encoding stands for; `bits` is what was fetched. -/
def State.exec32 (s : State) (t : TileId) (w len bits : Nat) : State :=
  let x := s.tile t
  let rd := bf w 7 5
  let f3 := bf w 12 3
  let a := x.xv (bf w 15 5)
  let b := x.xv (bf w 20 5)
  let link := x.pc + BitVec.ofNat 64 len
  match w % 128 with
  | 0x37 => s.retire t rd (rvImmU w).toNat len
  | 0x17 => s.retire t rd (x.pc + rvImmU w).toNat len
  | 0x6F => s.goTo t rd link (x.pc + rvImmJ w)
  | 0x67 => if f3 = 0 then s.goTo t rd link ((a + rvImmI w) &&& ~~~1#64) else s.illegal t bits
  | 0x63 => match rvTaken f3 a b with
    | some k => s.goTo t 0 0#64 (if k then x.pc + rvImmB w else link)
    | none => s.illegal t bits
  | 0x03 =>
    if f3 = 7 then s.illegal t bits
    else s.loadOp t rd (a + rvImmI w).toNat (2 ^ (f3 % 4)) len (f3 < 4) (f3 == 2)
  | 0x23 =>
    if 3 < f3 then s.illegal t bits
    else s.storeOp t (a + rvImmS w).toNat (2 ^ f3) b.toNat len
  | 0x13 => s.opImm t w len bits
  | 0x1B => s.opImm t w len bits
  | 0x33 => s.opReg t w len bits
  | 0x3B => s.opReg t w len bits
  | 0x2F => if f3 = 2 then s.amoOp t w 4 bits else if f3 = 3 then s.amoOp t w 8 bits else s.illegal t bits
  | 0x0F => if f3 = 0 then s.retire t 0 0 len else if f3 = 1 then s.fenceI t else s.illegal t bits
  | 0x73 => s.system t w bits
  | 0x0B => s.xkraxa t w bits
  | 0x2B => s.xkraxa t w bits
  | _ => s.illegal t bits

/-- Row BASE_INSTRUCTION (R69): the core fetches at the pc and executes one instruction. A fetch that misses in
the code window waits for its line. -/
def execBaseInstruction (t : TileId) (s : State) : Out :=
  if !s.runs t then .next s
  else match s.fetchInstr t with
    | .miss => .next s
    | .fault c v => .next (s.tileFault t c v)
    | .got s (bits, len) =>
      if len = 4 then .next (s.exec32 t bits 4 bits)
      else match rvExpand bits with
        | some w => .next (s.exec32 t w 2 bits)
        | none => .next (s.illegal t bits)

/-- The fetch at the pc reads a line: that of the pc, or, once the first half of a 32-bit instruction is there, that of
its second half (R69, R77). -/
def State.fetchReads (s : State) (t l : Nat) : Bool :=
  let pc := (s.tile t).pc.toNat
  pc / 64 == l || ((pc + 2) / 64 == l && match s.fetchHalf t pc with
    | .got _ lo => lo % 4 == 3
    | _ => false)

/-- Row CODE_WINDOW_FETCH (R77): a line that the core's fetch misses fills the instruction cache through the
channel; a poisoned one is consumed by the fetch (R78, R110). A held line makes it wait (R238). -/
def execCodeWindowFetch (t : TileId) (line : BitVec 22) (s : State) : Out :=
  let pc := (s.tile t).pc.toNat
  let l := winBase / 64 + line.toNat
  if !s.runs t ∨ ((s.tile t).icache.find l).isSome ∨ !s.fetchReads t l ∨ s.lineHeld t line.toNat then .next s
  else
    let r := s.readLine t line.toNat (s.slotFor t line.toNat)
    if r.2.poison then .next (r.1.tileFault t 0x19 (if pc / 64 = l then pc else pc + 2))
    else .next (r.1.icFill t l r.2.data)

end Sys2Proof.Machine
end

