-- ==== Sys2Proof/Machine/TileCtl.lean ====
section
/-! DEFINITION. What the drover and the watch circuits do to a tile: watchdog and parity faults (R108, R110), tile
reset and start (R112), Tile Doze (R107), and the Fold Off map (R102). -/
namespace Sys2Proof.Machine

/-- The core of a tile is RUNNING, though it may wait or be halted. -/
def State.running (s : State) (t : Nat) : Bool := s.rd TILE_STATE_STATE t == 1

/-- Row WATCHDOG_EXPIRY (R108). -/
def execWatchdogExpiry (t : TileId) (s : State) : Out :=
  if s.running t ∧ (s.tile t).wdogFrom.isSome ∧ s.wdogRemain t = 0 then .next (s.tileFault t 0x1A 0)
  else .next s

/-- Row MESH_PARITY_ERROR (R110). On a tile that is not RUNNING it has no effect (DESIGN CHOICE, log 114). -/
def execMeshParityError (t : TileId) (s : State) : Out :=
  .next (if s.running t then s.tileFault t 0x1B 0 else s)

/-- Row SCRATCHPAD_PARITY_ERROR (R110). On a tile that is not RUNNING it has no effect (DESIGN CHOICE, log 114). -/
def execScratchpadParityError (t : TileId) (s : State) : Out :=
  .next (if s.running t then s.tileFault t 0x1C 0 else s)

/-! ## Tile reset (R112) -/

/-- Whether a register block and unit belong to a tile. -/
def tileHit (t : Nat) (b : Blk) (u : Nat) : Bool :=
  match b with
  | .ta => u == t
  | .nbc => u == t
  | .tile => u == t
  | .vch => u == t
  | .txc => u / 16 == t
  | .rxc => u / 16 == t
  | .vshOp => u / 3 == t
  | _ => false

/-- The parts of a tile that a tile reset restarts; the scratchpad, the column and what stands for fields of
K1 and above stay. The core's registers stay as they are (log 28). -/
def Tile.restart (x : Tile) : Tile :=
  { x with
    resv := none, wait := none, icache := [], taCount := 0, vecCount := 0, taQ := [], vecQ := []
    taRun := none, vecRun := none, taOpen := [], taEnd := none, taLost := none, vecLost := none, seedTa := [], seedVec := []
    shadow := [], shadowEpoch := 0, sendBuf := none, txSeq := [], txGen := [], rxGen := [], rxSeq := []
    xfers := [], guarded := [], dual := [], poolRun := none, poolQ := [] }

/-- A tile reset: every K0 field at its Reset value, the channels closed, messages in flight to the tile
discarded, STATE HELD, the watchdog reloaded from LIMIT (DESIGN CHOICE, log 116: R79 gives REMAIN the Reset value 50, R108
a reload). At a restart the channels come back, so that no revoke is sent, and the credit of a discarded message of a welt
port returns to its sender (R99, R443; DESIGN CHOICE, log 122). -/
def State.tileReset (s : State) (t : Nat) (restart : Bool := false) : State :=
  let s := if restart then s else s.each (List.range 16) fun s ch => s.rxcClose t ch
  let s := (s.dropGuarded t).resetRegs (tileHit t) 1
  let gone := s.mesh.filter fun m => m.dst == t && isPort m.src
  let s := ({ s with mesh := s.mesh.filter (fun m => m.dst != t) } : State).keepCredits
    fun c => c.dst != t || (restart && decide (0x400 ≤ c.src))
  let s := if restart then gone.foldl (fun s m => s.sendDiscard t m) s else s
  (((s.bookBusy t).modTile t Tile.restart).wdogReload t).wdogHold t

/-- Row TILE_RESET (R112): only when no job runs on the tile. -/
def execTileReset (t : TileId) (s : State) : Out :=
  match s.jobOf t with
  | some j => .next (if j.state = 3 ∨ j.state = 4 then s else s.tileReset t)
  | none => .next (s.tileReset t)

/-- The address in TILE_BOOT (R79). -/
def State.bootAddr (s : State) (t : Nat) : Nat :=
  (if s.rdb TILE_BOOT_SPACE t then winBase else 0) + s.rd TILE_BOOT_ADDR t * 4

/-- A core starts at an address: RUNNING, its clock runs, the watchdog counts from its limit (DESIGN CHOICE, log 117: R108
lists no reload at a start). -/
def State.startAt (s : State) (t pc : Nat) : State :=
  if !s.inService then s else
  let s := (s.clock t false).wr TILE_STATE_STATE t 1
  ((s.modTile t fun x => { x with pc := BitVec.ofNat 64 pc }).wdogReload t).wdogGo t

/-- Row TILE_START (R112). -/
def execTileStart (t : TileId) (s : State) : Out :=
  if s.rd TILE_STATE_STATE t = 0 ∧ !(s.tile t).off then .next (s.startAt t (s.bootAddr t)) else .next s

/-- The island clock of a tile that no running job holds is stopped (R107, R415). -/
def State.doze (s : State) (t : Nat) : State := ((s.clock t true).wr TILE_STATE_STATE t 5).wdogHold t

/-- Row TILE_DOZE (R107): free and held tiles only. -/
def execTileDoze (t : TileId) (s : State) : Out :=
  if (s.rd TILE_STATE_STATE t = 0 ∨ (s.jobOf t).isNone) ∧ !(s.tile t).off then .next (s.doze t) else .next s

/-! ## The Fold Off map (R102) -/

/-- The numbers from one end to the other. -/
def span (a b : Nat) : List Nat := (List.range (max a b - min a b + 1)).map (· + min a b)

/-- An XY and a YX route between two folds. -/
def foldRouteXY (a b : Nat) : List Nat :=
  (span (a % 8) (b % 8)).map (a / 8 * 8 + ·) ++ (span (a / 8) (b / 8)).map (· * 8 + b % 8)
def foldRouteYX (a b : Nat) : List Nat :=
  (span (a / 8) (b / 8)).map (· * 8 + a % 8) ++ (span (a % 8) (b % 8)).map (b / 8 * 8 + ·)

/-- With a set of folds off, any two of the folds that hold a tile that is on keep a route that avoids them. -/
def routesOk (off on : Nat → Bool) : Bool :=
  let on := (List.range 64).filter fun f => !off f && on f
  on.all fun a => on.all fun b => (foldRouteXY a b).all (!off ·) || (foldRouteYX a b).all (!off ·)

/-- Whether the drover would refuse to turn a fold off (R102: ST_DENIED). -/
def State.foldOffDenied (s : State) (f : Nat) : Bool :=
  !routesOk (fun g => g == f || s.foldOff g) fun g => (tilesOf g).any fun t => !(s.tile t).off

/-- The mesh is empty: no message and no credit message is on it. -/
def State.meshEmpty (s : State) : Bool := s.mesh.isEmpty && s.credits.isEmpty

/-- The drover's answer to the last Fold Off command (R102). -/
def State.foldAnswer (s : State) (status : Nat) : State := { s with foldReply := status }

/-- The map changes once the mesh is empty; until then injection stands still. -/
def State.changeMap (s : State) (f : Nat) (off : Bool) : State :=
  if s.meshEmpty then (s.modFold f fun x => { x with off := off }).injectWaiting
  else { s with meshStop := true }

/-- Row FOLD_MAP_CHANGE (R102). -/
def execFoldMapChange (f : FoldId) (off : Bool) (s : State) : Out :=
  if off && s.foldOffDenied f then .next (s.foldAnswer stDenied)
  else .next ((s.changeMap f off).foldAnswer stOk)

end Sys2Proof.Machine
end

