-- ==== Sys2Proof/Machine/Hold.lean ====
section
/-! DEFINITION. Outbound messages (R101): the hold stores of the welt ports and of the drover, sending, the
check horizon, release, retract and expiry (R222 to R225, R371, R374, R444). Hold store 8 is the drover's. -/
namespace Sys2Proof.Machine

/-- The link stack number (R380). -/
def State.stackNo (s : State) (p : Nat) : Nat := (s.port p).ownNo

/-! ## Into the hold store -/

/-- Payload bytes in a hold store. -/
def Port.heldBytes (x : Port) : Nat := (x.holdStore ++ x.sentHeld).foldl (fun n h => n + h.msg.payload.length) 0

/-- Hold store of a port: 256 KiB (R222). -/
def holdRoom : Nat := 262144

/-- Whether an outbound message is discarded as it reaches a port (R444). -/
def State.outDenied (s : State) (p : Nat) (m : Msg) : Bool :=
  let owner := s.portOwner p
  (match s.jobByTag m.job with | some j => j.fn != owner | none => true)
    || !s.sessOpen owner || !s.portUp p

/-- An outbound message is discarded: DENIED, its credit back; the twin's channel alike (R444, R208). -/
def State.denyOut (s : State) (p : Nat) (m : Msg) : State :=
  let one := fun (s : State) (t : Nat) => (s.applyBack t m.sch 1 m.gen).wr TILE_TXC_STAT_DENIED (chanOf t m.sch) 1
  let s := one (s.portCnt WELT_DISCARD_COUNT p 3 1) m.src
  match s.partnerOf m.src with
  | some u => one s u
  | none => s

/-- Messages on the mesh for a hold store enter it, in order, while there is room. -/
def State.intoHold (s : State) (e : Nat) : List Msg → State
  | [] => s
  | m :: r =>
    let out := fun (s : State) => ({ s with mesh := s.mesh.erase m } : State)
    if e = 8 then
      if m.dst = 0x410 then State.intoHold { out s with ringHeld := s.ringHeld ++ [⟨m, 0, none⟩] } e r
      else State.intoHold s e r
    else if m.dst ≠ 0x400 + e then State.intoHold s e r
    else if s.outDenied e m then State.intoHold ((out s).denyOut e m) e r
    else if (s.port e).heldBytes + m.payload.length ≤ holdRoom then
      State.intoHold ((out s).modPort e fun x => { x with holdStore := x.holdStore ++ [⟨m, 0, none⟩] }) e r
    else s

/-! ## Replayed results (R221) -/

/-- The digest of the released result with a sequence number on a channel, if that one was released before the restart. -/
def Tile.releasedDigest (x : Tile) (ch seq : Nat) : Option Bytes :=
  (((x.relSeq.find ch).getD []).find? (fun k => k.1 == seq)).map (·.2)

/-- A sequence number is at or below the highest that the channel released since the checkpoint; the numbers wrap. -/
def Tile.releasedBy (x : Tile) (ch seq : Nat) : Bool :=
  ((x.relSeq.find ch).getD []).any fun k => decide ((k.1 + 2 ^ 32 - seq) % 2 ^ 32 < 2 ^ 31)

/-- A replayed result at or below the highest that its channel had released is not released again; its credit goes back,
and a difference from the released result of its number raises REPLAY_DIVERGENCE. -/
def State.suppress (s : State) (m : Msg) : State :=
  let d := (s.tile m.src).releasedDigest m.sch m.seq
  let s := s.applyBack m.src m.sch 1 m.gen
  let s := match s.partnerOf m.src with
    | some u => s.applyBack u m.sch 1 m.gen
    | none => s
  if d.all (· == sha256 m.payload) then s else s.event evReplayDivergence (tileUnit m.src) (s.jobByTag m.job)

/-- The highest sequence number that a channel released is remembered with its digest. -/
def State.noteRelease (s : State) (m : Msg) : State :=
  s.modTile m.src fun x =>
    { x with relSeq := x.relSeq.set m.sch ((m.seq, sha256 m.payload) :: (x.relSeq.find m.sch).getD []) }

/-! ## Onto the link (R222, R371) -/

/-- Every operation up to a message's recorded numbers has completed; one that was abandoned never does. -/
def State.opsDone (s : State) (m : Msg) : Bool :=
  let x := s.tile m.src
  let after := fun (n : Nat) (l : List UnitOp) => l.all fun o => decide (n ≤ o.num)
  after m.ta (x.taQ ++ x.taRun.toList) && after m.vec (x.vecQ ++ x.vecRun.toList)
    && x.taLost.all (fun n => decide (m.ta ≤ n)) && x.vecLost.all (fun n => decide (m.vec ≤ n))

/-- The 32-byte header of a message on a link (R371). -/
def State.msgHeader (s : State) (p : Nat) (m : Msg) (held : Bool) (id : Nat) : Bytes :=
  toLE 1 (s.stackNo p) ++ toLE 1 m.rstack ++ toLE 2 m.src ++ toLE 2 m.rtile ++ toLE 1 (m.sch + 16 * m.rch)
    ++ toLE 1 0 ++ toLE 2 m.payload.length ++ toLE 2 0 ++ toLE 4 (if held then id else 0) ++ toLE 4 m.seq
    ++ toLE 2 m.gen ++ toLE 2 0 ++ toLE 8 s.now

/-- The flags and body of each flit of a held message: HELD is bit 0, FIRST bit 1, LAST bit 2. -/
def State.msgFlits (s : State) (p : Nat) (m : Msg) (id : Nat) : List (Nat × Bytes) :=
  let n := msgFlitCount m.payload.length
  (List.range n).map fun i =>
    let fl := 1 + (if i = 0 then 2 else 0) + (if i + 1 = n then 4 else 0)
    let b := if i = 0 then s.msgHeader p m true id ++ m.payload.take 212
      else (m.payload.drop (212 + 244 * (i - 1))).take 244
    (fl, b)

/-- A held message goes onto its link with the next hold ID. -/
def State.sendHeld (s : State) (p : Nat) (h : Held) : State :=
  let id := s.rd WELT_HOLDID_NEXT p
  let fl := s.msgFlits p h.msg id
  let s := (s.inc WELT_HOLDID_NEXT p 1).modPort p fun x => { x with
    holdStore := x.holdStore.erase h, sentHeld := x.sentHeld ++ [{ h with id := id }] }
  s.each (List.range fl.length) fun s i =>
    let k := fl.getD i (0, [])
    s.sendFlit p 0x08 k.1 k.2 (tag := id + 1)

/-- Row HELD_SEND (R222, R444): what waits on the mesh enters the hold store; the oldest held message whose
recorded operations have completed goes onto the link. -/
def execHeldSend (e : Fin 9) (s : State) : Out :=
  let s := s.intoHold e s.mesh
  if e.val = 8 then
    match s.ringHeld.find? (fun h => (s.tile h.msg.src).releasedBy h.msg.sch h.msg.seq && s.opsDone h.msg) with
    | some h => .next (({ s with ringHeld := s.ringHeld.erase h } : State).suppress h.msg)
    | none => .next s
  else
    match (s.port e).holdStore.find? (fun h => s.opsDone h.msg) with
    | none => .next s
    | some h =>
      if (s.tile h.msg.src).releasedBy h.msg.sch h.msg.seq then
        .next ((s.modPort e fun x => { x with holdStore := x.holdStore.erase h }).suppress h.msg)
      else .next (if s.rdb WELT_PSTAT_CONFLICT e then s else s.sendHeld e h)

/-! ## The check horizon (R223) -/

/-- H of a tile: the latest time such that every operation that completed by then has closed its checks; a payload under
comparison is no operation. -/
def State.horizon (s : State) (t : Nat) : Nat :=
  let x := s.tile t
  ((x.taOpen.map fun o => o.done.getD 0) ++ (x.dual.filter (·.kind != 2)).map (·.at')).foldl (fun h d => min h (d - 1)) s.now

/-- Row HORIZON_REPORT (R223): H goes to every hold store; a tile halted for a restart does not report. -/
def execHorizonReport (t : TileId) (s : State) : Out :=
  if (s.tile t).haltJob ∧ s.restartingAt t then .next s
  else
    let h := s.horizon t
    let s := s.each (List.range 8) fun s p => s.modPort p fun x => { x with horizon := x.horizon.set t h }
    .next { s with drvHorizon := s.drvHorizon.set t h }

/-! ## Release and retract (R101, R208, R222 to R224, R374) -/

/-- The tile's own recorded operations have closed their checks: the NBC's, and in Dual mode the pair's, with
the comparison of the payload. -/
def State.ownClosed (s : State) (m : Msg) : Bool :=
  let x := s.tile m.src
  s.opsDone m && x.taOpen.all (fun o => decide (m.ta ≤ o.num))
    && !x.dual.any (fun d => (d.kind == 0 && decide (d.num < m.ta)) || (d.kind == 1 && decide (d.num < m.vec))
        || (d.kind == 2 && d.num == m.seq * 16 + m.sch))

/-- The smallest H last received from the job's other tiles is at or after the send time. -/
def State.othersClosed (s : State) (hz : Tbl Nat) (m : Msg) : Bool :=
  match s.jobByTag m.job with
  | none => false
  | some j => (j.all.filter (· ≠ m.src)).all fun t => decide (m.tSend ≤ (hz.find t).getD 0)

/-- No detection on the job waits for its restart. -/
def State.undetected (s : State) (tag : Nat) : Bool :=
  match s.jobByTag tag with
  | none => false
  | some j => j.all.all fun t => (s.tile t).detections.isEmpty

/-- Whether a held message may be released. -/
def State.releasableMsg (s : State) (hz : Tbl Nat) (m : Msg) : Bool :=
  s.ownClosed m && s.othersClosed hz m && s.undetected m.job && !s.restartingAt m.src

/-- An ACK has covered the last flit of a sent message (R374). -/
def Port.acked (x : Port) (id : Nat) : Bool :=
  !x.outQ.any (fun f => f.tag == id + 1) && !x.replay.any (fun f => f.tag == id + 1)

/-- Row HELD_RELEASE (R223): the oldest releasable message of a hold store is released; the drover's go to
their ring. -/
def execHeldRelease (e : Fin 9) (s : State) : Out :=
  if e.val = 8 then
    match s.ringHeld.find? (fun h => s.releasableMsg s.drvHorizon h.msg
        && !(s.tile h.msg.src).releasedBy h.msg.sch h.msg.seq) with
    | none => .next s
    | some h =>
      match s.jobByTag h.msg.job with
      | none => .next s
      | some j =>
        let r := ringOf j.fn h.msg.dch
        let s := s.noteRelease h.msg
        .next (State.setStall { s with
          ringHeld := s.ringHeld.erase h
          ringQ := s.ringQ.set r ((s.ringQ.find r).getD [] ++ [⟨h.msg, s.now⟩]) } r)
  else
    let x := s.port e
    match x.sentHeld.find? (fun h => x.acked h.id && s.releasableMsg x.horizon h.msg) with
    | none => .next s
    | some h =>
      let s := (s.noteRelease h.msg).modPort e fun x => { x with sentHeld := x.sentHeld.erase h }
      .next (s.sendIds e 0x09 1 [h.id])

/-- Row HOLD_RETRACT_TIMEOUT (R222): 20 µs after its last flit a held result whose checks have not closed is
retracted. -/
def execHoldRetractTimeout (p : PortId) (s : State) : Out :=
  let x := s.port p
  let late := fun (h : Held) => (match h.sent with | some t => decide (t + 20000 ≤ s.now) | none => false)
    && !s.releasableMsg x.horizon h.msg
  match x.sentHeld.find? late with
  | none => .next s
  | some h =>
    let s := s.modPort p fun x => { x with sentHeld := x.sentHeld.erase h }
    let s := match s.partnerOf h.msg.src with
      | some u => s.refund { h.msg with src := u }
      | none => s
    .next ((s.refund h.msg).sendIds p 0x0A 1 [h.id])

/-- Flit credits of a channel of the own buffers are freed (R364). -/
def State.owe (s : State) (p vc n : Nat) : State :=
  s.modPort p fun x => { x with owed := x.owed.set vc (x.owed.getD vc 0 + n) }

/-- Row QUARANTINE_EXPIRY (R225): 100 µs with neither release nor retract. -/
def execQuarantineExpiry (p : PortId) (s : State) : Out :=
  match (s.port p).quarantine.find? (fun q => decide (q.at' + 100000 ≤ s.now)) with
  | none => .next s
  | some q =>
    let s := s.modPort p fun x => { x with quarantine := x.quarantine.erase q }
    let s := (s.owe p 0 (msgFlitCount q.msg.payload.length)).portCnt WELT_HOLDEXP_COUNT p 2 1
    .next (s.event evHoldExpired (portUnit p) none)

end Sys2Proof.Machine
end

