-- ==== Sys2Proof/Machine/Ckpt.lean ====
section
/-! DEFINITION. Checkpoints (R218 to R220): triggers, the drain, what a slot holds, and their completion. -/
namespace Sys2Proof.Machine

/-- A field of a tile that its state record keeps: class K0 (R218). -/
def recordKey (t k : Nat) : Bool :=
  let u := k / 64 / 65536 / 32
  match Blk.ofCode (k / 64 / 65536 % 32) with
  | none => false
  | some b => tileHit t b u && b.fields.any fun f => decide (regKey f u = k) && f.kept.rank == 0

/-- The state record and the scratchpad image of a tile (R218), both generator states among it (R54). The completed
transfers go with it, so that replay is deterministic (DEDUCED, log 46); the operation counts are noted, but numbering
restarts at 0 (R112). -/
def State.record (s : State) (tag t seq : Nat) : Ckpt :=
  let x := s.tile t
  { seq := seq, at' := s.now, tag := tag, x := x.x, pc := x.pc, state := s.rd TILE_STATE_STATE t
    regs := Tbl.set (Tbl.set (s.regs.filter fun k => recordKey t k.1) (regKey TA_SRNG_TA_STATE t) (s.rd TA_SRNG_TA_STATE t))
      (regKey TA_SRNG_VEC_STATE t) (s.rd TA_SRNG_VEC_STATE t)
    counters := (List.range 15).filterMap fun i => if i = 0 then some (1, s.cyclesOf t) else
      (x.counters.find (i + 1)).map fun v => (i + 1, v)
    poison := x.poison, spad := x.spad, txSeq := x.txSeq, txGen := x.txGen, rxGen := x.rxGen, rxSeq := x.rxSeq
    taCount := x.taCount, vecCount := x.vecCount, xfers := x.xfers, nextTag := x.nextTag, sendBuf := x.sendBuf
    ordinals := (s.flows.filter fun f => f.tile == t && f.live).map fun f => (f.handle, f.ordinal)
    fetches := x.fetches }

/-- The lines of a slot's state record and image are overwritten as a whole (R219, R243). -/
def Tile.clearSlot (x : Tile) (k : Nat) : Tile :=
  { x with col := x.col.drop fun l => decide (ckptBase k / 64 ≤ l ∧ l < ckptBase k / 64 + 0x10100) }

/-- A tile's checkpoint is written into a slot. -/
def State.writeCkpt (s : State) (tag t slot seq : Nat) : State :=
  let c := s.record tag t seq
  (s.markWritten t).modTile t fun x => { x.clearSlot slot with ckpts := x.ckpts.set slot c }

/-- A tile's log is emptied, and what counts from a checkpoint starts over (R219, R221). -/
def Tile.emptyLog (x : Tile) : Tile :=
  { x with undo := [], ingest := [], logBytes := 0, freed := [], credited := [], relSeq := [], ckWait := [] }

/-- A checkpoint names a frame: its directory entry there is in use (R166). -/
def State.namedBy (s : State) (t i : Nat) (c : Ckpt) : Bool :=
  (PageDesc.ofBytes (Memory.getN c.spad (s.dirAddr t + 16 * i) 16)).refcnt != 0

/-- CKHELD leaves the directory of a tile, since a checkpoint has completed, but for the frames that still wait for the
next one (R165). -/
def State.ckRelease (s : State) (t : Nat) : State :=
  s.each (List.range (s.nframes t)) fun s i =>
    let d := s.dirEntry t i
    if d.ckheld ∧ !(s.tile t).ckWait.contains i then s.setDir t i { d with ckheld := false } else s

/-- The checkpoint of the state at JOB_START (R193): slot 0 of every tile. -/
def State.startCkpt (s : State) (tag : Nat) : State :=
  match s.jobByTag tag with
  | none => s
  | some j =>
    let s := s.each j.all fun s t =>
      ((s.modTile t fun x => { x.emptyLog with ckpts := [], curSlot := 0 }).ckRelease t).writeCkpt tag t 0 1
    s.modJob tag fun j => { j with
      lastCkpt := s.now, ckptSeq := 1, ckptCount := 0, ckptDue := false, poisonHit := [], wdogHit := false }

/-! ## Triggers (R219) -/

/-- Frames with CKHELD that wait for a checkpoint only exceed RESERVE, or an eighth of the pool without one. -/
def State.framesWait (s : State) (t : Nat) : Bool :=
  let r := s.rd TILE_PG_FRAMES_RESERVE t
  let lim := if r = 0 then s.nframes t / 8 else r
  let n := ((s.tile t).ckWait.filter fun i =>
    let d := s.dirEntry t i
    d.reclaim && d.ckheld && decide (d.zepoch + 1 < s.rd TILE_PG_EPOCH_EPOCH t)).length
  s.nframes t != 0 && decide (lim < n)

/-- Whether a checkpoint of a running job is due by a log, by waiting frames or by CKPT. -/
def State.ckptDueNow (s : State) (j : Job) : Bool :=
  j.ckptDue || j.drainOwed || (j.policy.ckpt != 0 && decide (j.lastCkpt + j.policy.ckpt * 1000 ≤ s.now)) || j.all.any s.framesWait

/-- Step 1: issue and injection stop at every tile of the job. -/
def State.beginCkpt (s : State) (tag : Nat) : State :=
  match s.jobByTag tag with
  | none => s
  | some j =>
    let s := s.modJob tag fun j => { j with ckptOn := true, ckptDue := false }
    s.each j.all fun s t => (s.modTile t fun x => { x with haltCkpt := true, ckptDone := false }).wdogHold t

/-- Row CHECKPOINT_TIMER (R219). -/
def execCheckpointTimer (job : Nat) (s : State) : Out :=
  match s.jobByTag job with
  | none => .next s
  | some j => .next (if j.state = 3 ∧ !j.ckptOn ∧ s.ckptDueNow j then s.beginCkpt job else s)

/-! ## The drain and the copy -/

/-- Nothing runs or waits on a tile: operations, transfers, checks, pool commands, swaps (R219). -/
def Tile.quiet (x : Tile) : Bool :=
  x.drained && x.taOpen.isEmpty && x.dual.isEmpty && x.guarded.isEmpty && x.poolRun.isNone && x.poolQ.isEmpty
    && x.swaps.isEmpty && x.detections.isEmpty

/-- Step 2: the job holds no result and the mesh carries no message or credit of it. -/
def State.meshQuiet (s : State) (j : Job) : Bool :=
  !s.mesh.any (fun m => m.job == j.tag || j.all.contains m.dst)
    && !s.credits.any (fun c => c.srcJob == j.tag || j.all.contains c.dst)
    && !s.ringHeld.any (fun h => h.msg.job == j.tag)
    && !s.ports.any (fun p => (p.2.holdStore ++ p.2.sentHeld).any fun h => h.msg.job == j.tag)

/-- Row CHECKPOINT_WRITE (R219): after the drain, a tile's record and image go into its other slot; a held line of the slot
makes it wait (R238). -/
def execCheckpointWrite (t : TileId) (s : State) : Out :=
  match s.jobOf t with
  | none => .next s
  | some j =>
    let x := s.tile t
    let first := !j.all.any fun u => (s.tile u).ckptDone
    if !j.ckptOn ∨ x.ckptDone ∨ !x.quiet ∨ s.rangeHeld t (ckptBase (1 - x.curSlot) / 64) 0x20000 then .next s
    else if first ∧ !(j.all.all (fun u => (s.tile u).quiet) && s.meshQuiet j) then .next s
    else
      .next ((s.writeCkpt j.tag t (1 - x.curSlot) (j.ckptSeq + 1)).modTile t fun x => { x with ckptDone := true })

/-! ## Host batches (R196, R198) -/

/-- A record of a batch: where its bytes begin, its handle and its token length. -/
structure Record where
  off : Nat
  handle : Nat
  len : Nat
  deriving DecidableEq, Repr

/-- The records of a batch in host memory, `n` of them from an offset. -/
def State.batchFrom (s : State) (addr len : Nat) : Nat → Nat → List Record
  | 0, _ => []
  | n + 1, off =>
    if len < off + 8 then ⟨off, 0, 0⟩ :: State.batchFrom s addr len n off
    else
      let h := s.rdHost (addr + off) 8
      let l := fld h 4 2
      ⟨off, fld h 0 4, l⟩ :: State.batchFrom s addr len n (off + ceilDiv (8 + l) 8 * 8)

/-- The arguments of a FLOW_SUBMIT slot: address, length, count, acceptance order, time of acceptance, delivered,
skipped; then per record 0 while it waits, 1 once skipped, 2 plus its ordinal once delivered. -/
def BgSlot.a (b : BgSlot) (i : Nat) : Nat := b.args.getD i 0
def BgSlot.rec' (b : BgSlot) (i : Nat) : Nat := b.args.getD (7 + i) 0

/-- The records of a slot's batch. -/
def State.slotRecords (s : State) (b : BgSlot) : List Record := s.batchFrom (b.a 0) (b.a 1) (b.a 2) 0

/-- The flow that a record names, if the job has it live. -/
def State.recFlow (s : State) (j : Job) (k : Record) : Option Flow :=
  s.flows.find? fun f => f.handle == k.handle && f.live && f.job == j.handle

/-- A record still has to be delivered: it waits, or a restart took its delivery back (R198, R221). -/
def State.recPending (s : State) (j : Job) (b : BgSlot) (i : Nat) (k : Record) : Bool :=
  let v := b.rec' i
  v == 0 || (decide (2 ≤ v) && (match s.recFlow j k with | some f => decide (f.ordinal ≤ v - 2) | none => false))

/-- The slots of a job's FLOW_SUBMIT commands in a state. -/
def State.submits (s : State) (j : Job) (st : Nat) : List Nat :=
  ((s.mbox j.fn).bg.filter fun b => b.2.opcode == 0x3002 && b.2.object == j.handle && b.2.state == st).map (·.1)

/-- Every record of a delivered batch still counts as delivered: no restart has taken one back (R198). -/
def State.keptDelivered (s : State) (j : Job) (b : BgSlot) : Bool :=
  !(s.slotRecords b).zipIdx.any fun (k, i) => s.recPending j b i k

/-- Delivered host batches are retired (R198); `all`: those too whose tokens a restart has yet to replay. -/
def State.retireBatches (s : State) (j : Job) (all : Bool) : State :=
  s.each (s.submits j 3) fun s k =>
    match s.bg j.fn k with
    | some b => if all ∨ s.keptDelivered j b then s.bgSet j.fn k 4 stOk b.result else s
    | none => s

/-- The twins' images differ (R208). -/
def State.imagesDiffer (s : State) (j : Job) : Option Nat :=
  ((j.tiles.zip j.twins).find? fun p =>
    let img := fun (t : Nat) => ((s.tile t).ckpts.find (1 - (s.tile t).curSlot)).map (·.spad)
    img p.1 != img p.2).map (·.1)

/-- Step 4: the new slots are current, the logs empty, the tiles resume, or stay halted where the job is now PARKED
(R351, R429). A frame given up since the tile's record was written is one that the new checkpoint names: it stays until the
next (R166). -/
def State.endCkpt (s : State) (j : Job) : State :=
  let s := s.each j.all fun s t =>
    let c := (s.tile t).ckpts.find (1 - (s.tile t).curSlot)
    let s := s.modSess j.fn fun y => { y with swaps := y.swaps.filter fun k => k.live || k.tile != t }
    let s := (s.modTile t fun x => { x.emptyLog with
      ckWait := x.ckWait.filter fun i => (c.map (s.namedBy t i)).getD false
      curSlot := 1 - x.curSlot, haltCkpt := false, haltJob := x.haltJob || j.parkNext, ckptDone := false }).ckRelease t
    (s.reclaim t).wdogGo t
  let s := s.modJob j.tag fun j => { j with
    state := if j.parkNext then 5 else j.state, parkNext := false
    ckptOn := false, ckptOp := none, lastCkpt := s.now, ckptSeq := j.ckptSeq + 1, ckptCount := j.ckptCount + 1
    drainOwed := false, poisonHit := [], wdogHit := false }
  let s := s.retireBatches j false
  match j.ckptOp with
  | some (m, k) => s.bgEnd m k stOk (toLE 8 s.now)
  | none => s

/-- Row CHECKPOINT_COMPLETE (R219). In Dual mode the images of each pair agree first; otherwise the checkpoint is
not accepted and the pair is at fault (R208; DESIGN CHOICE, log 47). -/
def execCheckpointComplete (job : Nat) (s : State) : Out :=
  match s.jobByTag job with
  | none => .next s
  | some j =>
    if !j.ckptOn ∨ !j.all.all (fun t => (s.tile t).ckptDone) then .next s
    else match s.imagesDiffer j with
      | some t => .next ((s.abortCkpt job).detect t 2 none 0)
      | none => .next (s.endCkpt j)

end Sys2Proof.Machine
end

