-- ==== Sys2Proof/Machine/Check.lean ====
section
/-! DEFINITION. The closing of the checks of a Tensor Array operation (R58 to R64, R138). -/
namespace Sys2Proof.Machine

/-- Row NBC_CHECK_CLOSE (R61, R62): the checks of the oldest completed operation close. An exempt row sets
EXEMPT; a violation is captured and the drover notified. -/
def execNbcCheckClose (t : TileId) (s : State) : Out :=
  match (s.tile t).taOpen with
  | [] => .next s
  | op :: q =>
    let s := (s.modTile t fun x => { x with taOpen := q }).setOpen t
    let s := if op.exempt then s.wr NBC_STATUS_EXEMPT t 1 else s
    match op.viol with
    | none => .next s
    | some c => .next ((s.captureViol t op.num c).detect t 0 (some op) 0)

end Sys2Proof.Machine
end

