-- ==== Sys2Proof/Machine/Rails.lean ====
section
/-! DEFINITION. The rails (R267 to R275, R294, R296): families and figures, the reference slewer, what a regulator
supplies through a tie, and switching one on and off. -/
namespace Sys2Proof.Machine

/-! ## Families (R267, R268) -/

/-- Family of a regulator: 0 TLR, 1 TAR, 2 CIR, 3 LKR. -/
def famOf (r : Nat) : Nat := if r < 1024 then 0 else if r < 2048 then 1 else if r < 2112 then 2 else 3

def famLo (r : Nat) : Nat := [90, 110, 140, 140].getD (famOf r) 0
def famHi (r : Nat) : Nat := [190, 190, 220, 190].getD (famOf r) 0
def famPhases (r : Nat) : Nat := [4, 2, 4, 8].getD (famOf r) 0

/-- Continuous output current and phase rating, mA. -/
def famMa (r : Nat) : Nat := [6000, 2000, 8000, 16000].getD (famOf r) 0
def phaseMa (r : Nat) : Nat := [1500, 1000, 2000, 2000].getD (famOf r) 0

/-- Retention floor in RAIL LSB: 0.40, 0.50 and 0.60 V; an LKR has none. -/
def famFloor (r : Nat) : Nat := [1280, 1600, 1920, 0].getD (famOf r) 0

/-- The longest switching cycle of a phase, ns: 125 MHz less 4 %, and 50 MHz for an LKR (R280). -/
def famCycle (r : Nat) : Nat := if r < 2112 then 9 else 20

/-- The tile of a TLR or TAR. -/
def regTile (r : Nat) : Nat := r % 1024

/-- TLR_STAT.STATE codes (R304). -/
def rsOff : Nat := 0
def rsSoft : Nat := 1
def rsRegulate : Nat := 2
def rsBurst : Nat := 3
def rsSource : Nat := 4
def rsTied : Nat := 5
def rsFault : Nat := 6
def rsPenned : Nat := 7

def State.regState (s : State) (r : Nat) : Nat := s.rd TLR_STAT_STATE r

/-- The regulator switches, or its rail is served through a tie. -/
def State.regOn (s : State) (r : Nat) : Bool := let k := s.regState r; decide (1 ≤ k ∧ k ≤ 5)

/-! ## Samples (R308) -/

/-- The corrected code of a converter channel in the latest scan. -/
def State.chCode (s : State) (f c : Nat) : Nat := s.rd FCV_LAST_CODE (144 * f + c)

/-- The voltage channel of a regulator on its fold's converter. -/
def vChan (r : Nat) : Nat :=
  if r < 1024 then 8 * localOf r else if r < 2048 then 8 * localOf (r - 1024) + 5 else 128

/-- Its current channels. -/
def iChans (r : Nat) : List Nat :=
  if r < 1024 then (List.range 4).map (8 * localOf r + 1 + ·)
  else if r < 2048 then [8 * localOf (r - 1024) + 6, 8 * localOf (r - 1024) + 7]
  else [129, 130]

/-- The output of a regulator on the stratum at its latest sample, in RAIL LSB. -/
def State.sampled (s : State) (r : Nat) : Nat := if r < 2112 then s.chCode (foldOfReg r) (vChan r) else 0

/-- The reference code at which a soft start begins: 0, or the sampled output above 0.10 V (R294). -/
def State.softFrom (s : State) (r : Nat) : Nat := if 320 < s.sampled r then s.sampled r / 16 else 0

/-! ## The reference slewer (R274) -/

/-- Vref now, as a code: one step every 10 ns toward the set-point. -/
def Regul.ref (x : Regul) (now : Nat) : Nat :=
  let n := (now - x.refAt) / 10
  if x.frozen then x.refFrom
  else if x.refFrom ≤ x.refTo then min x.refTo (x.refFrom + n)
  else max x.refTo (x.refFrom - n)

def State.vref (s : State) (r : Nat) : Nat := (s.regul r).ref s.now

/-- When Vref arrives at its set-point. -/
def Regul.arrival (x : Regul) : Nat := x.refAt + 10 * (max x.refFrom x.refTo - min x.refFrom x.refTo)

/-- The slewer retargets from Vref's instantaneous value. -/
def State.slewTo (s : State) (r code : Nat) : State :=
  let v := s.vref r
  let s := s.modRegul r fun x => { x with refFrom := v, refAt := s.now, refTo := code, frozen := false }
  (s.wr TLR_VOUT_REF r v).wr TLR_STAT_SLEW r (b2n (v != code))

/-- The slewer freezes at Vref's instantaneous value (R276). -/
def State.freeze (s : State) (r : Nat) : State :=
  let v := s.vref r
  let s := s.modRegul r fun x => { x with refFrom := v, refAt := s.now, refTo := v, frozen := true }
  (s.wr TLR_VOUT_REF r v).wr TLR_STAT_SLEW r 0

/-! ## Set-points, and rails that a tie joins (R274, R296) -/

/-- The raise of the hint in force on a tile's TLR (R279). -/
def State.raiseOf (s : State) (r : Nat) : Nat :=
  if r < 1024 then match (s.tile r).hint with | some h => h.raise | none => 0 else 0

/-- The regulator that supplies a rail: the source of its tie, or itself. -/
def State.sourceOf (s : State) (r : Nat) : Nat :=
  if s.regState r = rsTied then s.rd TLR_TIE_PARTNER r else r

/-- The effective set-point: the commanded one plus any raise, at most the family maximum; for the source of a tie
the higher command and the larger raise of the pair (R274, R296). -/
def State.effSet (s : State) (r : Nat) : Nat :=
  let a := s.rd TLR_SET_VSET r
  if s.rdb TLR_TIE_SOURCE r then
    let q := s.rd TLR_TIE_PARTNER r
    min (famHi r) (max a (s.rd TLR_SET_VSET q) + max (s.raiseOf r) (s.raiseOf q))
  else min (famHi r) (a + s.raiseOf r)

/-- The TLRs whose islands a supply feeds: its own, and that of the rail tied to it. -/
def State.islandsOf (s : State) (r : Nat) : List Nat :=
  if 1024 ≤ r then [] else if s.rdb TLR_TIE_SOURCE r then [r, s.rd TLR_TIE_PARTNER r] else [r]

/-- An island on the rail runs, as the engine tracks it, above the notch last commanded: it retunes before the
reference falls (R107, R276). -/
def State.mustRetune (s : State) (r : Nat) : Bool :=
  (s.islandsOf r).any fun q => !(s.tile q).off && decide (s.rd TLR_SET_NOTCH q < (s.tile q).fceNotch)

/-- The slewer of a supply takes up its effective set-point, or freezes while an island retunes first (R276). -/
def State.retarget (s : State) (r : Nat) : State :=
  if s.mustRetune r then s.freeze r else s.slewTo r (s.effSet r)

/-! ## Acknowledgements (R275, R278) -/

/-- An ACK frame toward the tile of a TLR: status, command SEQ, reference code (R278; log 40). -/
def State.ackTile (s : State) (r status seq : Nat) : State :=
  if r < 1024 then s.reinSend r true rfAck (status + seq * 256 + s.vref (s.sourceOf r) * 4096) else s

/-- A command abandoned because its regulator stops (R278); its NOTCH frame goes out no more. -/
def State.abortSet (s : State) (r : Nat) : State :=
  match (s.regul r).cmd with
  | none => s
  | some k =>
    let s := (s.ackTile r 0x1C k.seq).modRegul r fun x => { x with cmd := none }
    if r < 1024 then s.modTile r fun x => { x with notchDue := none } else s

/-! ## Loops of a regulator (R317, R323) -/

/-- The loop of a regulator on the stratum: loops 0 to 15 the TLRs, 16 to 31 the TARs, 32 the CIR. -/
def ownLoop (r : Nat) : Nat :=
  36 * foldOfReg r + (if r < 1024 then localOf r else if r < 2048 then 16 + localOf (r - 1024) else 32)

/-- The states of a loop. -/
def State.loopX (s : State) (l : Nat) : List Int := (List.range 4).map fun j => sext 32 (s.rd FCE_LOOP_X_X (4 * l + j))

def State.setLoopX (s : State) (l : Nat) (x : List Int) : State :=
  (List.range 4).foldl (fun s j => s.wr FCE_LOOP_X_X (4 * l + j) (twos 32 (x.getD j 0))) s

/-- States, flags and uprev of a loop at zero. -/
def State.zeroLoop (s : State) (l : Nat) : State :=
  (s.setLoopX l [0, 0, 0, 0]).setLoop l { s.loop l with uprev := 0, holdHi := false, holdLo := false }

/-- The loops of a regulator that stops are frozen; a word meant for it is discarded (R318, R323). -/
def State.dropWord (s : State) (r : Nat) : State :=
  if 2112 ≤ r then s
  else s.each (List.range 36) fun s n =>
    let l := 36 * foldOfReg r + n
    if s.rd FCE_LOOP_CFG_REG l = r then
      (s.setLoop l { s.loop l with word := none }).wr FCE_LOOP_STAT_FROZEN l 1
    else s

/-! ## On and off (R289, R294, R304) -/

/-- The regulator stops with all switches open. -/
def State.regStop (s : State) (r st : Nat) : State :=
  let s := (s.abortSet r).dropWord r
  let s := ((s.wr TLR_STAT_STATE r st).wr TLR_STAT_PHASES r 0).wr TLR_STAT_SLEW r 0
  let s := ((s.wr TLR_STAT_HINT r 0).wr TLR_VOUT_REF r 0).wr TLR_STAT_SHED_BLOCK r 0
  s.modRegul r fun x => { x with
    refFrom := 0, refAt := s.now, refTo := 0, frozen := false, tripped := false, limited := [], loads := []
    uvRun := 0, lowRun := 0, shedBlock := 0, frames := [], balRun := 0, again := false, back := false }

/-- A soft start from a reference code to the stored set-point; the loop starts from zero (R294, R323). -/
def State.softStart (s : State) (r code : Nat) : State :=
  if !s.inService then s else
  let s := (s.wr TLR_STAT_STATE r rsSoft).wr TLR_STAT_PHASES r (famPhases r)
  let s := s.modRegul r fun x => { x with refFrom := code, refAt := s.now, refTo := code, stopAt := none }
  let s := if r < 2112 then s.zeroLoop (ownLoop r) else s
  s.slewTo r (s.effSet r)

/-- EN set: a soft start from the reference code given. A rail that is served through a tie stays so.
Nothing is brought up before the firmware runs, in recovery mode, or while the stratum waits for PERST# (R291, R292, R402, R414). -/
def State.regEnable (s : State) (r code : Nat) : State :=
  if s.rdb TLR_CFG_EN r ∨ s.penned (regUnit r) ∨ !s.inService then s
  else if s.regState r = rsTied then s.wr TLR_CFG_EN r 1
  else (s.wr TLR_CFG_EN r 1).softStart r code

/-- EN cleared. A tie lasts (R299): the failed regulator's rail stays with its source, and a source that stops takes
both rails along. -/
def State.regDisable (s : State) (r : Nat) : State :=
  if !s.rdb TLR_CFG_EN r then s
  else if s.regState r = rsTied then s.wr TLR_CFG_EN r 0
  else (s.regStop r rsOff).wr TLR_CFG_EN r 0

/-- Every phase runs, and burst mode ends (R284, R285); a tie's source that Standby put there is a source again (R416). -/
def State.allPhases (s : State) (r : Nat) : State :=
  let s := if s.regState r = rsBurst then s.wr TLR_STAT_STATE r (if s.rdb TLR_TIE_SOURCE r then rsSource else rsRegulate) else s
  if s.regOn r ∧ s.regState r ≠ rsTied then
    (s.wr TLR_STAT_PHASES r (famPhases r)).modRegul r fun x => { x with lowRun := 0 }
  else s

/-- Burst mode: every phase idle, the loop frozen (R285, R323). -/
def State.enterBurst (s : State) (r : Nat) : State :=
  (((s.wr TLR_STAT_STATE r rsBurst).wr TLR_STAT_PHASES r 0).dropWord r).modRegul r fun x => { x with lowRun := 0 }

/-- An orderly or immediate thermal stop is under way or made (R351): it admits no work. -/
def State.heatStops (s : State) : Bool := decide (4 ≤ s.rd THM_STAT_LEVEL 0)

/-- It keeps the rails off, until the return from an orderly stop has begun (R352). -/
def State.railsBarred (s : State) : Bool := s.heatStops && s.stopKind != 3

/-! ## The bring-up of a fold (R294, R402) -/

/-- A tile is brought up or will not be: it is on, penned, or its rails have failed. -/
def State.settled (s : State) (t : Nat) : Bool :=
  !(s.tile t).off || s.penned (tileUnit t) || decide (6 ≤ s.regState (tlrOf t)) || decide (6 ≤ s.regState (tarOf t))

/-- The converter of a fold has failed, or is penned (R233, R313). -/
def State.fcvDown (s : State) (f : Nat) : Bool := s.penned (fcvUnit f) || s.rdb FCV_STAT_FAULT f

/-- A fold's regulators are brought up, or will not be. -/
def State.foldUp (s : State) (f : Nat) : Bool :=
  if s.foldOff f then s.fcvDown f || s.penned (regUnit (cirOf f)) || decide (6 ≤ s.regState (cirOf f))
  else (tilesOf f).all s.settled

/-! ## The link regulators (R270, R290) -/

/-- The LKR of a lane can serve it: it is not in FAULT and not penned. -/
def State.lkrOk (s : State) (l : Nat) : Bool := decide (s.regState (lkrOf l) < 6)

/-- A lane that is to train or serve has its LKR on. -/
def State.lkrFor (s : State) (l st : Nat) : State := if st = 1 ∨ st = 2 then s.regEnable (lkrOf l) 0 else s

/-- A lane is taken out of service: its VLNK is switched off. One that has failed stays in FAULT. -/
def State.lkrOut (s : State) (l : Nat) : State := if s.lkrOk l then s.regDisable (lkrOf l) else s

end Sys2Proof.Machine
end

