-- ==== Sys2Proof/Machine/Welt.lean ====
section
/-! DEFINITION. The welt link layer (R359 to R378): receiving flits, link states and lanes, messages and grants
from a peer, and stack time across links. -/
namespace Sys2Proof.Machine

/-! ## Link states (R366) -/
def psDisabled : Nat := 0
def psDown : Nat := 1
def psTraining : Nat := 2
def psHello : Nat := 3
def psUp : Nat := 4
def psRetrain : Nat := 5

def State.portState (s : State) (p : Nat) : Nat := s.rd WELT_PSTAT_STATE p

/-- The lanes of a port that the configuration enables. -/
def State.lanesOn (s : State) (p : Nat) : Nat := s.conf (0x0509 + p)

/-! ## The time source (R376) -/

/-- The stack ID in force. -/
def State.stackId (s : State) : Nat := s.stackRecord.stackId

/-- UP ports with a stratum at the other end. -/
def State.peers (s : State) : List Nat :=
  (List.range 8).filter fun p => s.portUp p && s.rd WELT_PSTAT_PEERCLS p == 0

/-- A root with a lower STACKID is in sight. -/
def State.otherRoot (s : State) : Bool :=
  s.peers.any fun p => (s.port p).peerHops == 0 && decide (s.rd WELT_PEERID_ID p < s.stackId)

/-- The stratum acts as the time root. -/
def State.isRoot (s : State) : Bool := s.conf 0x0511 == 1 && !s.otherRoot

/-- The source port: lowest advertised HOPS below 255, ties to the lowest port. -/
def State.sourcePort (s : State) : Option Nat :=
  if s.isRoot then none
  else s.peers.foldl (fun a p =>
    if 255 ≤ (s.port p).peerHops then a
    else match a with
      | none => some p
      | some q => if (s.port p).peerHops < (s.port q).peerHops then some p else a) none

/-- WELT_TIME brought up to date: the lock of stack time shows at the source port. A configured root that comes to see another of lower
STACKID, which it follows, records TIME_ROOT_CONFLICT (R376, R377). -/
def State.timeTree (s : State) : State :=
  let src := s.sourcePort
  let hops := if s.isRoot then 0 else match src with
    | some p => min 254 ((s.port p).peerHops + 1)
    | none => 255
  let clash := decide (s.conf 0x0511 = 1) && s.otherRoot
  let s := if clash ∧ !s.rootConflict then s.event evTimeRootConflict stratumUnit none else s
  let locked := (List.range 8).any fun p => s.rdb WELT_TIME_LOCKED p
  ({ s with rootConflict := clash } : State).each (List.range 8) fun s p =>
    ((s.wr WELT_TIME_HOPS p hops).wr WELT_TIME_SOURCE p (b2n (src == some p))).wr WELT_TIME_LOCKED p
      (b2n (src == some p && locked))

/-! ## A link going down (R224, R225, R366) -/

/-- Unreleased held results are lost, quarantined ones discarded; grants not yet acknowledged wait for the next
link (log 31). -/
def State.linkDown (s : State) (p : Nat) : State :=
  let x := s.port p
  let lost := x.sentHeld.length + x.holdStore.length
  let s := (x.sentHeld ++ x.holdStore).foldl (fun s h => s.refund h.msg) s
  let s := s.setPort p { x with
    sentHeld := [], holdStore := [], quarantine := [], replay := []
    outQ := ((x.replay ++ x.outQ).filter (·.type == 0x0B)).map fun f => { f with seq := 0, tries := 0 }
    owed := [0, 0, 0], helloRx := false, helloAcked := false, lastSent := 0 }
  if lost = 0 then s
  else (s.portCnt WELT_HOLDLOST_COUNT p 1 lost).event evHeldLost (portUnit p) none (detail := toLE 4 lost)

/-- The port enters a state; leaving UP is a link going down, and so is HELLO left otherwise than for UP. -/
def State.portGo (s : State) (p st : Nat) : State :=
  let s := if (s.portUp p ∨ s.portState p = psHello) ∧ st ≠ psUp then s.linkDown p else s
  ((s.wr WELT_PSTAT_STATE p st).modPort p fun x => { x with since := s.now }).timeTree

/-- Every lane of a port gets a state, and LANES follows; penned lanes stay penned. -/
def State.lanesTo (s : State) (p mask st : Nat) : State :=
  let s := s.each (List.range 4) fun s i =>
    let l := 4 * p + i
    let st := if s.penned (laneUnit l) then 3 else if bit mask i && (st == 0 || s.lkrOk l) then st else 0
    (s.lkrFor l st).wr WELT_LANE_ST_STATE l st
  s.wr WELT_PSTAT_LANES p ((List.range 4).foldl (fun n i =>
    n + (if s.rd WELT_LANE_ST_STATE (4 * p + i) = 2 then 2 ^ i else 0)) 0)

/-- Entry to UP once a HELLO has been received and the own one acknowledged: SEQ and hold IDs restart
at 0. -/
def State.tryUp (s : State) (p : Nat) : State :=
  let x := s.port p
  if s.portState p = psHello ∧ x.helloRx ∧ x.helloAcked then
    let s := s.setPort p { x with
      txSeq := 0, rxNext := 0, replay := [], outQ := x.outQ.filter (·.type == 0x0B), lastHello := s.now }
    ((s.wr WELT_HOLDID_NEXT p 0).portGo p psUp).pumpPort p
  else s

/-! ## Receiving (R361 to R365) -/

/-- The port takes flits. -/
def State.portHears (s : State) (p : Nat) : Bool := s.portState p == psHello || s.portState p == psUp

/-- A sequence number at or before another, in the window of R365. -/
def seqUpTo (a b : Nat) : Bool := decide ((b + 65536 - a % 65536) % 65536 < 32768)

/-- What every flit carries: ACK frees replay room, and credits return. -/
def State.rxHeader (s : State) (p : Nat) (h : FlitHdr) : State :=
  let x := s.port p
  let gone := x.replay.filter fun f => seqUpTo f.seq h.ack.toNat
  let x := { x with
    replay := x.replay.filter fun f => !seqUpTo f.seq h.ack.toNat
    helloAcked := x.helloAcked || (s.portState p == psHello && gone.any (·.type == 1))
    credits := x.credits.set h.cvc.toNat (x.credits.getD h.cvc.toNat 0 + h.ccnt.toNat) }
  ((s.setPort p x).pumpPort p).tryUp p

/-- A NAK goes out with the last in-order SEQ (R365). -/
def State.sendNak (s : State) (p : Nat) : State := s.sendFlit p 0x03 0 []

/-- A sequenced flit, or the `n` flits of a message, is accepted only as the next expected; a gap is answered
with NAK, a duplicate dropped. -/
def State.rxSeq (s : State) (p n : Nat) (h : FlitHdr) : State × Bool :=
  let next := (s.port p).rxNext
  if h.seq.toNat = next then (s.modPort p fun x => { x with rxNext := (next + n) % 65536 }, true)
  else if seqUpTo h.seq.toNat ((next + 65535) % 65536) then (s, false)
  else (s.sendNak p, false)

/-- A sequenced flit of a type that only an UP port takes: its effect, its buffer freed, the ACK. -/
def State.rxFlit (s : State) (p vc n : Nat) (h : FlitHdr) (act : State → State) (free : Bool := true) : State :=
  if !s.portHears p then s
  else
    let s := s.rxHeader p h
    if !s.portUp p then s
    else
      let r := s.rxSeq p n h
      if !r.2 then r.1
      else
        let s := act (if free then r.1.owe p vc n else r.1)
        s.sendFlit p 0x00 0 []

/-- Row IDLE (R362). -/
def execIdle (p : PortId) (h : FlitHdr) (s : State) : Out :=
  .next (if s.portHears p then s.rxHeader p h else s)

/-- Row MARKER (R360): a row of markers begins with the mask of the peer's lanes; once every lane of the mask has brought its own, the
lanes are aligned and their order is restored. A lane that the mask does not name brings none. -/
def execMarker (p : PortId) (h : FlitHdr) (lane lanes : Byte) (s : State) : Out :=
  if !s.portHears p then .next s
  else
    let mask := lanes.toNat % 16
    .next ((s.rxHeader p h).modPort p fun x =>
      let seen := if x.rxMask = mask then x.rxSeen else 0
      let seen := if bit mask lane.toNat then bfSet seen lane.toNat 1 1 else seen
      { x with rxMask := mask, rxSeen := if seen = mask then 0 else seen })

/-- Row NAK (R365): every flit after ACK is sent again, in order; one sent again eight times without the
ACK advancing past it sends the port to RETRAIN. -/
def execNak (p : PortId) (h : FlitHdr) (s : State) : Out :=
  if !s.portHears p then .next s
  else
    let s := s.rxHeader p h
    let s := (s.portCnt WELT_REPLAY_COUNT p 0 1).modPort p fun x => x.resend (s.way p) fun _ => true
    .next (if (s.port p).replay.any fun f => decide (8 ≤ f.tries) then (s.portGo p psRetrain).lanesTo p (s.lanesOn p) 1 else s)

/-- Row BAD_FLIT (R363, R365). -/
def execBadFlit (p : PortId) (s : State) : Out := .next (if s.portHears p then s.sendNak p else s)

/-- Row RESERVED_FLIT (R362). -/
def execReservedFlit (p : PortId) (h : FlitHdr) (type : Byte) (vc : BitVec 2) (s : State) : Out :=
  let t := type.toNat
  if t ≤ 4 ∨ (8 ≤ t ∧ t ≤ 0x0E) then .next s
  else .next (s.rxFlit p vc.toNat 1 h fun s => s.portCnt WELT_DISCARD_COUNT p 3 1)

/-! ## HELLO (R367, R368) -/

/-- An 8-byte entry of a field (R405). -/
def cfgEntry (id v : Nat) : Bytes := toLE 2 id ++ toLE 2 0 ++ toLE 4 v

/-- The fields that the fingerprint covers. -/
def printedIds : List Nat := (cfgCatalogue.map (·.id)).filter fun i => decide (0x0100 ≤ i ∧ i ≤ 0x04FF)

/-- The configuration fingerprint. -/
def State.fingerprint (s : State) : Bytes :=
  sha256 (toLE 1 s.fwLevel ++ zeros 3 ++ toLE 4 s.fwVersion ++ printedIds.flatMap fun i => cfgEntry i (s.conf i))

/-- The first 64 bits of the own fingerprint (R412). -/
def State.fprint (s : State) : Nat := leNat (s.fingerprint.take 8)

/-- A peer's barrier stamps against the own grid of the flock's jobs (R355): later than the next period's
start is recorded, at most once per 100 periods per member. -/
def State.barrierStamps (s : State) (p : Nat) (b : HelloBody) : State :=
  s.each (List.range b.stamps.length) fun s i =>
    match b.stamps[i]? with
    | none => s
    | some k =>
      match s.jobs.find? (fun j => j.policy.flock == k.flock.toNat && j.policy.flock != 0
          && j.policy.period != 0 && j.fn == s.portOwner p) with
      | none => s
      | some j =>
        let per := j.policy.period * 1000
        let grid := j.origin + (k.period.toNat + 1) * per
        let due : Bool := match (s.port p).lateAt.find j.tag with
          | some q => decide (q + 100 ≤ k.period.toNat)
          | none => true
        if decide (grid < k.stamp.toNat) && due then
          (s.modPort p fun x => { x with lateAt := x.lateAt.set j.tag k.period.toNat }).event evBarrierLate
            (portUnit p) (some j) (detail := toLE 8 b.stackId.toNat ++ toLE 8 (k.stamp.toNat - grid))
        else s

/-- What a HELLO says of the peer is checked and shown (R368). -/
def State.readHello (s : State) (p : Nat) (b : HelloBody) : State :=
  let stratum := b.cls == 0#8
  let own := s.fprint
  let fp := b.fprint.toNat
  let mism := stratum && own != 0 && fp != 0 && own != fp
  let news := !s.rdb WELT_PSTAT_FPMISM p || s.rd WELT_PEERFP_FP p != fp || (s.port p).fpSeen != own
  let s := if mism && news then
      (s.event evConfigMismatch (portUnit p) none).modPort p fun x => { x with fpSeen := own }
    else s
  let conf := stratum && b.stackNo.toNat == s.stackNo p
  let s := if conf ∧ !s.rdb WELT_PSTAT_CONFLICT p then s.event evStackIdConflict (portUnit p) none else s
  let s := ((s.wr WELT_PSTAT_FPMISM p (b2n mism)).wr WELT_PSTAT_CONFLICT p (b2n conf)).wr WELT_PSTAT_PEERNO p
    b.stackNo.toNat
  let s := ((s.wr WELT_PSTAT_PEERCLS p (b2n (!stratum))).wr WELT_PEERID_ID p b.stackId.toNat).wr WELT_PEERFP_FP p fp
  s.modPort p fun x => { x with
    lastHello := s.now, helloRx := true, peerHops := b.hops.toNat }

/-- Row HELLO (R366 to R368, R376). -/
def execHello (p : PortId) (h : FlitHdr) (b : HelloBody) (s : State) : Out :=
  let k := s.fit 0 8 b.stamps fun _ => ⟨0, 0, 0⟩
  let s := k.1
  let b := { b with stamps := k.2 }
  if !s.portHears p then .next s
  else
    let s := s.rxHeader p h
    let up := s.portUp p
    let r := s.rxSeq p 1 h
    if !r.2 then .next r.1
    else
      let s := if up then r.1.owe p 1 1 else r.1
      let moved := up && s.rd WELT_PEERID_ID p != b.stackId.toNat
      let s := if moved then s.portGo p psHello else s
      let s := s.readHello p b
      let s := if up && !moved then s else s.modPort p fun x =>
        { x with credits := [b.buf0.toNat, b.buf1.toNat, b.buf2.toNat] }
      let s := (s.barrierStamps p b).sendFlit p 0x00 0 []
      .next ((s.tryUp p).timeTree)

/-- The body of an own HELLO (R367), with up to eight barrier stamps. -/
def State.helloBody (s : State) (p : Nat) : Bytes :=
  let st := (s.port p).stamps.take 8
  toLE 8 s.stackId ++ toLE 1 (s.conf 0x0500) ++ toLE 1 p ++ toLE 1 0 ++ toLE 1 s.fwLevel
    ++ toLE 8 s.fprint ++ toLE 2 1024 ++ toLE 2 64 ++ toLE 2 128 ++ toLE 1 (s.rd WELT_TIME_HOPS p)
    ++ toLE 1 (s.rd WELT_PSTAT_LANES p) ++ toLE 1 st.length ++ toLE 3 0
    ++ st.flatMap fun k => toLE 2 k.flock.toNat ++ toLE 2 0 ++ toLE 4 k.period.toNat ++ toLE 8 k.stamp.toNat

/-- Row HELLO_TIMER (R366, R367). -/
def execHelloTimer (p : PortId) (s : State) : Out :=
  let x := s.port p
  if !s.portHears p ∨ (x.lastSent ≠ 0 ∧ s.now < x.lastSent + 10000) then .next s
  else
    let s := s.sendFlit p 0x01 0 (s.helloBody p)
    .next (s.modPort p fun x => { x with
      lastSent := max 1 s.now, stamps := x.stamps.drop 8, ownNo := s.conf 0x0500 })

/-- Row HELLO_TIMEOUT (R366): 1 ms in HELLO without a completed exchange. -/
def execHelloTimeout (p : PortId) (s : State) : Out :=
  if s.portState p = psHello ∧ (s.port p).since + 1000000 ≤ s.now then
    .next ((s.lanesTo p 0 0).portGo p psDown)
  else .next s

/-- Row PEER_HELLO_LOSS (R366): 100 µs in UP without a HELLO. -/
def execPeerHelloLoss (p : PortId) (s : State) : Out :=
  if s.portUp p ∧ (s.port p).lastHello + 100000 ≤ s.now then .next ((s.portGo p psDown).lanesTo p 0 0) else .next s

/-! ## Training and lanes (R366, R369) -/

/-- No lane is left: a port in HELLO or UP without one in service goes DOWN, and so does one in TRAINING of which none trains any more
(R366, R369). -/
def State.lanesLeft (s : State) (p : Nat) : State :=
  let st := s.portState p
  let any := fun (k : Nat) => (List.range 4).any fun i => s.rd WELT_LANE_ST_STATE (4 * p + i) == k
  if !any 2 && (st == psHello || st == psUp || (st == psTraining && !any 1)) then s.portGo p psDown else s

/-- The LKRs and ports start once the regulators of the folds are brought up (R402). -/
def State.portsMay (s : State) : Bool := s.inService && (s.phase != .firmware || (List.range 64).all s.foldUp)

/-- Row LINK_TRAINING_ATTEMPT (R366, R402): every 100 ms. -/
def execLinkTrainingAttempt (p : PortId) (s : State) : Out :=
  let x := s.port p
  if s.portsMay ∧ s.portState p = psDown ∧ s.lanesOn p ≠ 0 ∧ (x.since = 0 ∨ x.since + 100000000 ≤ s.now) then
    .next (((s.portGo p psTraining).lanesTo p (s.lanesOn p) 1).lanesLeft p)
  else .next s

/-- A lane enters or leaves service. -/
def State.setLane (s : State) (l st : Nat) : State :=
  let s := (s.lkrFor l st).wr WELT_LANE_ST_STATE l st
  let p := l / 4
  s.wr WELT_PSTAT_LANES p (bfSet (s.rd WELT_PSTAT_LANES p) (l % 4) 1 (b2n (st == 2)))

/-- Row LANE_LOCK (R366): with a lane in service the port leaves TRAINING for HELLO; when none locks within
50 ms it goes DOWN. -/
def execLaneLock (l : LaneId) (ok : Bool) (s : State) : Out :=
  let p := l.val / 4
  if s.rd WELT_LANE_ST_STATE l ≠ 1 then .next s
  else
    let ok := ok && s.lkrOk l
    let s := s.setLane l (if ok then 2 else 0)
    let st := s.portState p
    if st = psTraining ∧ ok then .next (s.portGo p psHello)
    else .next (s.lanesLeft p)

/-- Row PORT_RETRAIN (R366): every lane retrains. -/
def execPortRetrain (p : PortId) (lanesOk : BitVec 4) (s : State) : Out :=
  if s.portState p ≠ psRetrain then .next s
  else
    let s := s.lanesTo p (lanesOk.toNat &&& s.lanesOn p) 2
    .next (s.portGo p (if s.rd WELT_PSTAT_LANES p = 0 then psDown else psHello))

/-- A lane leaves service (R270, R369): recorded, charged unless its regulator is, its LKR off; its unacknowledged flits go again on
the others, and the last one takes the port DOWN. -/
def State.laneGone (s : State) (l : Nat) (lkr : Bool) : State :=
  let p := l / 4
  let s := ((s.setLane l 0).lkrOut l).lifeInc (laneUnit l) 2 1
  let s : State := { s with laneAt := s.laneAt.set l s.now }
  let s := if lkr then s.event evLaneOut (laneUnit l) none else s.charge (laneUnit l) clsLane evLaneOut none
  let s := if s.rd WELT_PSTAT_LANES p = 0 then s else s.modPort p fun x => x.resend (s.way p) fun f => f.lane == l % 4
  s.lanesLeft p

/-- Row LANE_OUT (R369). -/
def execLaneOut (l : LaneId) (cause : LaneCause) (s : State) : Out :=
  if s.rd WELT_LANE_ST_STATE l = 2 then .next (s.laneGone l (cause == .lkr)) else .next s

/-- Row LANE_RETRAIN (R369): once every second while the port is UP. -/
def execLaneRetrain (l : LaneId) (ok : Bool) (s : State) : Out :=
  let p := l.val / 4
  let due := match s.laneAt.find l with | some k => decide (k + 1000000000 ≤ s.now) | none => true
  if !due ∨ !s.portUp p ∨ s.rd WELT_LANE_ST_STATE l ≠ 0 ∨ !bit (s.lanesOn p) (l % 4) ∨ s.penned (laneUnit l) ∨ !s.lkrOk l then
    .next s
  else
    let s : State := { s with laneAt := s.laneAt.set l s.now }
    .next (if ok then s.setLane l 2 else s)

/-! ## Messages from a peer (R371, R373, R374) -/

/-- A received message; its `rch` holds DSTACK. -/
def peerMsg (b : MsgBody) (p now : Nat) : Msg :=
  { src := 0x400 + p, sch := b.sch.toNat, dst := b.dtile.toNat, dch := b.dch.toNat, gen := b.gen.toNat,
    seq := b.seq.toNat, job := 0, payload := b.payload, poison := [], rstack := b.sstack.toNat,
    rtile := b.stile.toNat, rch := b.dstack.toNat, ta := 0, vec := 0, tSend := now }

/-- A message stays in the ingest buffer: until the scheduler of a scoring job admits it (R354, R373), and for a job of
another kind while it is not running or the tile is penned or in Tile Off (R28), or while injection stands (R102). -/
def State.staysIn (s : State) (m : Msg) : Bool :=
  match s.jobs.find? fun j => j.tiles.contains m.dst with
  | some j => j.policy.kind == 0 || j.state == 4 || j.state == 5 || s.lost m.dst || s.meshStop
  | none => s.meshStop

/-- A message enters the ingest buffer, and goes on at once if it need not stay there; DSTACK is tested first (R373). -/
def State.toIngest (s : State) (p : Nat) (m : Msg) : State :=
  if m.rch ≠ s.stackNo p then s.discardMsg m.dst m
  else if s.staysIn m then s.modPort p fun x => { x with ingest := x.ingest ++ [m] }
  else { s with mesh := s.mesh ++ s.copies m }

/-- Row MSG (R370, R373): quarantined if held. -/
def execMsg (p : PortId) (h : FlitHdr) (b : MsgBody) (s : State) : Out :=
  let k := s.fitBytes 1 4096 b.payload
  let s := k.1
  let b := { b with payload := k.2 }
  let n := msgFlitCount b.payload.length
  let m := peerMsg b p s.now
  .next (s.rxFlit p 0 n h (free := false) fun s =>
    if !s.sessOpen (s.portOwner p) then (s.portCnt WELT_DISCARD_COUNT p 3 1).owe p 0 n
    else if s.rdb WELT_PSTAT_CONFLICT p then s.owe p 0 n
    else if b.held then
      s.modPort p fun x => { x with quarantine := x.quarantine ++ [⟨b.holdId.toNat, m, s.now⟩] }
    else (s.owe p 0 n).toIngest p m)

/-- One hold ID of a RELEASE or RETRACT (R374). -/
def State.settleId (s : State) (p : Nat) (keep : Bool) (id : Nat) : State :=
  match (s.port p).quarantine.find? (fun q => q.id == id) with
  | none => s.portCnt WELT_DISCARD_COUNT p 3 1
  | some q =>
    let s := s.modPort p fun x => { x with quarantine := x.quarantine.erase q }
    let s := s.owe p 0 (msgFlitCount q.msg.payload.length)
    if keep then s.toIngest p q.msg else s

/-- Row RELEASE (R374). -/
def execRelease (p : PortId) (h : FlitHdr) (ids : List W32) (s : State) : Out :=
  let k := s.fit 1 60 ids (·.setWidth 32)
  .next (k.1.rxFlit p 1 1 h fun s => s.each (k.2.map (·.toNat)) fun s i => s.settleId p true i)

/-- Row RETRACT (R374). -/
def execRetract (p : PortId) (h : FlitHdr) (ids : List W32) (s : State) : Out :=
  let k := s.fit 1 60 ids (·.setWidth 32)
  .next (k.1.rxFlit p 1 1 h fun s => s.each (k.2.map (·.toNat)) fun s i => s.settleId p false i)

/-! ## Grants from a peer (R372) -/

/-- The tile, of the lowest ID, whose send channel a grant matches. -/
def State.grantTile (s : State) (p : Nat) (g : GrantEntry) : Option Nat :=
  let peer := s.rd WELT_PSTAT_PEERNO p
  (((s.jobs.filter (fun j => j.fn == s.portOwner p)).flatMap (·.tiles)).filter
    (fun t => s.matchesGrant p peer t g.sch g)).foldl
      (fun a t => match a with | none => some t | some u => some (min t u)) none

def GrantEntry.sameKey (a b : GrantEntry) : Bool := a.tile == b.tile && a.ch == b.ch && a.sch == b.sch

/-- A grant that nothing matches waits; one of the same generation adds to what waits. -/
def State.keepGrant (s : State) (p : Nat) (g : GrantEntry) : State :=
  s.modPort p fun x =>
    let old := x.grants.find? g.sameKey
    let n := match old with | some k => if k.gen = g.gen then k.credits else 0 | none => 0
    { x with grants := x.grants.filter (!g.sameKey ·) ++ [{ g with credits := g.credits + n }] }

/-- The effect of a GRANT body. -/
def State.takeGrant (s : State) (p : Nat) (b : GrantBody) : State :=
  let op := b.op.toNat
  let n := b.credits.toNat
  let g : GrantEntry := ⟨b.tile.toNat, b.ch.toNat, b.sch.toNat, n, b.maxlen.toNat, b.gen.toNat⟩
  if op = 0 ∨ 3 < op ∨ (op ≠ 2 ∧ (n = 0 ∨ 64 < n)) then s.portCnt WELT_DISCARD_COUNT p 3 1
  else match op, s.grantTile p g with
    | 1, some t => s.applyWeltGrant t g.sch g
    | 1, none => s.keepGrant p g
    | 2, o =>
      let s := s.modPort p fun x => { x with grants := x.grants.filter (!g.sameKey ·) }
      match o with
      | none => s
      | some t =>
        let s := s.wr TILE_TXC_CREDIT_CREDITS (chanOf t g.sch) 0
        match s.partnerOf t with
        | some u => s.wr TILE_TXC_CREDIT_CREDITS (chanOf u g.sch) 0
        | none => s
    | _, none => s
    | _, some t =>
      let one := fun (s : State) (t : Nat) => (s.applyBack t g.sch n g.gen).wr TILE_TXC_STAT_DENIED (chanOf t g.sch) 1
      let s := one s t
      match s.partnerOf t with
      | some u => one s u
      | none => s

/-- Row GRANT (R372). -/
def execGrant (p : PortId) (h : FlitHdr) (b : GrantBody) (s : State) : Out :=
  .next (s.rxFlit p 1 1 h fun s => if s.portCarries p then s.takeGrant p b else s)

/-- An owner of a port gives way, or its session ends: held results retracted, what was received discarded,
issued grants revoked, credits of its channels cleared (R370, R378, R444). -/
def State.ownerLeaves (s : State) (p owner : Nat) : State :=
  let s := s.each ((s.jobs.filter (·.fn == owner)).map (·.tag)) fun s tag => s.retractJob p tag
  let x := s.port p
  let s := s.setPort p { x with
    sentHeld := [], holdStore := [], quarantine := [], ingest := [], grants := [], stamps := []
    owed := x.owed.set 0 (x.owed.getD 0 0
      + x.quarantine.foldl (fun n q => n + msgFlitCount q.msg.payload.length) 0) }
  let tiles := (s.jobs.filter (fun j => j.fn == owner)).flatMap (·.all)
  s.each tiles fun s t => s.each (List.range 16) fun s ch =>
    let k := chanOf t ch
    let s := if s.rd TILE_TXC_CFG_DEST k = 0x400 + p then s.wr TILE_TXC_CREDIT_CREDITS k 0 else s
    if s.rdb TILE_RXC_RING_EN k ∧ s.rd TILE_RXC_SRC_SRC k = 0x400 + p then
      s.sendCredit .revoke t ch 0 ((s.tile t).rxGenOf ch)
    else s

/-! ## Stack time (R377) -/

/-- Row TIME_TIMER (R377): every 100 µs on every UP port. The link layer fills in the stamps as the flit leaves. -/
def execTimeTimer (s : State) : Out :=
  .next (s.each ((List.range 8).filter s.portUp) fun s p => s.sendFlit p 0x02 0 (zeros 24))

/-- The offset of the last four stamps: the source's time minus the own. -/
def timeOffset (t1 t2 t3 t4 : Int) : Int := ((t2 - t1) - (t4 - t3)) / 2

/-- Moments that other rules count from keep their distance to now where stack time steps (R366, R424). -/
def State.shiftTimes (s : State) (off : Int) : State :=
  let mv := fun (t : Nat) => ((t : Int) + off).toNat
  { s with
    minuteAt := mv s.minuteAt
    laneAt := s.laneAt.map fun k => (k.1, mv k.2)
    ports := s.ports.map fun k => (k.1, { k.2 with
      since := if k.2.since = 0 then 0 else max 1 (mv k.2.since), lastHello := mv k.2.lastHello
      lastSent := if k.2.lastSent = 0 then 0 else max 1 (mv k.2.lastSent) }) }

/-- Stack time steps once, to the source's time, at the first lock while no job has started; later its rate
changes by up to 200 ppm. -/
def State.steer (s : State) (off : Int) : State :=
  if !s.timeLocked && !s.jobEver then
    { s.shiftTimes off with now := (((s.now : Int) + off) % 2 ^ 64).toNat, timeLocked := true }
  else
    let n := off.natAbs
    { s with ppm := if off = 0 then 0 else if 0 < off then 200 else -200, ppmUntil := s.now + n * 5000 }

/-- Row TIME (R377): the stamps are kept for the answer; on the source port they steer stack time. -/
def execTime (p : PortId) (h : FlitHdr) (own peerEcho peerArrival arrival : BitVec 64) (s : State) : Out :=
  .next (s.rxFlit p 1 1 h fun s =>
    let s := s.modPort p fun x => { x with timeSt := [x.timeSt.getD 0 0, own.toNat, arrival.toNat, peerEcho.toNat] }
    if !s.rdb WELT_TIME_SOURCE p ∨ peerEcho = 0#64 then s
    else
      let off := timeOffset peerEcho.toNat peerArrival.toNat own.toNat arrival.toNat
      let s := (s.wr WELT_TIME_OFFSET p (twos 16 (clampI (-32767) 32767 off))).steer off
      let run := if off.natAbs ≤ 20 then min 16 (s.lockRun + 1) else 0
      let s : State := { s with lockRun := run }
      if 16 ≤ run then s.wr WELT_TIME_LOCKED p 1
      else if 100 < off.natAbs ∧ s.rdb WELT_TIME_LOCKED p then
        (s.wr WELT_TIME_LOCKED p 0).event evTimeUnlocked stratumUnit none
      else s)

end Sys2Proof.Machine
end

