-- ==== Sys2Proof/Machine/Regul.lean ====
section
/-! DEFINITION. The regulators (R269 to R303): set-point commands, faults, protections, header switches, power
sequences of tiles and folds, ties, and AVSBus. -/
namespace Sys2Proof.Machine

/-- The neighbour's regulator of the same family. -/
def neighbourReg (r : Nat) : Nat := if r < 1024 then tlrOf (tieOf r) else tarOf (tieOf (r - 1024))

/-- The lowest free spare loop of a fold. -/
def State.spareLoop (s : State) (f : Nat) : Option Nat :=
  ([33, 34, 35].map (36 * f + ·)).find? fun l => !s.rdb FCE_LOOP_CFG_TIED l

/-- Whether R296 permits the tie of a failed regulator. -/
def State.tieAllowed (s : State) (r : Nat) : Bool :=
  let q := neighbourReg r
  let k := s.regState q
  (k == rsRegulate || k == rsBurst) && !s.rdb TLR_TIE_CLOSED q && !s.penned (regUnit q)
    && (s.spareLoop (foldOfReg q)).isSome && !(s.regul r).suspect && (s.regul r).ovAt.isNone

/-- RESUME to a held tile. -/
def State.sendResume (s : State) (t : Nat) : State :=
  if (s.tile t).haltRail then s.reinSend t true rfResume 0 else s

/-- RESUME to the tiles that a fault holds. -/
def State.resumeAll (s : State) (l : List Nat) : State := s.each l fun s t => s.sendResume t

/-! ## Set-points (R269, R275, R276) -/

/-- The control period whose output phase sends a NOTCH frame: a command after the frame close counts for the next one
(R327). -/
def State.noticePeriod (s : State) : Nat := if s.now % 1000 ≤ 200 then s.now / 1000 else s.now / 1000 + 1

/-- A set-point command: clamped, sequenced, the slewer retargeted, or frozen while an island first retunes downward; the
NOTCH frame is due (R269, R275, R276; logs 41, 127). -/
def State.setPoint (s : State) (r code notch : Nat) : State :=
  let c := clampN (famLo r) (famHi r) code
  let s := s.wr TLR_SET_VSET r c
  let s := if r < 1024 then s.wr TLR_SET_NOTCH r notch else s
  if !s.rdb TLR_CFG_EN r ∨ !s.regOn r then s
  else
    let s := s.inc TLR_SET_SEQ r 1
    let seq := s.rd TLR_SET_SEQ r
    let s := match (s.regul r).cmd with
      | some k => s.ackTile r 0x0B k.seq
      | none => s
    let s := if s.regState r = rsBurst then s.allPhases r else s
    let s := s.modRegul r fun x => { x with cmd := some ⟨seq, c, decide (c ≠ code), notch, none⟩ }
    let s := if r < 1024 then s.modTile r fun x => { x with notchDue := some (notch + 16 * seq, s.noticePeriod) } else s
    s.retarget (s.sourceOf r)

/-- Row SET_POINT_COMMAND (R275). -/
def execSetPointCommand (r : RegNo) (code : Byte) (notch : BitVec 4) (s : State) : Out :=
  .next (s.setPoint r code.toNat notch.toNat)

/-- Vref stands at the command's level; for a rail that a tie joins, the source's at it or higher (R275, R296). -/
def State.arrived (s : State) (r : Nat) : Bool :=
  let src := s.sourceOf r
  let x := s.regul src
  if s.rdb TLR_TIE_CLOSED r then decide (s.rd TLR_SET_VSET r ≤ s.vref src)
  else !x.frozen && s.vref r == x.refTo

/-- The island may run at a notch from now on: the engine tracks it (R276). -/
def Tile.mayRise (x : Tile) (n : Nat) : Tile :=
  if x.fceNotch < n then { x with fceWas := x.fceNotch, fceNotch := n } else x

/-- The command in force is acknowledged ST_OK, or ST_CLAMPED. The island rises once its NOTCH has gone out too. -/
def State.ackReached (s : State) (r : Nat) : State :=
  match (s.regul r).cmd with
  | none => s
  | some k =>
    let s := (s.ackTile r (if k.clamped then 0x08 else 0x00) k.seq).modRegul r fun x => { x with cmd := none }
    if 1024 ≤ r then s
    else s.modTile r fun x => if x.notchDue.any (·.1 / 16 % 16 == k.seq) then x else x.mayRise k.notch

/-! ## Stopping, pens and faults (R289, R295, R298) -/

/-- What a pen does to the registers of its unit. -/
def State.penEffect (s : State) (u : Nat) : State :=
  let i := u % 2 ^ 24
  match u / 2 ^ 24 with
  | 2 => s.wr VCH_STATE_STATE i 3
  | 3 => (s.regStop i rsPenned).wr TLR_CFG_EN i 0
  | 4 => ((s.setLane i 3).lkrOut i).lanesLeft (i / 4)
  | _ => s

/-- A unit is penned (R233): recorded, excluded from service. -/
def State.pen (s : State) (u : Nat) : State :=
  let h := s.hist u
  if h.penned then s
  else
    let s := ((s.setHist u { h with penned := true }).event evUnitPenned u none).journalState
    s.penEffect u

/-- A tie on a rail opens: both regulators leave it and its spare loop is free again (R326). -/
def State.openTie (s : State) (r : Nat) : State :=
  if !s.rdb TLR_TIE_CLOSED r then s
  else
    let q := s.rd TLR_TIE_PARTNER r
    let failed := if s.rdb TLR_TIE_SOURCE r then q else r
    let src := if s.rdb TLR_TIE_SOURCE r then r else q
    let clr := fun (s : State) (r : Nat) =>
      ((s.wr TLR_TIE_CLOSED r 0).wr TLR_TIE_SOURCE r 0).wr TLR_TIE_PARTNER r 0
    let s := clr (clr s r) q
    let s := if s.regState src = rsSource then s.wr TLR_STAT_STATE src rsRegulate else s
    let s := (s.wr TLR_STAT_STATE failed rsFault).modRegul failed fun x => { x with tying := none, sagRun := 0 }
    let s := s.setHist (regUnit failed) { s.hist (regUnit failed) with viaTie := false }
    let f := foldOfReg src
    let s := s.each [33, 34, 35] fun s n =>
      let l := 36 * f + n
      if s.rdb FCE_LOOP_CFG_TIED l ∧ s.rd FCE_LOOP_CFG_REG l = src then
        ((s.wr FCE_LOOP_CFG_TIED l 0).wr FCE_LOOP_CFG_LAW l 0).wr FCE_LOOP_STAT_FROZEN l 1
      else s
    if s.regOn src then s.retarget src else s

/-- A soft start has reached its set-point. A source that started again resumes the tiles that its fault held (R298); the tie of a
regulator that returns to service opens, and both tiles of the pair resume (R430). -/
def State.endSoft (s : State) (r : Nat) : State :=
  if s.regState r ≠ rsSoft ∨ s.vref r ≠ (s.regul r).refTo then s
  else
    let x := s.regul r
    let s := if x.back then s.openTie r else s
    let s := s.wr TLR_STAT_STATE r (if s.rdb TLR_TIE_SOURCE r then rsSource else rsRegulate)
    if x.again ∨ x.back then
      (s.modRegul r fun x => { x with again := false, back := false }).resumeAll [regTile r, regTile (neighbourReg r)]
    else s

/-- Row SET_POINT_REACHED (R275, R294): a command is acknowledged; a soft start ends. -/
def execSetPointReached (r : RegNo) (s : State) : Out :=
  if !s.regOn r ∨ !s.arrived r ∨ (s.regul (s.sourceOf r)).tripped then .next s
  else
    let s := s.endSoft r
    let s := (s.wr TLR_STAT_SLEW r (b2n (s.vref r != (s.regul r).refTo))).wr TLR_VOUT_REF r (s.vref r)
    .next (s.ackReached r)

/-- HOLD to a tile that is on and not held (R295): 1 own regulator, 2 the partner's, 3 a tie closing. -/
def State.sendHold (s : State) (t reason : Nat) : State :=
  if (s.tile t).off then s else s.reinSend t true rfHold reason

/-- A tile that is held, off or has lost its state. -/
def State.tileStill (s : State) (t : Nat) : Bool :=
  let x := s.tile t
  x.off || x.lost || (x.haltRail && x.clkStop)

/-- A regulator that returns to service starts softly once both tiles of its pair are held; its rail may be served through its tie
until then (R430). -/
def State.startBack (s : State) (r : Nat) : State :=
  if !(s.regul r).back ∨ s.regState r = rsSoft ∨ !s.inService
      ∨ !([regTile r, regTile (neighbourReg r)].all s.tileStill) then s
  else (s.wr TLR_CFG_EN r 1).softStart r (s.softFrom r)

/-- A tile loses the state of its island, or of its scratchpad arrays; its job restarts as for a Hardware
fault (R288, R294, R295). The headers of a tile that is being turned on open again. -/
def State.loseTile (s : State) (t : Nat) (arrays : Bool) : State :=
  if (s.tile t).off then
    if arrays then s else s.modTile t fun x => { x with hdrStages := 0 }
  else
    let s := (s.abandon t).clock t true
    let s := s.modTile t fun x =>
      if arrays then { x with lost := true, spad := [], poison := [], resv := none }
      else { x with lost := true, hdrStages := 0, icache := [], taOpen := [], dual := [] }
    (s.setOpen t).detect t 3 none 0

/-- The tiles that a fault of a TLR or TAR holds: its own, its pair-tie neighbour, and the partner of an
existing tie (R295). -/
def State.heldBy (s : State) (r : Nat) : List Nat :=
  let t := regTile r
  let l := [t, tieOf t]
  if s.rdb TLR_TIE_CLOSED r then
    let p := regTile (s.rd TLR_TIE_PARTNER r)
    if l.contains p then l else l ++ [p]
  else l

/-- The tile of a rail that can be served no longer is penned; its job parks and the stratum drains
(R298, R428). -/
def State.penTile (s : State) (t : Nat) : State := (s.pen (tileUnit t)).suspect (tileUnit t)

/-- What a tile in Tile Off holds. -/
def Tile.dark (x : Tile) : Tile :=
  { x with
    off := true, hdrStages := 0, spad := [], poison := [], haltRail := false, lost := false, hint := none
    counters := [], cycles := 0, x := Vector.replicate 32 0#64, pc := 0#64, nfte := 0, ftab := 0
    notchDue := none, fceNotch := 12, fceWas := 12, ackOk := none }.rebase

/-- A tile enters Tile Off: its scratchpad is lost, K0 and K1 go to their Reset values (R294, R415). A regulator that
supplies a pair goes on (R299). -/
def State.tileOff (s : State) (t : Nat) : State :=
  let s := (((s.clock t true).tileReset t).weigh t).resetRegs (tileHit t) 2
  let s := s.modTile t Tile.dark
  s.each [tlrOf t, tarOf t] fun s r => if s.regState r = rsSource then s else s.regDisable r

/-- A fold's switched supplies go: tiles off, columns lost, channels down, the CIR in burst mode for the retained part, the
fold off the map (R102, R239, R270, R294). -/
def State.foldDark (s : State) (f : Nat) : State :=
  let s := (s.modFold f fun x => { x with bringUp := false }).changeMap f true
  let s := s.each (tilesOf f) fun s t =>
    let s := (if (s.tile t).off then s else s.tileOff t).loseColumn t
    if s.penned (chanUnit t) then s else s.wr VCH_STATE_STATE t 0
  if s.regOn (cirOf f) then s.enterBurst (cirOf f) else s

/-- A fold is taken out of service as after a CIR or converter fault: its jobs restart, Fold Off, its tiles penned
(R296, R313). -/
def State.loseFold (s : State) (f : Nat) : State :=
  let s := s.each (tilesOf f) fun s t => (s.loseTile t false).loseTile t true
  (s.foldDark f).each (tilesOf f) State.penTile

/-- A regulator is switched off by itself: what its rail, and a rail tied to it, supplied loses its state (R270). -/
def State.railOff (s : State) (r : Nat) : State :=
  if !s.rdb TLR_CFG_EN r then s
  else
    let dark := s.regState r ≠ rsTied
    let rails := if s.rdb TLR_TIE_SOURCE r then [r, s.rd TLR_TIE_PARTNER r] else [r]
    let s := s.regDisable r
    if !decide dark then s
    else if r < 2048 then s.each rails fun s q => s.loseTile (regTile q) (decide (1024 ≤ q))
    else if r < 2112 then
      let s := s.each (tilesOf (r - 2048)) fun s t => (s.loseTile t false).loseTile t true
      if s.foldOff (r - 2048) then s else s.foldDark (r - 2048)
    else s

/-- A regulator fault (R289): stopped, recorded, charged once; HOLD to the tiles concerned; a CIR takes its fold
with it. A tied source that faults on overload is not charged (R298). -/
def State.regFault (s : State) (r cause phase : Nat) : State :=
  if !s.regOn r then s
  else
    let src := s.regState r == rsSource
    let pair := s.rd TLR_TIE_PARTNER r
    let held := s.heldBy r
    let s := (s.wr TLR_FAULT_CAUSE r cause).wr TLR_FAULT_PHASE r phase
    let s := (((s.wr TLR_FAULT_VALID r 1).cnt TLR_FAULT_COUNT r 1).lifeInc (regUnit r) 0 1).openTie r
    let s := (s.regStop r rsFault).modRegul r fun x => { x with stopAt := some s.now, again := src && cause == 2 }
    let s := if src && cause == 2 then s.event evRegFault (regUnit r) none cause
      else s.charge (regUnit r) clsRegulator evRegFault none cause (tied := decide (r < 2048) && s.tieAllowed r)
    if r < 2048 then
      let s := s.each held fun s t => s.sendHold t (if t = regTile r then 1 else 2)
      if src then s.penTile (regTile pair) else s
    else if r < 2112 then s.loseFold (r - 2048)
    else s

/-- Row SET_POINT_TIMEOUT (R275): 5 µs after Vref arrived the command is not reached; the regulator that supplies the rail
faults. -/
def execSetPointTimeout (r : RegNo) (s : State) : Out :=
  let src := s.sourceOf r
  let x := s.regul src
  if s.regOn r ∧ (s.regul r).cmd.isSome ∧ s.arrived r ∧ x.tripped ∧ x.arrival + 5000 ≤ s.now then .next (s.regFault src 4 0)
  else .next s

/-! ## Enabling and disabling (R294, R304) -/

/-- Row REGULATOR_ENABLE (R294). -/
def execRegulatorEnable (r : RegNo) (sampledMv : Nat) (s : State) : Out :=
  .next (s.regEnable r (if 100 < sampledMv then sampledMv / 5 else 0))

/-- Row REGULATOR_DISABLE (R270, R304). -/
def execRegulatorDisable (r : RegNo) (s : State) : Out := .next (s.railOff r)

/-! ## Light load (R283 to R285) -/

/-- Row DIP_TRIP (R284): while a phase is shed, every phase returns, and shedding and burst entry are blocked for 64 control
periods, in burst mode too, in which phases rest (DESIGN CHOICE, log 155). A regulator whose rail another supplies has no
output of its own to fall. -/
def execDipTrip (r : RegNo) (s : State) : Out :=
  if !s.regOn r ∨ s.regState r = rsTied then .next s
  else
    let shed := decide (s.rd TLR_STAT_PHASES r < famPhases r)
    let s := (s.allPhases r).modRegul r fun x => { x with tripped := true }
    .next (if shed then (s.modRegul r fun x => { x with shedBlock := 64 }).wr TLR_STAT_SHED_BLOCK r 1 else s)

/-- Row BURST_PULSE (R285): bursts rotate through the phases; one longer than 64 cycles ends burst mode. -/
def execBurstPulse (r : RegNo) (cycles : Nat) (s : State) : Out :=
  if s.regState r ≠ rsBurst then .next s
  else
    let s := s.modRegul r fun x => { x with burstPhase := (x.burstPhase + 1) % famPhases r }
    .next (if 64 < cycles then s.allPhases r else s)

/-! ## Protection (R286 to R292) -/

/-- The fault of an LKR takes its lane out of service, trained or in training (R290). -/
def State.lkrFault (s : State) (l cause phase : Nat) : State :=
  let s := s.regFault (lkrOf l) cause phase
  let k := s.rd WELT_LANE_ST_STATE l
  if k = 1 ∨ k = 2 then s.laneGone l true else s

/-- Row CYCLE_LIMIT (R286, R290): counted; 32 consecutive cycles of one phase are a SHORT. A limit later than one cycle
starts a new run. -/
def execCycleLimit (r : RegNo) (phase : Fin 8) (s : State) : Out :=
  if !s.regOn r ∨ famPhases r ≤ phase.val then .next s
  else
    let s := (s.cnt TLR_SCEVT_COUNT r 1).lifeInc (regUnit r) 1 1
    let x := s.regul r
    let old := (x.limited.find phase).getD 0
    let run := if s.now ≤ old / 64 + famCycle r ∧ old % 64 ≠ 0 then old % 64 + 1 else 1
    if 32 ≤ run then .next (if r.val < 2112 then s.regFault r 1 phase else s.lkrFault (r.val - 2112) 1 phase)
    else .next (s.setRegul r { x with limited := x.limited.set phase (64 * s.now + run) })

/-- Row OVERVOLTAGE_TRIP (R288): the logic that the rail supplies loses its state. -/
def execOvervoltageTrip (r : RegNo) (s : State) : Out :=
  if !s.regOn r ∨ 2112 ≤ r.val then .next s
  else
    let s := if s.rdb TLR_TIE_CLOSED r ∧ r.val < 2048 then
        s.loseTile (regTile (s.rd TLR_TIE_PARTNER r)) (decide (1024 ≤ r.val))
      else s
    let s := if r.val < 2048 then s.loseTile (regTile r) (decide (1024 ≤ r.val)) else s
    .next ((s.regFault r 3 0).modRegul r fun x => { x with ovAt := some s.now })

/-- Row OV_PERSIST_CHECK (R288): above the threshold 10 µs after the crossing, a switch has failed short. -/
def execOvPersistCheck (r : RegNo) (above : Bool) (s : State) : Out :=
  match (s.regul r).ovAt with
  | none => .next s
  | some t =>
    if s.now < t + 10000 then .next s
    else
      let s := s.modRegul r fun x => { x with ovAt := none, suspect := above }
      .next (if above then (s.event evRailOvPersist (regUnit r) none).suspect (regUnit r) else s)

/-- Row LKR_FAULT_REPORT (R290): the LKR stops and its lane leaves service. No other cause is ever recorded (R289). -/
def execLkrFaultReport (l : LaneId) (cause : BitVec 4) (s : State) : Out :=
  if !s.regOn (lkrOf l) ∨ cause.toNat = 0 ∨ 6 < cause.toNat then .next s
  else .next (s.lkrFault l cause.toNat 0)

/-- Every TLR, TAR and CIR, and every island clock, stops, and with the refresh the columns are lost; the stratum waits for
PERST# (R239, R291, R292). -/
def State.stopAll (s : State) : State :=
  let s := s.each (List.range 2112) fun s r =>
    if s.rdb TLR_CFG_EN r then (s.regStop r rsOff).wr TLR_CFG_EN r 0 else s
  let s := s.each (List.range 1024) fun s t => (s.clock t true).loseColumn t
  { s with phase := .stopped }

/-- VIB over-voltage (R291): VIB is commanded off over AVSBus (R303). -/
def State.vibOv (s : State) : State :=
  { (s.stopAll.event evVibOv stratumUnit none) with vibWritten := 0, vibOwed := false, vibOff := true }

/-- Row BOARD_FAULT_ASSERT (R291). -/
def execBoardFaultAssert (s : State) : Out := .next s.vibOv

/-- Row VSPN_FAULT (R271, R292). -/
def execVspnFault (mv : Nat) (s : State) : Out :=
  if mv < 700 ∨ 900 < mv then .next (s.stopAll.event evVspnFault stratumUnit none) else .next s

/-! ## Header switches and power sequences (R293, R294) -/

/-- The supply of a tile's islands is up. -/
def State.railsUp (s : State) (t : Nat) : Bool :=
  let ok := fun (r : Nat) => let k := s.regState (s.sourceOf r); decide (2 ≤ k ∧ k ≤ 4)
  ok (tlrOf t) && ok (tarOf t)

/-! ## Notches of a tile (R331 to R333) -/

/-- The configuration's NOTCH_MAX and NOTCH_LIMITs come into force (R410: at the next 1 ms window). -/
def State.takeLimits (s : State) : State := { s with limits := s.cfg.filter fun k => k.1 == 0x0101 || decide (0x1000 ≤ k.1) }

/-- The operator's ceiling of a tile. -/
def State.limitOf (s : State) (t : Nat) : Nat := min ((s.limits.find (0x1000 + t)).getD 15) ((s.limits.find 0x0101).getD 15)

/-- A tile in a tied pair. -/
def State.tied (s : State) (t : Nat) : Bool := s.rdb TLR_TIE_CLOSED (tlrOf t) || s.rdb TLR_TIE_CLOSED (tarOf t)

/-- The other tiles of the Dual pair and of the tied pairs of a tile, which take the same notch. -/
def State.mates (s : State) (t : Nat) : List Nat :=
  (s.partnerOf t).toList ++ ([tlrOf t, tarOf t].filter fun r => s.rdb TLR_TIE_CLOSED r).map fun r =>
    regTile (s.rd TLR_TIE_PARTNER r)

/-- A tile's own ceiling. -/
def State.ownCeiling (s : State) (t : Nat) : Nat :=
  min (min (s.limitOf t) (s.rd PWR_TILE_CAPN t)) (min (s.rd PWR_TILE_THN t) (if s.tied t then 12 else 15))

/-- The tiles that take one notch with a tile: its mates, theirs, and theirs again. -/
def State.notchGroup (s : State) (t : Nat) : List Nat :=
  let grow := fun (l : List Nat) => l ++ l.flatMap s.mates
  grow (grow (grow [t]))

/-- The notch that a tile takes (R333): the lowest ceiling of the tiles bound to one notch with it. -/
def State.notchFor (s : State) (t : Nat) : Nat := ((s.notchGroup t).map s.ownCeiling).foldl min 15

/-- The set-point codes of a notch are the ones last commanded, and the island runs there or is on its way. -/
def State.atNotch (s : State) (t n : Nat) : Bool :=
  s.rd TLR_SET_NOTCH (tlrOf t) == n && s.rd TLR_SET_VSET (tlrOf t) == notchCode n
    && s.rd TLR_SET_VSET (tarOf t) == notchTarCode n && ((s.regul (tlrOf t)).cmd.isSome || (s.tile t).fceNotch == n)

/-- A tile that is on goes to a notch: one command to its TLR, and its TAR with it (R332). -/
def State.goNotch (s : State) (t n : Nat) : State :=
  if (s.tile t).off ∨ s.atNotch t n then s
  else (s.setPoint (tlrOf t) (notchCode n) n).setPoint (tarOf t) (notchTarCode n) 0

/-! ## Header stages -/

/-- The headers stand closed: the tile is reset, and one that comes from Tile Off starts its clock and is commanded to its
notch, in Stratum Standby to notch 0 in Tile Doze (R294, R332, R416). -/
def State.headersDone (s : State) (t : Nat) : State :=
  let was := (s.tile t).off
  let s := (s.modTile t fun x => { x with off := false, lost := false }).tileReset t
  let f := foldOf t
  let s := if (tilesOf f).all s.settled then s.modFold f fun x => { x with bringUp := false } else s
  if !was then s
  else
    let s := s.clock t false
    if s.standby then (s.goNotch t 0).doze t else s.goNotch t (s.notchFor t)

/-- Row HEADER_STAGE (R293; the 10 µs of a slow stage count from the end of its 640 ns, DEDUCED from the 4 × 10.64 µs of R294,
log 156): one of four stages closes; at the fourth the tile is reset (R294). The sum of the fold's currents
before the first stage makes the sequence a slow one. Where the arrays alone lost their state no header opened. -/
def execHeaderStage (t : TileId) (s : State) : Out :=
  let x := s.tile t
  let f := foldOf t
  let slow := if x.hdrStages = 0 then decide (8 * 108800 < (s.fold f).hdrSum) else x.hdrSlow
  let step := if slow then 640 else 20 * (s.rd TLR_CFG_HDR_STAGE t + 1)
  let vib := s.chCode f 131
  let away := decide (16 < max vib x.hdrVib - min vib x.hdrVib)
  if !(x.off || x.lost) ∨ !s.railsUp t ∨ s.foldOff f then .next s
  else if 4 ≤ x.hdrStages then .next (s.headersDone t)
  else if x.hdrStages ≠ 0 ∧ s.now < x.hdrAt + step then .next s
  else if x.hdrStages ≠ 0 ∧ slow ∧ away ∧ s.now < x.hdrAt + step + 10000 then .next s
  else
    let s := if x.hdrStages ≠ 0 ∧ slow ∧ away then s.cnt TLR_HDR_FORCED t 1 else s
    let s := s.modTile t fun x => { x with hdrStages := x.hdrStages + 1, hdrSlow := slow, hdrAt := s.now, hdrVib := vib }
    .next (if x.hdrStages + 1 < 4 then s else s.headersDone t)

/-! ## Tiles and folds -/

/-- A tile in Tile Off, in a fold that is on, is brought on: the TAR and the TLR start from their outputs; header stages
follow. The island comes up at notch 12, and so does the rail where its set-point was lower (R294, R332; log 128). -/
def State.powerOn (s : State) (t : Nat) : State :=
  if !(s.tile t).off ∨ s.foldOff (foldOf t) then s
  else
    let s := s.modTile t fun x => { x with hdrStages := 0 }
    let s := if s.rd TLR_SET_VSET (tlrOf t) < notchCode 12 then
        (s.setPoint (tlrOf t) (notchCode 12) 12).setPoint (tarOf t) (notchTarCode 12) 0
      else s
    s.each [tarOf t, tlrOf t] fun s r => s.regEnable r (s.softFrom r)

/-- It is a tile's turn in its fold's bring-up: every tile before it has settled, and the channels have retrained or train
beside it at start-up (R264, R294). -/
def State.turnOf (s : State) (t : Nat) : Bool :=
  let f := foldOf t
  !(s.fold f).bringUp
    || ((tilesOf f).all (fun u => decide (localOf t ≤ localOf u) || s.settled u)
      && (decide (s.phase = .firmware) || (tilesOf f).all fun u => s.rd VCH_STATE_STATE u != 1))

/-- Row TILE_ON (R294). An orderly stop keeps the tiles off (R351). -/
def execTileOn (t : TileId) (s : State) : Out :=
  .next (if s.droverActs ∧ s.turnOf t ∧ !s.railsBarred then s.powerOn t else s)

/-- Row TILE_OFF (R294): free and penned tiles only (R415). -/
def execTileOff (t : TileId) (s : State) : Out :=
  if (s.tile t).off ∨ (s.jobOf t).isSome then .next s else .next (s.tileOff t)

/-- A fold comes up from Fold Off (R294): the control periods run, the CIR leaves burst, the interface switches close, the channels
retrain and invalidate their columns; the tiles follow one at a time. It waits, with injection stopped, until the mesh is empty
(R102). -/
def State.foldOn (s : State) (f : Nat) : State :=
  if !s.foldOff f ∨ !s.inService ∨ s.railsBarred ∨ s.fcvDown f ∨ s.penned (regUnit (cirOf f)) then s
  else if !s.meshEmpty then { s with meshStop := true }
  else
    let s := ((s.changeMap f false).modFold f fun x => { x with bringUp := true }).wr FCE_CTRL_RUN f 1
    let s := if s.regState (cirOf f) = rsBurst then s.allPhases (cirOf f) else s.regEnable (cirOf f) (s.softFrom (cirOf f))
    s.each (tilesOf f) fun s t =>
      if s.penned (chanUnit t) then s else (s.wr VCH_STATE_STATE t 1).invalidateAll t

/-- Row FOLD_ON (R294). At start-up the folds follow in ID order. -/
def execFoldOn (f : FoldId) (s : State) : Out :=
  .next (if !s.droverActs ∨ (s.phase = .firmware ∧ !(List.range f.val).all s.foldUp) then s else s.foldOn f)

/-- Row FOLD_OFF (R294): no job may hold a tile of the fold, and the others must keep a route (R102). It waits, with
injection stopped, until the mesh is empty. -/
def execFoldOff (f : FoldId) (s : State) : Out :=
  if s.foldOff f ∨ (tilesOf f).any (fun t => (s.jobOf t).isSome) then .next s
  else if s.foldOffDenied f then .next (s.foldAnswer stDenied)
  else if !s.meshEmpty then .next { s with meshStop := true }
  else .next ((s.foldDark f).foldAnswer stOk)

/-! ## Ties (R295 to R299, R326) -/

/-- A bank of the factory part written to a loop's shadow bank, with SWAP set (R324, R325). -/
def State.loadBank (s : State) (l : Nat) (b : Bank) (law : Nat) : State :=
  let s := s.each (List.range 32) fun s m =>
    (s.wr FCE_LOOP_SCOEF_COEF (32 * l + m) (b.coef.getD m 0)).wr FCE_LOOP_SSH_SHIFT (32 * l + m) (b.shift.getD m 0)
  let s := (s.wr FCE_LOOP_DLIM_DMIN l (min b.dmin b.dmax)).wr FCE_LOOP_DLIM_DMAX l b.dmax
  (s.setLoop l { s.loop l with lawNext := some law, nxNext := some b.nx }).wr FCE_LOOP_CFG_SWAP l 1

/-- The bank of a family: 0 to 2, tied laws 3 and 4. -/
def State.bankOf (s : State) (k : Nat) : Bank := s.stackRecord.banks.getD k Bank.reset

/-- The spare loop of a tie: the source's number, the family's tied bank with SWAP, from zero states (R326). -/
def State.startSpare (s : State) (l q : Nat) : State :=
  let b := s.bankOf (if q < 1024 then 3 else 4)
  let s := ((s.wr FCE_LOOP_CFG_REG l q).wr FCE_LOOP_CFG_TIED l 1).loadBank l b b.law
  s.setLoop l { s.loop l with fresh := true }

/-- The tie of a failed regulator is made: the source runs the pair on the tied law at the common set-point; both tiles at one
notch, the lower of their ceilings and at most 12 (R296, R297, R326, R333). The load check follows, but for a tile that is
being brought up (R299). -/
def State.makeTie (s : State) (r : Nat) : State :=
  let q := neighbourReg r
  let tie := fun (s : State) (a b st src : Nat) =>
    ((s.wr TLR_TIE_CLOSED a 1).wr TLR_TIE_SOURCE a src).wr TLR_TIE_PARTNER a b |>.wr TLR_STAT_STATE a st
  let s := tie (tie s r q rsTied 0) q r rsSource 1
  let s := (s.setHist (regUnit r) { s.hist (regUnit r) with viaTie := true }).lifeInc (regUnit q) 2 1
  let s := match s.spareLoop (foldOfReg q) with
    | none => s
    | some l => s.startSpare l q
  let t := regTile r
  let n := regTile q
  let s := if (s.tile t).hint.any (·.applied) then s.wr TLR_STAT_HINT r 1 else s
  let m := if s.standby then min 12 (min (s.rd TLR_SET_NOTCH t) (s.rd TLR_SET_NOTCH n)) else s.notchFor t
  let s := s.each [t, n] fun s u => (s.setPoint (tlrOf u) (notchCode m) m).setPoint (tarOf u) (notchTarCode m) 0
  let s := s.retarget q
  if (s.tile t).off then (s.event evRegTied (regUnit r) none).resumeAll [t, n]
  else s.modRegul r fun x => { x with tying := some (q, s.now), sagRun := 0 }

/-- Row TIE_CLOSE (R297): once both tiles are held the tie is made, or the tile penned. A tie's source that an overload
stopped starts again on its own (R298). -/
def execTieClose (r : RegNo) (s : State) : Out :=
  if 2048 ≤ r.val ∨ !s.inService ∨ s.regState r ≠ rsFault ∨ (s.regul r).stopAt.isNone
      ∨ !([regTile r, regTile (neighbourReg r)].all s.tileStill) then .next s
  else
    let again := (s.regul r).again
    let s := s.modRegul r fun x => { x with stopAt := none }
    if again then .next (s.softStart r (s.softFrom r))
    else if s.tieAllowed r then .next (s.makeTie r)
    else .next ((s.penTile (regTile r)).resumeAll [regTile (neighbourReg r)])

/-- The load check fails, or the failed rail sags: the tie opens, and the tile is permanent-suspect at once
(R298, R326). -/
def State.tieFails (s : State) (r : Nat) : State :=
  let n := regTile (s.rd TLR_TIE_PARTNER r)
  ((s.openTie r).penTile (regTile r)).resumeAll [n]

/-- Row TIE_LOAD_CHECK (R297): the pair's current over 300 control periods. -/
def execTieLoadCheck (r : RegNo) (meanMa : Nat) (s : State) : Out :=
  match (s.regul r).tying with
  | none => .next s
  | some (q, at') =>
    if s.now < at' + 300000 then .next s
    else
      let s := s.modRegul r fun x => { x with tying := none }
      if famMa q < 4 * meanMa then .next (s.tieFails r)
      else .next ((s.event evRegTied (regUnit r) none).resumeAll [regTile r, regTile q])

/-! ## AVSBus (R300 to R303) -/

/-- A fold is in a header or tie sequence. -/
def State.sequencing (s : State) : Bool :=
  s.tiles.any (fun x => 0 < x.2.hdrStages && decide (x.2.hdrStages < 4)) || s.reguls.any (·.2.tying.isSome)

/-- VIB_SET is written (R300): where a write is owed after bring-up or a change, the transition rate written before it, and no
fold in a header or tie sequence, which defers it to the next window; not before a read succeeds again (R301). -/
def State.writeVib (s : State) : State :=
  if !s.vibOwed ∨ s.lostAvs ∨ s.phase = .stopped ∨ s.now < s.vibFrom ∨ !s.avsRate
      ∨ (s.phase = .firmware ∧ !(List.range 64).all s.foldUp) then s
  else if s.sequencing then { s with vibFrom := (s.now / 1000000 + 1) * 1000000 }
  else { s with vibWritten := s.conf 0x0207, vibOwed := false, avsRate := false }

/-- Row AVS_TRANSACTION (R300, R301): the Current reading is valid from its read until the loss; a fourth failure in a row is AVS_LOST, and no write goes out until a read
succeeds. -/
def execAvsTransaction (cmd : AvsCmd) (ok : Bool) (value : Nat) (s : State) : Out :=
  if !ok then
    let s := { s with avsFails := s.avsFails + 1 }
    if s.avsFails = 4 then
      .next { s.event evAvsLost stratumUnit none with lostAvs := true, avsOk := false }
    else .next s
  else
    let s := { s with avsFails := 0 }
    match cmd with
    | .writeVoltage => .next s.writeVib
    | .readVoltage => .next { s with avsMv := value, avsRead := true, lostAvs := false }
    | .readCurrent => .next { s with avsMa := value * s.conf 0x020A, avsOk := true, lostAvs := false }
    | .writeRate => .next (if s.lostAvs then s else { s with avsRate := true })
    | .readStatus => .next s

end Sys2Proof.Machine
end

