-- ==== Sys2Proof/Machine/Rein.lean ====
section
/-! DEFINITION. What rein frames do at the tile and at the FCE (R107, R276 to R279, R295, R297), and the link's
retransmission. -/
namespace Sys2Proof.Machine

/-! ## At the tile -/

/-- The cycles that an ATTN still needs change with the frequency as those of the whole ATTN do (R140; DESIGN CHOICE, log
109); every other operation needs the same cycles. -/
def UnitOp.rescale (op : UnitOp) (x : Tile) (cyc old new : Nat) : UnitOp :=
  if fld op.desc 0 1 ≠ 2 ∨ op.ready ≤ cyc then op
  else { op with ready := cyc + ceilDiv ((op.ready - cyc) * (Attn.of op.desc).work x new) ((Attn.of op.desc).work x old) }

/-- The island retunes to a notch (R107); the stop of at most 40 ns is no time here. -/
def State.retune (s : State) (t n : Nat) : State :=
  let s := (s.settle t).weigh t
  let old := s.mhz t
  let s := (s.wr TILE_NOTCH_CUR t n).traceRec t 4 n
  let new := s.mhz t
  s.modTile t fun x => { x with
    taRun := x.taRun.map (·.rescale x x.cycles old new) }

/-- Row NOTCH (R276, R278): TARGET; a notch below the running one is taken at once, and answered; a higher one whose command
has been acknowledged already is taken too (log 127). -/
def execNotch (t : TileId) (s : State) : Out :=
  .next (s.reinArrive t true rfNotch fun s p =>
    let n := p % 16
    let seq := p / 16 % 16
    let ok := (s.tile t).ackOk == some seq
    let s := (s.wr TILE_NOTCH_TARGET t n).modTile t fun x => { x with notchSeq := seq, ackOk := none }
    if n < s.rd TILE_NOTCH_CUR t then (s.retune t n).reinSend t false rfRetuned (n + 16 * seq)
    else if ok ∧ s.rd TILE_NOTCH_CUR t < n then s.retune t n else s)

/-- Row ACK (R276, R278): on ST_OK or ST_CLAMPED for the command of the latest NOTCH, a higher target is
taken; for a command whose NOTCH is still to come, the island keeps it in mind. -/
def execAck (t : TileId) (s : State) : Out :=
  .next (s.reinArrive t true rfAck fun s p =>
    let st := p % 256
    let seq := p / 256 % 16
    let n := s.rd TILE_NOTCH_TARGET t
    if st ≠ 0 ∧ st ≠ 8 then s
    else if seq ≠ (s.tile t).notchSeq then s.modTile t fun x => { x with ackOk := some seq }
    else if s.rd TILE_NOTCH_CUR t < n then s.retune t n else s)

/-- Row HOLD (R295): the core halts and nothing new issues; the watchdog is held. -/
def execHold (t : TileId) (s : State) : Out :=
  .next (s.reinArrive t true rfHold fun s _ => (s.modTile t fun x => { x with haltRail := true }).wdogHold t)

/-- Row HELD (R295): every open check has closed; the tile answers, and its island clock stops. A regulator of the pair that
returns to service may start now (R430). -/
def execHeld (t : TileId) (s : State) : Out :=
  let x := s.tile t
  if !x.haltRail ∨ x.lost ∨ !x.taOpen.isEmpty ∨ s.rd TILE_STATE_STATE t = 5 then .next s
  else
    let s := s.modTile t fun x => { x with heldState := s.rd TILE_STATE_STATE t }
    let s := ((s.clock t true).wr TILE_STATE_STATE t 5).reinSend t false rfHeld 1
    let s := s.modTile t Tile.takeHeld
    let u := tieOf t
    .next (s.each [tlrOf t, tlrOf u, tarOf t, tarOf u] State.startBack)

/-- Row RESUME (R297): a tile whose state was kept resumes exactly where it stopped. -/
def execResume (t : TileId) (s : State) : Out :=
  .next (s.reinArrive t true rfResume fun s _ =>
    let x := s.tile t
    if !x.haltRail ∨ !s.inService then s
    else
      let s := s.modTile t fun x => { x with haltRail := false }
      if x.lost ∨ s.rd TILE_STATE_STATE t ≠ 5 ∨ x.heldState = 5 then s.wdogGo t
      else ((s.clock t false).wr TILE_STATE_STATE t x.heldState).wdogGo t)

/-! ## At the FCE -/

/-- Row RETUNED (R276): the notch at which the island now runs; a slewer that waits for it goes down, unless the island of a
tied rail must still retune. -/
def execRetuned (t : TileId) (s : State) : Out :=
  .next (s.reinArrive t false rfRetuned fun s p =>
    let s := s.modTile t fun x => { x with fceNotch := p % 16 }
    let src := s.sourceOf t
    if (s.regul src).frozen then s.retarget src else s)

/-- Row HINT (R87, R279): the hint replaces the tile's earlier one, whose raise stands until the next output
phase that applies it. -/
def execHint (t : TileId) (s : State) : Out :=
  .next (s.reinArrive t false rfHint fun s p =>
    let start := s.now + bf p 0 20
    let h : HintRec := ⟨s.now, start, start + bf p 20 24, bf p 44 4, false, s.raiseOf t⟩
    s.modTile t fun x => { x with hint := some h })

/-- The raise that a hint asks of the TLR that supplies the tile, in codes (R279, R296). -/
def State.hintRaise (s : State) (t load : Nat) : Nat :=
  let src := s.sourceOf t
  let isum := (iChans src).foldl (fun (a : Int) c => a + (s.chCode (foldOfReg src) c : Int) - 2048) 0
  let d := ((load + 1) * 750 : Nat) - isum * 5
  min (s.rd TLR_CFG_HINT_MAXUP t) (ceilDiv (s.rd TLR_RLL_RLL src * d.toNat) 200000)

/-- A hint is applied (R279): phases restored, burst mode left, the set-point raised. -/
def State.applyHint (s : State) (t : Nat) : State :=
  match (s.tile t).hint with
  | none => s
  | some h =>
    let up := s.hintRaise t h.load
    let s := s.modTile t fun x => { x with hint := some { h with applied := true, raise := up } }
    let s := s.each [tlrOf t, tarOf t] fun s r =>
      if s.regOn r then (s.allPhases (s.sourceOf r)).wr TLR_STAT_HINT r 1 else s
    let src := s.sourceOf t
    if s.regOn t ∧ s.regOn src then s.retarget src else s

/-- Row HINT_EXPIRY (R279): at the first output phase after start + duration. -/
def execHintExpiry (t : TileId) (s : State) : Out :=
  match (s.tile t).hint with
  | none => .next s
  | some h =>
    if !h.applied ∨ s.now < h.stop ∨ s.now % 1000 ≠ 800 then .next s
    else
      let s := s.modTile t fun x => { x with hint := none }
      let s := (s.wr TLR_STAT_HINT (tlrOf t) 0).wr TLR_STAT_HINT (tarOf t) 0
      let src := s.sourceOf t
      .next (if s.regOn t ∧ s.regOn src then s.retarget src else s)

/-! ## The link (R277, R278) -/

/-- Row REIN_BAD_CRC (R277): the frame at the front of a direction, whatever its type, has a bad CRC and is answered with NAK in
the other direction. `toTile` is the direction of the bad frame. -/
def execReinBadCrc (t : TileId) (toTile : Bool) (seq : BitVec 4) (s : State) : Out :=
  let x := s.tile t
  match x.wire toTile with
  | [] => .next s
  | f :: r =>
    if f.seq ≠ seq.toNat then .next s
    else
      let x := (x.setWire toTile r).takeHeld
      let s := s.setTile t (x.reinNak (!toTile) f.seq)
      .next (if toTile then s else s.cnt TLR_REIN_NAKS t 1)

/-- An acknowledgement that the engine sends again reaches the island too late for it to rise: a newer NOTCH frame has gone out
before it (R276). -/
def State.staleAck (s : State) (t : Nat) (f : ReinFrame) : Bool :=
  f.type == rfAck && (f.payload % 256 == 0 || f.payload % 256 == 8) && f.payload / 256 % 16 != s.rd TLR_SET_SEQ (tlrOf t)
    && (s.tile t).notchDue.isNone

/-- A frame is sent again. -/
def State.reinAgain (s : State) (t : Nat) (k : Bool × Nat × ReinFrame) : State :=
  let stale := k.1 && s.staleAck t k.2.2
  let s := s.modTile t fun x =>
    let x := x.setWire k.1 (x.wire k.1 ++ [k.2.2])
    { x with reinSent := x.reinSent.map fun j => if j = k then (j.1, j.2.1 + 1, j.2.2) else j }
  if !stale then s
  else
    let s := s.modTile t fun x => { x with fceNotch := min x.fceNotch x.fceWas }
    let src := s.sourceOf (tlrOf t)
    if (s.regul src).frozen then s.retarget src else s

/-- Row REIN_NAK (R277): the sender sends the frame again, up to three times; a fourth failure of one frame
faults the tile's TLR and TAR with cause REIN. -/
def execReinNak (t : TileId) (toTile : Bool) (seq : BitVec 4) (s : State) : Out :=
  let x := s.tile t
  match x.wire (!toTile) with
  | [] => .next s
  | f :: r =>
    if f.seq ≠ seq.toNat ∨ f.type ≠ rfNak then .next s
    else
      let s := s.setTile t (x.setWire (!toTile) r).takeHeld
      let s := if toTile then s.cnt TLR_REIN_NAKS t 1 else s
      match x.reinSent.find? (fun k => k.1 == toTile && k.2.2.seq == seq.toNat) with
      | none => .next s
      | some k =>
        if 3 ≤ k.2.1 then .next ((s.regFault (tlrOf t) 6 0).regFault (tarOf t) 6 0)
        else .next (s.reinAgain t k)

/-- A frame of reserved TYPE, or with a nonzero reserved payload bit (R278). -/
def reinReserved (type payload : Nat) : Bool :=
  match type with
  | 0x1 => payload / 2 ^ 48 != 0
  | 0x2 => payload / 2 ^ 8 != 0
  | 0x3 => payload / 2 != 0
  | 0x8 => payload / 2 ^ 8 != 0
  | 0x9 => payload / 2 ^ 20 != 0
  | 0xA => payload / 2 ^ 4 != 0
  | 0xB => payload != 0
  | 0xF => payload != 0
  | _ => true

/-- Row REIN_RESERVED_FRAME (R278): discarded without a NAK and counted. -/
def execReinReservedFrame (t : TileId) (_toTile : Bool) (type : BitVec 4) (payload : W64) (s : State) : Out :=
  .next (if reinReserved type.toNat payload.toNat then s.cnt TLR_REIN_BADTYPE t 1 else s)

end Sys2Proof.Machine
end

