-- ==== Sys2Proof/Machine/Converter.lean ====
section
/-! DEFINITION. The fold converter and the fold control engine (R306 to R329): scans and their correction, the
loops and their laws, the per-period work, and the 1 ms accumulators. -/
namespace Sys2Proof.Machine

/-! ## Channels and the mask (R308, R310, R317) -/

/-- The regulator of a loop: its own, or what REG names for a spare. -/
def State.loopReg (s : State) (l : Nat) : Nat := s.rd FCE_LOOP_CFG_REG l

/-- The current of one LSB in eighths of a mA: ITLR 2.5 mA, ITAR 2.0 mA, ICIR 6.25 mA (R309). -/
def eighthMa (r : Nat) : Nat := if r < 1024 then 20 else if r < 2048 then 16 else 50

/-- Channels that a mask cannot drop: the references and those that feed a loop with a LAW (R310). -/
def State.maskForced (s : State) (f : Nat) : List Nat :=
  [136, 137, 138, 139] ++ (List.range 36).flatMap fun n =>
    let l := 36 * f + n
    if s.rd FCE_LOOP_CFG_LAW l = 0 then [] else vChan (s.loopReg l) :: iChans (s.loopReg l)

/-- A mask word with its forced bits. -/
def State.forceMask (s : State) (f w v : Nat) : Nat :=
  (s.maskForced f).foldl (fun v c => if c / 32 = w then bfSet v (c % 32) 1 1 else v) v

/-- A word of the mask as it reads. -/
def State.maskWord (s : State) (f w : Nat) : Nat :=
  if w = 4 then s.rd FCV_MASK4_EN f else s.rd FCV_MASK_EN (4 * f + w)

def State.setMask (s : State) (f w v : Nat) : State :=
  let v := s.forceMask f w v
  if w = 4 then s.wr FCV_MASK4_EN f v else s.wr FCV_MASK_EN (4 * f + w) v

/-- The channels of a scan, ascending. -/
def State.scanChans (s : State) (f : Nat) : List Nat :=
  (List.range 144).filter fun c => bit (s.maskWord f (c / 32)) (c % 32)

/-- The slices in service. -/
def State.slices (s : State) (f : Nat) : List Nat := (List.range 8).filter fun k => bit (s.rd FCV_STAT_SLICES f) k

/-- A scan runs, or is within some ns of starting (R311, R315): its first sample lies 170 − (n − 1) × 25 / k ns into the
period, and it ends with the frame close. -/
def State.inScan (s : State) (f : Nat) (lead : Nat) : Bool :=
  let k : Nat := max 1 (s.slices f).length
  let p : Int := s.now % 1000 * k
  let t0 : Int := (170 - lead : Int) * k - (((s.scanChans f).length - 1) * 25 : Nat)
  let stop : Int := 200 * k
  s.rdb FCE_CTRL_RUN f && (decide (t0 ≤ p ∧ p < stop) || decide (t0 < 0 ∧ (p < stop ∨ 1000 * k + t0 ≤ p)))

/-- The value that a mask word has, or will have when the running scan ends. -/
def State.maskSoon (s : State) (f w : Nat) : Nat := ((s.fold f).maskNext.find w).getD (s.maskWord f w)

/-- A mask word put: during a scan it takes effect with the next. Otherwise it takes the place of one that still waits. -/
def State.putMask (s : State) (f w v : Nat) : State :=
  if s.inScan f 0 then s.modFold f fun x => { x with maskNext := x.maskNext.set w v }
  else (s.modFold f fun x => { x with maskNext := x.maskNext.drop (· == w) }).setMask f w v

/-- The scan has ended: the mask words written during it hold from the next one on. -/
def State.endScan (s : State) (f : Nat) : State :=
  let s := (s.fold f).maskNext.foldl (fun s m => s.setMask f m.1 m.2) s
  s.modFold f fun x => { x with maskNext := [] }

/-- A mask word written. The TEST channels, bits 140 to 143, follow FCV_TEST_MASK alone. -/
def State.writeMask (s : State) (f w v : Nat) : State :=
  s.putMask f w (if w = 4 then bfSet v 12 4 (bf (s.maskSoon f 4) 12 4) else v)

/-- FCV_TEST_MASK enables the TEST channels of a fold (R310, R325). -/
def State.testMask (s : State) (f v : Nat) : State := s.putMask f 4 (bfSet (s.maskSoon f 4) 12 4 v)

/-- Row FCV_MASK_WRITE (R310). -/
def execFcvMaskWrite (f : FoldId) (word : Fin 5) (v : W32) (s : State) : Out := .next (s.writeMask f word v.toNat)

/-! ## Correction (R312, R313) -/

/-- A raw code corrected by a slice, and whether it was clamped. -/
def State.correct (s : State) (f k raw : Nat) : Nat × Bool :=
  let u := 8 * f + k
  let v : Int := ((raw * 16 - sext 16 (s.rd FCV_SLICE_A_OFF u)) * s.rd FCV_SLICE_A_GAIN u + 2 ^ 17) / 2 ^ 18
  ((clampI 0 4095 v).toNat, decide (v < 0 ∨ 4095 < v))

/-- A clamped update of a slice's correction, with its LIMITRUN. -/
def State.sliceSet (s : State) (fd : Field) (u : Nat) (lo hi v : Int) : State :=
  let s := s.wr fd u (twos fd.w (clampI lo hi v))
  if v < lo ∨ hi < v then s.cnt FCV_SLICE_B_LIMITRUN u 1 else s.wr FCV_SLICE_B_LIMITRUN u 0

/-- What a slice learns from a reference channel that it sampled. -/
def State.learn (s : State) (f k c raw code : Nat) : State :=
  let u := 8 * f + k
  if c = 136 then
    let o := sext 16 (s.rd FCV_SLICE_A_OFF u)
    s.sliceSet FCV_SLICE_A_OFF u (-1024) 1024 (o + (16 * raw - o) / 64)
  else if c = 137 then s.sliceSet FCV_SLICE_A_GAIN u 15565 17203 (s.rd FCV_SLICE_A_GAIN u + 3840 - code)
  else if c = 139 ∧ code ≠ 3840 then
    let k := sext 8 (s.rd FCV_SLICE_B_SKEW u)
    s.sliceSet FCV_SLICE_B_SKEW u (-64) 64 (if 3840 < code then k - 1 else k + 1)
  else s

/-- The converter of a fold has failed (R313): recorded, the fold lost, then the converter charged. -/
def State.fcvFail (s : State) (f : Nat) : State :=
  if s.rdb FCV_STAT_FAULT f then s
  else
    let seq := s.evSeq
    let s := (s.wr FCV_STAT_FAULT f 1).event evFcvFault (fcvUnit f) none 0 [] clsMeasurement
    (s.loseFold f).enterCharge (fcvUnit f) clsMeasurement evFcvFault seq false false

/-- Slices whose LIMITRUN reaches 64 are retired; fewer than four left are a converter failure. -/
def State.retireSlices (s : State) (f : Nat) : State :=
  (List.range 8).foldl (fun s k =>
    let u := 8 * f + k
    if s.rd FCV_SLICE_B_LIMITRUN u < 64 ∨ s.rdb FCV_SLICE_B_RETIRED u then s
    else
      let s := (s.wr FCV_SLICE_B_RETIRED u 1).wr FCV_STAT_SLICES f (bfSet (s.rd FCV_STAT_SLICES f) k 1 0)
      let s := (s.lifeInc (fcvUnit f) 1 1).event evFcvSliceRetired (fcvUnit f) none (detail := toLE 4 k)
      if (s.slices f).length < 4 then s.fcvFail f else s) s

/-- The samples of a scan become frame k (R311, R312). -/
def State.takeScan (s : State) (f : Nat) (raw : List (BitVec 12)) : State :=
  let chans := s.scanChans f
  let sl := s.slices f
  let seq := s.now / 1000 % 8
  let samples := chans.zipIdx.map fun (c, i) =>
    let k := sl.getD ((i + seq) % max 1 sl.length) 0
    let r := (raw.getD c 0#12).toNat
    (c, k, r, s.correct f k r)
  let s := s.each (List.range 144) fun s c => s.wr FCV_LAST_FRESH (144 * f + c) 0
  let s := samples.foldl (fun s (c, _, _, v) =>
    let s := (s.wr FCV_LAST_CODE (144 * f + c) v.1).wr FCV_LAST_FRESH (144 * f + c) 1
    if v.2 then s.wr FCV_STAT_CLIP f 1 else s) s
  let s := samples.foldl (fun s (c, k, r, v) => s.learn f k c r v.1) s
  let off := samples.any fun (c, _, _, v) => c == 138 && decide (3 < max v.1 1920 - min v.1 1920)
  let s := if off then s.modFold f fun x => { x with midOff := true } else s
  ((s.wr FCV_STAT_NCH f chans.length).retireSlices f).endScan f

/-! ## Loops (R317 to R326) -/

def sat32 (v : Int) : Int := clampI (-2147483648) 2147483647 v

/-- A rounded, saturated term (R320). -/
def term (c : Int) (sh : Nat) (v : Int) : Int :=
  sat32 ((c * v + (if 0 < sh then 2 ^ (sh - 1) else 0)) / 2 ^ sh)

/-- Whether a sum or a term was limited. -/
def limited (v : Int) : Bool := decide (v < -2147483648 ∨ 2147483647 < v)

/-- The active bank of a loop: signed coefficients and shifts. -/
structure Law where
  coef : List Int
  shift : List Nat
  deriving DecidableEq, Repr

def State.law (s : State) (l : Nat) : Law :=
  ⟨(List.range 32).map fun m => sext 32 (s.rd FCE_LOOP_ACOEF_COEF (32 * l + m)),
   (List.range 32).map fun m => s.rd FCE_LOOP_ASH_SHIFT (32 * l + m)⟩

def Law.c (w : Law) (i : Nat) : Int := w.coef.getD i 0

/-- A term of the bank, with whether it was limited. -/
def Law.term (w : Law) (i : Nat) (v : Int) : Int × Bool :=
  let sh := w.shift.getD i 0
  let x := (w.c i * v + (if 0 < sh then 2 ^ (sh - 1) else 0)) / 2 ^ sh
  (sat32 x, limited x)

/-- An exact sum, limited. -/
def satSum (l : List (Int × Bool)) : Int × Bool :=
  let v := l.foldl (fun (a : Int) (k : Int × Bool) => a + k.1) 0
  (sat32 v, limited v || l.any (·.2))

/-- What a law gives for a frame: the unclamped duty, the new states, and whether anything was limited. -/
structure LawOut where
  u : Int
  x : List Int
  sat : Bool
  deriving DecidableEq, Repr

/-- State feedback with observer (R321). -/
def Law.observer (w : Law) (nx : Nat) (x : List Int) (uprev e : Int) : LawOut :=
  let xv := fun j => x.getD j 0
  let xn : List (Int × Bool) := (List.range nx).map fun i =>
    satSum ((List.range nx).map (fun j => w.term (4 * i + j) (xv j)) ++ [w.term (16 + i) uprev, w.term (20 + i) e])
  let u := satSum ([(w.c 29, false), w.term 28 e] ++ xn.zipIdx.map fun k => w.term (24 + k.2) k.1.1)
  ⟨u.1, (xn.map Prod.fst ++ [0, 0, 0, 0]).take 4, u.2 || xn.any Prod.snd⟩

/-- The Forerunner PID (R322). -/
def Law.pid (w : Law) (x : List Int) (hi lo : Bool) (e : Int) : LawOut :=
  let i := x.getD 0 0
  let d := x.getD 1 0
  let p := w.term 0 e
  let de := satSum [(e, false), (-(x.getD 2 0), false)]
  let ni := if (hi && decide (0 < e)) || (lo && decide (e < 0)) then (i, false) else satSum [(i, false), w.term 1 e]
  let dd := satSum [w.term 3 d, w.term 2 de.1]
  let u := satSum [(w.c 4, false), p, (ni.1, false), (dd.1, false)]
  ⟨u.1, [ni.1, dd.1, e, 0], u.2 || ni.2 || dd.2 || de.2 || p.2⟩

/-- The shadow bank is copied where SWAP is set, and LAW and NX written since take effect (R324); the loop of a new tie starts
from zero states (R326). -/
def State.swapBank (s : State) (l : Nat) : State :=
  let s := if s.rdb FCE_LOOP_CFG_SWAP l then
      let s := (List.range 32).foldl (fun s m =>
        (s.wr FCE_LOOP_ACOEF_COEF (32 * l + m) (s.rd FCE_LOOP_SCOEF_COEF (32 * l + m))).wr FCE_LOOP_ASH_SHIFT
          (32 * l + m) (s.rd FCE_LOOP_SSH_SHIFT (32 * l + m))) s
      s.wr FCE_LOOP_CFG_SWAP l 0
    else s
  let x := s.loop l
  let old := s.rd FCE_LOOP_CFG_LAW l
  let new := x.lawNext.getD old
  let s := (s.wr FCE_LOOP_CFG_NX l (x.nxNext.getD (s.rd FCE_LOOP_CFG_NX l))).wr FCE_LOOP_CFG_LAW l new
  let s := s.setLoop l { x with lawNext := none, nxNext := none }
  if x.fresh then
    let s := s.zeroLoop l
    s.setLoop l { s.loop l with fresh := false }
  else if new = old then s
  else if new = 1 then s.setLoopX l [0, 0, 0, 0]
  else if new = 2 then
    let e := sext 32 (s.rd FCE_LOOP_E_E l)
    let i : Int := x.uprev - (s.law l).c 4
    let s := if limited i then s.wr FCE_LOOP_STAT_SAT l 1 else s
    let s := s.setLoopX l [sat32 i, 0, e, 0]
    s.setLoop l { s.loop l with holdHi := false, holdLo := false }
  else s

/-- Whether a loop runs in this frame (R323, R326). -/
def State.loopRuns (s : State) (l : Nat) : Bool :=
  let st := s.regState (s.loopReg l)
  s.rd FCE_LOOP_CFG_LAW l != 0
    && (if 33 ≤ l % 36 then s.rdb FCE_LOOP_CFG_TIED l && st == rsSource else st == rsSoft || st == rsRegulate)

/-- Isum of a regulator's channels, in its current LSB (R317). -/
def State.isum (s : State) (f r : Nat) : Int := (iChans r).foldl (fun a c => a + (s.chCode f c : Int) - 2048) 0

/-- Output current in eighths of a mA. -/
def State.outEighth (s : State) (f r : Nat) : Int := s.isum f r * (eighthMa r : Int)

/-- The droop of R319, in RAIL LSB. -/
def State.droop (s : State) (f r : Nat) : Int :=
  let d : Int := if r < 1024 then 2500 else if r < 2048 then 3125 else 1000
  ((s.rd TLR_RLL_RLL r : Int) * s.isum f r + d / 2) / d

/-- The error e = r − y of a regulator (R319). -/
def State.loopErr (s : State) (f r : Nat) : Int :=
  16 * (s.vref r : Int) - s.droop f r - s.chCode f (vChan r)

/-- One loop computes its word (R318 to R323). -/
def State.runLoop (s : State) (f l : Nat) : State :=
  let r := s.loopReg l
  if !s.loopRuns l then (s.setLoop l { s.loop l with word := none }).wr FCE_LOOP_STAT_FROZEN l 1
  else
    let x := s.loop l
    let e := sat32 (s.loopErr f r)
    let o := if s.rd FCE_LOOP_CFG_LAW l = 1 then
        (s.law l).observer (s.rd FCE_LOOP_CFG_NX l + 1) (s.loopX l) x.uprev e
      else (s.law l).pid (s.loopX l) x.holdHi x.holdLo e
    let hi := s.rd FCE_LOOP_DLIM_DMAX l
    let lo := min (s.rd FCE_LOOP_DLIM_DMIN l) hi
    let word := (clampI lo hi o.u).toNat
    let above := decide ((hi : Int) < o.u)
    let below := decide (o.u < (lo : Int))
    let s := s.setLoop l { x with word := some word, uprev := word, holdHi := above, holdLo := below }
    let s := (s.setLoopX l o.x).wr FCE_LOOP_E_E l (twos 32 e)
    let s := if o.sat || limited (s.loopErr f r) then s.wr FCE_LOOP_STAT_SAT l 1 else s
    ((s.wr FCE_LOOP_STAT_CLAMP_HI l (b2n above)).wr FCE_LOOP_STAT_CLAMP_LO l (b2n below)).wr FCE_LOOP_STAT_FROZEN l 0

/-! ## Per-period work (R327) -/

/-- The loop that computes a regulator's word: its own, or the spare of its tie. -/
def State.loopFor (s : State) (f r : Nat) : Nat :=
  if s.regState r = rsSource then
    (([33, 34, 35].map (36 * f + ·)).find? fun l => s.rdb FCE_LOOP_CFG_TIED l && s.loopReg l == r).getD (ownLoop r)
  else ownLoop r

/-- Mean sensed current of each phase in eighths of a mA; a CIR group's two phases share it. -/
def State.phaseCur (s : State) (f r : Nat) : List Int :=
  let g := (iChans r).map fun c => ((s.chCode f c : Int) - 2048) * (eighthMa r : Int)
  if r < 2048 then g else g.flatMap fun v => [v / 2, v / 2]

/-- The trim of a phase (R281). -/
def State.trim (s : State) (r p : Nat) : Int := sext 8 (bf (s.rd TLR_TRIM_TRIM r) (8 * p) 8)

/-- Input power in mW (R282), rounded down (log 42). -/
def State.pinOf (s : State) (f r : Nat) : Nat :=
  let vib : Int := s.chCode f 131 * 5
  let w : Int := s.rd FCE_LOOP_U_WORD (s.loopFor f r)
  let ff : Int := ((s.vref r : Int) - (s.regul r).wordRef) * 5
  let sum := (s.phaseCur f r).zipIdx.foldl (fun a (i, p) =>
    if p < s.rd TLR_STAT_PHASES r then
      a + (vib * w * (1024 + s.trim r p) * i + ff * 8 * 65536 * 1024 * i)
    else a) 0
  (sum / (8 * 8 * 65536 * 1024 * 1000)).toNat

/-- Hint measures are in force on a regulator, for its own tile or for the one tied to it (R279, R296). -/
def State.hinted (s : State) (r : Nat) : Bool :=
  s.rdb TLR_STAT_HINT r || (s.rdb TLR_TIE_SOURCE r && s.rdb TLR_STAT_HINT (s.rd TLR_TIE_PARTNER r))

/-- Phase balancing from the means of 16 frames (R281): a trim moves toward equality; a phase that stays off by
half its rating at its clamp for 16 runs is a fault. -/
def State.balance (s : State) (r : Nat) : State :=
  let n := s.rd TLR_STAT_PHASES r
  let fr := (s.regul r).frames
  if n < 2 ∨ fr.length < 16 ∨ !s.regOn r then s
  else
    let tot := fun (p : Nat) => fr.foldl (fun (a : Int) k => a + k.getD p 0) 0
    let all := (List.range n).foldl (fun a p => a + tot p) 0
    let rate : Int := phaseMa r * 8 * 16
    let step := fun (s : State) (p : Nat) =>
      let d := tot p * n - all
      let t := s.trim r p
      let v := if rate * 3 * n < 100 * d.natAbs then (if 0 < d then t - 1 else t + 1) else t
      let v := clampI (-61) 61 v
      let s := s.wr TLR_TRIM_TRIM r (bfSet (s.rd TLR_TRIM_TRIM r) (8 * p) 8 (twos 8 v))
      let stuck := decide ((v = 61 ∨ v = -61) ∧ rate * n < 2 * (d.natAbs : Int))
      s.modRegul r fun x =>
        { x with balRun := bfSet x.balRun (5 * p) 5 (if stuck then bf x.balRun (5 * p) 5 + 1 else 0) }
    let s := (List.range n).foldl step s
    let lim := (List.range (famPhases r)).any fun p => s.trim r p == 61 || s.trim r p == -61
    let s := s.wr TLR_STAT_BAL_LIMIT r (b2n lim)
    match (List.range n).find? (fun p => 16 ≤ bf (s.regul r).balRun (5 * p) 5) with
    | some p => s.regFault r 5 p
    | none => s

/-- The phase count from the mean output current of 16 frames (R283). The phases that run are the lowest-numbered, and the
highest of them is shed first (DESIGN CHOICE, log 154: R283 names no order). -/
def State.shed (s : State) (r : Nat) : State :=
  let fr := (s.regul r).frames
  let n := s.rd TLR_STAT_PHASES r
  let st := s.regState r
  if !s.rdb TLR_CFG_SHED_EN r ∨ s.hinted r ∨ (s.regul r).shedBlock ≠ 0 ∨ fr.length < 16
      ∨ (st ≠ rsRegulate ∧ st ≠ rsSource) then s
  else
    let sum := fr.foldl (fun (a : Int) k => a + k.foldl (· + ·) 0) 0
    let k := min (famPhases r) (max 1 (ceilDiv (2 * sum.toNat) (16 * 8 * phaseMa r)))
    s.wr TLR_STAT_PHASES r (if n ≤ k then k else n - 1)

/-- The switched part of a fold's VMIF has lost its state: columns, channel controllers and pool units, of which the fields of
K2 and above are in the retained part, and what the routers of the fold carried to or from its tiles (R270, R294; log 129). -/
def State.loseInterface (s : State) (f : Nat) : State :=
  let here := fun (e : Nat) => decide (e < 1024) && foldOf e == f
  let s := ({ s with mesh := s.mesh.filter fun m => !(here m.src || here m.dst) } : State).keepCredits
    fun c => !(here c.src || here c.dst)
  s.each (tilesOf f) fun s t =>
    let s := ((s.loseColumn t).dropPool t).resetRegs (fun b u => b == .vch && u == t) 2
    s.modTile t fun x => { x with poolRun := none, poolQ := [], ckWait := [], zeroFrames := [] }

/-- A rail sampled below its retention floor has lost the state of the logic that it supplies (R267, R294, R295; log 129). -/
def State.railFloor (s : State) (f r : Nat) : State :=
  if !s.rdb FCV_LAST_FRESH (144 * f + vChan r) ∨ famFloor r ≤ s.chCode f (vChan r) then s
  else if r < 2048 then
    let x := s.tile (regTile r)
    if x.off ∨ x.lost then s else s.loseTile (regTile r) (decide (1024 ≤ r))
  else if s.foldOff f then s
  else s.loseInterface f

/-- The registers of a regulator and its UNDERVOLT check in a frame (R282, R284, R289, R304); of one that is off its rail's
output and no input power; the sag of a rail that a tie
serves (R326). -/
def State.regFrame (s : State) (f r : Nat) : State :=
  if !s.regOn r then (s.wr TLR_VOUT_VOUT r (s.chCode f (vChan r) * 5 / 16)).wr TLR_PIN_PIN r 0
  else if s.regState r = rsTied then
    let q := s.rd TLR_TIE_PARTNER r
    let low := decide ((s.chCode f (vChan r) : Int) + 160 < 16 * (s.vref q : Int) - s.droop (foldOfReg q) q)
    let n := if low then (s.regul r).sagRun + 1 else 0
    let s := (s.wr TLR_VOUT_VOUT r (s.chCode f (vChan r) * 5 / 16)).modRegul r fun x => { x with sagRun := n }
    if 3 ≤ n then s.tieFails r else s
  else
    let e := s.loopErr f r
    let cur := s.phaseCur f r
    let i := s.outEighth f r
    let still := s.vref r == (s.regul r).refTo
    let s := (s.wr TLR_VOUT_VOUT r (s.chCode f (vChan r) * 5 / 16)).wr TLR_VOUT_REF r (s.vref r)
    let s := (s.wr TLR_STAT_SLEW r (b2n (!still))).wr TLR_PIN_PIN r (s.pinOf f r)
    let s := s.modRegul r fun x => { x with
      tripped := x.tripped && decide (48 < e), uvRun := if 160 < e ∧ still then x.uvRun + 1 else 0
      loads := (i :: x.loads).take 100, frames := (cur :: x.frames).take 16, shedBlock := x.shedBlock - 1 }
    let s := s.wr TLR_STAT_SHED_BLOCK r (b2n ((s.regul r).shedBlock != 0))
    if 3 ≤ (s.regul r).uvRun then s.regFault r 4 0 else s

/-- The overload check, the phases and burst mode of a regulator in a frame (R281, R283, R285, R287). -/
def State.regPhases (s : State) (f r : Nat) (sixteenth : Bool) : State :=
  if !s.regOn r ∨ s.regState r = rsTied then s
  else
    let i := s.outEighth f r
    let x := s.regul r
    if x.loads.length = 100 ∧ ((8 * 120 * famMa r : Nat) : Int) < x.loads.foldl (· + ·) (0 : Int) then s.regFault r 2 0
    else
      let s := if sixteenth then (s.balance r).shed r else s
      let n := s.rd TLR_STAT_PHASES r
      let s := if n ≠ 0 ∧ (8 * 9 * phaseMa r * n : Nat) < 10 * i then s.allPhases r else s
      let low := decide (i * 100 < (8 * 8 * famMa r : Nat)) && s.rdb TLR_CFG_BURST_EN r && !s.hinted r
        && (s.regul r).shedBlock == 0 && s.regState r == rsRegulate
      let run := if low then (s.regul r).lowRun + 1 else 0
      let s := s.modRegul r fun x => { x with lowRun := run }
      if 16 ≤ run then s.enterBurst r else s

/-- The accumulators of a running loop (R328). -/
def State.accumulate (s : State) (f l : Nat) : State :=
  if s.rdb FCE_LOOP_STAT_FROZEN l then s
  else
    let r := s.loopReg l
    let y := s.chCode f (vChan r)
    let x := s.loop l
    let first := x.n = 0 ∨ y < x.minY
    s.setLoop l { x with
      sumY := x.sumY + y, sumI := x.sumI + s.isum f r, sumP := x.sumP + s.rd TLR_PIN_PIN r, n := x.n + 1
      minY := if first then y else x.minY, minAt := if first then s.now else x.minAt }

/-- VIB checks on channel 131 (R291, R292). An over-voltage acts after any other stop too. -/
def State.vibCheck (s : State) (f : Nat) : State :=
  let c := s.chCode f 131
  let s := s.modFold f fun x => { x with
    vibHi := if 3680 < c then x.vibHi + 1 else 0, vibLo := if c < 2720 then x.vibLo + 1 else 0
    vibDip := x.vibDip || decide (2800 ≤ c ∧ c < 2880)
    vibMin := min x.vibMin c, vibMinAt := if c < x.vibMin then s.now else x.vibMinAt }
  if 2 ≤ (s.fold f).vibHi ∧ !s.vibOff then s.vibOv
  else if 2 ≤ (s.fold f).vibLo ∧ s.phase ≠ .stopped then s.stopAll.event evVibUv stratumUnit none
  else s

/-- The regulators of a fold. -/
def foldRegs (f : Nat) : List Nat := (tilesOf f).map tlrOf ++ (tilesOf f).map tarOf ++ [cirOf f]

/-- A frame that is missing (R329): no words; a second in a row stops the fold's regulators. -/
def State.frameMiss (s : State) (f : Nat) : State :=
  let s := (((s.endScan f).wr FCE_STAT_FRAME_MISS f 1).cnt FCE_STAT_MISSED f 1).modFold f fun x =>
    { x with missRun := x.missRun + 1 }
  let s := s.each (List.range 36) fun s n => s.setLoop (36 * f + n) { s.loop (36 * f + n) with word := none }
  if 2 ≤ (s.fold f).missRun then ((s.each (foldRegs f) fun s r => s.regDisable r)).fcvFail f else s

/-- The sum of a fold's output currents, in eighths of a mA (R293). -/
def State.budgetSum (s : State) (f : Nat) : Nat :=
  ((foldRegs f).foldl (fun a r => if s.regOn r then a + s.outEighth f r else a) 0).toNat

/-- Row FRAME_CLOSE (R306, R318, R327). -/
def execFrameClose (f : FoldId) (sc : Scan) (s : State) : Out :=
  let k := s.fit 144 144 sc.raw (·.setWidth 12)
  let s := k.1
  if !s.rdb FCE_CTRL_RUN f ∨ s.now % 1000 ≠ 200 then .next s
  else
    let s := s.wr FCE_PERIOD_START f (s.now - 200)
    if !sc.complete ∨ s.rdb FCV_STAT_FAULT f then .next (s.frameMiss f)
    else
      let s := (s.modFold f fun x => { x with missRun := 0 }).takeScan f k.2
      let loops := (List.range 36).map (36 * f.val + ·)
      let s := s.each loops State.swapBank
      let s := s.each (List.range 5) fun s w => s.setMask f w (s.maskWord f w)
      let s := s.each loops fun s l => s.runLoop f l
      let s := s.vibCheck f
      let s := s.each (foldRegs f) fun s r => (s.railFloor f r).regFrame f r
      let s := s.modFold f fun x => { x with hdrSum := s.budgetSum f }
      let s := s.each (foldRegs f) fun s r => s.regPhases f r (s.now / 1000 % 16 == 0)
      .next (s.each loops fun s l => s.accumulate f l)

/-- A NOTCH frame that is due goes out; where its command has been acknowledged already, the island rises with it
(R276, R327). -/
def State.sendNotch (s : State) (t : Nat) : State :=
  match (s.tile t).notchDue with
  | none => s
  | some (p, k) =>
    if s.now / 1000 < k then s
    else
      let acked := (s.regul (tlrOf t)).cmd.isNone
      (s.modTile t fun x =>
        let x := { x with notchDue := none }
        if acked then x.mayRise (p % 16) else x).reinSend t true rfNotch p

/-- Row OUTPUT_PHASE (R306, R87, R279, R327): every duty word of the fold is written; the hints that are due are applied, and
the NOTCH frames that are due go out. -/
def execOutputPhase (f : FoldId) (s : State) : Out :=
  if !s.rdb FCE_CTRL_RUN f ∨ s.now % 1000 ≠ 800 then .next s
  else
    let s := s.each ((List.range 36).map (36 * f.val + ·)) fun s l =>
      match (s.loop l).word with
      | none => s
      | some w =>
        let r := s.loopReg l
        let s := (s.wr FCE_LOOP_U_WORD l w).setLoop l { s.loop l with word := none }
        s.modRegul r fun x => { x with wordRef := x.ref s.now }
    .next (s.each (tilesOf f) fun s t =>
      let s := s.sendNotch t
      match (s.tile t).hint with
      | some h => if !h.applied ∧ h.at' + 800 ≤ s.now then s.applyHint t else s
      | none => s)

/-- An urgent request of a channel, with the raw code that its sample gives. The result stands in FCV_URG_RES 40 ns later
(`State.serveUrgent`). -/
def State.urgent (s : State) (f ch raw : Nat) : State :=
  if 143 < ch then s.wr FCV_URG_RES_STATUS f 3
  else if s.inScan f 40 ∨ s.now < (s.fold f).urgBusy then
    ((s.wr FCV_URG_RES_STATUS f 2).cnt FCV_URG_DROP_COUNT f 1).lifeInc (fcvUnit f) 0 1
  else
    let c := (s.correct f ((s.slices f).headD 0) raw).1
    s.modFold f fun x => { x with urgBusy := s.now + 40, urgDue := some c }

/-- Row FCV_URG (R314, R315). -/
def execFcvUrg (f : FoldId) (ch : Byte) (raw : BitVec 12) (s : State) : Out := .next (s.urgent f ch.toNat raw.toNat)

/-- Row FCE_SWAP (R324). -/
def execFceSwap (f : FoldId) (loop : Fin 36) (s : State) : Out :=
  .next (s.wr FCE_LOOP_CFG_SWAP (36 * f.val + loop.val) 1)

/-- Row FCE_WINDOW_END (R328, R312): the totals go to the ACC registers and the next window starts from zero;
the mid reference is compared. -/
def execFceWindowEnd (f : FoldId) (s : State) : Out :=
  if s.now % 1000000 ≥ 200 ∨ (s.fold f).window = s.now / 1000000 then .next s
  else
    let s := s.modFold f fun x => { x with window := s.now / 1000000 }
    let s := s.each ((List.range 36).map (36 * f.val + ·)) fun s l =>
      let x := s.loop l
      let s := ((s.wr FCE_LOOP_ACC_Y_SUMY l x.sumY).wr FCE_LOOP_ACC_I_SUMI l (twos 64 x.sumI)).wr FCE_LOOP_ACC_P_SUMP l x.sumP
      let s := ((s.wr FCE_LOOP_ACC_MIN_MINY l x.minY).wr FCE_LOOP_ACC_MIN_N l x.n).wr FCE_LOOP_ACC_MINT_T l x.minAt
      s.setLoop l { x with sumY := 0, sumI := 0, sumP := 0, minY := 0, minAt := 0, n := 0 }
    let off := (s.fold f).midOff
    let s := s.modFold f fun x => { x with midOff := false }
    .next (if off then s.event evFcvLinearity (fcvUnit f) none else s)

end Sys2Proof.Machine
end

