-- ==== Sys2Proof/Machine/Power.lean ====
section
/-! DEFINITION. Telemetry, the power estimate and measurement, and the cap loop (R333 to R343). -/
namespace Sys2Proof.Machine

/-! ## Notches (R331 to R333) -/

/-- Every tile follows its ceilings; one that runs a recompute keeps notch 15 (R333). -/
def State.applyNotches (s : State) : State :=
  if s.standby then s
  else s.each (List.range 1024) fun s t =>
    if (s.tile t).recomp.isSome then s else s.goNotch t (s.notchFor t)

/-- A recompute on the tile ends: the tile goes back to its ceiling, and the clock of a dozing one stops again
(R211, R212, R333). -/
def State.endRecompute (s : State) (t : Nat) : State :=
  match (s.tile t).recomp with
  | none => s
  | some r =>
    let s := s.modTile t fun x => { x with recomp := none }
    let s := s.goNotch t (if s.standby then r.notch else s.notchFor t)
    if s.rd TILE_STATE_STATE t = 5 then s.clock t true else s

/-! ## Figures of a window (R334, R337) -/

/-- The figures of a regulator on the stratum: average mA, minimum mV, frames, when, mW. -/
structure RegFigure where
  ma : Int
  mv : Nat
  n : Nat
  at' : Nat
  mw : Nat
  deriving DecidableEq, Repr

def State.figure (s : State) (r : Nat) : RegFigure :=
  let l := s.loopFor (foldOfReg r) r
  let n := s.rd FCE_LOOP_ACC_MIN_N l
  if n = 0 then ⟨0, 0, 0, 0, 0⟩
  else ⟨sext 64 (s.rd FCE_LOOP_ACC_I_SUMI l) * (eighthMa r : Int) / (8 * n), (s.rd FCE_LOOP_ACC_MIN_MINY l * 5 + 8) / 16, n,
    s.rd FCE_LOOP_ACC_MINT_T l, s.rd FCE_LOOP_ACC_P_SUMP l / n⟩

/-- Figures added: currents and powers, the lowest minimum with its time, the fewest frames. -/
def RegFigure.join (a b : RegFigure) : RegFigure :=
  let lower := b.mv < a.mv
  ⟨a.ma + b.ma, if lower then b.mv else a.mv, min a.n b.n, if lower then b.at' else a.at', a.mw + b.mw⟩

def joinAll : List RegFigure → RegFigure
  | [] => ⟨0, 0, 0, 0, 0⟩
  | a :: r => r.foldl RegFigure.join a

/-- The sum of the middle two codes of the folds' channel 131. -/
def State.middleVib (s : State) : Nat :=
  let l := ((List.range 64).map fun f => s.chCode f 131).mergeSort
  l.getD 31 0 + l.getD 32 0

/-- The median of the folds' channel 131, in codes; of an even number, the mean of the middle two (log 43). -/
def State.medianVib (s : State) : Nat := s.middleVib / 2

/-- The lowest code of channel 131 in the window that ends, of all folds, and its time (R335). -/
def State.lowVib (s : State) : Nat × Nat :=
  (List.range 64).foldl (fun (a : Nat × Nat) f => if (s.fold f).vibMin < a.1 then ((s.fold f).vibMin, (s.fold f).vibMinAt) else a)
    (4095, 0)

/-- The energy coefficients of the Stack Record, pJ: index 0 E_TA of 2- and 4-bit, 1 of 8-bit, 2 of BF16, 3 E_INS,
4 E_VOP, 5 E_IDLE, 6 E_ARR, 7 E_BYTE, 8 E_LINE, 9 E_FLIT (R337; log 44). -/
def State.energy (s : State) (k : Nat) : Nat :=
  let typ := [900, 800, 550, 20, 6000, 250, 120, 4, 350, 1800].getD k 0
  min 1000000 ((s.stackRecord.trims.find (0x8500 + k)).getD typ)

/-- The advances of a tile's count in the window, each times the square of the code of its notch (R337): key 0 the island cycles
with the TAR's. -/
def State.weighed (s : State) (t i : Nat) : Nat := ((s.tile t).estSum.find i).getD 0

/-- The square of the set-point code of a lane's LKR: no notch is a lane's (DESIGN CHOICE, log 44). -/
def State.laneSq (s : State) (l : Nat) : Nat := s.rd TLR_SET_VSET (lkrOf l) * s.rd TLR_SET_VSET (lkrOf l)

/-- The estimates in mW of input power: VLOG, VARR, VMIF, VLNK (R337), from counts that `State.weigh` has brought up to the window's
end. Counts times pJ over 1 ms give nW; 150 is the code of 0.75 V. The channel lines of a tile count with its notch at the window's
end (DESIGN CHOICE, log 44). -/
def State.estimates (s : State) (i : WindowInput) : List Nat :=
  let tiles := List.range 1024
  let e := s.energy
  let vlog := tiles.foldl (fun a t =>
    let c := s.weighed t
    a + (c 17) * e 0 + c 18 * e 1 + c 19 * e 2 + c 2 * e 3 + c 5 * e 4 + c 1 * e 5) 0
  let varr := tiles.foldl (fun a t => a + s.weighed t 0 * e 6) 0
  let vmif := tiles.foldl (fun a t =>
    let v := notchCode (s.rd TILE_NOTCH_CUR t)
    a + (s.weighed t 9 + 64 * (s.weighed t 6 + s.weighed t 7)) * e 7 + i.lines.getD t 0 * v * v * e 8) 0
  let lanes := (List.range 32).foldl (fun n l => n + b2n (s.rd WELT_LANE_ST_STATE l == 2)) 0
  let vlnk := (List.range 32).foldl (fun a l => a + i.flits.getD l 0 * s.laneSq l * e 9) 0
  [vlog / 22500, varr / 22500, vmif / 22500, vlnk / 22500 + 4000 * 1000000 * lanes].map fun p => p * 100 / 88 / 1000000

/-- Every tile's counts weighed up to now; the sums start from zero where a window ends. -/
def State.weighAll (s : State) : State := s.each (List.range 1024) State.weigh

def State.clearSums (s : State) : State :=
  s.each (List.range 1024) fun s t => s.modTile t fun x => { x with estSum := [] }

/-! ## Grants (R340) -/

/-- The domain order in force: 0 links, 1 memory, 2 compute. -/
def State.prio (s : State) : List Nat :=
  [s.rd PWR_PRIO_FIRST 0, s.rd PWR_PRIO_SECOND 0, s.rd PWR_PRIO_THIRD 0]

/-- The grants of the three domains, by domain code. -/
def grants (cap spine : Nat) (order demand : List Nat) : List Nat :=
  let g := order.foldl (fun (acc : List Nat × Nat) d =>
    let k := min (demand.getD d 0) acc.2
    (acc.1.set d k, acc.2 - k)) ([0, 0, 0], cap - spine)
  let last := order.getLastD 0
  let g : List Nat := g.1.set last (g.1.getD last 0 + g.2)
  let want := demand.getD 0 0
  let short := want - g.getD 0 0
  let r := (order.reverse.filter (· ≠ 0)).foldl (fun (acc : List Nat × Nat) d =>
    let k := min (acc.1.getD d 0) acc.2
    (acc.1.set d (acc.1.getD d 0 - k), acc.2 - k)) (g, short)
  if short = 0 then g else r.1.set 0 want

/-! ## Ceilings (R341) -/

/-- f × V² of a notch, of which S is the ratio to notch 12. -/
def notchS (n : Nat) : Nat := notchMHz n * notchCode n * notchCode n

/-- What the cap loop knows of a tile: its running notch, its shares of compute and memory, its priority (free
tiles 0), and its pair. -/
structure CapTile where
  t : Nat
  cur : Nat
  cmp : Rat
  mem : Rat
  prio : Nat
  pair : List Nat
  deriving DecidableEq, Repr

/-- The prediction of a tile's share of a domain at a notch: domain 1 memory, 2 compute. -/
def CapTile.predict (k : CapTile) (d n : Nat) : Rat :=
  if d = 2 then k.cmp * notchS n / notchS k.cur else k.mem * notchMHz n / notchMHz k.cur

/-- The sum of the predictions of a domain. -/
def predicted (l : List (CapTile × Nat)) (d : Nat) : Rat := l.foldl (fun a k => a + k.1.predict d k.2) 0

/-- Whether a tile goes down before another: lower priority, then the higher ceiling, the larger share, the
higher tile ID. -/
def goesFirst (d : Nat) (a b : CapTile × Nat) : Bool :=
  if a.1.prio ≠ b.1.prio then decide (a.1.prio < b.1.prio)
  else if a.2 ≠ b.2 then decide (b.2 < a.2)
  else
    let x := a.1.predict d a.2
    let y := b.1.predict d b.2
    if x ≠ y then decide (y < x) else decide (b.1.t < a.1.t)

/-- The tile that goes down next. -/
def pickTile (d : Nat) (l : List (CapTile × Nat)) : Option (CapTile × Nat) :=
  l.foldl (fun a k => if k.2 = 0 then a else match a with
    | none => some k
    | some b => if goesFirst d k b then some k else some b) none

/-- Ceilings fall, one notch at a time, until every domain is within its grant; `fuel` bounds the steps. -/
def lowerCaps (g : List Nat) (order : List Nat) : Nat → List (CapTile × Nat) → List (CapTile × Nat)
  | 0, l => l
  | n + 1, l =>
    match order.find? (fun d => d != 0 && decide ((g.getD d 0 : Rat) < predicted l d)) with
    | none => l
    | some d => match pickTile d l with
      | none => l
      | some k => lowerCaps g order n (l.map fun j =>
          if j.1.t = k.1.t ∨ k.1.pair.contains j.1.t then (j.1, j.2 - 1) else j)

/-- The ceilings after the rule for rises: one notch up per window, and only while every prediction stays at or
below 97 % of its grant. -/
def raiseCaps (g : List Nat) : List (CapTile × Nat × Nat) → List (CapTile × Nat) → List (CapTile × Nat)
  | [], done => done
  | (k, old, want) :: r, done =>
    let now := done ++ (k, min old want) :: r.map fun j => (j.1, min j.2.1 j.2.2)
    let up := done ++ (k, old + 1) :: r.map fun j => (j.1, min j.2.1 j.2.2)
    let fits := [1, 2].all fun d => decide (predicted up d * 100 ≤ (g.getD d 0 : Rat) * 97)
    let v := if old < want ∧ fits then old + 1 else min old want
    if now.isEmpty then done else raiseCaps g r (done ++ [(k, v)])

/-! ## The window's end (R334 to R343) -/

/-- The last 64 records of a unit (R335). -/
def State.keepTele (s : State) (u : Nat) (k : Tele) : State :=
  { s with tele := s.tele.set u ((k :: (s.tele.find u).getD []).take 64) }

/-- Whether a window is discrepant (R338), and by how much of the greater figure. -/
def discrepant (a b : Nat) : Bool := decide (15 * max a b < 100 * (max a b - min a b))

/-- The rail that a discrepancy names. -/
def discRail (est meas : List Nat) : Nat :=
  let ratio := fun (d : Nat) =>
    let a := est.getD d 0
    let b := meas.getD d 0
    if max a b = 0 then (0 : Rat) else ((max a b - min a b : Nat) : Rat) / ((max a b : Nat) : Rat)
  let best := [1, 2, 3].foldl (fun b d => if ratio b < ratio d then d else b) 0
  if (15 : Rat) / 100 < ratio best then best else 4

/-- The discrepancy count and its event (R338). -/
def State.discrepancy (s : State) (est meas : List Nat) (pe pm : Nat) : State :=
  if discrepant pe pm then
    let s := { s with discRun := s.discRun + 1, discGap := 0 }
    let s := s.wr PWR_STAT_DISC_RUN 0 (min 15 s.discRun)
    if 10 ≤ s.discRun ∧ !s.rdb PWR_STAT_DISC 0 then
      let rail := discRail est meas
      ((s.wr PWR_STAT_DISC 0 1).wr PWR_STAT_DISC_RAIL 0 rail).event evPowerModelDiscrepancy stratumUnit none
        (detail := toLE 1 rail)
    else s
  else
    let s := ({ s with discRun := 0, discGap := s.discGap + 1 } : State).wr PWR_STAT_DISC_RUN 0 0
    if 10 ≤ s.discGap then s.wr PWR_STAT_DISC 0 0 else s

/-- What the loop knows of each tile that is not penned. -/
def State.capTiles (s : State) (scale : Rat) : List CapTile :=
  ((List.range 1024).filter fun t => !s.penned (tileUnit t)).map fun t =>
    let mw := fun (r : Nat) => ((s.figure r).mw : Rat)
    ⟨t, s.rd TILE_NOTCH_CUR t, mw (tlrOf t) * scale, (mw (tarOf t) + mw (cirOf (foldOf t)) / 16) * scale,
      match s.jobOf t with | some j => j.policy.priority + 1 | none => 0, s.notchGroup t⟩

/-- The highest notch at which the pair that a tie of a tile joins stays within its source's rating, by the window's mean
current: that of a TLR goes with f × V, that of a TAR with f (R296; DESIGN CHOICE, log 132). -/
def State.pairCap (s : State) (t : Nat) : Nat :=
  let c := s.rd TILE_NOTCH_CUR t
  ([tlrOf t, tarOf t].filter fun r => s.rdb TLR_TIE_CLOSED r).foldl (fun m r =>
    let src := if s.rdb TLR_TIE_SOURCE r then r else s.rd TLR_TIE_PARTNER r
    let w := fun (n : Nat) => if r < 1024 then notchMHz n * notchCode n else notchMHz n
    let fits := (List.range 13).filter fun n => decide ((s.figure src).ma * (w n : Int) ≤ famMa src * (w c : Int))
    min m (fits.foldl max 0)) 15

/-- New ceilings from the grants (R341, R343). FLOOR: the window was above the cap with every ceiling of the loop at 0. -/
def State.setCaps (s : State) (g : List Nat) (scale : Rat) (above : Bool) : State :=
  let tiles := s.capTiles scale
  let start := tiles.map fun k =>
    (k, min (min (s.limitOf k.t) (s.pairCap k.t)) (min (s.rd PWR_TILE_THN k.t) (if s.tied k.t then 12 else 15)))
  let low := lowerCaps g s.prio.reverse 16384 start
  let floor := above && tiles.all fun k => s.rd PWR_TILE_CAPN k.t == 0
  let caps := raiseCaps g (low.map fun k => (k.1, s.rd PWR_TILE_CAPN k.1.t, k.2)) []
  let s := caps.foldl (fun s k => s.wr PWR_TILE_CAPN k.1.t k.2) s
  let s := s.wr PWR_STAT_FLOOR 0 (b2n floor)
  if floor then s.event evCapUnreachable stratumUnit none else s

/-- VIB conditions of a window (R292, R302): a Voltage read in it is compared with the median of channel 131 in sixteenths of
a mV; a window without one ends the run (log 133). -/
def State.vibWindow (s : State) : State :=
  let v := 16 * s.avsMv
  let m := 5 * s.middleVib
  let off := s.avsRead && decide (480 < max v m - min v m)
  let s := { s with mismatchRun := if off then s.mismatchRun + 1 else 0, avsRead := false }
  let s := if s.mismatchRun = 10 then s.event evVibMismatch stratumUnit none else s
  let low := s.folds.any (·.2.vibDip)
  let s : State := { s with folds := s.folds.map fun k => (k.1, { k.2 with vibDip := false, vibMin := 4095, vibMinAt := 0 }) }
  if low then s.event evVibLow stratumUnit none else s

/-- The DROOP and CURRENT samples of a regulator's window (R419). -/
def State.regSamples (s : State) (r : Nat) (k : RegFigure) : State :=
  if k.n = 0 then s
  else
    let target : Int := s.rd TLR_SET_VSET r * 5 - (s.rd TLR_RLL_RLL r : Int) * k.ma / 20000
    let d := (target - k.mv).toNat
    let c := k.ma.toNat * 100 / famMa r
    (s.sample (512 + 64 * famOf r + min 63 (d / 5))).sample (768 + 61 * famOf r + min 60 (c / 2))

/-- The LANE bin of a window with some corrected symbols: of 42.5 million a lane carries in 1 ms (212.5 GBd PAM4, 10-bit symbols:
R359, R360, R419), bin k from 10^(k-10) on. Symbols of uncorrectable codewords are not counted (DESIGN CHOICE, log 164). -/
def laneBin (sym : Nat) : Nat :=
  (((List.range 8).map (· + 1)).filter fun k => decide (42500000 ≤ sym * 10 ^ (10 - k))).foldl max 0

/-- The FEC counts of the lanes in the window, and their LANE samples (R379, R418, R419). -/
def State.laneSamples (s : State) (fec : List (Nat × Nat)) : State :=
  s.each ((List.range 32).filter fun l => s.rd WELT_LANE_ST_STATE l == 2) fun s l =>
    let k := fec.getD l (0, 0)
    let s := ((s.cnt WELT_LANE_FEC_SYM l k.1).cnt WELT_LANE_UNC_CW l k.2).lifeInc (laneUnit l) 0 k.1
    (s.lifeInc (laneUnit l) 1 k.2).sample (1024 + 9 * l + laneBin k.1)

/-- Row POWER_WINDOW_END (R334 to R343). -/
def execPowerWindowEnd (i : WindowInput) (s : State) : Out :=
  let start := (s.now / 1000000 - 1) * 1000000
  let last := ((s.tele.find stratumUnit).getD []).head?
  if s.now < 1000000 ∨ (last.map (·.start)) = some start then .next s
  else
    let s := s.weighAll.takeLimits
    let lkr := (List.range 32).map fun l =>
      let k := i.lkr.getD l (0, 0, 0, 0, 0)
      let n := min 1000 k.2.2.2.1
      (if n = 0 then ⟨0, 0, 0, 0, 0⟩ else ⟨(k.1 : Int), k.2.1, n, k.2.2.2.2, k.2.2.1⟩ : RegFigure)
    let fam := fun (base n : Nat) => joinAll ((List.range n).map fun k => s.figure (base + k))
    let doms := [fam 0 1024, fam 1024 1024, fam 2048 64, joinAll lkr]
    let est := s.estimates i
    let meas := doms.map (·.mw)
    let vib := s.medianVib * 5 / 8
    let lowVib := s.lowVib
    let pe := est.foldl (· + ·) 0 + i.spineMw
    let pm := if s.avsOk then 5 * s.middleVib * s.avsMa / 16000 else meas.foldl (· + ·) 0 + i.spineMw
    let pc := max pe pm
    let cap := s.rd PWR_CAP_CAP_W 0 * 1000
    let de := fun (l : List Nat) => max ((l.map (est.getD · 0)).foldl (· + ·) 0) ((l.map (meas.getD · 0)).foldl (· + ·) 0)
    let demand := [de [3], de [1, 2], de [0]]
    let g := grants cap i.spineMw s.prio demand
    let s := (((s.wr PWR_WIN_START 0 start).wr PWR_EST_MW 0 pe).wr PWR_MEAS_MW 0 pm).wr PWR_STAT_OVER 0 (b2n (decide (cap < pc)))
    let s := ((s.wr PWR_GRANT_LNK_MW 0 (g.getD 0 0)).wr PWR_GRANT_MEM_MW 0 (g.getD 1 0)).wr PWR_GRANT_CMP_MW 0 (g.getD 2 0)
    let s := s.wr PWR_STAT_AVS_VALID 0 (b2n s.avsOk)
    let uj := s.energyUj + pm
    let s := { (s.inc PWR_ENERGY_MJ 0 (uj / 1000)).lifeInc stratumUnit 0 (uj / 1000) with energyUj := uj % 1000 }
    let s := (s.discrepancy est meas pe pm).vibWindow
    let fl := b2n s.avsOk + 2 * b2n (decide (cap < pc)) + 4 * s.rd PWR_STAT_DISC 0
    let rec' := fun (k : RegFigure) (e gr v : Nat) => (⟨start, k.ma, k.mv, k.n, k.at', k.mw, e, gr, v, fl⟩ : Tele)
    let s := s.each (List.range 2112) fun s r => s.keepTele (regUnit r) (rec' (s.figure r) 0 0 0)
    let s := lkr.zipIdx.foldl (fun s (k, l) => s.keepTele (regUnit (2112 + l)) (rec' k 0 0 0)) s
    let s := s.each (List.range 2112) fun s r => s.regSamples r (s.figure r)
    let s := (lkr.zipIdx.foldl (fun s (k, l) => s.regSamples (2112 + l) k) s).laneSamples i.fec
    let gd := [g.getD 2 0, g.getD 1 0, g.getD 1 0, g.getD 0 0]
    let s := doms.zipIdx.foldl (fun s (k, d) =>
      s.keepTele (0x06000000 + d) (rec' k (est.getD d 0) (gd.getD d 0) 0)) s
    let s := s.keepTele (0x06000000 + 4) (rec' ⟨0, 0, 0, 0, i.spineMw⟩ i.spineMw 0 0)
    let s := s.keepTele stratumUnit (rec' ⟨s.avsMa, lowVib.1 * 5 / 8, 0, lowVib.2, pm⟩ pe 0 vib)
    let s := s.setCaps g (if pm < pe ∧ pm ≠ 0 then (pc : Rat) / pm else 1) (decide (cap < pc))
    .next (s.clearSums.applyNotches.corrRecords)

end Sys2Proof.Machine
end

