-- ==== Sys2Proof/Machine/Restart.lean ====
section
/-! DEFINITION. Dual comparisons (R208), job faults, the partner's recompute and its classification (R211 to R215),
the checker self-test (R234), and the restore of a job (R216, R217, R221, R247). -/
namespace Sys2Proof.Machine

/-! ## Dual comparisons (R208, R209) -/

/-- Primary and twin of the pair of a tile. -/
def State.pairTiles (s : State) (t : Nat) : Option (Nat × Nat) :=
  (s.jobOf t).bind fun j => (j.tiles.zip j.twins).find? fun p => p.1 == t || p.2 == t

/-- Two signatures of one operation or message. -/
def DualSig.sameAs (d e : DualSig) : Bool := d.kind == e.kind && d.num == e.num

/-- The comparison of a Tensor Array operation found the pair alike. -/
def Tile.markPaired (x : Tile) (num : Nat) : Tile :=
  let mark := fun (o : UnitOp) => if o.num = num then { o with paired := true } else o
  { x with
    taOpen := x.taOpen.map mark
    detections := x.detections.map fun d => if d.trigger = 0 then { d with op := d.op.map mark } else d }

/-- A comparison fails: captured on both tiles, and detected on the tile whose operation is at hand. -/
def State.dualFail (s : State) (p q : Nat) (d : DualSig) (lag : Bool) (other : Nat) : State :=
  let m := d.kind == 2
  let one := fun (s : State) (t : Nat) => s.captureDual t (if m then 0 else d.kind) (b2n m) (b2n lag)
    (if m then d.num / 16 else d.num)
  (one (one s p) q).detect p 2 d.op other

/-- Row DUAL_COMPARE (R208): the oldest signature of the primary that the twin's has joined. -/
def execDualCompare (t : TileId) (s : State) : Out :=
  match s.pairTiles t with
  | none => .next s
  | some (p, q) =>
    let ds := (s.tile q).dual
    match (s.tile p).dual.find? fun d => ds.any d.sameAs with
    | none => .next s
    | some d =>
      match ds.find? d.sameAs with
      | none => .next s
      | some e =>
        let s := s.modTile p fun x => { x with dual := x.dual.erase d }
        let s := s.modTile q fun x => { x with dual := x.dual.erase e }
        if d.sig ≠ e.sig then .next (s.dualFail p q d false (e.sig + 1))
        else if d.kind = 0 then
          .next ((s.modTile p fun x => x.markPaired d.num).modTile q fun x => x.markPaired d.num)
        else .next s

/-- Row DUAL_LAG_TIMEOUT (R208): a signature of the tile that its partner has not joined within 10 µs. -/
def execDualLagTimeout (t : TileId) (s : State) : Out :=
  match s.partnerOf t with
  | none => .next s
  | some u =>
    let es := (s.tile u).dual
    match (s.tile t).dual.find? fun d => decide (d.at' + 10000 ≤ s.now) && !es.any d.sameAs with
    | none => .next s
    | some d =>
      let s := s.modTile t fun x => { x with dual := x.dual.erase d }
      .next (s.dualFail t u d true 0)

/-! ## The job fault (R205, R216, R217) -/

/-- Detections are taken up: those that need no recompute are done with. -/
def Tile.takeUp (x : Tile) : Tile :=
  { x with detections := (x.detections.filter fun d => d.taken || decide (d.trigger ≤ 2)).map fun d =>
      { d with taken := true } }

/-- Row JOB_FAULT_DETECT (R216, R217, R205): a running job begins its restart; a restart under way is joined; a
FAILED job sends no result any more (R27, R62). -/
def execJobFaultDetect (t : TileId) (s : State) : Out :=
  match s.jobOf t with
  | none => .next s
  | some j =>
    let ds := (s.tile t).detections.filter (!·.taken)
    if ds.isEmpty ∨ !(j.state == 3 || j.state == 4 || j.state == 7) then .next s
    else
      let reload := ds.any (·.trigger == 4) && j.policy.kind == 0
      let s := if j.state = 3 then s.beginRestart j.tag false
        else if j.state = 7 then s.dropOutbound j.tag
        else if (j.restart.map (·.restore)).getD false then
          s.each j.all fun s u => s.modTile u fun x => { x with restored := false }
        else s
      let s := s.modJob j.tag fun j => { j with restart := j.restart.map fun r => { r with reload := r.reload || reload } }
      .next (s.modTile t Tile.takeUp)

/-! ## The partner (R211) -/

/-- Whether a tile may serve as the partner of another. -/
def State.mayPartner (s : State) (t p : Nat) : Bool :=
  p != t && s.partnerOf t != some p && !s.penned (tileUnit p) && !(s.tile p).off && !s.foldOff (foldOf p)
    && !s.tied p && (s.tile p).recomp.isNone

/-- The walk of R211. -/
def partnerWalk (t : Nat) : List Nat :=
  ((List.range 15).map fun k => tileAt (foldOf t) ((localOf t + 1 + k) % 16))
    ++ (List.range 63).flatMap fun k => tilesOf ((foldOf t + 1 + k) % 64)

def State.partnerFor (s : State) (t : Nat) : Option Nat := (partnerWalk t).find? (s.mayPartner t)

/-! ## Decisions (R213 to R215, R231) -/

/-- The registers of a capture, in the order of R63 and R210, for the record of its charge (DESIGN CHOICE,
log 48). -/
def Detection.detail (d : Detection) : Bytes :=
  match d.op with
  | none => []
  | some o => match o.viol with
    | none => toLE 4 o.num
    | some c => toLE 4 o.num ++ toLE 2 c.row ++ toLE 2 c.col ++ toLE 4 c.y ++ toLE 4 c.b ++ toLE 4 c.c

/-- The number of the operation at fault. -/
def Detection.num (d : Detection) : Nat := (d.op.map (·.num)).getD 0

/-- Units are charged for a detection. -/
def State.blame (s : State) (orig : Nat) (d : Detection) (ts : List Nat) (cls code : Nat) : State :=
  s.each ts fun s t => s.charge (tileUnit t) cls code (s.jobOf orig) d.num d.detail

/-- A detection is decided: the checking procedure ends, and its capture is cleared (R67, R210). -/
def State.decided (s : State) (t : Nat) (d : Detection) : State :=
  (s.modTile t fun x => { x with detections := x.detections.erase d }).clearCaptures t (s.partnerOf t)

/-- What happened is recorded and no unit charged. -/
def State.noteOnly (s : State) (t code : Nat) (d : Detection) : State :=
  s.event code (tileUnit t) (s.jobOf t) d.num d.detail

/-- The canonical pair of a weight row as its eight bytes (R60, R119). -/
def Matmul.pairBytes (a : Matmul) (x : Tile) (i : Nat) : Bytes :=
  let p := canonicalPair a.wf a.k (x.rdSpad (a.w + i * a.ws) (packedBytes a.wf a.k))
    (x.rdSpad (a.wsc + i * recordBytes a.wf a.k) (recordBytes a.wf a.k))
  toLE 4 (fp32Bits p.1) ++ toLE 4 (fp32Bits p.2)

/-- ru32(s × N) of a pair's bytes. -/
def pairProduct (b : Bytes) : Val := rumul (fp32Val (fld b 0 4)) (fp32Val (fld b 4 4))

/-- The stored pair of a row lies below the canonical one (R214). -/
def Matmul.normCorrupt (a : Matmul) (x : Tile) (i : Nat) : Bool :=
  vlt (pairProduct (x.rdSpad (a.norm + 8 * i) 8)) (pairProduct (a.pairBytes x i))

/-- A regenerated pair goes into the current checkpoint slot and the job's norm patch list (R215). -/
def State.patch (s : State) (t addr : Nat) (b : Bytes) : State :=
  let s := s.modTile t fun x => match x.ckpts.find x.curSlot with
    | some c => { x with ckpts := x.ckpts.set x.curSlot { c with spad := Memory.putN c.spad addr b } }
    | none => x
  s.modJob (s.rd TILE_JOB_JOB t) fun j => { j with
    patches := j.patches.filter (fun p => !(p.1 == t && p.2.1 == addr)) ++ [(t, addr, b)] }

/-- The norm-map descriptors of a tile (R192). -/
def Job.normMap (j : Job) (t : Nat) : List Bytes :=
  let idx := (j.tiles.idxOf? t).getD ((j.twins.idxOf? t).getD 0xFFFF)
  (j.norms.filter fun n => n.1 == 0xFFFF || n.1 == idx).map (·.2)

/-- NORM_CORRUPT: the pairs of the row's output block are patched, and the rest is left to the background (R215). -/
def State.normPatch (s : State) (t : Nat) (desc : Bytes) (row : Nat) : State :=
  let a := Matmul.of desc
  let x := s.tile t
  let first := row / 64 * 64
  let s := s.each ((List.range (min 64 (a.m - first))).map (first + ·)) fun s i =>
    s.patch t (a.norm + 8 * i) (a.pairBytes x i)
  let maps := ((s.jobOf t).map (·.normMap t)).getD []
  let over' := maps.filter fun d => (Matmul.of d).regNorm.overlaps a.regNorm
  s.modTile t fun x => { x with regen := x.regen ++ (if maps.isEmpty then [desc] else over').map (·, 0) }

/-- Suspect bound data (R214): the norm, or the self-test of both tiles. The detection comes to the front until
that test decides. -/
def State.boundData (s : State) (t partner : Nat) (d : Detection) : State :=
  let corrupt := match d.op with
    | some o => fld o.desc 0 1 == 1 && (match o.viol with
      | some c => (Matmul.of o.desc).normCorrupt (s.tile t) c.row
      | none => false)
    | none => false
  if corrupt then
    let o := d.op.map (·.desc) |>.getD []
    let row := ((d.op.bind (·.viol)).map (·.row)).getD 0
    ((s.noteOnly t evNormCorrupt d).normPatch t o row).decided t d
  else
    let s := s.each [t, partner] fun s u => s.modTile u fun x => { x with selftest := true }
    s.modTile t fun x => { x with boundWait := [t, partner], detections := d :: x.detections.erase d }

/-! ## Issue (R211, R212) -/

/-- The comparison of a violation's operation is still open on its pair. -/
def State.comparing (s : State) (t : Nat) (d : Detection) : Bool :=
  let open' := fun (u : Nat) => (s.tile u).dual.any fun k => k.kind == 0 && k.num == d.num
  open' t || (match s.partnerOf t with | some u => open' u | none => false)

/-- A recompute is issued on the partner: notch 15, and the clock of a dozing tile runs. -/
def State.issueRecompute (s : State) (t p : Nat) (d : Detection) : State :=
  let r : Recompute := ⟨t, d, s.now, s.rd TLR_SET_NOTCH (tlrOf p)⟩
  let s := (s.goNotch p 15).modTile p fun x => { x with recomp := some r }
  if s.rd TILE_STATE_STATE p = 5 then s.clock p false else s

/-- Row RECOMPUTE_ISSUE (R211 to R214): the next detection of the tile that needs a decision. -/
def execRecomputeIssue (t : TileId) (s : State) : Out :=
  let x := s.tile t
  let busy := fun (d : Detection) => s.tiles.any fun k => match k.2.recomp with
    | some r => r.orig == t.val && decide (r.det = d)
    | none => false
  if !x.boundWait.isEmpty then .next s
  else match x.detections.find? fun d => d.taken && decide (d.trigger ≤ 2) && !busy d with
    | none => .next s
    | some d =>
      let dualNbc := d.trigger == 0 && !s.boundMode t
      if dualNbc ∧ s.comparing t d then .next s
      else if dualNbc ∧ (d.op.map (·.paired)).getD false then
        .next (s.boundData t ((s.partnerOf t).getD t) d)
      else if d.op.isNone then
        .next ((s.blame t d (t.val :: (s.partnerOf t).toList) clsCore evDualMismatch).decided t d)
      else match s.partnerFor t with
        | none => .next ((s.noteOnly t evCheckUnexplained d).decided t d)
        | some p => .next (s.issueRecompute t p d)

/-! ## Recomputing (R212) -/

/-- The outcome of the recompute of a violation (R213). -/
inductive Verdict where
  | passes | equal | differs
  deriving DecidableEq, Repr

/-- The captured element of a MATMUL recomputed, from the captured c. -/
def State.redoMatmul (s : State) (t : Nat) (o : UnitOp) (c : Capture) (fault : Option ArithFault) : Verdict :=
  let a := Matmul.of o.desc
  let x := s.tile t
  match Sys2Proof.Machine.pairOf a.wf a.xf with
  | none => .passes
  | some (g, isInt, _) =>
    let row := fun (f addr stride sc i : Nat) => (decodeRow f a.k (x.rdSpad (addr + i * stride) (packedBytes f a.k))
      (x.rdSpad (sc + i * recordBytes f a.k) (recordBytes f a.k))).1
    let w := row a.wf a.w a.ws a.wsc c.row
    let v := row a.xf a.x a.xs a.xsc c.col
    let flip := match fault with
      | some f => if f.row = c.row ∧ f.col = c.col then f.flip.toNat else 0
      | none => 0
    let y := matElem isInt g c.c w v flip
    let exempt := w.any (!·.isFinite) || v.any (!·.isFinite) || (!isInt && !(fp32Val c.c).isFinite)
    if exempt then .passes
    else match matCheck x a isInt g o.tol c.row c.col c.c (maxMag v) y with
      | none => .passes
      | some k => if k.y = c.y then .equal else .differs

/-- The captured query row of an ATTN recomputed over its pages as stored. -/
def State.redoAttn (s : State) (t : Nat) (o : UnitOp) (c : Capture) (fault : Option ArithFault) : State × Verdict :=
  let a := { Attn.of o.desc with append := false }
  let p := s.readPages t a
  let x := p.1.tile t
  let toks := (pageToks a.d p.2.1).1.filter fun k => a.sees x c.row k.t
  let q := a.query x c.row
  let r := attnRow a c.row o.tol q toks fault
  let hit := if c.col = 0xFFF then
      (attnScored a c.row q toks fault).any fun k => match scoreCheck a c.row o.tol (queryMag q) k with
        | some v => v.y == c.y
        | none => false
    else (r.out.getD c.col ⟨0, .nan, false⟩).bits == c.y
  (p.1, if r.viol.isNone then .passes else if hit then .equal else .differs)

/-- The bits of a captured vector step recomputed from its operands. -/
def redoStep (c : Capture) (fault : Option ArithFault) : Nat :=
  let v := fp32Bits (vecStep c.fn (c.ops.map fp32Val))
  match fault with
  | some f => if f.row = c.row ∧ f.col = c.col then v ^^^ f.flip.toNat else v
  | none => v

/-- The output signature of a whole operation recomputed (R208). -/
def State.redoWhole (s : State) (t : Nat) (o : UnitOp) (fault : Option ArithFault) : State × Nat :=
  let satf := s.rdb TA_ARITH_SATF t
  let rmode := s.rd TA_ARITH_RMODE t
  let x := s.tile t
  if o.cls = clsVector then
    let lane := fault.map fun f => (⟨f.row, f.col, 0, f.flip, 0#32⟩ : LaneFault)
    (s, crc64 (outBytes (vecRun x (Vec.of o.desc) satf rmode o.rng lane).writes))
  else if fld o.desc 0 1 = 1 then
    (s, crc64 (outBytes (matmulRun x (Matmul.of o.desc) satf rmode o.rng o.tol fault).writes))
  else
    let full := Attn.of o.desc
    let a := { full with append := false }
    let p := s.readPages t a
    let r := attnRun (p.1.tile t) a p.2.1 satf o.rng o.tol fault
    let d := PageDesc.ofBytes (x.rdSpad full.lastDesc 16)
    let d := { d with count := d.count - full.qt }
    (p.1, if full.append then opSig (r.writes ++ [full.countRun d]) (full.pageRuns x d) else opSig r.writes [])

/-! ## Classification (R213) -/

/-- The decision on an NBC violation. -/
def State.classifyNbc (s : State) (t p : Nat) (d : Detection) (o : UnitOp) (v : Verdict) : State :=
  match v with
  | .passes => (s.blame t d [t] o.cls evNbcViolation).decided t d
  | .differs => (s.blame t d [t, p] o.cls evNbcViolation).decided t d
  | .equal => s.boundData t p d

/-- A detection classified by its recompute. -/
def State.classifyFault (s : State) (t p : Nat) (d : Detection) (fault : Option ArithFault) : State :=
  match d.op with
  | none => s.decided t d
  | some o =>
    match d.trigger, o.viol with
    | 0, some c =>
      if fld o.desc 0 1 = 1 then s.classifyNbc t p d o (s.redoMatmul t o c fault)
      else
        let r := s.redoAttn t o c fault
        r.1.classifyNbc t p d o r.2
    | 1, some c =>
      let v := redoStep c fault
      let k := if v = c.y then ([t], clsChecker) else if v = c.b then ([t], clsVector) else ([t, p], clsVector)
      (s.blame t d k.1 k.2 evShadowMismatch).decided t d
    | 2, _ =>
      let r := s.redoWhole t o fault
      let twin := (s.partnerOf t).toList
      let ts := if r.2 = o.sig then twin else if d.cause = r.2 + 1 then [t] else t :: twin
      (r.1.blame t d ts o.cls evDualMismatch).decided t d
    | _, _ => s.decided t d

/-- A page that an ATTN reads has a line held for check handling (R238). -/
def State.redoHeld (s : State) (t : Nat) (op : UnitOp) : Bool :=
  op.cls != clsVector && fld op.desc 0 1 == 2 && s.attnHeld t (Attn.of op.desc)

/-- Row RECOMPUTE_COMPLETE (R212, R213): the partner's recompute ends, and the drover decides. Held lines of the pages that
it reads make it wait (R238). -/
def execRecomputeComplete (t : TileId) (fault : Option ArithFault) (s : State) : Out :=
  match (s.tile t).recomp with
  | none => .next s
  | some r =>
    if (r.det.op.map (s.redoHeld r.orig)).getD false then .next s else
    let s := (s.endRecompute t).lifeInc (tileUnit t) 68 1
    .next (if (s.tile r.orig).detections.contains r.det then s.classifyFault r.orig t r.det fault else s)

/-! ## Norms in the background (R215) -/

/-- Row NORM_REGEN (R215): the next pair of the tile's list, written in an update window and into the checkpoint
slot. A row patched before is passed over. -/
def execNormRegen (t : TileId) (s : State) : Out :=
  let x := s.tile t
  match s.jobOf t, x.regen with
  | some j, (desc, i) :: r =>
    let a := Matmul.of desc
    let addr := a.norm + 8 * i
    if j.state ≠ 3 then .next s
    else if a.m ≤ i then .next (s.modTile t fun x => { x with regen := r })
    else
      let s := s.modTile t fun x => { x with regen := (desc, i + 1) :: r }
      if j.patches.any fun p => p.1 == t.val && p.2.1 == addr then .next s
      else
        let b := a.pairBytes x i
        .next ((s.modTile t fun x => { x with winActs := x.winActs ++ [.spad addr b] }).patch t addr b)
  | _, _ => .next s

/-! ## The checker self-test (R234) -/

/-- A tile on which the drover may run the self-test now: it is not on its way on for it, and no job runs there, or its
core stands in a pause. -/
def State.testable (s : State) (t : Nat) : Bool :=
  let x := s.tile t
  !(x.testOn && x.off) && (s.rd TILE_STATE_STATE t != 1 || (x.inWin && x.drained) || x.haltCkpt || x.haltJob)

/-- Row SELFTEST_SCHEDULE (R234): the drover begins a test of a tile that is not penned; a running tile's waits
for a pause or an update window. -/
def execSelftestSchedule (t : TileId) (s : State) : Out :=
  .next (if (s.phase = .open ∨ s.phase = .firmware) ∧ !s.penned (tileUnit t) ∧ !(s.tile t).off then
    s.modTile t fun x => { x with selftest := true } else s)

/-- The decision of R214 by the self-tests: `boundWait` keeps 1,024 once one of them failed. -/
def State.boundTested (s : State) (t : Nat) (pass : Bool) : State :=
  s.each ((s.tiles.filter fun k => k.2.boundWait.contains t).map (·.1)) fun s o =>
    let w := (s.tile o).boundWait.filter (· ≠ t)
    let w := if pass ∨ w.contains 1024 then w else w ++ [1024]
    if w.any (· < 1024) then s.modTile o fun x => { x with boundWait := w }
    else
      let s := s.modTile o fun x => { x with boundWait := [] }
      match (s.tile o).detections with
      | d :: _ => (if w.isEmpty then s.noteOnly o evCheckUnexplained d else s).decided o d
      | [] => s

/-- The HLTH_SELFTEST that named the tile counts its test; the last one ends the operation. -/
def State.testCounted (s : State) (t : Nat) (pass : Bool) : State :=
  match (s.tile t).selftestFor with
  | none => s
  | some (m, k) =>
    let s := s.modTile t fun x => { x with selftestFor := none }
    match s.bg m k with
    | none => s
    | some b =>
      let n := b.args.getD 0 0 + 1
      let f := b.args.getD 1 0 + b2n (!pass)
      let s := s.modMbox m fun x => { x with bg := x.bg.set k { b with args := [n, f] } }
      if s.tiles.any fun y => y.2.selftestFor == some (m, k) then s
      else s.bgEnd m k stOk (toLE 4 n ++ toLE 4 f)

/-- What a failed self-test charges (R231, R232, R234): class checker, at once permanent-suspect; after a watchdog
expiry class hang as well. A penned tile is only charged. -/
def State.testFailed (s : State) (t : Nat) (hang : Bool) : State :=
  let u := tileUnit t
  let j := s.jobOf t
  let s := if hang then s.charge u clsHang evTileFault j 0x1A else s
  s.charge u clsChecker evSelftestFail j (atOnce := !s.penned u)

/-- Row SELFTEST_DONE (R234). A tile that was brought on for its test goes off again. -/
def execSelftestDone (t : TileId) (pass : Bool) (s : State) : Out :=
  let x := s.tile t
  if !x.selftest ∨ !s.testable t then .next s
  else
    let s := s.modTile t fun x => { x with selftest := false, hangTest := false, cleared := false }
    let s := if pass then (s.wr NBC_SELFTEST_TIME t s.now).lifeInc (tileUnit t) 66 1 else s.testFailed t x.hangTest
    let s := (s.boundTested t pass).testCounted t pass
    .next (if x.testOn then (s.modTile t fun x => { x with testOn := false }).tileOff t else s)

/-! ## Restoring (R216, R221) -/

/-- The slot's digest: every array line of its record and image is read, as any line is (R249), and is what the checkpoint
wrote (R221). -/
def State.slotOk (s : State) (t : Nat) (c : Ckpt) : State × Bool :=
  let x := s.tile t
  let base := ckptBase x.curSlot / 64
  (x.col.filter fun k => decide (base ≤ k.1 ∧ k.1 < base + 0x10100)).foldl (fun (acc : State × Bool) k =>
    let r := acc.1.readLine t k.1 (acc.1.slotFor t k.1)
    let o := (k.1 - base) * 64
    let want := if o < 0x4000 then toLE 64 (Config.slotLine t k.1 c.seq).toNat
      else Memory.getN c.spad (o - 0x4000) 64
    (r.1, acc.2 && !r.2.poison && r.2.data == want)) (s, true)

/-- A block of a column goes back to what an undo entry holds. -/
def State.undoBlock (s : State) (t : Nat) (u : Nat × Tbl (Option Bytes)) : State :=
  s.each ((List.range 64).map (u.1 * 64 + ·)) fun s l =>
    match u.2.find l with
    | none => s.modTile t fun x => { x with col := x.col.del l }
    | some none => s.putLine t l (poisonLine l)
    | some (some b) => match s.key (s.slotFor t l) with
      | some k => s.putLine t l (goodLine k t l b)
      | none => s

/-- The RECOMP column sections of a tile (R192). -/
def Job.recompOf (j : Job) (t : Nat) : List Section :=
  let idx := (j.tiles.idxOf? t).getD ((j.twins.idxOf? t).getD 0xFFFF)
  j.sections.filter fun x => x.type == 2 && x.recomp && (x.tile == 0xFFFF || x.tile == idx)

/-- The RECOMP sections of a tile are reloaded from the host image (R229, R230). -/
def State.reloadRecomp (s : State) (j : Job) (t : Nat) : State :=
  if !s.masters j.fn then s
  else s.each ((j.recompOf t).flatMap fun x => (List.range (x.len / 64)).map (x.dest / 64 + ·)) fun s l =>
    match s.recompSource t l, s.key (s.slotFor t l) with
    | some (_, a), some k => s.putLine t l (goodLine k t l (s.rdHost a 64))
    | _, _ => s

/-- A send channel toward a port or the drover keeps the credits of its receiver, which no restart touches
(DEDUCED, log 31). -/
def State.keepOut (old s : State) (t ch : Nat) : State :=
  let k := chanOf t ch
  let d := s.rd TILE_TXC_CFG_DEST k
  if 0x400 ≤ d ∧ s.rdb TILE_TXC_CFG_EN k ∧ old.rdb TILE_TXC_CFG_EN k ∧ old.rd TILE_TXC_CFG_DEST k = d then
    ((s.wr TILE_TXC_CREDIT_CREDITS k (old.rd TILE_TXC_CREDIT_CREDITS k)).wr TILE_TXC_CREDIT_MAXLEN k
      (old.rd TILE_TXC_CREDIT_MAXLEN k)).modTile t fun x =>
        { x with txGen := x.txGen.set ch ((old.tile t).txGenOf ch) }
  else s

/-- A receive channel whose source no restart touches: the drover's credits are the free slots; a port's peer
keeps its credits unless the channel was opened anew since the checkpoint. -/
def State.keepIn (old s : State) (t ch : Nat) : State :=
  let k := chanOf t ch
  let src := s.rd TILE_RXC_SRC_SRC k
  let free := s.rd TILE_RXC_RING_SLOTS k - s.rd TILE_RXC_STAT_FULL k
  let was := (old.tile t).rxGenOf ch
  if !s.rdb TILE_RXC_RING_EN k ∨ src < 0x400 then s
  else if src = 0x410 then s.sendCredit .grant t ch free ((s.tile t).rxGenOf ch)
  else if was = (s.tile t).rxGenOf ch then s
  else
    let gen := (was + 1) % 65536
    (s.modTile t fun x => { x with rxGen := x.rxGen.set ch gen }).sendCredit .grant t ch free gen

/-- The tile as a checkpoint holds it, halted: scratchpad and state record, then the norm patches (R221). -/
def State.fromRecord (s : State) (j : Job) (t : Nat) (c : Ckpt) : State :=
  let old := s
  let s := s.tileReset t true
  let s := { s with regs := c.regs.foldl (fun (r : Tbl Nat) (k : Nat × Nat) => r.set k.1 k.2) s.regs }
  let s := (s.wr TILE_STATE_STATE t 0).modTile t fun x => { x with
    x := c.x, pc := c.pc, counters := c.counters.del 1, spad := c.spad, poison := c.poison
    txSeq := c.txSeq, txGen := c.txGen, rxGen := c.rxGen, rxSeq := c.rxSeq, taCount := 0
    vecCount := 0, xfers := c.xfers, nextTag := c.nextTag, sendBuf := c.sendBuf
    cycles := ((c.counters.find 1).getD 0) * 1000, cycAt := s.now, freed := [], ckWait := []
    victims := [], fetches := c.fetches, swaps := [], winActs := x.winActs.filter WinAct.outlives, inWin := false
    haltWin := false, failedAlloc := none
    restored := true }
  let s := (s.wr TILE_JOB_JOB t j.tag).each (List.range 16) fun s ch => State.keepIn old (State.keepOut old s t ch) t ch
  let mine := j.patches.filter fun p => p.1 == t
  s.modTile t fun x => mine.foldl (fun (x : Tile) (p : Nat × Nat × Bytes) => x.wrSpad p.2.1 p.2.2) x

/-- TILE_PG_FREE counted anew from the restored directory. -/
def State.recount (s : State) (t : Nat) : State :=
  let ds := (List.range (s.nframes t)).map fun i => (i, s.dirEntry t i)
  let free := ds.filter fun k => k.2.fmt == 0 && !(s.tile t).zeroFrames.contains k.1
  let pend := ds.filter fun k => k.2.fmt != 0 && k.2.reclaim
  (s.wr TILE_PG_FREE_FREE t free.length).wr TILE_PG_FREE_PENDING t pend.length

/-- Tokens that stand in the rings of a tile, from the drover or a port. -/
def State.tokensIn (s : State) (t : Nat) : Nat :=
  (((List.range 16).filter fun ch => 0x400 ≤ s.rd TILE_RXC_SRC_SRC (chanOf t ch)).map fun ch =>
    s.rd TILE_RXC_STAT_FULL (chanOf t ch)).sum

/-- The redelivery of ingest entries ahead of new link traffic; the log keeps its undo entries (R221). For the scheduler
the tokens redelivered and those in the restored rings are what the running period has admitted; the host's tokens are
admitted anew (R28, R354; DESIGN CHOICE, log 148). -/
def State.redeliver (s : State) (t : Nat) : State :=
  let x := s.tile t
  let n := x.ingest.length + s.tokensIn t
  let s : State := { s with mesh := x.ingest ++ s.mesh }
  s.modTile t fun x => { x with
    ingest := [], logBytes := x.undo.length * (64 + 4096)
    sched := { x.sched with admitted := n, done := 0, host := 0, lastDone := s.now } }

/-- Each flow of a tile goes on from the ordinal that the checkpoint recorded (R198, R221). -/
def State.reordinal (s : State) (t : Nat) (c : Ckpt) : State :=
  { s with flows := s.flows.map fun f => if f.tile = t then
      { f with ordinal := ((c.ordinals.find? fun k => k.1 == f.handle).map (·.2)).getD 0 } else f }

/-- The pool frames of a tile in which a line is poisoned (R247). -/
def State.badFrames (s : State) (t : Nat) : List Nat :=
  (List.range (s.nframes t)).filter fun i => (s.tile t).col.any fun k =>
    decide (classify k.2 k.1 = .poisoned) && s.frameOf t k.1 == some i

/-- A flow whose pages are lost is retired, and the host hears of it (R149, R247). -/
def State.loseEntry (s : State) (j : Job) (t e : Nat) : State :=
  let h := (s.tile t).fte e 0 4
  ((s.event evFlowStateLost (tileUnit t) (some j) (flow := h)).retireEntry t e).endFlow h

/-- Every flow with pages in a column that could not be read is lost (R149, R233). -/
def State.loseGone (s : State) (j : Job) (t : Nat) : State :=
  if !(s.tile t).colGone then s
  else
    let hit := (List.range (s.tile t).nfte).filter fun e => (s.tile t).fteState e != 0 && (s.tile t).fteState e != 3
    (s.each hit fun s e => s.loseEntry j t e).modTile t fun x => { x with colGone := false }

/-- The swap images of a tile as the restored flow table names them; a flow whose image is not there any more is lost (R166,
R170; DESIGN CHOICE, log 152). -/
def State.reimage (s : State) (j : Job) (t : Nat) : State :=
  let out := (List.range (s.tile t).nfte).filter fun e => (s.tile t).fteState e == 3 || (s.tile t).fteState e == 4
  let x := s.tile t
  let keep := fun (k : SwapImg) =>
    if k.tile ≠ t then some k
    else if out.any (fun e => x.fte e 0 4 == k.flow && x.fte e 28 4 == k.slot) then some { k with live := true } else none
  let s := s.modSess j.fn fun y => { y with swaps := y.swaps.filterMap keep }
  s.each (out.filter fun e => (s.imageAt j.fn t e).isNone) fun s e =>
    let h := (s.tile t).fte e 0 4
    if s.flows.any fun f => f.live && f.handle == h then s.loseFlow j.fn h else s.retireEntry t e

/-- After poison was consumed, every flow whose list names a frame with a poisoned line is retired, and the frame
is overwritten before it is free again (R247). -/
def State.loseFlows (s : State) (j : Job) (t : Nat) : State :=
  let bad := s.badFrames t
  if j.poisonHit.isEmpty ∨ bad.isEmpty then s
  else
    let hit := (List.range (s.tile t).nfte).filter fun e =>
      (s.tile t).fteState e != 0 && (s.listFrames t e).any (bad.contains ·)
    let named := hit.flatMap fun e => s.listFrames t e
    let s := s.each hit fun s e => s.loseEntry j t e
    s.modTile t fun x => { x with
      zeroFrames := x.zeroFrames ++ bad.filter fun i => named.contains i && !x.zeroFrames.contains i }

/-- The job becomes FAILED over a checkpoint whose digest fails (R221). -/
def State.ckptCorrupt (s : State) (j : Job) (t : Nat) : State :=
  let s := s.event evCheckpointCorrupt (tileUnit t) (some j) stIntegrity
  let s := match j.ckptOp with
    | some (m, k) => s.bgEnd m k stIntegrity
    | none => s
  (s.modJob j.tag fun j => { j with ckptOp := none }).failJob j.tag

/-- Whether the restore of a tile may begin: nothing still needs its operands, and its checks have closed or been
dropped (R216, R217). -/
def State.mayRestore (s : State) (j : Job) (t : Nat) : Bool :=
  let x := s.tile t
  j.state == 4 && !x.restored && !x.off && x.taOpen.isEmpty && x.dual.isEmpty
    && decide (x.detections.length ≤ (if x.boundWait.isEmpty then 0 else 1))
    && !s.tiles.any fun k => match k.2.recomp with | some r => r.orig == t | none => false

/-- The restore of a tile waits for the function's host memory, from which its RECOMP sections come (R229, R385). -/
def State.reloadWaits (s : State) (j : Job) (t : Nat) : Bool :=
  (j.restart.map (·.reload)).getD false && !s.masters j.fn && !(j.recompOf t).isEmpty

/-- Row TILE_RESTORE (R221, R247). -/
def execTileRestore (t : TileId) (s : State) : Out :=
  match s.jobs.find? fun j => j.all.contains t.val with
  | none => .next s
  | some j =>
    if !s.mayRestore j t ∨ s.reloadWaits j t ∨ !(s.tile t).heldLines.isEmpty then .next s
    else match (s.tile t).ckpts.find (s.tile t).curSlot with
      | none => .next (s.ckptCorrupt j t)
      | some c =>
        let k := s.slotOk t c
        let s := k.1
        if !k.2 then .next (s.ckptCorrupt j t)
        else
          let s := (s.tile t).undo.foldl (fun s u => s.undoBlock t u) s
          let s := if (j.restart.map (·.reload)).getD false then s.reloadRecomp j t else s
          let s := ((s.fromRecord j t c).recount t).redeliver t
          .next ((((s.reordinal t c).reimage j t).loseGone j t).loseFlows j t)

/-! ## Resuming (R216, R217) -/

/-- A restored tile goes on as its checkpoint found it, its watchdog reloaded (DESIGN CHOICE, log 117). -/
def State.resumeTile (s : State) (t : Nat) : State :=
  let x := s.tile t
  let st := ((x.ckpts.find x.curSlot).map (·.state)).getD 0
  let s := (s.modTile t fun x => { x with haltJob := false }).wr TILE_STATE_STATE t st
  if st = 1 then ((s.clock t false).wdogReload t).wdogGo t else s

/-- Whether a job may resume: every tile restored, but for those that a parked job has lost. -/
def State.mayResume (s : State) (j : Job) (park : Bool) : Bool :=
  j.state == 4 && j.all.all fun t =>
    let x := s.tile t
    (x.restored && x.detections.isEmpty && x.boundWait.isEmpty)
      || (park && (x.off || s.penned (tileUnit t) || s.penned (chanUnit t)))

/-- Row JOB_RESUME (R216): RUNNING, or PARKED for a drain or an expulsion. -/
def execJobResume (job : Nat) (s : State) : Out :=
  match s.jobByTag job with
  | none => .next s
  | some j =>
    let park := (j.restart.map (·.park)).getD false
    if !s.mayResume j park then .next s
    else
      let at' := ((s.tile (j.tiles.headD 0)).ckpts.find (s.tile (j.tiles.headD 0)).curSlot).map (·.at')
      let s := if park then s else s.each j.all fun s t => s.resumeTile t
      let s := (s.modJob job fun j => { j with
        state := if park then 5 else 3, restart := none, first := none, ckptOp := none })
      match j.ckptOp with
      | some (m, k) => .next (s.bgEnd m k stOk (toLE 8 (at'.getD 0)))
      | none => .next s

end Sys2Proof.Machine
end

