-- ==== Sys2Proof/Machine/Settings.lean ====
section
/-! DEFINITION. The active configuration: clamping (R407, R408), what a field's change does (R410), and the
fingerprint (R412, R413). -/
namespace Sys2Proof.Machine

/-! ## Clamping (R407) -/

/-- A domain order that names each domain once (R340). -/
def prioOk (v : Nat) : Bool :=
  decide (v < 64) && [0, 1, 2].all fun d => [bf v 0 2, bf v 2 2, bf v 4 2].contains d

/-- The value that a field takes for a written one; none for an ID that names no field. -/
def cfgClamp (id v : Nat) : Option Nat :=
  match cfgField id with
  | none => none
  | some c =>
    if id = 0x0102 then some (if prioOk v then v else c.dflt)
    else some (min c.hi (if v < c.lo then c.lo else c.lo + (v - c.lo) / c.step * c.step))

/-! ## The committed configuration (R405) -/

/-- The newest of some blocks, by sequence number. -/
def newestOf (l : List CfgBlock) : Option CfgBlock :=
  l.foldl (fun a b => match a with
    | none => some b
    | some c => if c.seq ≤ b.seq then some b else some c) none

/-- Places of the log that hold a block, whole or not: erased flash in its place shows no magic. -/
def Flash.blocks (f : Flash) : List CfgBlock := (f.log ++ f.other).filter fun b => fld b.bytes 0 4 == 0x4346584B

/-- The newest block found, and the newest that verifies. -/
def Flash.newest (f : Flash) : Option CfgBlock := newestOf f.blocks
def Flash.newestOk (f : Flash) : Option CfgBlock := newestOf (f.blocks.filter CfgBlock.ok)

/-- The block in use. -/
def State.cfgBlock (s : State) : Option CfgBlock := if s.operator.isSome then s.flash.newestOk else none

/-! ## Effects (R410) -/

/-- The regulators whose TLR_CFG a field writes: TLRs, or every regulator on the stratum (R305). -/
def cfgRegs (all : Bool) : List Nat := List.range (if all then 2112 else 1024)

/-- A law of a family selected on every loop of it, by bank swap (R324, R325). -/
def State.setLaw (s : State) (fam law : Nat) : State :=
  s.each (List.range 64) fun s f =>
    s.each ((List.range (if fam = 2 then 1 else 16)).map (fun i => 36 * f + 16 * fam + i)) fun s l =>
      s.loadBank l (s.bankOf fam) law

/-- The lanes that a port may use change: removed lanes leave service with their LKRs, added lanes train; no lane disables
the port. -/
def State.setPortLanes (s : State) (p old new : Nat) : State :=
  let s := s.each (List.range 4) fun s i =>
    let l := 4 * p + i
    if s.penned (laneUnit l) then s
    else if bit old i && !bit new i then (s.setLane l 0).lkrOut l
    else if !bit old i && bit new i && s.portState p != psDown && s.portState p != psDisabled then s.setLane l 1
    else s
  if new = 0 then s.portGo p psDisabled
  else if old = 0 then s.portGo p psDown
  else if s.portUp p ∧ s.rd WELT_PSTAT_LANES p = 0 then s.portGo p psDown
  else s

/-- What the change of a field to a value does. -/
def State.cfgEffect (s : State) (id old v : Nat) : State :=
  if id = 0x0100 then s.wr PWR_CAP_CAP_W 0 v
  else if id = 0x0102 then
    ((s.wr PWR_PRIO_FIRST 0 (bf v 0 2)).wr PWR_PRIO_SECOND 0 (bf v 2 2)).wr PWR_PRIO_THIRD 0 (bf v 4 2)
  else if id = 0x0203 then s.each (cfgRegs false) fun s r => s.wr TLR_CFG_HDR_STAGE r (v / 20 - 1)
  else if id = 0x0204 then s.each (cfgRegs false) fun s r => s.wr TLR_CFG_HINT_MAXUP r (v / 5)
  else if id = 0x0205 then s.each (cfgRegs true) fun s r => s.wr TLR_CFG_BURST_EN r v
  else if id = 0x0206 then s.each (cfgRegs true) fun s r => s.wr TLR_CFG_SHED_EN r v
  else if id = 0x0207 then if old = v then s else { s with vibOwed := true }
  else if 0x0300 ≤ id ∧ id ≤ 0x0302 then s.setLaw (id - 0x0300) v
  else if id = 0x0303 then s.each (List.range 64) fun s f => s.testMask f v
  else if 0x0501 ≤ id ∧ id ≤ 0x0508 then
    if old = v ∨ old = 16 then s else s.ownerLeaves (id - 0x0501) old
  else if 0x0509 ≤ id ∧ id ≤ 0x0510 then if old = v then s else s.setPortLanes (id - 0x0509) old v
  else if id = 0x0511 then s.timeTree
  else if 0x1000 ≤ id then s.wr PWR_TILE_LIMIT (id - 0x1000) v
  else s

/-! ## The fingerprint (R412, R413) -/

/-- The first 64 bits of the fingerprint go to every status page. -/
def State.printCfg (s : State) : State :=
  let v := s.fprint
  s.each (List.range 20) fun s m => s.wr MBX_SP_FPRINT_FPRINT m v

/-! ## Writing (R407, R411) -/

/-- A field takes a value that is in its range, at once. -/
def State.setConf (s : State) (id v : Nat) : State :=
  let old := s.conf id
  let s : State := { s with cfg := s.cfg.set id v }
  let s := s.cfgEffect id old v
  if 0x0100 ≤ id ∧ id ≤ 0x04FF then s.printCfg else s

/-- A field is written: the new state and the applied value, 0xFFFFFFFF where the ID names no field (R408). -/
def State.cfgWrite (s : State) (id v : Nat) : State × Nat :=
  match cfgClamp id v with
  | some a => (s.setConf id a, a)
  | none => (s, 0xFFFFFFFF)

/-- A clamp report entry (R181). -/
abbrev Clamp := Nat × Nat × Nat

def clampBytes (c : Clamp) : Bytes := toLE 2 c.1 ++ toLE 2 0 ++ toLE 4 c.2.1 ++ toLE 4 c.2.2

/-- An entry takes its place by ascending field ID. -/
def insClamp (c : Clamp) : List Clamp → List Clamp
  | [] => [c]
  | d :: r => if c.1 ≤ d.1 then c :: d :: r else d :: insClamp c r

/-- The entries of a parameter's clamp: none where it applies as written. -/
def clampOf (off written applied : Nat) : List Clamp := if written = applied then [] else [(off, written, applied)]

/-- Fields written one after the other, with the report. -/
def State.cfgWrites (s : State) : List (Nat × Nat) → State × List Clamp
  | [] => (s, [])
  | (id, v) :: r =>
    let k := s.cfgWrite id v
    let q := State.cfgWrites k.1 r
    (q.1, if (cfgField id).isSome && k.2 == v then q.2 else insClamp (id, v, k.2) q.2)

end Sys2Proof.Machine
end

