-- ==== Sys2Proof/Machine/Conn.lean ====
section
/-! DEFINITION. Mailbox states and GO (R177, R178), the status page (R185), attestation (R395, R396), and the management
connections with the reading of their frames (R390, R393). -/
namespace Sys2Proof.Machine

/-! ## Management connections (R390, R393) -/

def State.conn (s : State) (c : Nat) : Conn := (s.conns.find c).getD Conn.reset
def State.setConn (s : State) (c : Nat) (x : Conn) : State := { s with conns := s.conns.set c x }
def State.modConn (s : State) (c : Nat) (g : Conn → Conn) : State := s.setConn c (g (s.conn c))

/-- A connection is bound to mailbox 16 + c. -/
def State.connOpen (s : State) (c : Nat) : Bool := bit (s.rd MGT_STAT_CONN 0) c

/-- A frame goes to the client, after the trace records that wait (R393). -/
def State.sendFrame (s : State) (c type : Nat) (body : Bytes) : State :=
  if !s.connOpen c ∨ (s.conn c).closing then s
  else s.modConn c fun x =>
    let tr := if x.traced.isEmpty then [] else [(5, x.traced.flatten)]
    { x with frames := x.frames ++ tr ++ [(type, body)], traced := [], lastFrame := s.now }

/-! ## Mailbox state (R177, R178) -/

def mxIdle : Nat := 0
def mxBusy : Nat := 1
def mxDone : Nat := 2
def mxNotReady : Nat := 3

def State.mbxState (s : State) (m : Nat) : Nat := s.rd MBX_STAT_STATE m

/-- A request buffer takes bytes from its start. -/
def Mailbox.write (x : Mailbox) (off : Nat) (b : Bytes) : Mailbox :=
  { x with request := Memory.putN x.request off (b.take (4096 - off)) }

/-- The mailbox at a place of a round: the management mailboxes first (R202). -/
def roundMbx (i : Nat) : Nat := if i < 4 then 16 + i else i - 4

/-- The mailbox that the drover serves next in its rounds; none while it waits for PERST# (R291, R292). -/
def State.nextMbx (s : State) : Option Nat :=
  if s.phase = .stopped then none else ((List.range 20).map fun i => roundMbx ((s.acceptPos + i) % 20)).find? fun m =>
    s.mbxState m == mxIdle && (s.mbox m).go

/-- GO: acted on in IDLE; before READY it has no effect; elsewhere LATE (R177, R178, R403). A round in which no mailbox has
GO any more is over, and this GO begins the next (R202). -/
def State.mbxGo (s : State) (m : Nat) : State :=
  if s.mbxState m = mxNotReady then s
  else if s.mbxState m = mxIdle then
    ({ s with acceptPos := if s.nextMbx.isNone then 0 else s.acceptPos } : State).modMbox m fun x => { x with go := true }
  else s.wr MBX_STAT_LATE m 1

/-! ## The status page (R185, R186) -/

/-- DSTATE as the host sees it (R185). -/
def State.shownDstate (s : State) : Nat := if s.phase = .recovery then 4 else s.dstate

/-- A background slot as the status page shows it (R186). -/
def BgSlot.bytes (b : BgSlot) : Bytes :=
  toLE 4 b.opid ++ toLE 2 b.opcode ++ toLE 1 b.state ++ toLE 1 b.progress ++ toLE 2 b.status ++ zeros 6 ++ sub b.result 0 32

/-- The 4 KiB status page of a mailbox (R185). -/
def State.statusPage (s : State) (m : Nat) : Bytes :=
  let w := ((List.range 8).map fun i => s.regWord .sp m (4 * i)).flatMap (toLE 4)
  let slots := (List.range 8).flatMap fun k => match s.bg m k with
    | some b => b.bytes
    | none => zeros 48
  w ++ zeros 224 ++ slots ++ zeros (4096 - 256 - 384)

/-! ## Hearing a client (R388, R390) -/

/-- The endpoint has started; recovery mode leaves it down. -/
def State.mgtUp (s : State) : Bool := s.phase == .firmware || s.phase == .open

/-- An open connection whose client is heard. -/
def State.heard (s : State) (c : Nat) : Bool := s.mgtUp && s.connOpen c && !(s.conn c).closing

/-- A frame has come from the client. -/
def State.hear (s : State) (c : Nat) : State := s.modConn c fun x => { x with lastFrame := s.now }

/-! ## Attestation (R395, R396) -/

/-- The responder answers on the Data Object Exchange mailbox of a function now: it is enabled, and the firmware or, in recovery,
the boot ROM runs (R395, R414). -/
def State.doeUp (s : State) (f : Nat) : Bool :=
  (s.phase == .firmware || s.phase == .open || s.phase == .recovery) && bit (s.rd PCIE_VFEN_EN 0) f

/-- Four header bytes of a version 1.2 response: code and two parameters (PRESUMED, log 90). -/
def spdmHead (code p1 p2 : Nat) : Bytes := toLE 1 0x12 ++ toLE 1 code ++ toLE 1 p1 ++ toLE 1 p2

/-- An ERROR response: 0x01 InvalidRequest, 0x07 UnsupportedRequest. -/
def spdmError (code data : Nat) : Bytes := spdmHead 0x7F code data

/-- The digest of the identity chain. -/
def State.chainDigest (s : State) : Bytes := sha384 s.stackRecord.chain

/-- A signed response: the responder's nonce, no opaque data, and the signature over the requester's nonce and the
response. -/
def State.signed (s : State) (reqNonce head tail : Bytes) : Bytes :=
  let b := head ++ toLE 32 (Config.nonce s.drawn).toNat ++ tail
  b ++ toBE 96 (Config.sign (reqNonce ++ b)).toNat

/-- The debug posture (R396): the plaintext read path is always there; a debugger attached, a trace enabled. -/
def State.posture (s : State) : Nat :=
  1 + 2 * b2n (s.tiles.any (·.2.dbg)) + 4 * b2n (s.conns.any (·.2.trace.isSome))

/-- The value of a measurement, and whether it is a raw one (R396). -/
def State.measure (s : State) (i : Nat) : Bytes × Bool :=
  match i with
  | 1 => (toBE 48 Config.romDigest.toNat, false)
  | 2 => (((s.flash.images[s.fwImage]?).getD Image.erased).digest ++ toLE 1 s.fwImage, false)
  | 3 => (if s.phase = .recovery then zeros 48
      else toBE 48 (Config.recordDigest s.stackRecord.seq ((s.cfgBlock.map CfgBlock.seq).getD 0)).toNat, false)
  | 4 => (s.fingerprint, true)
  | 5 => (toLE 4 s.fwVersion ++ toLE 2 s.fwLevel, true)
  | 6 => (toLE 1 s.posture, true)
  | _ => (toLE 1 s.shownDstate ++ toLE 2 (s.histories.filter (·.2.penned)).length, true)

/-- The DMTF type of a measurement: 0 ROM, 1 firmware, 3 configuration (PRESUMED, log 90). -/
def measureType (i : Nat) : Nat := [0, 0, 1, 3, 3, 1, 3, 3].getD i 0

/-- A measurement block. -/
def State.measureBlock (s : State) (i : Nat) : Bytes :=
  let v := s.measure i
  toLE 1 i ++ toLE 1 1 ++ toLE 2 (v.1.length + 3) ++ toLE 1 (measureType i + 128 * b2n v.2) ++ toLE 2 v.1.length ++ v.1

/-- The request codes that the responder supports (R395): their rows are others. -/
def spdmKnown (code : Nat) : Bool := [0x84, 0xE1, 0xE3, 0x81, 0x82, 0x83, 0xE0].contains code

/-- The answer to a request (R395): version 1.2 alone; certificates, challenge and signed measurements without a secure session;
ECDSA P-384 and SHA-384 where the requester offers them; slot 0; index 0 asks for the number of measurements, 255 for all. -/
def State.spdmAnswer (s : State) : SpdmReq → State × Bytes
  | .version => (s, toLE 1 0x10 ++ toLE 1 0x04 ++ zeros 2 ++ toLE 1 0 ++ toLE 1 1 ++ toLE 2 0x1200)
  | .capabilities =>
    let l := toLE 9 Config.spdmLimits.toNat
    (s, spdmHead 0x61 0 0 ++ toLE 1 0 ++ l.take 1 ++ zeros 2 ++ toLE 4 0x16 ++ l.drop 1)
  | .algorithms asym hash => (s, spdmHead 0x63 0 0 ++ toLE 2 36 ++ toLE 1 1 ++ toLE 1 0 ++ toLE 4 4
      ++ toLE 4 (asym.toNat &&& 0x80) ++ toLE 4 (hash.toNat &&& 0x02) ++ zeros 16)
  | .digests => (s, spdmHead 0x01 0 1 ++ s.chainDigest)
  | .certificate slot off len =>
    let c := s.stackRecord.chain
    let b := (c.drop off.toNat).take len.toNat
    (s, if slot ≠ 0#4 ∨ c.length ≤ off.toNat then spdmError 0x01 0
      else spdmHead 0x02 0 0 ++ toLE 2 b.length ++ toLE 2 (c.length - off.toNat - b.length) ++ b)
  | .challenge slot nonce =>
    if slot ≠ 0#4 then (s, spdmError 0x01 0)
    else ({ s with drawn := s.drawn + 1 }, s.signed nonce (spdmHead 0x03 0 1 ++ s.chainDigest) (toLE 2 0))
  | .measurements index nonce =>
    let i := index.toNat
    if 8 ≤ i ∧ i ≠ 255 then (s, spdmError 0x01 0)
    else
      let l := if i = 0 then [] else if i = 255 then [1, 2, 3, 4, 5, 6, 7] else [i]
      let r := l.flatMap s.measureBlock
      ({ s with drawn := s.drawn + 1 },
        s.signed nonce (spdmHead 0x60 (if i = 0 then 7 else 0) 0 ++ toLE 1 l.length ++ toLE 3 r.length ++ r) (toLE 2 0))
  | .other code => (s, spdmError 0x07 code.toNat)

/-! ## Reading the client's frames (R390) -/

/-- A frame of the client is read; none for a REQUEST while four wait. -/
def State.readFrame (s : State) (c : Nat) : MgtFrame → Option State
  | .request b =>
    let m := 16 + c
    let x := s.mbox m
    if s.mbxState m = mxNotReady then some ((s.hear c).modMbox m fun x => x.write 0 b)
    else if s.mbxState m = mxIdle ∧ !x.go ∧ x.queue.isEmpty then some (((s.hear c).modMbox m fun x => x.write 0 b).mbxGo m)
    else if 4 ≤ x.queue.length then none
    else some ((s.hear c).modMbox m fun x => { x with queue := x.queue ++ [b] })
  | .status => some ((s.hear c).sendFrame c 8 (s.statusPage (16 + c) ++ toLE 4 (s.rd MBX_ACCEPT_TAG (16 + c))))
  | .bad => some ((s.hear c).cnt MGT_BADFRAME_COUNT 0 1)
  | .spdm r =>
    let k := s.spdmAnswer r
    some ((k.1.hear c).sendFrame c 6 k.2)

/-- The frames that wait unread are read in order, as far as that goes; `n` bounds them. -/
def State.readOn (s : State) (c : Nat) : Nat → State
  | 0 => s
  | n + 1 => match (s.conn c).unread with
    | [] => s
    | f :: r => match (s.modConn c fun x => { x with unread := r }).readFrame c f with
      | none => s
      | some t => State.readOn t c n

/-- A frame comes from a client that is heard: it is read at once, or waits behind others that are not read yet. -/
def State.clientFrame (s : State) (c : Nat) (f : MgtFrame) : State :=
  let wait := s.modConn c fun x => { x with unread := x.unread ++ [f] }
  if !s.heard c then s
  else if !(s.conn c).unread.isEmpty then wait
  else (s.readFrame c f).getD wait

/-- An SPDM request on a path (R395): answered through the Data Object Exchange mailbox, or read as a frame. -/
def State.spdm (s : State) (p : SpdmPath) (r : SpdmReq) : State :=
  match p with
  | .doe f =>
    if !s.doeUp f then s
    else
      let k := s.spdmAnswer r
      { k.1 with spdmOut := k.1.spdmOut ++ [(f.val, k.2)] }
  | .mgt c => s.clientFrame c (.spdm r)

end Sys2Proof.Machine
end

