-- ==== Sys2Proof/Machine/Mailbox.lean ====
section
/-! DEFINITION. Mailboxes (R175 to R188, R202): submitting, accepting and releasing commands, their common checks, the
frames of the management connections (R390), and the DEV_ commands (R407 to R413). -/
namespace Sys2Proof.Machine

/-! ## Releasing and completing (R177, R178, R389, R390) -/

/-- RELEASE: acted on in DONE; in every other state LATE (R177). -/
def State.mbxRelease (s : State) (m : Nat) : State :=
  if s.mbxState m = mxDone then s.wr MBX_STAT_STATE m mxIdle
  else s.wr MBX_STAT_LATE m 1

/-- The next REQUEST frame that waits on an idle management mailbox; once it is taken the connection is read again (R390). -/
def State.nextRequest (s : State) (m : Nat) : State :=
  match (s.mbox m).queue with
  | [] => s
  | b :: r =>
    if s.mbxState m = mxIdle ∧ !(s.mbox m).go then
      let s := (s.modMbox m fun x => { x.write 0 b with queue := r }).mbxGo m
      s.readOn (m - 16) (s.conn (m - 16)).unread.length
    else s

/-- A management mailbox whose connection has closed becomes free: its slots are freed once done (R389). -/
def State.unbind (s : State) (m : Nat) : State :=
  let s := s.modMbox m fun x => { x with
    queue := [], go := false
    bg := (x.bg.filter fun b => b.2.state == 1).map fun b => (b.1, { b.2 with orphan := true }) }
  (s.wr MGT_STAT_CONN 0 (bfSet (s.rd MGT_STAT_CONN 0) (m - 16) 1 0)).setConn (m - 16) Conn.reset

/-- A management mailbox after its reply: the REPLY frame, RELEASE, the next REQUEST (R389, R390). -/
def State.mgtReply (s : State) (m : Nat) : State :=
  if (s.conn (m - 16)).closing then (s.wr MBX_STAT_STATE m mxIdle).unbind m
  else
    let b := (s.mbox m).reply
    let s := s.sendFrame (m - 16) 3 (toLE 4 (s.regWord .mbx m 0x004) ++ b.take (16 + fld b 2 2))
    (s.wr MBX_STAT_STATE m mxIdle).nextRequest m

/-- A command completes: the reply, STATUS, DONE, MSI-X vector 0 (R178). Earlier reply bytes beyond it stay. -/
def State.finish (s : State) (m status : Nat) (payload : Bytes := []) (detail : Nat := 0) : State :=
  let x := s.mbox m
  let tag := (x.accepted.map (·.tag)).getD 0
  let b := toLE 2 status ++ toLE 2 payload.length ++ toLE 4 tag ++ toLE 4 detail ++ zeros 4 ++ payload
  let s := s.setMbox m { x with reply := b ++ x.reply.drop b.length, accepted := none }
  let s := ((s.wr MBX_STAT_STATUS m status).wr MBX_STAT_STATE m mxDone).irq m 0
  if 16 ≤ m then s.mgtReply m else s

/-- A command completes with its clamp report (R181). -/
def State.finishClamps (s : State) (m : Nat) (l : List Clamp) : State :=
  s.finish m (if l.isEmpty then stOk else stClamped) (l.flatMap clampBytes) l.length

/-- A background command starts in a slot, which its caller knows to be free, and replies (R182, R186). -/
def State.finishBg (s : State) (m op object : Nat) (args : List Nat) (payload : Bytes := []) (l : List Clamp := []) : State :=
  match s.bgFree m with
  | none => s.finish m stBusy
  | some k =>
    let s := s.bgStart m k op object args
    let id := ((s.bg m k).map (·.opid)).getD 0
    s.finish m (if l.isEmpty then stOk else stClamped) (payload ++ l.flatMap clampBytes) id

/-! ## The commands (R183, R184) -/

/-- Who may issue a command (R184). -/
inductive Priv where
  | tenant | mgt | both
  deriving DecidableEq, Repr

/-- What OBJECT names. -/
inductive ObjKind where
  | none | job | flow | jobOrNone
  deriving DecidableEq, Repr

/-- A row of the command tables: its payload length (none: its own rule), whether it admits work, and whether it
needs an open session. -/
structure CmdSpec where
  op : Nat
  lvl : Nat
  priv : Priv
  obj : ObjKind
  len : Option Nat
  admits : Bool
  session : Bool
  deriving DecidableEq, Repr

def cmdDev : List CmdSpec :=
  [⟨0x1001, 1, .both, .none, some 0, false, false⟩, ⟨0x1002, 3, .both, .none, some 0, false, false⟩,
   ⟨0x1003, 2, .both, .none, some 4, false, false⟩, ⟨0x1004, 2, .mgt, .none, none, false, false⟩,
   ⟨0x1005, 3, .mgt, .none, some 0, false, false⟩, ⟨0x1006, 3, .both, .none, some 4, false, false⟩,
   ⟨0x1007, 3, .both, .none, some 4, false, false⟩]

def cmdJob : List CmdSpec :=
  [⟨0x2001, 1, .tenant, .none, some 48, true, true⟩, ⟨0x2002, 1, .tenant, .job, some 0, true, true⟩,
   ⟨0x2003, 1, .tenant, .job, some 0, false, true⟩, ⟨0x2004, 2, .tenant, .job, some 0, false, true⟩,
   ⟨0x2005, 2, .tenant, .job, some 12, true, true⟩, ⟨0x2006, 3, .tenant, .job, some 12, false, true⟩,
   ⟨0x2007, 1, .tenant, .job, some 0, false, true⟩,
   ⟨0x3001, 3, .tenant, .job, some 16, true, true⟩, ⟨0x3002, 3, .tenant, .job, some 16, true, true⟩,
   ⟨0x3003, 3, .tenant, .flow, some 0, false, true⟩, ⟨0x3004, 3, .tenant, .flow, some 0, false, true⟩]

def cmdMem : List CmdSpec :=
  [⟨0x4001, 3, .tenant, .job, some 24, false, true⟩, ⟨0x4002, 3, .tenant, .none, some 24, false, true⟩,
   ⟨0x4003, 2, .both, .jobOrNone, some 12, false, false⟩, ⟨0x4004, 2, .tenant, .job, some 20, false, true⟩,
   ⟨0x5001, 3, .tenant, .none, some 0, true, false⟩, ⟨0x5002, 3, .tenant, .none, some 0, false, true⟩,
   ⟨0x5003, 3, .tenant, .none, some 0, false, true⟩, ⟨0x5004, 3, .tenant, .none, some 0, false, true⟩]

def cmdHlth : List CmdSpec :=
  [⟨0x6001, 3, .both, .none, some 0, false, false⟩, ⟨0x6002, 2, .both, .jobOrNone, some 12, false, false⟩,
   ⟨0x6003, 3, .mgt, .none, some 0, false, false⟩, ⟨0x6004, 3, .mgt, .none, some 4, false, false⟩,
   ⟨0x6005, 3, .mgt, .none, some 4, false, false⟩, ⟨0x6006, 3, .mgt, .none, some 0, false, false⟩,
   ⟨0x6007, 3, .mgt, .none, some 0, false, false⟩, ⟨0x6008, 3, .mgt, .none, some 0, false, false⟩,
   ⟨0x6009, 3, .mgt, .none, some 4, false, false⟩]

def cmdPwr : List CmdSpec :=
  [⟨0x7001, 1, .mgt, .none, some 4, false, false⟩, ⟨0x7002, 3, .mgt, .none, some 4, false, false⟩,
   ⟨0x7003, 2, .mgt, .none, some 8, false, false⟩, ⟨0x7004, 3, .mgt, .none, some 4, false, false⟩,
   ⟨0x8001, 3, .mgt, .none, some 4, false, false⟩, ⟨0x8002, 3, .mgt, .none, some 4, false, false⟩,
   ⟨0x8003, 2, .mgt, .none, some 12, false, false⟩, ⟨0x8004, 2, .mgt, .none, none, false, false⟩,
   ⟨0x8005, 3, .mgt, .none, some 8, false, false⟩]

/-- The row of an opcode. -/
def cmdSpec (op : Nat) : Option CmdSpec := (cmdDev ++ cmdJob ++ cmdMem ++ cmdHlth ++ cmdPwr).find? (·.op == op)

/-- The commands that recovery mode serves (R414). -/
def recoverySet : List Nat := [0x1001, 0x1006, 0x1007, 0x6001]

/-- The function of a handle: the top four bits name it (DEDUCED, log 51). -/
def handleFn (h : Nat) : Nat := h / 2 ^ 28

/-- The next handle of a function (R180; its low bits start at a free value). -/
def State.newHandle (s : State) (f : Nat) : Nat := f * 2 ^ 28 + (Config.handleBase + s.handles) % (2 ^ 28 - 1) + 1

def State.jobByHandle (s : State) (h : Nat) : Option Job := s.jobs.find? (·.handle == h)
def State.flowByHandle (s : State) (h : Nat) : Option Flow := s.flows.find? fun f => f.handle == h && f.live

/-- Step 3: privilege and the owner of the handle. -/
def objDenied (m : Nat) (r : Req) (c : CmdSpec) : Bool :=
  (c.priv == .tenant && decide (16 ≤ m)) || (c.priv == .mgt && decide (m < 16))
    || (decide (m < 16) && c.obj != .none && r.object != 0 && handleFn r.object != m)

/-- Step 7: the handle is known. -/
def State.objKnown (s : State) (m : Nat) (r : Req) (c : CmdSpec) : Bool :=
  match c.obj with
  | .none => r.object == 0
  | .job => (s.jobByHandle r.object).isSome
  | .flow => (s.flowByHandle r.object).isSome
  | .jobOrNone => (decide (16 ≤ m) && r.object == 0) || (s.jobByHandle r.object).isSome

/-- Steps 1 to 9 of R183 (a field that LEN cuts off reads 0 in every check, so a zero-sensitive one answers ST_EMPTY:
DESIGN CHOICE, log 146), and the heat stop among the states of step 9: the status that refuses the command. `denied`,
`zero` and `bad` are the command's own checks of steps 3, 6 and 7. -/
def State.refusal (s : State) (m : Nat) (r : Req) (c : CmdSpec) (denied zero bad : Bool) : Option Nat :=
  let ss := if m < 16 then (s.sess m).state else 0
  if s.fwLevel < c.lvl then some stUnsupported
  else if s.phase = .recovery ∧ !recoverySet.contains c.op then some stRecovery
  else if objDenied m r c || denied then some stDenied
  else if ss = 2 ∧ c.op ≠ 0x1001 ∧ c.op ≠ 0x6001 then some stScrubbing
  else if c.admits ∧ s.dstate = 3 then some stRetired
  else if zero then some stEmpty
  else if decide (r.len > 4080) || c.len.any (· != r.len) || r.rsvd != 0 || !s.objKnown m r c || bad then some stBadArg
  else if c.session ∧ ss ≠ 1 then some stNoSession
  else if c.admits ∧ s.dstate = 1 then some stDraining
  else if c.admits ∧ s.heatStops then some stBusy
  else none

/-- Commands of different mailboxes that change the same object: 1 the active configuration and the cap, 2 the
stratum's state; 0 none (R202). -/
def objectClass (op : Nat) : Nat :=
  if [0x1004, 0x1005, 0x7001, 0x7002, 0x7004].contains op then 1
  else if [0x6005, 0x6006, 0x6007, 0x6008].contains op then 2 else 0

/-- Two commands take effect in acceptance order: they change one object, or one is HLTH_DRAIN and the other starts a job
(R202, R203). -/
def takesTurns (a b : Nat) : Bool :=
  let starts := fun (op : Nat) => [0x2001, 0x2002, 0x2005].contains op
  (objectClass a != 0 && objectClass a == objectClass b) || (a == 0x6006 && starts b) || (b == 0x6006 && starts a)

/-- No command accepted earlier still has to take effect before this one. -/
def State.inTurn (s : State) (m : Nat) (r : Req) : Bool :=
  (List.range 20).all fun k => k == m || (match (s.mbox k).accepted with
    | some q => !takesTurns q.opcode r.opcode || decide (r.order < q.order)
    | none => true)

/-- The accepted request of a mailbox, when it is the command with this opcode and may run now. A command that admits
work waits while the stratum leaves Standby (R416). -/
def State.command (s : State) (m op : Nat) : Option (Req × CmdSpec) :=
  match (s.mbox m).accepted, cmdSpec op with
  | some r, some c =>
    if r.opcode = op ∧ s.mbxState m = mxBusy ∧ s.phase ≠ .stopped ∧ s.inTurn m r ∧ !(c.admits && s.standby) then some (r, c) else none
  | _, _ => none

/-- A command runs: its own checks first, then what it does. -/
def State.run (s : State) (m op : Nat) (denied zero bad : Req → Bool) (act : State → Req → State) : State :=
  match s.command m op with
  | none => s
  | some (r, c) =>
    match s.refusal m r c (denied r) (zero r) (bad r) with
    | some st => s.finish m st
    | none => act s r

/-- A command without checks of its own. -/
def State.runPlain (s : State) (m op : Nat) (act : State → Req → State) : State :=
  s.run m op (fun _ => false) (fun _ => false) (fun _ => false) act

/-- A field of a request payload. -/
def Req.f (r : Req) (off len : Nat) : Nat := fld r.payload off len

/-! ## Rows of the mailbox (R178, R202) -/

/-- Row MBX_GO (R178). -/
def execMbxGo (m : MbxId) (s : State) : Out := .next (s.mbxGo m)

/-- Row MBX_RELEASE (R178). -/
def execMbxRelease (m : MbxId) (s : State) : Out := .next (s.mbxRelease m)

/-- An epoch that HLTH_TALLY asked for is still to come. -/
def State.pendingT (s : State) : Option Nat := s.tallyAt.filter fun T => decide (s.now ≤ T + 20)

/-- The instant T of a tally epoch asked for now: the first multiple of 10 µs that lies at least 20 µs ahead, or that of an epoch
that is pending (R420). -/
def State.tallyT (s : State) : Nat := s.pendingT.getD (ceilDiv (s.now + 20000) 10000 * 10000)

/-- An HLTH_TALLY fixes its instant as it is accepted (R420). -/
def State.tallyAsked (s : State) (m : Nat) (r : Req) : Bool :=
  r.opcode == 0x6003 && (cmdSpec r.opcode).any fun c => (s.refusal m r c false false false).isNone

/-- The request that stands in the buffer of a mailbox, as an acceptance now would copy it. -/
def State.waiting (s : State) (m : Nat) : Req :=
  let b := (s.mbox m).request
  let h := Memory.getN b 0 16
  ⟨fld h 0 2, fld h 2 2, fld h 4 4, fld h 8 4, fld h 12 4, Memory.getN b 16 (min (fld h 2 2) 4080), s.acceptSeq, s.now, none⟩

/-- Row MBX_ACCEPT (R178, R202): the request is copied, the TAG shown, the mailbox BUSY, once the drover's round has come
to it. An opcode that no table defines is answered at once (R183; DESIGN CHOICE, log 50). -/
def execMbxAccept (m : MbxId) (s : State) : Out :=
  let x := s.mbox m
  if s.nextMbx ≠ some m.val then .next s
  else
    let r := s.waiting m
    let ask := s.tallyAsked m r
    let T := s.tallyT
    let r := if ask then { r with latch := some T } else r
    let s := { (s.setMbox m { x with go := false, accepted := some r }) with
      tallyAt := if ask then some T else s.tallyAt
      acceptSeq := s.acceptSeq + 1, acceptPos := ((if 16 ≤ m.val then m.val - 16 else m.val + 4) + 1) % 20 }
    let s := (s.wr MBX_ACCEPT_TAG m r.tag).wr MBX_STAT_STATE m mxBusy
    .next (if (cmdSpec r.opcode).isNone then s.finish m stUnsupported else s)

/-! ## DEV -/

/-- Row DEV_INFO (R184). -/
def execDevInfo (m : MbxId) (s : State) : Out :=
  .next (s.runPlain m 0x1001 fun s _ =>
    let pen := ((List.range 1024).filter fun t => s.penned (tileUnit t)).length
    s.finish m stOk (toLE 2 s.fwLevel ++ toLE 2 m ++ toLE 4 s.fwVersion ++ toLE 8 s.stackId ++ toLE 2 (1024 - pen)
      ++ toLE 2 pen ++ toLE 1 s.shownDstate ++ zeros 3))

/-- Row DEV_FINGERPRINT (R413). -/
def execDevFingerprint (m : MbxId) (s : State) : Out :=
  .next (s.runPlain m 0x1002 fun s _ => s.finish m stOk s.fingerprint)

/-- Row DEV_CONFIG_READ (R410); a reply holds 510 fields. -/
def execDevConfigRead (m : MbxId) (s : State) : Out :=
  .next (s.run m 0x1003 (fun _ => false) (fun r => r.f 2 2 == 0) (fun _ => false) fun s r =>
    let ids := (((List.range (r.f 2 2)).map (r.f 0 2 + ·)).filter fun i => (cfgField i).isSome).take 510
    s.finish m stOk (ids.flatMap fun i => cfgEntry i (s.conf i)))

/-- The fields of a DEV_CONFIG_WRITE payload. -/
def Req.fields (r : Req) : List (Nat × Nat) := (List.range (r.f 0 2)).map fun i => (r.f (4 + 8 * i) 2, r.f (8 + 8 * i) 4)

/-- Row DEV_CONFIG_WRITE (R407, R408). -/
def execDevConfigWrite (m : MbxId) (s : State) : Out :=
  .next (s.run m 0x1004 (fun _ => false) (fun r => r.f 0 2 == 0)
    (fun r => r.len != 4 + 8 * r.f 0 2 || r.f 2 2 != 0 || (List.range (r.f 0 2)).any fun i => r.f (6 + 8 * i) 2 != 0)
    fun s r =>
      let k := s.cfgWrites r.fields
      k.1.finishClamps m k.2)

/-- Blocks of a half of the configuration log (R405). -/
def halfBlocks : Nat := 1024

/-- The sector in which the place of the next block of the current half lies (R399, R405). -/
def Flash.logSector (f : Flash) (place : Nat) : Nat := regionSector 7 + 16 * f.half + place / 64

/-- A block is programmed into the next free place; none when neither half has room (R411). The other half becomes the current
one when it is erased. -/
def State.placeBlock (s : State) (b : CfgBlock) : Option State :=
  let f := s.flash
  if f.log.length < halfBlocks then some { s with flash := { f with log := f.log ++ [b] } }
  else if f.other.isEmpty then some { s with flash := { f with log := [b], other := f.log, half := 1 - f.half } }
  else none

/-- The block that a commit forms from the active configuration and signs (R405, R411). -/
def State.newBlock (s : State) : CfgBlock :=
  CfgBlock.form (fun b => toBE 96 (Config.sign b).toNat)
    (cfgBody (((s.flash.newest).map CfgBlock.seq).getD 0 + 1)
      (((cfgCatalogue.map (·.id)).mergeSort (fun a b => decide (a ≤ b))).map fun i => (i, s.conf i)) fun t => s.conf (0x1000 + t))

/-- Row DEV_CONFIG_COMMIT (R411). `ok1` and `ok2` say whether the read-backs of the first and of a second program
match; without a spare sector no second program is made (R400). -/
def execDevConfigCommit (m : MbxId) (ok1 ok2 : Bool) (s : State) : Out :=
  .next (s.runPlain m 0x1005 fun s _ =>
    let b := s.newBlock
    let kept := fun (ok : Bool) => if ok then b else b.garbled
    match s.placeBlock (kept ok1) with
    | none => s.finish m stBusy
    | some t =>
      if ok1 then t.finish m stOk s.fingerprint
      else if t.flash.freeSpares.isEmpty then t.finish m stIntegrity
      else
        let t := t.badSector (t.flash.logSector (t.flash.log.length - 1))
        match t.placeBlock (kept ok2) with
        | none => t.finish m stBusy
        | some u =>
          if ok2 then u.finish m stOk s.fingerprint
          else (u.badSector (u.flash.logSector (u.flash.log.length - 1))).finish m stIntegrity)

/-- Row DEV_CONFIG_REPORT (R409); a reply holds 340 entries. -/
def execDevConfigReport (m : MbxId) (s : State) : Out :=
  .next (s.run m 0x1006 (fun _ => false) (fun r => r.f 2 2 == 0) (fun _ => false) fun s r =>
    s.finish m stOk (((s.report.drop (r.f 0 2)).take (min 340 (r.f 2 2))).flatMap clampBytes))

/-- Row DEV_BG_FREE (R186). -/
def execDevBgFree (m : MbxId) (s : State) : Out :=
  .next (s.runPlain m 0x1007 fun s r =>
    match (s.mbox m).bg.find? fun b => b.2.opid == r.f 0 4 with
    | none => s.finish m stBadArg
    | some (k, b) =>
      if b.state = 1 ∨ b.state = 3 then s.finish m stBadState
      else ((s.modMbox m fun x => { x with bg := x.bg.del k }).irq m 6).finish m stOk)

end Sys2Proof.Machine
end

