-- ==== Sys2Proof/Machine/Jobs.lean ====
section
/-! DEFINITION. Jobs (R190 to R194): loading an image, starting, checkpointing, restoring, exporting, finishing and
stopping. -/
namespace Sys2Proof.Machine

/-! ## The policy (R193) -/

/-- A parameter clamped into a range, or to a value of its own where it is outside. -/
def clampTo (lo hi out v : Nat) : Nat := if lo ≤ v ∧ v ≤ hi then v else out

/-- The policy in a JOB_LOAD payload, with the clamp entries in ascending offset. -/
def readPolicy (r : Req) : Policy × List Clamp :=
  let k := clampTo 0 2 0 (r.f 16 1)
  let m := clampTo 0 1 0 (r.f 17 1)
  let n := clampN 1 (if m = 1 then 512 else 1024) (r.f 20 2)
  let ck := if r.f 28 4 = 0 then 0 else clampN 1000 10000000 (r.f 28 4)
  let dg := if r.f 32 4 = 0 then 10000 else clampN 100 3600000 (r.f 32 4)
  let p : Policy :=
    { kind := k, mode := m, priority := min 7 (r.f 18 1), ingestCh := min 15 (r.f 19 1), ntiles := n
      wdog := clampN 5 50 (r.f 22 1), flockK := max 1 (r.f 23 1), period := clampN 10 10000 (r.f 24 4)
      ckpt := ck, digest := dg, flock := r.f 36 2 }
  (p, clampOf 16 (r.f 16 1) k ++ clampOf 17 (r.f 17 1) m ++ clampOf 18 (r.f 18 1) p.priority
    ++ clampOf 19 (r.f 19 1) p.ingestCh ++ clampOf 20 (r.f 20 2) n ++ clampOf 22 (r.f 22 1) p.wdog
    ++ clampOf 23 (r.f 23 1) p.flockK ++ clampOf 24 (r.f 24 4) p.period ++ clampOf 28 (r.f 28 4) ck
    ++ clampOf 32 (r.f 32 4) dg)

/-! ## Tiles of a job (R191, R204, R233) -/

/-- A tile that a job may take: no job holds it, it is powered, and neither it nor its channel is penned. -/
def State.freeTile (s : State) (t : Nat) : Bool :=
  !s.jobs.any (fun j => j.all.contains t) && !(s.tile t).off && !s.foldOff (foldOf t) && !s.penned (tileUnit t)
    && !s.penned (chanUnit t) && !(s.tile t).cleared

/-- A tile of the job can no longer run it. -/
def State.lostTile (s : State) (j : Job) : Bool := j.all.any s.lost

/-- The tiles that may be the primaries of a job, in ascending tile ID. -/
def State.freeTiles (s : State) (mode : Nat) : List Nat :=
  (List.range 1024).filter fun t => s.freeTile t && (mode == 0 || (localOf t % 2 == 0 && s.freeTile (succOf t)))

/-- The tiles, and in Dual mode the twins, that a load takes, in ascending tile ID. -/
def State.takeTiles (s : State) (p : Policy) : Option (List Nat × List Nat) :=
  let l := (s.freeTiles p.mode).take p.ntiles
  if l.length < p.ntiles then none else some (l, if p.mode = 1 then l.map succOf else [])

/-- The next job tag that no job carries (nonzero; its start is free). -/
def State.newTag (s : State) : Nat :=
  let c := (List.range (s.jobs.length + 1)).map fun i => (Config.jobTagBase + s.jobTag + i) % 65535 + 1
  (c.find? fun t => !s.jobs.any (·.tag == t)).getD 1

/-- A tile taken by a job (R191): reset, HELD, with the job's tag, mode, watchdog limit and key slot. -/
def State.takeTile (s : State) (t tag slot : Nat) (p : Policy) : State :=
  let s := (s.tileReset t).wr TILE_JOB_JOB t tag
  let s := (s.wr NBC_CTRL_MODE t p.mode).wr TILE_WDOG_LIMIT t p.wdog
  let s := ((s.wr VCH_KEY_CUR t slot).wr VCH_KEY_ROT t 0).wr TILE_PG_GEOM_KSLOT t slot
  (s.modTile t fun x => { x with haltJob := false, haltCkpt := false }).wdogReload t

/-- A new job in LOADING. -/
def newJob (h tag fn addr len : Nat) (tiles twins : List Nat) (p : Policy) : Job :=
  { handle := h, tag := tag, fn := fn, state := 1, tiles := tiles, twins := twins, policy := p, imgAddr := addr
    imgLen := len, entry := 0, sections := [], norms := [], restarts := 0, lastCkpt := 0, first := none
    startAt := 0, restart := none, ckptOp := none, ckptOn := false, ckptSeq := 0, ckptCount := 0, ckptDue := false, drainOwed := false
    patches := [], wdogHit := false, poisonHit := [], digestAt := 0, digestDue := none, parkNext := false, expel := none
    grid := [] }

/-- Row JOB_LOAD (R191, R193). -/
def execJobLoad (m : MbxId) (s : State) : Out :=
  .next (s.run m 0x2001 (fun _ => false) (fun r => r.f 8 4 == 0) (fun r => r.f 12 4 != 0 || r.f 38 10 != 0) fun s r =>
    let k := readPolicy r
    match s.takeTiles k.1 with
    | none => s.finish m stNoTiles
    | some (tiles, twins) =>
      if (s.bgFree m).isNone then s.finish m stBusy
      else
        let h := s.newHandle m
        let tag := s.newTag
        let j := newJob h tag m (r.f 0 8) (r.f 8 4) tiles twins k.1
        let s : State := { s with jobs := s.jobs ++ [j], handles := s.handles + 1, jobTag := s.jobTag + 1 }
        let s := s.each j.all fun s t => s.takeTile t tag (s.slotOf m) k.1
        s.finishBg m 0x2001 h [r.f 0 8, r.f 8 4] (toLE 4 h ++ toLE 2 tag ++ toLE 2 tiles.length
          ++ toLE 2 k.2.length ++ zeros 6 ++ tiles.flatMap (toLE 2)) k.2)

/-! ## The image (R191, R192) -/

/-- A section entry of an image. -/
def readSection (e : Bytes) : Section :=
  ⟨fld e 0 1, bit (fld e 1 1) 0, fld e 2 2, fld e 8 8, fld e 16 4, fld e 20 4⟩

/-- The rules of a section entry, for an image of a length and a number of tiles. -/
def sectionOk (e : Bytes) (len n : Nat) : Bool :=
  let x := readSection e
  decide (1 ≤ x.type ∧ x.type ≤ 3) && fld e 4 4 == 0 && fld e 24 8 == 0
    && decide (fld e 1 1 < (if x.type = 2 then 2 else 1)) && (x.tile == 0xFFFF || decide (x.tile < n))
    && decide (x.src + x.len ≤ len)
    && (if x.type = 1 then x.dest % 4 == 0 && decide (x.dest + x.len ≤ spadSize)
        else if x.type = 2 then x.dest % 64 == 0 && x.len % 64 == 0 && decide (x.dest + x.len ≤ colLines * 64)
        else x.dest == 0 && x.len % 64 == 0)

/-- The header's rules. -/
def headerOk (h : Bytes) (len : Nat) : Bool :=
  decide (64 ≤ len) && fld h 0 4 == 0x314A584B && fld h 4 2 == 1 && decide (1 ≤ fld h 6 2 ∧ fld h 6 2 ≤ 4096)
    && fld h 8 4 == len && decide (fld h 16 1 ≤ 1) && fld h 17 15 == 0 && decide (64 + 32 * fld h 6 2 ≤ len)

/-- The section entries of an image. -/
def imageEntries (img : Bytes) : List Bytes := (List.range (fld img 6 2)).map fun i => sub img (64 + 32 * i) 32

/-- The status that an image gives its load: header and entries before the digest (R191). -/
def imageStatus (img : Bytes) (len n : Nat) : Nat :=
  if !headerOk img len ∨ !(imageEntries img).all (sectionOk · len n) then stBadArg
  else if sha256 (img.drop 64) ≠ sub img 32 32 then stIntegrity else stOk

/-- Column lines written from image bytes, under the slot of the session, or of the pass that has not reached them (R257,
R260). -/
def State.fillColumn (s : State) (t line : Nat) (b : Bytes) : State :=
  s.each (List.range (b.length / 64)) fun s i => s.writeLine t (line + i) (s.slotFor t (line + i)) (sub b (64 * i) 64)

/-- The tiles, twins included, that a section names. -/
def Job.targets (j : Job) (x : Section) : List Nat :=
  if x.tile = 0xFFFF then j.all else (j.tiles[x.tile]?).toList ++ (j.twins[x.tile]?).toList

/-- One section applied. -/
def State.applySection (s : State) (j : Job) (img : Bytes) (x : Section) : State :=
  let b := sub img x.src x.len
  if x.type = 3 then
    s.modJob j.tag fun j => { j with norms := j.norms ++ (chunks 64 (x.len / 64) b).map fun d => (x.tile, d) }
  else s.each (j.targets x) fun s t =>
    if x.type = 1 then s.modTile t fun y => y.move x.dest b fun _ => false
    else s.fillColumn t (x.dest / 64) b

/-- The tiles of a job and its handle go back; with a flock's last member on the stratum go its records. A
rotation waits for it no longer (R259). -/
def State.freeJob (s : State) (j : Job) : State :=
  let s := s.each j.all fun s t => (s.wr TILE_JOB_JOB t 0).wr NBC_CTRL_MODE t 0
  let s := ({ s with jobs := s.jobs.filter (·.tag != j.tag) } : State).bulkCheck j.fn
  if s.jobs.any fun k => k.policy.flock == j.policy.flock && k.policy.kind == j.policy.kind then s
  else { s with
    flocks := s.flocks.filter fun r => !(r.flock == j.policy.flock && r.kind == j.policy.kind)
    flockAt := s.flockAt.drop fun k => k / 2 ^ 32 == j.policy.flock * 4 + j.policy.kind
    flockDone := s.flockDone.del (j.policy.flock * 4 + j.policy.kind) }

/-- The load of a job ends with a status (R191). The scratchpads are zero then, and no line of them is poisoned (DESIGN
CHOICE, log 143: R78 does not list the zeroing of R191). -/
def State.endLoad (s : State) (j : Job) (m k st : Nat) (img : Bytes) : State :=
  if st ≠ stOk then (s.freeJob j).bgEnd m k st
  else
    let s := s.each j.all fun s t =>
      ((s.wr TILE_BOOT_ADDR t (fld img 12 4 / 4)).wr TILE_BOOT_SPACE t (fld img 16 1)).modTile t fun x =>
        { x with spad := [], poison := [], ckpts := [], undo := [] }
    let xs := (imageEntries img).map readSection
    let s := xs.foldl (fun s x => s.applySection j img x) s
    (s.modJob j.tag fun j => { j with
      state := 2, sections := xs, entry := fld img 12 4 }).bgEnd m k stOk

/-- The running operation with an opcode in a slot, when the function may reach host memory. -/
def State.bgRuns (s : State) (m k op : Nat) : Option BgSlot :=
  match s.bg m k with
  | some b => if b.opcode = op ∧ b.state = 1 then some b else none
  | none => none

/-- Row JOB_LOAD_DONE (R191). While Bus Master Enable is clear the load waits (R385). -/
def execJobLoadDone (m : MbxId) (slot : Fin 8) (s : State) : Out :=
  match s.bgRuns m slot 0x2001 with
  | none => .next s
  | some b => match s.jobByHandle b.object with
    | none => .next s
    | some j =>
      if !s.masters m ∨ j.all.any (fun t => !(s.tile t).heldLines.isEmpty) then .next s
      else
        let img := s.rdHost j.imgAddr j.imgLen
        .next (s.endLoad j m slot (imageStatus img j.imgLen j.tiles.length) img)

/-! ## Starting -/

/-- Counters 1 to 15 of a tile start from zero (R89). -/
def State.zeroCounters (s : State) (t : Nat) : State :=
  let s := s.weigh t
  s.modTile t fun x => { x with counters := [], cycles := 0, cycAt := s.now }.rebase

/-- A job starts: counters from zero, cores at the entry address, the first checkpoint, the grid from now (R89, R112,
R193, R354). -/
def State.startJob (s : State) (j : Job) : State :=
  let s := s.each j.all fun s t =>
    ((s.zeroCounters t).modTile t fun x => { x with sched := { Sched.reset with s := s.now } }).startAt t (s.bootAddr t)
  let s := { s.startCkpt j.tag with jobEver := true }
  s.modJob j.tag fun j => { j with state := 3, startAt := s.now, first := none, grid := [], digestAt := 0, digestDue := none }

/-- Row JOB_START (R190). A job that has lost a tile since its load finds none to start on (R233; DESIGN CHOICE,
log 124). -/
def execJobStart (m : MbxId) (s : State) : Out :=
  .next (s.runPlain m 0x2002 fun s r =>
    match s.jobByHandle r.object with
    | none => s.finish m stBadArg
    | some j =>
      if j.state ≠ 2 then s.finish m stBadState
      else if s.lostTile j then s.finish m stNoTiles
      else (s.startJob j).finish m stOk)

/-- Row JOB_STATUS (R190). -/
def execJobStatus (m : MbxId) (s : State) : Out :=
  .next (s.runPlain m 0x2003 fun s r =>
    match s.jobByHandle r.object with
    | none => s.finish m stBadArg
    | some j =>
      let f := j.first.getD (0xFFFF, 0, 0)
      s.finish m stOk (toLE 1 j.state ++ toLE 1 0 ++ toLE 2 j.restarts ++ toLE 8 j.lastCkpt ++ toLE 2 f.1
        ++ toLE 1 f.2.1 ++ toLE 1 0 ++ toLE 2 f.2.2))

/-! ## Checkpoint, restore and export (R190, R194, R203) -/

/-- A JOB_CHECKPOINT, JOB_RESTORE or JOB_EXPORT of the job runs. -/
def State.jobBusy (s : State) (j : Job) : Bool :=
  j.ckptOp.isSome || [0x2005, 0x2006].any fun op => (s.bgOn j.fn op j.handle).isSome

/-- Row JOB_CHECKPOINT (R219). -/
def execJobCheckpoint (m : MbxId) (s : State) : Out :=
  .next (s.runPlain m 0x2004 fun s r =>
    match s.jobByHandle r.object, s.bgFree m with
    | some j, some k =>
      if j.state ≠ 3 then s.finish m stBadState
      else if s.jobBusy j then s.finish m stBusy
      else (s.modJob j.tag fun j => { j with ckptDue := true, ckptOp := some (m, k) }).finishBg m 0x2004 j.handle []
    | some j, none => s.finish m (if j.state ≠ 3 then stBadState else stBusy)
    | none, _ => s.finish m stBadArg)

/-- A restore from the latest resident checkpoint begins (R190, R216). It is no restart of the job's count. -/
def State.beginRestore (s : State) (j : Job) (m k : Nat) : State :=
  let s := (s.outbound j.tag).foldl State.refund (s.abortCkpt j.tag)
  let s := (s.haltJob j.tag).dropHeld j.tag
  let reload := j.policy.kind == 0 && j.policy.flock != 0
  s.modJob j.tag fun j => { j with
    state := 4, restart := some ⟨s.now, false, reload, true⟩, ckptOp := some (m, k) }

/-- The export image that host bytes are, for a session (R194). -/
def State.findExport (s : State) (fn addr len : Nat) : Option Export :=
  let x := s.sess fn
  s.exports.find? fun e => e.fn == fn && e.gen == x.gen && e.key == x.exportKey && decide (e.image.length ≤ len)
    && s.rdHost addr e.image.length == e.image

/-- The written lines of a column outside the checkpoint slots, as they read: each read counts and records as any
other (R249). -/
def State.writtenLines (s : State) (t : Nat) : State × Tbl (Option Bytes) :=
  (s.tile t).col.foldl (fun (acc : State × Tbl (Option Bytes)) k =>
    if 0x0F000000 ≤ k.1 * 64 ∨ classify k.2 k.1 = .unwritten then acc
    else
      let r := acc.1.readLine t k.1 (acc.1.slotFor t k.1)
      (r.1, acc.2 ++ [(k.1, if r.2.poison then none else some r.2.data)])) (s, [])

/-- The column of a tile as its latest checkpoint left it, which the tile keeps no longer. -/
def State.columnAt (s : State) (t : Nat) : State × Tbl (Option Bytes) :=
  let old := s.tile t
  let r := (old.undo.foldl (fun s u => s.undoBlock t u) s).writtenLines t
  (r.1.modTile t fun x => { x with col := old.col }, r.2)

/-- A tile's column and checkpoint as an export image holds them, for the tile that takes its place. Its channels name
the tiles that take their places (DESIGN CHOICE, log 52). -/
def State.fromExport (s : State) (j : Job) (t : Nat) (c : Ckpt) (lines : Tbl (Option Bytes)) (ren : Nat → Nat) : State :=
  let key := fun (k : Nat) =>
    let u := k / 64 / 65536 / 32
    let b := k / 64 / 65536 % 32
    let v := if b = Blk.code .txc ∨ b = Blk.code .rxc then 16 * t + u % 16
      else if b = Blk.code .vshOp then 3 * t + u % 3 else t
    ((v * 32 + b) * 65536 + k / 64 % 65536) * 64 + k % 64
  let peer := fun (k v : Nat) =>
    if [TILE_TXC_CFG_DEST, TILE_RXC_SRC_SRC].any fun f => k % (32 * 65536 * 64) == regKey f 0 then ren v else v
  let regs := c.regs.foldl (fun (r : Tbl Nat) (k : Nat × Nat) => r.set (key k.1) (peer k.1 k.2)) []
  let s := s.modTile t fun x => { x with
    col := [], undo := [], ingest := [], logBytes := 0, curSlot := 0
    ckpts := [(0, { c with seq := 1, tag := j.tag, regs := regs })] }
  lines.foldl (fun s k => match k.2 with
    | some b => match s.key (s.slotFor t k.1) with
      | some key => (s.markWritten t).putLine t k.1 (goodLine key t k.1 b)
      | none => s
    | none => (s.markWritten t).putLine t k.1 (poisonLine k.1)) s

/-- What a tile held of a job that ends: pool, flows, logs, checkpoints and detections (R190). Lines held for check handling
stay held until that ends (R251). -/
def Tile.forgetJob (x : Tile) : Tile :=
  { x with
    haltJob := false, haltCkpt := false, haltWin := false, inWin := false, winActs := [], winReq := false
    detections := [], boundWait := [], regen := [], ftab := 0, nfte := 0, ckWait := [], zeroFrames := []
    failedAlloc := none, victims := [], fetches := [], swaps := [], ckpts := []
    curSlot := 0, undo := [], ingest := [], logBytes := 0, freed := [], credited := [], colGone := false, restored := false
    ckptDone := false, relSeq := [], sched := Sched.reset, digests := [] }

/-- The tile that takes the place of another, by the two lists. -/
def renamed (old new : List Nat) (t : Nat) : Nat := ((old.zip new).find? fun p => p.1 == t).elim t (·.2)

/-- A job goes on from an export image on its own tiles, under the image's policy but for NTILES and MODE (R194; DESIGN
CHOICE, log 149); its WDOG goes into TILE_WDOG.LIMIT (R109, R193). -/
def State.importJob (s : State) (j : Job) (e : Export) (m k : Nat) : State :=
  let s := (j.all.zip e.tiles).foldl (fun s x =>
    (s.fromExport j x.1 x.2.1 x.2.2 (renamed e.ids j.all)).wr TILE_WDOG_LIMIT x.1 e.policy.wdog) s
  s.modJob j.tag fun j => { j with
    state := 4, restart := some ⟨s.now, false, false, true⟩, ckptOp := some (m, k), ckptSeq := 1
    policy := { e.policy with ntiles := j.policy.ntiles, mode := j.policy.mode }
    patches := e.patches.filterMap fun p => (j.all[p.1]?).map fun t => (t, p.2)
    startAt := s.now }

/-- The restore from host memory that runs in a slot reads its image, once the function may reach host memory. An image
with another number of tiles than the job's ends with ST_INTEGRITY (DESIGN CHOICE, log 150: R194 names no status). -/
def State.importNow (s : State) (m k : Nat) : State :=
  match s.bgRuns m k 0x2005 with
  | none => s
  | some b => match s.jobByHandle b.object with
    | none => s
    | some j =>
      if j.state ≠ 2 ∨ !s.masters m then s
      else match s.findExport m (b.args.getD 0 0) (b.args.getD 1 0 * 65536) with
        | some e => if e.tiles.length = j.all.length then s.importJob j e m k else s.bgEnd m k stIntegrity
        | none => s.bgEnd m k stIntegrity

/-- A tile of a job goes back, as at the job's end. -/
def State.releaseTile (s : State) (t : Nat) : State :=
  let s := (((s.tileReset t).dropPool t).modTile t Tile.forgetJob).invalidateAll t
  (s.wr VCH_KEY_ROT t 0).clearCaptures t none

/-- The tiles that a restore puts in the place of those a job has lost: the lowest free ones, a pair for a pair (R204,
R216). None if there are too few. -/
def State.substitutes (s : State) (j : Job) : Option (List (Nat × Nat)) :=
  let lost := (List.range j.tiles.length).filter fun i => (j.tiles[i]?.toList ++ j.twins[i]?.toList).any s.lost
  let free := s.freeTiles j.policy.mode
  if free.length < lost.length then none
  else some ((lost.zip free).flatMap fun p =>
    (j.tiles[p.1]?.toList.map fun t => (t, p.2)) ++ j.twins[p.1]?.toList.map fun t => (t, succOf p.2))

/-- One tile of a job moves to another: checkpoint, column, log and released results go with it. Under a penned channel the
checkpoint stands as the restore before the pen left it in the tile, the column comes unwritten, and the flows that had
pages there are lost (R149, R216, R233; DESIGN CHOICE, log 52). -/
def State.moveTile (s : State) (j : Job) (ren : Nat → Nat) (p : Nat × Nat) : State :=
  let x := s.tile p.1
  let gone := s.chanClosed p.1
  let r := if gone then (s, []) else s.columnAt p.1
  let s := r.1.takeTile p.2 j.tag (r.1.slotOf j.fn) j.policy
  let s := match x.ckpts.find x.curSlot with
    | none => s
    | some c => (s.fromExport j p.2 c r.2 ren).modTile p.2 fun y => { y with
        ingest := x.ingest.map fun (m : Msg) => { m with dst := p.2 }, logBytes := x.logBytes, relSeq := x.relSeq
        sched := x.sched, colGone := gone, haltJob := true }
  let s := s.releaseTile p.1
  (s.wr TILE_JOB_JOB p.1 0).wr NBC_CTRL_MODE p.1 0

/-- A job is placed anew: tiles, flows and norm patches name the tiles that take the place of lost ones. -/
def State.replace (s : State) (j : Job) (l : List (Nat × Nat)) : State :=
  let ren := renamed l.unzip.1 l.unzip.2
  let s := l.foldl (fun s p => s.moveTile j ren p) s
  let s := s.modSess j.fn fun y => { y with swaps := y.swaps.map fun (k : SwapImg) => { k with tile := ren k.tile } }
  let s : State := { s with
    ports := s.ports.map fun p => (p.1, { p.2 with ingest := p.2.ingest.map fun (m : Msg) => { m with dst := ren m.dst } })
    flows := s.flows.map fun f => if f.job = j.handle then { f with tile := ren f.tile } else f }
  s.modJob j.tag fun j => { j with
    tiles := j.tiles.map ren, twins := j.twins.map ren, patches := j.patches.map fun p => (ren p.1, p.2) }

/-- Row JOB_RESTORE (R190, R194, R203). A job that has lost tiles is placed on free ones (R216; DESIGN CHOICE, log 52). -/
def execJobRestore (m : MbxId) (s : State) : Out :=
  .next (s.runPlain m 0x2005 fun s r =>
    match s.jobByHandle r.object with
    | none => s.finish m stBadArg
    | some j =>
      let image := r.f 0 8 != 0
      let ok := if image then j.state == 2 else j.state == 3 || j.state == 5 || j.state == 7
      if !ok then s.finish m stBadState
      else if s.jobBusy j then s.finish m stBusy
      else match s.bgFree m, s.substitutes j with
        | none, _ => s.finish m stBusy
        | _, none => s.finish m stNoTiles
        | some k, some l =>
          let s := s.replace j l
          let j := (s.jobByTag j.tag).getD j
          if image then (s.finishBg m 0x2005 j.handle [r.f 0 8, r.f 8 4]).importNow m k
          else (s.beginRestore j m k).finishBg m 0x2005 j.handle [])

/-- Row JOB_EXPORT (R194). -/
def execJobExport (m : MbxId) (s : State) : Out :=
  .next (s.run m 0x2006 (fun _ => false) (fun r => r.f 8 4 == 0) (fun r => r.f 0 8 % 4096 != 0) fun s r =>
    match s.jobByHandle r.object with
    | none => s.finish m stBadArg
    | some j =>
      if !(j.state == 5 || j.state == 6 || j.state == 7) then s.finish m stBadState
      else if s.jobBusy j then s.finish m stBusy
      else s.finishBg m 0x2006 j.handle [r.f 0 8, r.f 8 4])

/-- The state of a job as it is exported: a FINISHED or FAILED one is first written as a checkpoint (R194). -/
def State.freezeJob (s : State) (j : Job) : State :=
  if j.state = 5 then s
  else
    let s := s.each j.all fun s t =>
      let slot := 1 - (s.tile t).curSlot
      (s.writeCkpt j.tag t slot (j.ckptSeq + 1)).modTile t fun x => { x.emptyLog with curSlot := slot }
    s.modJob j.tag fun j => { j with ckptSeq := j.ckptSeq + 1, lastCkpt := s.now }

/-- What the body of an export image holds of each tile of a job: the latest checkpoint, and the column with the
undo entries applied. -/
def State.exportTiles (s : State) (j : Job) : State × List (Ckpt × Tbl (Option Bytes)) :=
  j.all.foldl (fun acc t =>
    let r := acc.1.columnAt t
    match (acc.1.tile t).ckpts.find (acc.1.tile t).curSlot with
    | some c => (r.1, acc.2 ++ [(c, r.2)])
    | none => acc) (s, [])

/-- Runs of written lines that follow each other; a poisoned line is one of its own, without data. -/
def runsOf (l : Tbl (Option Bytes)) : List (Nat × Option (List Bytes)) :=
  l.foldr (fun k rs => match k.2, rs with
    | none, rs => (k.1, none) :: rs
    | some b, (n, some bs) :: r => if n = k.1 + 1 then (k.1, some (b :: bs)) :: r else (k.1, some [b]) :: (n, some bs) :: r
    | some b, rs => (k.1, some [b]) :: rs) []

/-- The lines of a run that carry data. -/
def runLines (r : Nat × Option (List Bytes)) : List Bytes := r.2.getD []

/-- A run in an export image: offset, count (bit 31 for a poisoned line), and the lines. -/
def runImage (r : Nat × Option (List Bytes)) : Bytes :=
  toLE 8 (64 * r.1) ++ toLE 4 (match r.2 with | some bs => bs.length | none => 2 ^ 31 + 1) ++ zeros 52
    ++ (runLines r).flatten

/-- A policy as JOB_LOAD carries it, in 32 bytes (R193). -/
def Policy.bytes (p : Policy) : Bytes :=
  toLE 1 p.kind ++ toLE 1 p.mode ++ toLE 1 p.priority ++ toLE 1 p.ingestCh ++ toLE 2 p.ntiles ++ toLE 1 p.wdog
    ++ toLE 1 p.flockK ++ toLE 4 p.period ++ toLE 4 p.ckpt ++ toLE 4 p.digest ++ toLE 2 p.flock ++ zeros 10

/-- The norm patch list in an export image, whose layout the spec does not give. -/
def patchBytes (j : Job) (now : Nat) : Bytes :=
  let n := if j.patches.isEmpty then 0 else Config.patchListLen j.patches.length
  ((List.range (ceilDiv n 64)).flatMap fun i => toLE 64 (Config.patchUnit j.tag now i).toNat).take n

/-- The state record of a checkpoint, whose layout the spec does not give, and its scratchpad image (R218). -/
def Ckpt.image (c : Ckpt) (t : Nat) : Bytes :=
  ((List.range 256).flatMap fun i => toLE 64 (Config.slotLine t (ckptBase 0 / 64 + i) c.seq).toNat)
    ++ Memory.getN c.spad 0 spadSize

/-- The length of an export image before padding (R194). -/
def exportLen (j : Job) (ts : List (Ckpt × Tbl (Option Bytes))) : Nat :=
  let list := if j.patches.isEmpty then 0 else Config.patchListLen j.patches.length
  let runs := fun (l : Tbl (Option Bytes)) => ((runsOf l).map fun r => 64 + 64 * (runLines r).length).sum
  64 + 64 + list + (ts.map fun k => 0x404000 + runs k.2).sum + 32

/-- The body of an export image before encryption, its digest last. -/
def exportBody (j : Job) (now : Nat) (ts : List (Ckpt × Tbl (Option Bytes))) : Bytes :=
  let b := j.policy.bytes ++ zeros 32 ++ patchBytes j now
    ++ (j.all.zip ts).flatMap fun k => k.2.1.image k.1 ++ (runsOf k.2.2).flatMap runImage
  b ++ sha256 b

/-- An export image: the plaintext header, the body under the export key, and zeros to a multiple of 64 KiB. The last
unit is filled with zeros before its encryption (DESIGN CHOICE, log 125). -/
def exportImage (j : Job) (gen key now len at' : Nat) (ts : List (Ckpt × Tbl (Option Bytes))) : Bytes :=
  let head := toLE 4 0x5845584B ++ toLE 2 1 ++ toLE 2 j.tiles.length ++ toLE 4 gen ++ zeros 4 ++ toLE 8 len
    ++ toLE 8 at' ++ zeros 32
  let n := ceilDiv (len - 64) 64
  let body := (chunks 64 n (exportBody j now ts ++ zeros 64)).zipIdx.flatMap fun (u, i) => xtsEncrypt key (2 ^ 62 + i + 1) u
  head ++ body ++ zeros (ceilDiv len 65536 * 65536 - 64 - 64 * n)

/-- Row JOB_EXPORT_DONE (R194). Held lines of the columns that it reads make it wait (R238). -/
def execJobExportDone (m : MbxId) (slot : Fin 8) (s : State) : Out :=
  match s.bgRuns m slot 0x2006 with
  | none => .next s
  | some b => match s.jobByHandle b.object with
    | none => .next s
    | some j =>
      if !s.masters m ∨ j.all.any (fun t => !(s.tile t).heldLines.isEmpty) then .next s
      else
        let s := s.freezeJob j
        let r := s.exportTiles j
        let s := r.1
        let ts := r.2
        let len := exportLen j ts
        let need := ceilDiv len 65536 * 65536
        if b.args.getD 1 0 * 65536 < need then .next (s.bgEnd m slot stNoSpace (toLE 8 0 ++ toLE 8 need))
        else
          let at' := (ts.head?.map fun k => k.1.at').getD 0
          let x := s.sess m
          let img := exportImage j x.gen x.exportKey s.now len at' ts
          let e : Export :=
            { fn := m, gen := x.gen, key := x.exportKey, image := img, at' := at', policy := j.policy
              patches := j.patches.filterMap fun p => (j.all.idxOf? p.1).map fun i => (i, p.2), ids := j.all, tiles := ts }
          let s : State := { s with exports := s.exports ++ [e] }
          .next ((s.wrHost (b.args.getD 0 0) img).bgEnd m slot stOk (toLE 8 need ++ toLE 8 need))

/-! ## Finishing and stopping (R190, R198, R203) -/

/-- FLOW_SUBMIT slots of a job in a state become retired; what they had not delivered counts as skipped, since every
flow of a stopped job is retired (R197, R198). -/
def State.retireSubmits (s : State) (j : Job) (st : Nat) : State :=
  s.each (s.submits j st) fun s k =>
    match s.bg j.fn k with
    | some b =>
      let d := b.args.getD 5 0
      s.bgSet j.fn k 4 stOk (toLE 4 d ++ toLE 4 (b.args.getD 2 0 - d))
    | none => s

/-- Row JOB_FINISH (R190); its batches are retired (R198). -/
def execJobFinish (job : Nat) (s : State) : Out :=
  match s.jobByTag job with
  | none => .next s
  | some j =>
    let done := j.state == 3 && !j.ckptOn && j.all.all fun t =>
      let x := s.tile t
      s.rd TILE_STATE_STATE t == 2 && x.taRun.isNone && x.vecRun.isNone && x.taOpen.isEmpty && x.dual.isEmpty
        && x.detections.isEmpty && x.guarded.isEmpty && x.sendBuf.isNone
    if done && (s.outbound job).isEmpty then
      .next (((s.retireSubmits j 1).retireBatches j true).modJob job fun j => { j with state := 6 })
    else .next s

/-- The tiles that run a recompute for a tile of a job (R211). -/
def State.partnersOf (s : State) (j : Job) : List Nat :=
  (s.tiles.filter fun k => match k.2.recomp with | some r => j.all.contains r.orig | none => false).map (·.1)

/-- A job ends: results retracted, batches and flows retired, swap images discarded, tiles reset and freed, columns
invalidated, the handle forgotten (R190, R217). -/
def State.stopJob (s : State) (j : Job) : State :=
  let s := (s.outbound j.tag).foldl State.refund (s.abortCkpt j.tag)
  let s := (s.haltJob j.tag).dropHeld j.tag
  let s := (s.retireSubmits j 1).retireBatches j true
  let s := s.each (((s.mbox j.fn).bg.filter fun b => b.2.object == j.handle && b.2.state == 1).map (·.1)) fun s k =>
    s.bgEnd j.fn k stAborted
  let fl := (s.flows.filter (·.job == j.handle)).map (·.handle)
  let s := s.modSess j.fn fun x => { x with swaps := x.swaps.filter fun k => !fl.contains k.flow }
  let s := s.each j.all State.releaseTile
  let s := ({ s with
    flows := s.flows.filter (·.job != j.handle)
    drvGrants := s.drvGrants.filter fun c => !j.all.contains c.src } : State).keepCredits fun c => !j.all.contains c.dst
  let s := s.each (s.partnersOf j) State.endRecompute
  s.freeJob j

/-- Row JOB_STOP (R190, R203): it waits while a checkpoint, export or restore of the job runs; a MEM_COPY or MEM_SCRUB of
the job ends with ST_ABORTED (DESIGN CHOICE, log 151: the table of R203 names neither). -/
def execJobStop (m : MbxId) (s : State) : Out :=
  .next (s.runPlain m 0x2007 fun s r =>
    match s.jobByHandle r.object with
    | none => s.finish m stBadArg
    | some j =>
      if j.state = 1 then s.finish m stBadState
      else if s.jobBusy j then s
      else (s.stopJob j).finish m stOk)

end Sys2Proof.Machine
end

