-- ==== Sys2Proof/Machine/Flows.lean ====
section
/-! DEFINITION. Flows and host batches (R148, R195 to R198, R171), and the scheduler that admits tokens to scoring periods
(R354, R355). -/
namespace Sys2Proof.Machine

/-! ## Opening (R148, R154, R195) -/

/-- The drover may write the flow state of a tile and its twin (R156). -/
def State.inWindow' (s : State) (j : Job) (t : Nat) : Bool := (j.pair t).all s.mayWrite

/-- A host command asks for an update window, or has done with it. -/
def State.winAsk (s : State) (j : Job) (t : Nat) (on : Bool) : State :=
  s.each (j.pair t) fun s u => s.modTile u fun x => { x with winReq := on }

/-- A new flow table entry (R154). -/
def fteBytes (h plist cap : Nat) (template : Bool) : Bytes :=
  toLE 4 h ++ toLE 4 plist ++ toLE 2 0 ++ toLE 2 cap ++ zeros 12 ++ toLE 1 (if template then 5 else 1) ++ zeros 7

/-- The flow entry written, and the reply. -/
def State.openFlow (s : State) (m : Nat) (j : Job) (t e : Nat) (r : Req) : State :=
  let cap := clampN 1 4096 (r.f 8 2)
  let pl := min (r.f 4 4 / 16 * 16) (spadSize - 16 * cap)
  let h := s.newHandle m
  let s := (s.winAsk j t false).each (j.pair t) fun s u =>
    s.modTile u fun x => x.wrSpad (x.fteAddr e) (fteBytes h pl cap (bit (r.f 2 1) 0))
  let s : State := { s with flows := s.flows ++ [⟨h, j.handle, m, t, e, 0, true⟩], handles := s.handles + 1 }
  let l := clampOf 4 (r.f 4 4) pl ++ clampOf 8 (r.f 8 2) cap
  s.finish m (if l.isEmpty then stOk else stClamped)
    (toLE 4 h ++ toLE 2 t ++ toLE 2 e ++ toLE 2 l.length ++ zeros 6 ++ l.flatMap clampBytes) l.length

/-- Row FLOW_OPEN (R195). A tile that is penned or off takes no flow (R233): ST_BAD_STATE (DESIGN CHOICE, log 124). -/
def execFlowOpen (m : MbxId) (s : State) : Out :=
  .next (s.run m 0x3001 (fun _ => false) (fun _ => false)
    (fun r => decide (1 < r.f 2 1) || r.f 3 1 != 0 || r.f 10 6 != 0 || (r.f 0 2 != 0xFFFF
      && !(match s.jobByHandle r.object with | some j => j.tiles.contains (r.f 0 2) | none => false)))
    fun s r => match s.jobByHandle r.object with
    | none => s.finish m stBadArg
    | some j =>
      let t := s.flowTile j (r.f 0 2)
      if !(j.state == 2 || j.state == 3 || j.state == 5) || s.nframes t == 0 || (j.pair t).any s.lost then
        s.finish m stBadState
      else match s.emptyEntry t with
        | none => (s.winAsk j t false).finish m stNoSpace
        | some e => if s.inWindow' j t then s.openFlow m j t e r else s.winAsk j t true)

/-! ## Query and retire (R171) -/

/-- The flow is on its way out to, or in from, its swap image, on its tile or the twin (R171). -/
def State.flowSwaps (s : State) (f : Flow) : Bool :=
  (f.tile :: (s.partnerOf f.tile).toList).any fun t => let st := (s.tile t).fteState f.entry; st == 2 || st == 4

/-- The flow stands in the entry that the drover knows. -/
def State.flowAt (s : State) (f : Flow) : Bool := (s.tile f.tile).fte f.entry 0 4 == f.handle

/-- Row FLOW_QUERY (R171). -/
def execFlowQuery (m : MbxId) (s : State) : Out :=
  .next (s.runPlain m 0x3003 fun s r => match s.flowByHandle r.object with
    | none => s.finish m stBadArg
    | some f =>
      let x := s.tile f.tile
      if s.flowSwaps f then s
      else s.finish m stOk (toLE 2 f.tile ++ toLE 1 (x.fteState f.entry) ++ toLE 1 0 ++ toLE 4 (x.fte f.entry 12 4)
        ++ toLE 2 (x.fte f.entry 8 2) ++ zeros 6 ++ toLE 8 (x.fte f.entry 16 8)))

/-- A flow ended by the host: a swapped one leaves its image, the shared frames it names are released (R171). -/
def State.endHostFlow (s : State) (j : Job) (f : Flow) : State :=
  let s := s.modSess j.fn fun x => { x with swaps := x.swaps.filter (·.flow != f.handle) }
  let s := if s.flowAt f then s.each (j.pair f.tile) fun s u => s.retireEntry u f.entry else s
  (s.winAsk j f.tile false).endFlow f.handle

/-- Row FLOW_RETIRE (R171); it waits while the flow swaps, and while its job is being restored. -/
def execFlowRetire (m : MbxId) (s : State) : Out :=
  .next (s.runPlain m 0x3004 fun s r => match s.flowByHandle r.object with
    | none => s.finish m stBadArg
    | some f => match s.jobByHandle f.job with
      | none => s.finish m stBadArg
      | some j =>
        if s.flowSwaps f ∨ j.state = 4 then s
        else if s.inWindow' j f.tile then (s.endHostFlow j f).finish m stOk
        else s.winAsk j f.tile true)

/-! ## Batches (R196 to R198) -/

/-- Row FLOW_SUBMIT (R196). For a FINISHED job the slot is retired at once, with no record delivered (R198). -/
def execFlowSubmit (m : MbxId) (s : State) : Out :=
  .next (s.run m 0x3002 (fun _ => false) (fun r => r.f 12 4 == 0) (fun _ => false) fun s r =>
    match s.jobByHandle r.object with
    | none => s.finish m stBadArg
    | some j =>
      if j.state = 1 then s.finish m stBadState
      else
        let s := s.finishBg m 0x3002 j.handle ([r.f 0 8, r.f 8 4, r.f 12 4, r.order, s.now, 0, 0] ++ List.replicate (r.f 12 4) 0)
        if j.state = 6 then s.retireSubmits j 1 else s)

/-- A record that is skipped (R197); its token must lie in the batch. -/
def State.recSkips (s : State) (j : Job) (b : BgSlot) (k : Record) : Bool :=
  match s.recFlow j k with
  | none => true
  | some f => k.len == 0 || decide (4080 < k.len) || decide (b.a 1 < k.off + 8 + k.len)
      || (match s.drvGrant f.tile j.policy.ingestCh with | some c => decide (c.maxlen < 16 + k.len) | none => false)

/-- The FLOW_SUBMIT slots of a job that may still deliver, before one in acceptance order. -/
def State.slotsBefore (s : State) (j : Job) (order : Nat) : List BgSlot :=
  (((s.mbox j.fn).bg.map Prod.snd).filter fun b =>
    b.opcode == 0x3002 && b.object == j.handle && (b.state == 1 || b.state == 3) && decide (b.a 3 < order))

/-- A flow has an earlier record, in an earlier batch of its job, that still has to be delivered. -/
def State.earlier (s : State) (j : Job) (b : BgSlot) (h : Nat) : Bool :=
  (s.slotsBefore j (b.a 3)).any fun c =>
    (s.slotRecords c).zipIdx.any fun (k, i) => k.handle == h && s.recPending j c i k && !s.recSkips j c k

/-- Whether a record may be taken now: skipped, or delivered on a credit of its tile, and in a scoring period only
what the scheduler has admitted. -/
def State.recReady (s : State) (j : Job) (b : BgSlot) (k : Record) : Bool :=
  s.recSkips j b k || (match s.recFlow j k with
    | some f => (match s.drvGrant f.tile j.policy.ingestCh with | some c => c.n != 0 | none => false)
        && (j.policy.kind != 0 || (s.tile f.tile).sched.host != 0) && !s.earlier j b k.handle
    | none => false)

/-- The first record of a slot that may be taken, of whose flow none comes before it. -/
def State.nextRecord (s : State) (j : Job) (b : BgSlot) : Option (Nat × Record) :=
  (((s.slotRecords b).zipIdx.foldl (fun (acc : Option (Nat × Record) × List Nat) (k : Record × Nat) =>
    if acc.1.isSome ∨ !s.recPending j b k.2 k.1 then acc
    else if acc.2.contains k.1.handle then acc
    else if s.recReady j b k.1 then (some (k.2, k.1), acc.2)
    else (acc.1, k.1.handle :: acc.2)) (none, []))).1

/-- A token admitted of a tile's host budget is delivered, or turns out to be skipped. -/
def State.spendToken (s : State) (t : Nat) (done : Bool) : State :=
  s.modTile t fun x => { x with sched := { x.sched with
    host := x.sched.host - 1, done := x.sched.done + b2n done
    lastDone := if done then s.now else x.sched.lastDone } }

/-- A token goes as a message from 0x410 to the flow's ingest channel (R196), for both tiles of a pair (R208). -/
def State.sendToken (s : State) (j : Job) (f : Flow) (b : BgSlot) (k : Record) (ord : Nat) (c : Credit) : State :=
  let ch := j.policy.ingestCh
  let m : Msg :=
    { src := 0x410, sch := s.rd TILE_RXC_SRC_SCH (chanOf f.tile ch), dst := f.tile, dch := ch, gen := c.gen
      seq := ord % 2 ^ 32, job := j.tag
      payload := toLE 4 f.handle ++ toLE 4 0 ++ toLE 8 ord ++ s.rdHost (b.a 0 + k.off + 8) k.len
      poison := [], rstack := 0, rtile := 0, rch := 0, ta := 0, vec := 0, tSend := s.now }
  let s := s.setDrvGrant { c with n := c.n - 1 }
  let s : State := { s with mesh := s.mesh ++ s.copies m }
  let s : State := { s with flows := s.flows.map fun g => if g.handle = f.handle then { g with ordinal := ord + 1 } else g }
  if j.policy.kind = 0 then s.spendToken f.tile false else s

/-- Row BATCH_TOKEN_DELIVER (R197, R198): one record of a slot is delivered or skipped. After a restart a record keeps
its ordinal and is not counted again. -/
def execBatchTokenDeliver (m : MbxId) (slot : Fin 8) (s : State) : Out :=
  match s.bg m slot with
  | none => .next s
  | some b =>
    match s.jobByHandle b.object with
    | none => .next s
    | some j =>
      if b.opcode ≠ 0x3002 ∨ !(b.state == 1 || b.state == 3) ∨ j.state ≠ 3 ∨ !s.masters m ∨ s.heatStops ∨ s.meshStop then .next s
      else match s.nextRecord j b with
        | none => .next s
        | some (i, k) =>
          let put := fun (s : State) (v d sk : Nat) => s.modMbox m fun x => { x with bg := x.bg.set slot { b with
            args := ((b.args.set (7 + i) v).set 5 (b.a 5 + d)).set 6 (b.a 6 + sk)
            progress := (b.a 5 + b.a 6 + d + sk) * 100 / b.a 2 } }
          if s.recSkips j b k then .next (put s 1 0 (b2n (b.rec' i == 0)))
          else match s.recFlow j k with
            | none => .next s
            | some f => match s.drvGrant f.tile j.policy.ingestCh with
              | none => .next s
              | some c => .next (put (s.sendToken j f b k f.ordinal c) (f.ordinal + 2) (b2n (b.rec' i == 0)) 0)

/-- Row FLOW_SUBMIT_DELIVERED (R198): every record is delivered or skipped. With the job FINISHED the slot is
retired at once. -/
def execFlowSubmitDelivered (m : MbxId) (slot : Fin 8) (s : State) : Out :=
  match s.bgRuns m slot 0x3002 with
  | none => .next s
  | some b =>
    if b.a 5 + b.a 6 < b.a 2 then .next s
    else
      let res := toLE 4 (b.a 5) ++ toLE 4 (b.a 6)
      let s := s.bgSet m slot 3 stOk res
      match s.jobByHandle b.object with
      | some j => .next (if j.state = 6 then s.bgSet m slot 4 stOk res else s)
      | none => .next s

/-! ## The scheduler (R354, R355) -/

/-- Link tokens that wait for a tile in ingest buffers, as (arrival, port). -/
def State.linkTokens (s : State) (t : Nat) : List (Nat × Nat) :=
  (List.range 8).flatMap fun p => ((s.port p).ingest.filter (·.dst == t)).map fun m => (m.tSend, p)

/-- Host tokens that wait for a tile, as (arrival, 8). -/
def State.hostTokens (s : State) (j : Job) (t : Nat) : List (Nat × Nat) :=
  (((s.mbox j.fn).bg.map Prod.snd).filter fun b =>
      b.opcode == 0x3002 && b.object == j.handle && (b.state == 1 || b.state == 3)).flatMap fun b =>
    ((s.slotRecords b).zipIdx.filter fun (k, i) => s.recPending j b i k && !s.recSkips j b k
      && (match s.recFlow j k with | some f => f.tile == t | none => false)).map fun _ => (b.a 4, 8)

/-- A token takes its place by arrival. -/
def insToken (k : Nat × Nat) : List (Nat × Nat) → List (Nat × Nat)
  | [] => [k]
  | a :: r => if k.1 < a.1 then k :: a :: r else a :: insToken k r

/-- The oldest waiting link token of a tile on a port goes onto the mesh. -/
def State.admitLink (s : State) (t p : Nat) : State :=
  match (s.port p).ingest.find? (·.dst == t) with
  | none => s
  | some m =>
    let s := s.modPort p fun x => { x with ingest := x.ingest.erase m }
    { s with mesh := s.mesh ++ s.copies m }

/-- The barrier arrival stamp of a period, once every tile of the job has ended it: it waits for the next HELLO of
each port that the job's function owns (R355). -/
def State.barrier (s : State) (j : Job) (k done : Nat) : State :=
  let g := (j.grid.find k).getD (0, 0)
  let n := g.1 + 1
  let last := max g.2 done
  let s := s.modJob j.tag fun j => { j with
    grid := if n < j.tiles.length then j.grid.set k (n, last) else j.grid.del k }
  if j.policy.flock = 0 ∨ n < j.tiles.length then s
  else s.each ((List.range 8).filter fun p => s.portOwner p == j.fn) fun s p => s.modPort p fun x =>
    { x with stamps := x.stamps ++ [⟨BitVec.ofNat 16 j.policy.flock, BitVec.ofNat 32 k, BitVec.ofNat 64 last⟩] }

/-- The service rate after a period (R354). -/
def Sched.newRate (x : Sched) : Rat × Bool :=
  let busy := x.lastDone - x.firstAt
  if x.done = 0 ∨ busy = 0 then (x.rate, x.rated)
  else
    let f : Rat := (x.done * 1000 : Nat) / (busy : Nat)
    (if x.rated then x.rate + (f - x.rate) / 8 else f, true)

/-- Whether the running period of a tile has ended, and when the next one starts. -/
def Sched.nextAt (x : Sched) : Option Nat :=
  if !x.begun then some x.s
  else if x.done < x.admitted then none
  else some (max (x.s + x.p) (if x.admitted = 0 then 0 else x.lastDone))

/-- What waits in ingest buffers for a tile goes on in arrival order, unless it still has to stay (R28, R102). -/
def State.admitAll (s : State) (t : Nat) : State :=
  let ks := (s.linkTokens t).foldl (fun l k => insToken k l) []
  ks.foldl (fun s k => match (s.port k.2).ingest.find? (·.dst == t) with
    | some m => if s.staysIn m then s else s.admitLink t k.2
    | none => s) s

/-- Row SCHEDULER_PERIOD (R354): the tile's next period begins; tokens are admitted in arrival order. For a tile of a job
that is not a scoring one, or of none, what had to wait in ingest goes on (R28; DESIGN CHOICE, log 148). -/
def execSchedulerPeriod (t : TileId) (s : State) : Out :=
  match s.jobOf t with
  | none => .next (s.admitAll t)
  | some j =>
    let x := (s.tile t).sched
    if j.policy.kind ≠ 0 then .next (s.admitAll t)
    else match x.nextAt with
    | none => .next s
    | some at' =>
      if s.meshStop ∨ j.state ≠ 3 ∨ !j.tiles.contains t.val ∨ s.now < at' then .next s
      else
        let p := j.policy.period * 1000
        let k := if x.begun then x.k + 1 else 0
        let lag := at' - (j.origin + k * p)
        let pk := if lag = 0 then p else max (p / 2) (p - lag)
        let r := x.newRate
        let wait := (s.hostTokens j t ++ s.linkTokens t).foldl (fun l k => insToken k l) []
        let n := if r.2 then min wait.length ((r.1 * pk / 1000).ceil.toNat) else wait.length
        let adm := wait.take n
        let s := if x.begun then s.barrier j x.k x.lastDone else s
        let late := decide (10 * p < lag) && (x.behind == 0 || decide (x.behind + 99 ≤ k))
        let s := if late then s.event evDeadlineBehind (tileUnit t) (some j) else s
        let y : Sched := ⟨k, at', pk, r.1, r.2, n, 0, at', 0, if late then k + 1 else x.behind,
          (adm.filter fun a => a.2 == 8).length, true⟩
        let s := s.modTile t fun z => { z with sched := y }
        .next ((adm.filter fun a => a.2 != 8).foldl (fun s a => s.admitLink t a.2) s)

end Sys2Proof.Machine
end

