-- ==== Sys2Proof/Machine/Mem.lean ====
section
/-! DEFINITION. The MEM_ commands (R150, R168, R184, R252 to R254): page pools, the swap area, scrubs and copies. -/
namespace Sys2Proof.Machine

/-! ## Page pools (R150) -/

/-- The parameters of a pool after clamping. -/
structure PoolPrm where
  dcode : Nat
  ffmt : Nat
  nframes : Nat
  nfte : Nat
  fbase : Nat
  dir : Nat
  ftab : Nat
  reserve : Nat
  deriving DecidableEq, Repr

/-- MEM_POOL_CREATE's parameters, with the clamp entries in ascending offset. -/
def readPool (r : Req) : PoolPrm × List Clamp :=
  let dc := min 3 (r.f 2 1)
  let ff := clampTo 0 1 0 (r.f 3 1)
  let size := pageBytes (if ff = 1 then 2 else 1) (32 * 2 ^ dc)
  let base := min (r.f 8 4 / 64 * 64) (0x10000000 - size)
  let n := clampN 1 (min 65535 ((0x10000000 - base) / size)) (r.f 4 2)
  let nf := clampN 1 4096 (r.f 6 2)
  let dir := clampN 16 (spadSize - 16 * n) (r.f 12 4 / 16 * 16)
  let ft := min (r.f 16 4 / 32 * 32) (spadSize - 32 * nf)
  let res := min (r.f 20 2) (n / 2)
  (⟨dc, ff, n, nf, base, dir, ft, res⟩,
   clampOf 2 (r.f 2 1) dc ++ clampOf 3 (r.f 3 1) ff ++ clampOf 4 (r.f 4 2) n ++ clampOf 6 (r.f 6 2) nf
     ++ clampOf 8 (r.f 8 4) base ++ clampOf 12 (r.f 12 4) dir ++ clampOf 16 (r.f 16 4) ft ++ clampOf 20 (r.f 20 2) res)

/-- A pool set up on a tile: every descriptor FREE, every flow table entry empty, the epoch 0 (R150). -/
def State.createPool (s : State) (p : PoolPrm) (slot t : Nat) : State :=
  let s := ((s.wr TILE_PG_DIR_DIR t (p.dir / 16)).wr TILE_PG_FRAMES_NFRAMES t p.nframes).wr TILE_PG_FRAMES_RESERVE t p.reserve
  let s := ((s.wr TILE_PG_BASE_FBASE t (p.fbase / 64)).wr TILE_PG_GEOM_DCODE t p.dcode).wr TILE_PG_GEOM_FFMT t p.ffmt
  let s := (s.wr TILE_PG_GEOM_KSLOT t slot).wr TILE_PG_EPOCH_EPOCH t 0
  let s := (s.wr TILE_PG_FREE_FREE t p.nframes).wr TILE_PG_FREE_PENDING t 0
  s.modTile t fun x =>
    let x := { x with
        epochAt := s.now, ftab := p.ftab, nfte := p.nfte, ckWait := [], zeroFrames := [], victims := [], fetches := [], swaps := [] }
    let x := x.wrSpad p.dir ((List.range p.nframes).flatMap fun i => (⟨0, 0, 0, 0, false, false, 0, i, 0⟩ : PageDesc).bytes)
    x.wrSpad p.ftab (zeros (32 * p.nfte))

/-- A tile ID of a command that is not one of the named job's tiles. -/
def State.notJobTile (s : State) (r : Req) (off : Nat) : Bool :=
  r.f off 2 != 0xFFFF && !(match s.jobByHandle r.object with | some j => j.tiles.contains (r.f off 2) | none => false)

/-- Row MEM_POOL_CREATE (R150). In Dual mode a twin gets the pool of its tile. -/
def execMemPoolCreate (m : MbxId) (s : State) : Out :=
  .next (s.run m 0x4001 (fun _ => false) (fun _ => false) (fun r => r.f 22 2 != 0 || s.notJobTile r 0) fun s r =>
    match s.jobByHandle r.object with
    | none => s.finish m stBadArg
    | some j =>
      if j.state ≠ 2 then s.finish m stBadState
      else
        let k := readPool r
        let ts := if r.f 0 2 = 0xFFFF then j.tiles else [r.f 0 2]
        let s := (s.flows.filter fun f => f.live && ts.contains f.tile).foldl (fun s f => s.endFlow f.handle) s
        let s := s.each (ts.flatMap j.pair) fun s t => s.createPool k.1 (s.slotOf m) t
        s.finishClamps m k.2)

/-! ## The swap area (R168) -/

/-- A flow of the function is swapped, or on its way. -/
def State.anySwapped (s : State) (f : Nat) : Bool :=
  s.flows.any fun k => k.live && k.fn == f && (let st := (s.tile k.tile).fteState k.entry; st == 2 || st == 3 || st == 4)

/-- Row MEM_SWAP_AREA (R168). -/
def execMemSwapArea (m : MbxId) (s : State) : Out :=
  .next (s.run m 0x4002 (fun _ => false) (fun r => r.f 8 8 == 0 && !bit (r.f 16 1) 0)
    (fun r => decide (1 < r.f 16 1) || r.f 17 7 != 0 || r.f 0 8 % 4096 != 0 || r.f 8 8 % 4096 != 0) fun s r =>
      if bit (r.f 16 1) 0 then
        if s.anySwapped m then s.finish m stBadState
        else (s.modSess m fun x => { x with swap := none }).finish m stOk
      else (s.modSess m fun x => { x with swap := some (r.f 0 8, r.f 8 8) }).finish m stOk)

/-! ## Scrubs (R252 to R254) -/

/-- The range of a scrub after rounding and cutting: first line, lines, clamp entries. -/
def scrubRange (r : Req) : Nat × Nat × List Clamp :=
  let off := r.f 4 4 / 64 * 64
  let len := min (ceilDiv (r.f 8 4) 64 * 64) (colLines * 64 - off)
  (off / 64, len / 64, clampOf 4 (r.f 4 4) off ++ clampOf 8 (r.f 8 4) len)

/-- The tiles of a scrub, or none when the one it names cannot be scrubbed. -/
def State.scrubTiles (s : State) (r : Req) : Option (List Nat) :=
  let t := r.f 0 2
  if t ≠ 0xFFFF then if s.chanClosed t then none else some [t]
  else match s.jobByHandle r.object with
    | some j => some (j.all.filter fun u => !s.chanClosed u)
    | none => some ((List.range 1024).filter s.chanUp)

/-- A tile on which no earlier scrub runs. -/
def State.scrubFree (s : State) (order t : Nat) : Bool :=
  s.scrubSlots.all fun k => !(decide (k.2.2.a 0 < order) && k.2.2.scrubs.contains t)

/-- A scrub starts once one of its tiles is free of earlier ones (R253, R254). -/
def State.startScrubs (s : State) : State :=
  s.scrubSlots.foldl (fun s k =>
    if k.2.2.a 1 = 0 ∧ (k.2.2.scrubs.isEmpty ∨ k.2.2.scrubs.any (s.scrubFree (k.2.2.a 0))) then
      s.modMbox k.1 fun x => { x with bg := x.bg.set k.2.1 { k.2.2 with args := k.2.2.args.set 1 (s.now + 1) } }
    else s) s

/-- A scrub that may not name a tile: a function's, outside the job (R252). -/
def State.scrubDenied (s : State) (m : Nat) (r : Req) : Bool :=
  decide (m < 16) && r.len == 12 && r.f 0 2 != 0xFFFF
    && (match s.jobByHandle r.object with | some j => !j.all.contains (r.f 0 2) | none => false)

/-- Row MEM_SCRUB (R252). -/
def execMemScrub (m : MbxId) (s : State) : Out :=
  .next (s.run m 0x4003 (s.scrubDenied m) (fun r => r.f 8 4 == 0)
    (fun r => r.f 2 2 != 0 || decide (0x10000000 ≤ r.f 4 4) || (r.f 0 2 != 0xFFFF
      && (match s.jobByHandle r.object with | some j => !j.all.contains (r.f 0 2) | none => decide (1024 ≤ r.f 0 2))))
    fun s r => match s.scrubTiles r with
      | none => s.finish m stBadState
      | some ts =>
        let k := scrubRange r
        (s.finishBg m 0x4003 r.object ([r.order, 0, k.1, k.2.1, 0] ++ ts) [] k.2.2).startScrubs)

/-- What a scrub of a range of a tile's lines does: lines corrected and poisoned. Lines on the array that nothing listed
are unwritten, or good (R253). -/
def State.scrubTile (s : State) (t first count : Nat) : State × Nat × Nat :=
  ((s.tile t).col.filter fun k => decide (first ≤ k.1 ∧ k.1 < first + count)).foldl
    (fun (a : State × Nat × Nat) (k : Nat × Line) =>
      match classify k.2 k.1 with
      | .poisoned => (a.1.poisonRead t k.1, a.2.1, a.2.2 + 1)
      | .failed =>
        let s := ((a.1.crcErr t 3).vchErr t k.1 0).settleFailed t k.1
        if classify ((s.tile t).line k.1) k.1 = .poisoned then (s, a.2.1, a.2.2 + 1) else (s, a.2.1 + 1, a.2.2)
      | _ => a) (s, 0, 0)

/-- Row MEM_SCRUB_DONE (R253): lines whose check failed only on the way have rows of their own, REFETCH_RESULT. -/
def execMemScrubDone (m : MbxId) (slot : Fin 8) (s : State) : Out :=
  match s.bgRuns m slot 0x4003 with
  | none => .next s
  | some b =>
    let ts := b.scrubs
    if b.a 1 = 0 ∨ !ts.all (s.scrubFree (b.a 0)) ∨ ts.any (fun t => s.rangeHeld t (b.a 2) (b.a 3)) then .next s
    else
      let r := ts.foldl (fun (a : State × Nat × Nat) (t : Nat) =>
        let k := a.1.scrubTile t (b.a 2) (b.a 3)
        (k.1, a.2.1 + k.2.1, a.2.2 + k.2.2)) (s, b.a 4, 0)
      .next ((r.1.bgEnd m slot stOk (toLE 8 (ts.length * b.a 3) ++ toLE 8 r.2.1 ++ toLE 8 r.2.2
        ++ toLE 8 (s.now + 1 - b.a 1))).startScrubs)

/-! ## Copies (R184, R186) -/

/-- The checks of a copy's place: its space, tile index, alignment and end. -/
def State.copyBad (s : State) (r : Req) : Bool :=
  let col := bit (r.f 14 1) 1
  let al := if col then 64 else 4
  let n := match s.jobByHandle r.object with | some j => j.tiles.length | none => 0
  decide (3 < r.f 14 1) || r.f 15 1 != 0 || decide (n ≤ r.f 12 2) || r.f 16 4 % al != 0 || r.f 8 4 % al != 0
    || decide ((if col then colLines * 64 else spadSize) < r.f 16 4 + r.f 8 4)

/-- Row MEM_COPY (R184). A column that cannot be reached (R24, R233) is a wrong state (DESIGN CHOICE, log 108). -/
def execMemCopy (m : MbxId) (s : State) : Out :=
  .next (s.run m 0x4004 (fun _ => false) (fun r => r.f 8 4 == 0) s.copyBad fun s r =>
    match s.jobByHandle r.object with
    | none => s.finish m stBadArg
    | some j =>
      if !(j.state == 2 || j.state == 5 || j.state == 6 || j.state == 7)
          || (bit (r.f 14 1) 1 && s.chanClosed (j.tiles.getD (r.f 12 2) 0)) then s.finish m stBadState
      else s.finishBg m 0x4004 j.handle [r.f 0 8, r.f 8 4, r.f 12 2, r.f 14 1, r.f 16 4])

/-- Column lines read for the host: poisoned ones as zeros, each counted and recorded (R184). -/
def State.copyOutCol (s : State) (j : Job) (t l n : Nat) : State × Bytes × Nat :=
  (List.range n).foldl (fun (a : State × Bytes × Nat) (i : Nat) =>
    let failed := classify ((a.1.tile t).line (l + i)) (l + i) == .failed
    let r := a.1.readLine t (l + i) (a.1.slotFor t (l + i))
    let s := if failed && r.2.poison then r.1.event evPoisonRead (chanUnit t) (some j) else r.1
    (s, a.2.1 ++ r.2.data, a.2.2 + b2n (r.2.poison && !r.2.empty))) (s, [], 0)

/-- Scratchpad bytes read for the host: those in poisoned lines as zeros (R184). -/
def State.copyOutSpad (s : State) (j : Job) (t a n : Nat) : State × Bytes × Nat :=
  let x := s.tile t
  let bad := (linesOf a n).filter fun l => x.poison.contains l
  let b := (x.rdSpad a n).zipIdx.map fun (v, i) => if bad.contains ((a + i) / 64) then 0#8 else v
  (s.each bad fun s _ => s.event evPoisonRead (tileUnit t) (some j), b, bad.length)

/-- Bytes of the host written to a tile and its twin (R78, R243). -/
def State.copyIn (s : State) (j : Job) (t off : Nat) (col : Bool) (b : Bytes) : State :=
  s.each (j.pair t) fun s u =>
    if col then s.each (List.range (b.length / 64)) fun s i =>
      s.writeLine u (off / 64 + i) (s.slotFor u (off / 64 + i)) (sub b (64 * i) 64)
    else s.modTile u fun x => x.move off b fun _ => false

/-- Row MEM_COPY_DONE (R184, R186). A column that has become unreachable meanwhile ends the copy (log 108). -/
def execMemCopyDone (m : MbxId) (slot : Fin 8) (s : State) : Out :=
  match s.bgRuns m slot 0x4004 with
  | none => .next s
  | some b => match s.jobByHandle b.object with
    | none => .next s
    | some j =>
      let t := j.tiles.getD (b.a 2) 0
      let col := bit (b.a 3) 1
      if col ∧ s.chanClosed t then .next (s.bgEnd m slot stBadState)
      else if !s.masters m ∨ (col ∧ s.rangeHeld t (b.a 4 / 64) (b.a 1 / 64)) then .next s
      else if bit (b.a 3) 0 then
        let r := if col then s.copyOutCol j t (b.a 4 / 64) (b.a 1 / 64) else s.copyOutSpad j t (b.a 4) (b.a 1)
        .next ((r.1.wrHost (b.a 0) r.2.1).bgEnd m slot stOk (toLE 4 (b.a 1) ++ toLE 4 r.2.2))
      else
        .next ((s.copyIn j t (b.a 4) col (s.rdHost (b.a 0) (b.a 1))).bgEnd m slot stOk (toLE 4 (b.a 1) ++ toLE 4 0))

end Sys2Proof.Machine
end

