-- ==== Sys2Proof/Machine/Sess.lean ====
section
/-! DEFINITION. Sessions (R189, R256, R259 to R262): opening, key rotation, closing, the overwrite. -/
namespace Sys2Proof.Machine

/-- SSTATE changes, with MSI-X vector 7 (R185, R188). -/
def State.setSstate (s : State) (f v : Nat) : State :=
  ((s.modSess f fun x => { x with state := v }).wr MBX_SP_INFO_SSTATE f v).irq f 7

/-- A drawn key whose halves are equal is drawn again (R256). -/
def goodKey (k : Nat) : Bool := k % 2 ^ 256 != k / 2 ^ 256

/-- Row SESS_OPEN (R189, R256, R194). A draw with equal halves leaves the command waiting for the next draw. -/
def execSessOpen (m : MbxId) (trngOk : Bool) (s : State) : Out :=
  .next (s.runPlain m 0x5001 fun s _ =>
    if (s.sess m).state ≠ 0 then s.finish m stBadState
    else if !trngOk then s.finish m stBusy
    else
      let k := (Config.trng s.drawn).toNat
      let e := (Config.trng (s.drawn + 1)).toNat
      let s : State := { s with drawn := s.drawn + 2 }
      if !goodKey k || !goodKey e then s
      else
        let g := s.sessGen + 1
        let s : State := { s with sessGen := g, keys := s.keys.set (2 * m.val) k }
        let s := s.modSess m fun _ => { Session.reset with gen := g, exportKey := e }
        (s.setSstate m 1).finish m stOk (toLE 4 g))

/-- Row SESS_ROTATE_KEY (R189, R259 steps 1 and 2; 3 and 4 have rows of their own). -/
def execSessRotateKey (m : MbxId) (trngOk : Bool) (s : State) : Out :=
  .next (s.runPlain m 0x5002 fun s _ =>
    match s.bgFree m with
    | none => s.finish m stBusy
    | some k =>
      if (s.sess m).rotating ∨ !trngOk then s.finish m stBusy
      else
        let key := (Config.trng s.drawn).toNat
        let s : State := { s with drawn := s.drawn + 1 }
        if !goodKey key then s
        else
          let old := s.slotOf m
          let new := s.oldSlotOf m
          let ts := s.sessTiles m
          let s : State := { s with keys := s.keys.set new key }
          let s := s.modSess m fun x =>
            { x with keyGen := 1 - x.keyGen, rotating := true, bulkDone := ts.isEmpty, rotSlot := k, rotMoved := 0 }
          let s := s.each ts fun s t => s.modTile t fun x => { x with winActs := x.winActs ++ [.keySlot new old] }
          s.finishBg m 0x5002 0 [])

/-! ## The bulk pass (R259, R260) -/

/-- The next line that the bulk pass of a tile moves: the lowest at or above the mark, outside the pool frames, that is
neither unwritten nor poisoned. -/
def State.nextRotLine (s : State) (t : Nat) : Option Nat :=
  let mark := s.rd VCH_ROT_MARK_MARK t
  ((s.tile t).col.filter fun k => decide (mark ≤ k.1) && (s.frameOf t k.1).isNone
    && classify k.2 k.1 != .unwritten && classify k.2 k.1 != .poisoned).foldl
    (fun a k => match a with
      | none => some k.1
      | some l => some (min l k.1)) none

/-- A tile's bulk pass ends: ROT returns to 0 (R259). -/
def State.endBulk (s : State) (t : Nat) : State :=
  let s := s.wr VCH_KEY_ROT t 0
  match s.jobOf t with
  | some j => s.bulkCheck j.fn
  | none => s

/-- Row ROTATION_LINE_MOVE (R259): the line is read under PREV, written under CUR, and the mark passes it; past the
column's last line the pass ends. -/
def execRotationLineMove (t : TileId) (s : State) : Out :=
  if !s.rdb VCH_KEY_ROT t ∨ !s.chanUp t then .next s
  else match s.nextRotLine t with
    | none => .next s
    | some l =>
      if (s.tile t).heldLines.any (fun k => k.1 == l) then .next s
      else
        let r := s.readLine t l (s.rd VCH_KEY_PREV t)
        let s := match s.key (s.rd VCH_KEY_CUR t) with
          | some key => if r.2.poison then r.1 else r.1.putLine t l (goodLine key t l r.2.data)
          | none => r.1
        .next (if l + 1 = colLines then s.endBulk t else s.wr VCH_ROT_MARK_MARK t (l + 1))

/-- Row ROTATION_BULK_PASS_END (R259 steps 3 and 4). A channel that no longer answers has no line to move. -/
def execRotationBulkPassEnd (t : TileId) (s : State) : Out :=
  if !s.rdb VCH_KEY_ROT t ∨ (s.chanUp t ∧ (s.nextRotLine t).isSome) then .next s else .next (s.endBulk t)

/-! ## Closing (R189, R261) -/

/-- The function's data in the drover and at its ports goes: released results that wait for its rings, and what its
ports hold (R262, R370). -/
def State.dropFunction (s : State) (f : Nat) : State :=
  let s : State := { s with ringQ := s.ringQ.drop fun k => k / 4 == f }
  let s := s.each (List.range 4) fun s n => s.setStall (ringOf f n)
  s.each ((List.range 8).filter fun p => s.portOwner p == f) fun s p => s.ownerLeaves p f

/-- The records of a function that wait to be written lose their DETAIL, where captured operands stand (R262). -/
def State.blankRecords (s : State) (f : Nat) : State :=
  { s with
    events := s.events.map fun (e : EventRec) => if e.tenant = f then { e with detail := [] } else e
    evKept := s.evKept.map fun (b : Bytes) => if fld b 26 1 = f then b.take 40 ++ zeros 24 else b }

/-- The first steps of a session's close: jobs stopped, operations aborted, flows retired, images discarded, both key
slots and the export key erased, SSTATE 2. The columns' overwrite follows. -/
def State.closeSession (s : State) (f : Nat) : State :=
  let s := s.dropFunction f
  let s := (s.jobs.filter (·.fn == f)).foldl State.stopJob s
  let s := s.bgAbort f
  let s : State := { s with
    idleFrom := s.now, flows := s.flows.filter (·.fn != f), exports := s.exports.filter (·.fn != f)
    keys := (s.keys.del (2 * f)).del (2 * f + 1) }
  let s := s.modSess f fun x =>
    { x with swaps := [], swap := none, exportKey := 0, rotating := false, bulkDone := false, scrubbed := [], bytes := 0 }
  (s.blankRecords f).setSstate f 2

/-- Row SESS_CLOSE (R189, R261). -/
def execSessClose (m : MbxId) (s : State) : Out :=
  .next (s.runPlain m 0x5003 fun s _ =>
    match s.bgFree m with
    | none => s.finish m stBusy
    | some k => ((s.closeSession m).modSess m fun x => { x with closeSlot := some k }).finishBg m 0x5003 0 [])

/-- The valid lines of a tile's checkpoint slots that the column does not list: record, image, and the used part of the
log (R218). -/
def Tile.slotLines (x : Tile) : Nat :=
  (x.ckpts.map fun c =>
    let base := ckptBase c.1 / 64
    let n := 0x10100 + if c.1 = x.curSlot then ceilDiv x.logBytes 64 else 0
    n - (x.col.filter fun k => decide (base ≤ k.1 ∧ k.1 < base + n)).length).sum

/-- Row SESSION_OVERWRITE_PASS (R261): one tile of the map. Marked lines take zero data and keep their mark. A column
whose contents are lost, its fold off, is passed over. -/
def execSessionOverwritePass (f : FnId) (t : TileId) (s : State) : Out :=
  let x := s.sess f
  if x.state ≠ 2 ∨ !x.written.contains t.val ∨ x.scrubbed.contains t.val then .next s
  else
    let live := (s.tile t).col.filter fun k => classify k.2 k.1 != .unwritten
    let n := if s.foldOff (foldOf t) then 0 else 64 * (colLines - live.length - (s.tile t).slotLines)
    .next ((s.modTile t fun y => { y with col := live }).modSess f fun x =>
      { x with scrubbed := x.scrubbed ++ [t.val], bytes := x.bytes + n })

/-- Row SESSION_SCRUB_DONE (R261). -/
def execSessionScrubDone (f : FnId) (s : State) : Out :=
  let x := s.sess f
  if x.state ≠ 2 ∨ !x.written.all x.scrubbed.contains then .next s
  else
    let s := match x.closeSlot with
      | some k => s.bgEnd f k stOk (toLE 8 x.bytes)
      | none => s
    .next ((s.setSess f Session.reset).setSstate f 0)

/-! ## Status (R174) -/

/-- Pages under a generation's slot: directory entries that are not FREE, and swap images. -/
def State.pagesUnder (s : State) (f gen : Nat) : Nat :=
  (s.sessTiles f).foldl (fun n t => n + ((List.range (s.nframes t)).filter fun i =>
      (s.dirEntry t i).fmt != 0 && (s.dirEntry t i).kslot == 2 * f + gen).length)
    ((s.sess f).swaps.filter (·.gen == gen)).length

/-- Row SESS_STATUS (R173, R174). -/
def execSessStatus (m : MbxId) (s : State) : Out :=
  .next (s.runPlain m 0x5004 fun s _ =>
    let x := s.sess m
    s.finish m stOk (toLE 1 x.keyGen ++ toLE 1 (b2n x.rotating) ++ zeros 6 ++ toLE 8 (s.pagesUnder m x.keyGen)
      ++ toLE 8 (s.pagesUnder m (1 - x.keyGen))))

end Sys2Proof.Machine
end

