-- ==== Sys2Proof/Machine/Channel.lean ====
section
/-! DEFINITION. The vertical channel's own rows (R238 to R251, R263 to R265): a request to one line, refetches and
recomputation, refresh, invalidation, training and retraining. -/
namespace Sys2Proof.Machine

/-- The running scrubs that reach a line (R252). -/
def State.scrubsAt (s : State) (t l : Nat) : List (Nat × Nat × BgSlot) :=
  s.scrubSlots.filter fun k => k.2.2.a 1 != 0 && k.2.2.scrubs.contains t && s.scrubFree (k.2.2.a 0) t
    && decide (k.2.2.a 2 ≤ l ∧ l < k.2.2.a 2 + k.2.2.a 3)

/-- A scrub's own read has been corrected: its Corrected count advances (R253). -/
def State.scrubCorrected (s : State) (t l : Nat) : State :=
  (s.scrubsAt t l).foldl (fun s k => s.modMbox k.1 fun x =>
    { x with bg := x.bg.set k.2.1 { k.2.2 with args := k.2.2.args.set 4 (k.2.2.a 4 + 1) } }) s

/-- A line's handling begins: the failed check counted, the line held (R244, R249). `own` tells whether a request of the
tile waits on it. -/
def State.holdLine (s : State) (t l : Nat) (merge : Option (Nat × Bytes)) (own : Bool) : State :=
  ((s.crcErr t 1).vchErr t l 0).modTile t fun x =>
    { x with heldLines := x.heldLines.set l ⟨0, s.now, false, merge, own, false, false⟩ }

/-- A partial write's new bytes merged into the line as it stands; a poisoned line keeps its poison, and an empty slot
writes nothing (R243, R258). -/
def State.mergeNow (s : State) (t l off : Nat) (data : Bytes) : State :=
  let d := s.deliver t l (s.slotFor t l) (s.arrayLine t l)
  if d.poison then s
  else s.writeLine t l (s.slotFor t l) (d.data.take off ++ data ++ d.data.drop (off + data.length))

/-- The watchdogs of the tiles whose requests may wait on a line are held or count on (R248). -/
def State.wdogLine (s : State) (t l : Nat) : State :=
  let tiles := (s.tiles.filter fun k => k.2.xfers.any fun f => f.status.isNone && (f.lines k.1).any fun c =>
    c.1 == t && decide (c.2.1 ≤ l ∧ l < c.2.1 + c.2.2)).map (·.1)
  (s.wdogGo t).each tiles State.wdogGo

/-- The undo entry of a line's block, newest first, takes up what the line holds after its handling (R220, R238). -/
def State.lateUndo (s : State) (t l : Nat) : State :=
  let r := s.undoLine t l
  let put := fun (u : Nat × Tbl (Option Bytes)) => if u.1 = l / 64 then (u.1, u.2.filter (·.1 ≠ l) ++ r.2) else u
  r.1.modTile t fun x => { x with undo := x.undo.map put }

/-- A held line's handling ends: an undo entry takes it up, what waited to be merged is merged, an invalidation that met it marks it, and the
watchdogs count on (R238, R248, R251). -/
def State.endLine (s : State) (t l : Nat) : State :=
  let h := (s.tile t).heldLines.find l
  let s := s.modTile t fun x => { x with heldLines := x.heldLines.del l }
  let s := if (h.map (·.undo)).getD false then s.lateUndo t l else s
  let s := match h.bind (·.merge) with
    | some (off, b) => s.mergeNow t l off b
    | none => s
  let s := if (h.map (·.mark)).getD false then s.invalidate t l 1 else s
  (s.wdogLine t l).poolWake t

/-- Row LINE_READ (R242): a line is read, with bits that flip on the way. Under a running scrub of the line the read is the
scrub's, otherwise a request of the tile (DESIGN CHOICE, log 119). -/
def execLineRead (t : TileId) (line : BitVec 22) (flip : Bytes) (s : State) : Out :=
  let l := line.toNat
  let k := s.fitBytes 0 68 flip
  let s := k.1
  let flip := k.2
  if !s.chanUp t ∨ s.lineHeld t l then .next s
  else match classify ((s.arrayLine t l).flipped flip) l with
    | .unwritten => .next s
    | .good => .next (if (s.key (s.slotFor t l)).isNone then s.vchErr t l 5 else s)
    | .poisoned => .next (s.poisonRead t l)
    | .failed => .next (s.holdLine t l none (s.scrubsAt t l).isEmpty)

/-- Row REFETCH_RESULT (R244, R246, R249). -/
def execRefetchResult (t : TileId) (line : BitVec 22) (flip : Bytes) (s : State) : Out :=
  let l := line.toNat
  let k := s.fitBytes 0 68 flip
  let s := k.1
  let flip := k.2
  match (s.tile t).heldLines.find l with
  | none => .next s
  | some h =>
    if h.drover then .next s
    else
      let n := (s.arrayLine t l).flipped flip
      match classify n l with
      | .good =>
        let s := ((s.putLine t l n).cnt VCH_CORR_COUNT t 1).vchErr t l 1
        let s := (s.lifeInc (chanUnit t) 1 1).modTile t fun x => { x with corrRun := x.corrRun + 1 }
        .next ((if h.own then s else s.scrubCorrected t l).endLine t l)
      | .poisoned => .next (((s.putLine t l n).poisonRead t l).endLine t l)
      | .unwritten => .next (((s.putLine t l n).vchErr t l 0).endLine t l)
      | .failed =>
        let s := (s.crcErr t 1).vchErr t l 0
        if h.tries = 0 then .next (s.modTile t fun x => { x with heldLines := x.heldLines.set l { h with tries := 1 } })
        else if (s.recompSource t l).isSome then
          .next ((s.modTile t fun x => { x with heldLines := x.heldLines.set l { h with tries := 2, drover := true } }).wdogLine t l)
        else .next ((s.poison t l).endLine t l)

/-- Row LINE_RECOMPUTE (R245, R246): the drover's work on a line ends within its 250 µs, or not. -/
def execLineRecompute (t : TileId) (line : BitVec 22) (inTime : Bool) (s : State) : Out :=
  let l := line.toNat
  match (s.tile t).heldLines.find l with
  | none => .next s
  | some h =>
    if !h.drover then .next s
    else
      let s := if inTime ∧ s.now ≤ h.since + 250000 then s.settleFailed t l else s.poison t l
      let done := !h.own && classify ((s.tile t).line l) l != .poisoned
      .next ((if done then s.scrubCorrected t l else s).endLine t l)

/-- Row LINE_WRITE (R243, R258). -/
def execLineWrite (t : TileId) (line : BitVec 22) (data : Bytes) (s : State) : Out :=
  let l := line.toNat
  let k := s.fitBytes 64 64 data
  let s := k.1
  if !s.chanUp t ∨ s.lineHeld t l then .next s
  else .next (s.writeLine t l (s.slotFor t l) k.2)

/-- The tile's running operation is an ATTN that appends. -/
def State.appending (s : State) (t : Nat) : Bool :=
  match (s.tile t).taRun with
  | some op => fld op.desc 0 1 == 2 && (Attn.of op.desc).append
  | none => false

/-- Row PARTIAL_LINE_WRITE (R243): of a running ATTN's append, else a write of the drover. -/
def execPartialLineWrite (t : TileId) (line : BitVec 22) (off : BitVec 6) (data : Bytes) (s : State) : Out :=
  let l := line.toNat
  let k := s.fitBytes 1 (64 - off.toNat) data
  let s := k.1
  let data := k.2
  if !s.chanUp t ∨ s.lineHeld t l then .next s
  else match classify (s.arrayLine t l) l with
    | .failed => .next (s.holdLine t l (some (off.toNat, data)) (s.appending t))
    | .poisoned => .next (s.poisonRead t l)
    | .good =>
      if (s.key (s.slotFor t l)).isNone then .next (s.vchErr t l 5) else .next (s.mergeNow t l off.toNat data)
    | .unwritten => .next (s.mergeNow t l off.toNat data)

/-- Row REFRESH (R239): each bank of each layer once every 32 ms, or 16 ms above 85 °C, while the fold's CIR runs. -/
def execRefresh (t : TileId) (layer : BitVec 2) (bank : BitVec 4) (s : State) : Out :=
  let k := 16 * layer.toNat + bank.toNat
  let n := if s.rdb VCH_STATE_REFRESH2X t then 16000000 else 32000000
  if s.foldOff (foldOf t) ∨ !s.regOn (cirOf (foldOf t)) ∨ s.now < ((s.tile t).lastRefresh.find k).getD 0 + n then .next s
  else .next (s.modTile t fun x => { x with lastRefresh := x.lastRefresh.set k s.now })

/-- Row INVALIDATE_RANGE (R250, R251): a held line is marked after its handling ends. -/
def execInvalidateRange (t : TileId) (first : BitVec 22) (count : Nat) (s : State) : Out :=
  if s.foldOff (foldOf t) then .next s
  else .next (s.invalidate t first.toNat (min count (colLines - first.toNat)))

/-! ## Training and repair (R263 to R265) -/

/-- Row repair entries of a tile that apply, and those that are dropped: a nonzero reserved bit, a spare already used, a
row already repaired. -/
def rowRepairs (l : List Nat) (t : Nat) : List Nat × List Nat :=
  (l.filter fun e => bf e 21 10 == t).foldl (fun (a : List Nat × List Nat) (e : Nat) =>
    if bit e 31 || a.1.any (fun d => bf d 11 10 == bf e 11 10 || bf d 0 17 == bf e 0 17) then (a.1, a.2 ++ [e])
    else (a.1 ++ [e], a.2)) ([], [])

/-- Lane repair entries likewise. -/
def laneRepairs (l : List Nat) (t : Nat) : List Nat × List Nat :=
  (l.filter fun e => bf e 0 10 == t).foldl (fun (a : List Nat × List Nat) (e : Nat) =>
    if bf e 21 11 != 0 || decide (135 < bf e 10 8) || a.1.any (fun d => bf d 18 3 == bf e 18 3 || bf d 10 8 == bf e 10 8) then
      (a.1, a.2 ++ [e])
    else (a.1 ++ [e], a.2)) ([], [])

/-- The Configuration Report is being built: in a start-up, or anew after a drover restart (R409). -/
def State.reporting (s : State) : Bool :=
  s.phase == .rom || s.phase == .firmware || s.phase == .recovery || s.phase == .drover

/-- A finding joins the Configuration Report of the start-up: 1,024 entries in ascending ID, the last then a count (R409). -/
def State.finding (s : State) (id w a : Nat) : State :=
  if !s.reporting then s else
  let excess := match s.report.getLast? with
    | some c => if c.1 = 0xFFFF then c.2.1 else 0
    | none => 0
  let l := insClamp (id, w, a) (s.report.filter fun c => c.1 != 0xFFFF)
  { s with report := if excess = 0 ∧ l.length ≤ 1024 then l else l.take 1023 ++ [(0xFFFF, excess + l.length - 1023, 0)] }

/-- The spare lanes that are free, lowest first, when the list's repairs and some replacements of training use theirs. -/
def freeSpares (listed : List Nat) (used : Nat) : List Nat :=
  ((List.range 8).filter fun k => !listed.any fun e => bf e 18 3 == k).drop (used - listed.length)

/-- Lanes replaced in a training take the free spares, with a finding each (R264, R409). -/
def State.replaceLanes (s : State) (t : Nat) (listed lanes : List Nat) : State :=
  let spares := freeSpares listed (s.rd VCH_REPAIR_LANES t)
  let l := lanes.zip spares
  let s := l.foldl (fun s k => s.finding 0xF006 (t + k.1 * 2 ^ 10) (t + k.1 * 2 ^ 10 + k.2 * 2 ^ 18)) s
  s.wr VCH_REPAIR_LANES t (s.rd VCH_REPAIR_LANES t + l.length)

/-- A training that a channel can have made (R264): it ends with the first attempt in which every layer passes, or with
the third. -/
def trainingOk (r : Training) : Bool :=
  let l := r.attempts
  decide (1 ≤ l.length ∧ l.length ≤ 3) && (l.dropLast.all fun a => a != 15#4) && (l.length == 3 || l.getLast? == some 15#4)

/-- The training that a channel makes: attempts beyond the first that passes do not happen, and where none of fewer than
three passes the layers that pass in the others are free values (log 118). -/
def State.fitTraining (s : State) (r : Training) : State × Training :=
  if trainingOk r then (s, r)
  else
    let l := (r.attempts ++ (List.range 3).map fun i => (Config.free (s.drawn + i)).setWidth 4).take 3
    let n := (l.takeWhile fun a => a != 15#4).length
    ({ s with drawn := s.drawn + 3 }, { r with attempts := l.take (n + 1) })

/-- What a training leaves: the layers that passed, the eye, and UP or DOWN; a channel that stays DOWN is charged and,
with its tile, penned (R264, R403). -/
def State.trained (s : State) (t : Nat) (r : Training) : State :=
  let m := (r.attempts.getLastD 0#4).toNat
  let s := (s.wr VCH_TRAIN_LAYERS t m).wr VCH_TRAIN_EYE t r.eye.toNat
  if m = 15 then (s.wr VCH_STATE_STATE t 2).modTile t fun x => { x with lastCentre := s.now }
  else
    let s := (s.charge (chanUnit t) clsChannel evChannelDown (s.jobOf t)).finding 0xF005 t 0
    ((s.pen (chanUnit t)).penTile t).wr VCH_STATE_STATE t 0

/-- Row CHANNEL_TRAINING (R264): of a channel in TRAINING, at start-up or after Fold Off. -/
def execChannelTraining (t : TileId) (r : Training) (s : State) : Out :=
  let k := s.fitTraining r
  let s := k.1
  let r := k.2
  if s.foldOff (foldOf t) ∨ s.rd VCH_STATE_STATE t ≠ 1 then .next s
  else
    let rows := rowRepairs s.stackRecord.rowRepairs t
    let lanes := laneRepairs s.stackRecord.laneRepairs t
    let s := rows.2.foldl (fun s e => s.finding 0xF007 e 0) s
    let s := lanes.2.foldl (fun s e => s.finding 0xF008 e 0) s
    let s := (s.wr VCH_REPAIR_ROWS t rows.1.length).wr VCH_REPAIR_LANES t lanes.1.length
    let s := s.replaceLanes t lanes.1 (r.replaced.map (·.toNat))
    .next ((s.invalidateAll t).trained t r)

/-- Row EYE_RECENTRE (R265): every 250 ms in service. -/
def execEyeRecentre (t : TileId) (s : State) : Out :=
  if !s.chanUp t ∨ s.now < (s.tile t).lastCentre + 250000000 then .next s
  else .next (s.modTile t fun x => { x with lastCentre := s.now })

/-- Row CHANNEL_RETRAIN (R265): after 16 failed checks within 1 ms. -/
def execChannelRetrain (t : TileId) (r : Training) (s : State) : Out :=
  let l := (s.tile t).failTimes
  let k := s.fitTraining r
  let s := k.1
  let r := k.2
  if !s.chanUp t ∨ l.length < 16 ∨ l.headD 0 > l.getLastD 0 + 1000000 then .next s
  else
    let s := s.modTile t fun x => { x with failTimes := [] }
    let s := ((s.wr VCH_TRAIN_RETRAINS t (min 255 (s.rd VCH_TRAIN_RETRAINS t + 1))).lifeInc (chanUnit t) 5 1).event
      evChannelRetrain (chanUnit t) (s.jobOf t)
    let s := s.replaceLanes t (laneRepairs s.stackRecord.laneRepairs t).1 (r.replaced.map (·.toNat))
    .next (s.trained t r)

end Sys2Proof.Machine
end

