-- ==== Sys2Proof/Machine/Flock.lean ====
section
/-! DEFINITION. Flocks (R227 to R230): digest points, the exchange of records between stacks (R375), decisions and
expulsions. -/
namespace Sys2Proof.Machine

/-! ## Digests (R227, R228) -/

/-- A number put into an ascending list once. -/
def insertAsc (n : Nat) : List Nat → List Nat
  | [] => [n]
  | k :: r => if n < k then n :: k :: r else if n = k then k :: r else k :: insertAsc n r

/-- The column lines of a tile's weight set, ascending, each once. -/
def Job.weightLines (j : Job) (t : Nat) : List Nat :=
  let idx := (j.tiles.idxOf? t).getD 0xFFFF
  let ls := (j.sections.filter fun x => x.type == 2 && (x.tile == 0xFFFF || x.tile == idx)).flatMap fun x =>
    linesOf x.dest x.len
  ls.foldl (fun acc l => insertAsc l acc) []

/-- A line as a checkpoint holds it: from the undo log where its block has been written since (R228). -/
def State.ckptLine (s : State) (t l : Nat) : State × Bytes :=
  match (s.tile t).undo.find? fun u => u.1 == l / 64 with
  | some u => (s, match u.2.find l with | some (some b) => b | _ => zeros 64)
  | none =>
    let r := s.readLine t l (s.slotFor t l)
    (r.1, r.2.data)

/-- The tile digest; an adaptation job's as of its checkpoint. -/
def State.tileDigest (s : State) (j : Job) (t : Nat) : State × Bytes :=
  let r := (j.weightLines t).foldl (fun (acc : State × Bytes) l =>
    let k := if j.policy.kind = 1 then acc.1.ckptLine t l else
      let d := acc.1.readLine t l (acc.1.slotFor t l)
      (d.1, d.2.data)
    (k.1, acc.2 ++ k.2)) (s, [])
  (r.1, sha256 r.2)

/-- The tile's digest at a point, if it holds one. -/
def Tile.digestOf (x : Tile) (point : Nat) : Option Bytes :=
  (x.digests.find? fun d => d.1 == point).map (·.2)

/-- The member digest at a point, in job tile index order. -/
def State.memberDigest (s : State) (j : Job) (point : Nat) : Bytes :=
  sha256 (j.tiles.flatMap fun t => ((s.tile t).digestOf point).getD [])

/-- The digest point at which a job stands, if any: stack time n × DIGEST ms, or every FLOCK_K-th checkpoint. -/
def State.digestPoint (s : State) (j : Job) : Option Nat :=
  let d := j.policy.digest * 1000000
  if j.state ≠ 3 ∨ j.policy.flock = 0 then none
  else if j.digestDue.isSome then j.digestDue
  else if j.policy.kind = 0 then
    if s.now % d = 0 ∧ s.now ≠ 0 ∧ j.digestAt ≠ s.now / d then some (s.now / d) else none
  else if j.policy.kind = 1 then
    let k := j.policy.flockK
    if j.ckptCount ≠ 0 ∧ j.ckptCount % k = 0 ∧ j.digestAt ≠ j.ckptCount / k then some (j.ckptCount / k) else none
  else none

/-! ## Records (R229, R375) -/

/-- The key of a flock's digest point: jobs of one FLOCK and one KIND form a flock (R227). -/
def flockKey (flock kind point : Nat) : Nat := (flock * 4 + kind) * 2 ^ 32 + point

/-- The members of a flock on this stratum. -/
def State.flockJobs (s : State) (flock kind : Nat) : List Job :=
  s.jobs.filter fun j => j.policy.flock == flock && j.policy.kind == kind && (j.state == 3 || j.state == 4)

/-- Records of a digest point. -/
def State.recordsOf (s : State) (flock kind point : Nat) : List FlockRec :=
  s.flocks.filter fun r => r.flock == flock && r.kind == kind && r.point == point

/-- Members on other stacks, as the latest earlier point showed them (DESIGN CHOICE, log 49). -/
def State.otherMembers (s : State) (flock kind point : Nat) : Option Nat :=
  let ps := (s.flocks.filter fun r => r.flock == flock && r.kind == kind && decide (r.point < point)).map (·.point)
  if ps.isEmpty then none
  else
    let last := ps.foldl max 0
    some ((s.recordsOf flock kind last).filter fun r => r.origin != s.stackId).length

/-- A member of the stratum recorded a point: it holds its digests. -/
def State.recorded (s : State) (j : Job) (point : Nat) : Bool := ((s.tile (j.tiles.headD 0)).digestOf point).isSome

/-- A member that had started when a scoring flock's point fell. -/
def Job.meets (j : Job) (point : Nat) : Bool := j.policy.kind != 0 || decide (j.startAt ≤ point * (j.policy.digest * 1000000))

/-- Every member's record has arrived. -/
def State.allPresent (s : State) (flock kind point : Nat) : Bool :=
  let rs := s.recordsOf flock kind point
  let own := (s.flockJobs flock kind).filter (·.state == 3)
  match s.otherMembers flock kind point with
  | none => false
  | some n => own.all (s.recorded · point)
      && decide (n ≤ (rs.filter fun r => r.origin != s.stackId).length)

/-- A DPUT body (R375). -/
def FlockRec.body (r : FlockRec) (hops : Nat) : Bytes :=
  let data := toLE 2 r.flock ++ toLE 1 r.kind ++ toLE 1 0 ++ toLE 4 r.point ++ sub r.digest 0 32 ++ toLE 2 r.tiles
  toLE 1 1 ++ toLE 1 hops ++ toLE 2 data.length ++ toLE 8 r.origin ++ toLE 4 r.recSeq ++ zeros 16 ++ data

/-- A record goes out on the UP ports that a function owns, but one (R375). -/
def State.sendRecord (s : State) (fn skip hops : Nat) (r : FlockRec) : State :=
  s.each ((List.range 8).filter fun p => p != skip && s.portUp p && s.portOwner p == fn) fun s p =>
    s.sendFlit p 0x0C 0 (r.body hops)

/-- A record is kept; the first of its point starts the 50 ms. One that comes after its point was decided changes
nothing. -/
def State.addRecord (s : State) (r : FlockRec) : State :=
  let k := flockKey r.flock r.kind r.point
  let late := match s.flockDone.find (r.flock * 4 + r.kind) with | some n => decide (r.point ≤ n) | none => false
  if late then s else { s with
    flocks := s.flocks ++ [r]
    flockAt := if (s.flockAt.find k).isSome then s.flockAt else s.flockAt.set k s.now }

/-! ## Expulsion (R230) -/

/-- FLOCK_EXPELLED with the list of the tiles that differ, each charged. -/
def State.expelDone (s : State) (j : Job) (differ : List Nat) : State :=
  let s := s.modJob j.tag fun j => { j with expel := none }
  let s := s.event evFlockExpelled stratumUnit (some j) (detail := differ.flatMap (toLE 2))
  s.each differ fun s t => s.charge (tileUnit t) clsWeights evFlockExpelled (some j)

/-- The next DGETREQ of an expulsion, at most seven tiles. -/
def State.askDigests (s : State) (j : Job) (point origin first : Nat) : State :=
  let n := min 7 (j.tiles.length - first)
  let body := toLE 8 origin ++ toLE 2 j.policy.flock ++ zeros 2 ++ toLE 4 point ++ toLE 2 first ++ toLE 1 n ++ zeros 1
  s.each ((List.range 8).filter fun p => s.portUp p && s.portOwner p == j.fn) fun s p => s.sendFlit p 0x0D 0 body

/-- A member that differs from the majority is restored to its checkpoint and PARKED; the digests of a majority
member, here or on another stack, give the tiles at fault. -/
def State.expel (s : State) (j : Job) (point : Nat) (major : Bytes) (origins : List Nat) : State :=
  let s := if j.state = 3 then s.beginRestart j.tag true
    else s.modJob j.tag fun j => { j with restart := j.restart.map fun r => { r with park := true } }
  let here := (s.flockJobs j.policy.flock j.policy.kind).find? fun k =>
    k.tag != j.tag && s.recorded k point && s.memberDigest k point == major
  match here with
  | some k =>
    s.expelDone j ((j.tiles.zip k.tiles).filter (fun p =>
      (s.tile p.1).digestOf point != (s.tile p.2).digestOf point)).unzip.1
  | none =>
    match origins.find? (· ≠ s.stackId) with
    | some o => (s.modJob j.tag fun j => { j with expel := some (point, o, 0, []) }).askDigests j point o 0
    | none => s.expelDone j []

/-! ## Decisions (R229) -/

/-- Members of the stratum restart from their checkpoints for a flock outcome. -/
def State.flockRestart (s : State) (js : List Job) : State :=
  js.foldl (fun s j => s.detect (j.tiles.headD 0) 4 none 0) s

/-- The digest held by more than half of some records. -/
def majority (rs : List FlockRec) : Option Bytes :=
  (rs.map (·.digest)).find? fun d => decide (rs.length < 2 * (rs.filter fun r => r.digest == d).length)

/-- The decision on a point; its records stay for the next point's members, those before it go. -/
def State.decideFlock (s : State) (flock kind point : Nat) : State :=
  let rs := s.recordsOf flock kind point
  let js := s.flockJobs flock kind
  let own := js.filter (s.recorded · point)
  let gone := js.filter fun j => !s.recorded j point && j.meets point
  let s : State := { s with
    flockDone := s.flockDone.set (flock * 4 + kind) point
    flockAt := s.flockAt.del (flockKey flock kind point)
    flocks := s.flocks.filter fun r => !(r.flock == flock && r.kind == kind && decide (r.point < point)) }
  let s := gone.foldl (fun s j => s.event evFlockMissed stratumUnit (some j)) s
  if rs.length ≤ 1 then
    if gone.isEmpty then s.event evFlockMissed stratumUnit own.head? else s
  else if rs.all (fun r => r.digest == ((rs.map (·.digest)).headD [])) then s
  else if rs.length = 2 then s.flockRestart own
  else match majority rs with
    | none => (s.event evFlockMismatch stratumUnit own.head?).flockRestart own
    | some m =>
      let origins := (rs.filter fun r => r.digest == m).map (·.origin)
      own.foldl (fun s j => if s.memberDigest j point == m then s else s.expel j point m origins) s

/-- The decision once every member's record is there. -/
def State.tryFlock (s : State) (flock kind point : Nat) : State :=
  if (s.flockAt.find (flockKey flock kind point)).isSome ∧ s.allPresent flock kind point then
    s.decideFlock flock kind point
  else s

/-- Row DIGEST_POINT (R227, R228, R375): a member computes its digest, keeps its tile digests, and sends its
record. A held line of the weight set makes it wait (R238), and so does a drover restart (R378). The digests of every point that is not decided are kept. -/
def execDigestPoint (job : Nat) (s : State) : Out :=
  match s.jobByTag job with
  | none => .next s
  | some j =>
    match s.digestPoint j with
    | none => .next s
    | some n =>
      if s.phase = .drover ∨ j.tiles.any fun t => (j.weightLines t).any (s.lineHeld t) then
        .next (s.modJob job fun j => { j with digestDue := some n })
      else
      let done := (s.flockDone.find (j.policy.flock * 4 + j.policy.kind)).getD 0
      let s := s.each j.tiles fun s t =>
        let d := s.tileDigest j t
        d.1.modTile t fun x => { x with digests := (n, d.2) :: x.digests.filter (fun k => decide (done ≤ k.1)) }
      let r : FlockRec := ⟨j.policy.flock, j.policy.kind, n, s.stackId, s.drecSeq, s.memberDigest j n, j.tiles.length⟩
      let s := ({ s with drecSeq := (s.drecSeq + 1) % 2 ^ 32 } : State).modJob job fun j => { j with digestAt := n, digestDue := none }
      .next (((s.addRecord r).sendRecord j.fn 8 3 r).tryFlock r.flock r.kind n)

/-- Row FLOCK_DECISION_TIMEOUT (R229): 50 ms after the first record, once the drover runs. -/
def execFlockDecisionTimeout (flock : BitVec 16) (point : W32) (s : State) : Out :=
  .next (if s.phase = .drover then s else s.each [0, 1] fun s kind =>
    match s.flockAt.find (flockKey flock.toNat kind point.toNat) with
    | some t => if t + 50000000 ≤ s.now then s.decideFlock flock.toNat kind point.toNat else s
    | none => s)

/-! ## Between stacks (R375) -/

/-- A record from another stack is used once and relayed once. -/
def State.takeRecord (s : State) (p hops : Nat) (r : FlockRec) : State :=
  if r.origin = s.stackId ∨ s.relayed.contains (r.origin, r.recSeq) then s
  else
    let fn := s.portOwner p
    let s := { s with relayed := s.relayed ++ [(r.origin, r.recSeq)] }
    let s := if hops = 0 then s else s.sendRecord fn p (hops - 1) r
    if (s.flockJobs r.flock r.kind).any (·.fn == fn) then (s.addRecord r).tryFlock r.flock r.kind r.point else s

/-- What the drover does with a DPUT. -/
def State.takePut (s : State) (p : Nat) (b : DputBody) : State :=
  if b.kind ≠ 1#8 ∨ !s.portCarries p then s
  else s.takeRecord p b.hops.toNat ⟨b.flock.toNat, b.jobKind.toNat, b.point.toNat, b.origin.toNat,
    b.recSeq.toNat, b.digest, b.tiles.toNat⟩

/-- The first 20 bytes of a DGETREQ or DGETRSP with a count. -/
def dgetHead (b : DgetBody) (count : Nat) : Bytes :=
  toLE 8 b.target.toNat ++ toLE 2 b.flock.toNat ++ zeros 2 ++ toLE 4 b.point.toNat ++ toLE 2 b.first.toNat
    ++ toLE 1 count ++ zeros 1

/-- The digests that this stratum holds for a request: those of a member of the port's owner. -/
def State.heldDigests (s : State) (p : Nat) (b : DgetBody) : List Bytes :=
  match s.jobs.find? fun j => j.policy.flock == b.flock.toNat && j.fn == s.portOwner p
      && s.recorded j b.point.toNat with
  | none => []
  | some j => (((j.tiles.drop b.first.toNat).take (min 7 b.count.toNat)).filterMap fun t =>
      (s.tile t).digestOf b.point.toNat)

/-- What it answers to a DGETREQ. -/
def State.takeAsk (s : State) (p : Nat) (b : DgetBody) : State :=
  if b.target.toNat ≠ s.stackId ∨ !s.portCarries p then s
  else
    let ds := s.heldDigests p b
    s.sendFlit p 0x0E 0 (dgetHead b ds.length ++ ds.flatten)

/-- A DGETRSP on a port of the member's function (R370): the digests of a majority member are compared with the expelled member's. -/
def State.takeAnswer (s : State) (p : Nat) (b : DgetBody) (digests : List Bytes) : State :=
  match s.jobs.find? fun j => j.policy.flock == b.flock.toNat && j.fn == s.portOwner p && s.portCarries p
      && (match j.expel with
        | some (pt, o, k, _) => pt == b.point.toNat && o == b.target.toNat && k == b.first.toNat
        | none => false) with
  | none => s
  | some j =>
    let k := b.first.toNat
    let old := (j.expel.map (·.2.2.2)).getD []
    let new := ((j.tiles.drop k).zip digests).filterMap fun (t, d) =>
      if (s.tile t).digestOf b.point.toNat = some d then none else some t
    let next := k + digests.length
    if digests.isEmpty ∨ j.tiles.length ≤ next then s.expelDone j (old ++ new)
    else (s.modJob j.tag fun j => { j with expel := some (b.point.toNat, b.target.toNat, next, old ++ new) }).askDigests
      j b.point.toNat b.target.toNat next

/-- Drover traffic is dealt with; while the drover restarts it waits (R378). -/
def State.droverTakes (s : State) (d : DrvIn) : State :=
  if s.phase = .drover then { s with drvIn := s.drvIn ++ [d] }
  else match d with
    | .put p b => s.takePut p b
    | .ask p b => s.takeAsk p b
    | .answer p b l => s.takeAnswer p b l

/-- The drover is back: what waited is dealt with, oldest first, and its own flits leave (R378). -/
def State.droverBack (s : State) : State :=
  let l := s.drvIn
  (l.foldl State.droverTakes { s with drvIn := [] }).each (List.range 8) State.pumpPort

/-- Row DPUT (R375). -/
def execDput (p : PortId) (h : FlitHdr) (b : DputBody) (s : State) : Out :=
  let k := s.fitBytes 32 32 b.digest
  .next (k.1.rxFlit p 2 1 h fun s => s.droverTakes (.put p { b with digest := k.2 }))

/-- Row DGETREQ (R375). -/
def execDgetreq (p : PortId) (h : FlitHdr) (b : DgetBody) (s : State) : Out :=
  .next (s.rxFlit p 2 1 h fun s => s.droverTakes (.ask p b))

/-- The digests of a reply: at most seven, of 32 bytes each (log 118). -/
def State.fitDigests (s : State) (l : List Bytes) : State × List Bytes :=
  let k := s.fit 0 7 l fun _ => []
  k.2.foldl (fun a b =>
    let r := a.1.fitBytes 32 32 b
    (r.1, a.2 ++ [r.2])) (k.1, [])

/-- Row DGETRSP (R375, R230). -/
def execDgetrsp (p : PortId) (h : FlitHdr) (b : DgetBody) (digests : List Bytes) (s : State) : Out :=
  let r := s.fitDigests digests
  .next (r.1.rxFlit p 2 1 h fun s => s.droverTakes (.answer p b r.2))

end Sys2Proof.Machine
end

