-- ==== Sys2Proof/Machine/Health.lean ====
section
/-! DEFINITION. Health (R234, R417 to R421, R426 to R431): the HLTH_ commands, tally epochs, histograms and the entry into
GUARDED. -/
namespace Sys2Proof.Machine

/-! ## Units and their counters (R417, R418) -/

/-- The number of units of a kind. -/
def kindCount (k : Nat) : Nat := [0, 1024, 1024, 2144, 32, 64, 5, 1, 8].getD k 0

/-- A unit ID that R417 defines. -/
def unitOk (u : Nat) : Bool := decide (u % 2 ^ 24 < kindCount (u / 2 ^ 24))

/-- A counter index that R418 gives a kind. -/
def counterOk (k i : Nat) : Bool :=
  match k with
  | 1 => decide (i < 69)
  | 2 => decide (i < 7)
  | 3 => decide (i < 4)
  | 4 => decide (i < 4)
  | 5 => decide (i < 3)
  | 7 => decide (i < 6) || decide (256 ≤ i ∧ i < 448) || decide (512 ≤ i ∧ i < 1012) || decide (1024 ≤ i ∧ i < 1312)
  | 8 => decide (i < 4)
  | _ => false

/-- A lifetime counter of a unit. -/
def State.lifeOf (s : State) (u i : Nat) : Nat :=
  let h := s.hist u
  match u / 2 ^ 24, i with
  | 1, 64 => h.lifeCharged
  | 1, 65 => h.lifeUncharged
  | 2, 6 => h.lifeCharged
  | 3, 3 => h.lifeCharged
  | 4, 3 => h.lifeCharged
  | 5, 2 => h.lifeCharged
  | 7, 1 => s.minutes
  | 7, _ => (s.life.find (u * 65536 + i)).getD 0 + (s.bins.find i).getD 0
  | _, _ => (s.life.find (u * 65536 + i)).getD 0

/-- A unit that latches nothing at an epoch: in Tile Off, in a fold in Fold Off, or penned (R421). -/
def State.unlatched (s : State) (u : Nat) : Bool :=
  let i := u % 2 ^ 24
  s.penned u || (match u / 2 ^ 24 with
    | 1 => (s.tile i).off || s.foldOff (foldOf i)
    | 2 => s.foldOff (foldOf i)
    | 3 => decide (i < 2112) && s.foldOff (foldOfReg i)
    | 5 => s.foldOff i
    | _ => false)

/-- Every unit that is measured and has counters. -/
def countedUnits : List Nat :=
  [1, 2, 3, 4, 5, 7, 8].flatMap fun k => (List.range (kindCount k)).map (k * 2 ^ 24 + ·)

/-- The key of a collected counter; index 2,047 marks a unit that latched nothing. -/
def tallyKey (u i : Nat) : Nat := u * 2048 + i

/-- What the drover collects at an epoch (R421): lifetime counters, tile counters, and who latched nothing. -/
def State.collected (s : State) : Tbl Nat :=
  let t : Tbl Nat := s.life.map fun k => (tallyKey (k.1 / 65536) (k.1 % 65536), k.2)
  let t := s.histories.foldl (fun (t : Tbl Nat) k =>
    [6, 3, 2, 64, 65].foldl (fun t i =>
      if counterOk (k.1 / 2 ^ 24) i ∧ s.lifeOf k.1 i ≠ (s.life.find (k.1 * 65536 + i)).getD 0 then
        t.set (tallyKey k.1 i) (s.lifeOf k.1 i) else t) t) t
  let t := s.bins.foldl (fun (t : Tbl Nat) k => t.set (tallyKey stratumUnit k.1) (s.lifeOf stratumUnit k.1)) t
  let t := t.set (tallyKey stratumUnit 1) s.minutes
  let t := s.tiles.foldl (fun (t : Tbl Nat) k =>
    ((List.range 12).map (· + 1)).foldl (fun t i =>
      if s.counter k.1 i = 0 then t else t.set (tallyKey (tileUnit k.1) i) (s.counter k.1 i)) t) t
  (countedUnits.filter s.unlatched).foldl (fun t u => t.set (tallyKey u 2047) 1) t

/-! ## Tally epochs (R89, R420, R421) -/

/-- The live counters of the units that are no tiles, each with the unit that latches it (R266, R304, R316, R330, R379, R387,
R394, R421). -/
def counterFields : List (Field × (Nat → Nat)) :=
  ([VCH_CRCERR_COUNT, VCH_CORR_COUNT, VCH_RECOMP_COUNT, VCH_POISONED_COUNT, VCH_TRAIN_RETRAINS].map (·, chanUnit))
    ++ ([TLR_FAULT_COUNT, TLR_SCEVT_COUNT, TLR_REIN_NAKS, TLR_REIN_BADTYPE, TLR_HDR_FORCED].map (·, regUnit))
    ++ ([FCV_URG_DROP_COUNT, FCE_STAT_MISSED].map (·, fcvUnit))
    ++ ([WELT_REPLAY_COUNT, WELT_HOLDLOST_COUNT, WELT_HOLDEXP_COUNT, WELT_DISCARD_COUNT].map (·, portUnit))
    ++ ([WELT_LANE_FEC_SYM, WELT_LANE_UNC_CW].map (·, laneUnit))
    ++ ([PCIE_BADACC_COUNT, PCIE_HOSTERR_COUNT, MGT_REFUSED_COUNT, MGT_EVLOST_COUNT, MGT_BADFRAME_COUNT].map (·, fun _ => stratumUnit))

/-- The unit whose counter a key of the register table is. -/
def counterUnit (k : Nat) : Option Nat :=
  let u := k / 64 / 65536 / 32
  (counterFields.find? fun c => regKey c.1 u == k).map fun c => c.2 u

/-- The shadow registers at T: each unit's live counters, the earlier ones of a unit that latches nothing. -/
def State.latched (s : State) : Tbl Nat :=
  let keep := s.shadows.filter fun k => (counterUnit k.1).any s.unlatched
  (s.regs.filter fun k => (counterUnit k.1).any fun u => !s.unlatched u).foldl (fun (t : Tbl Nat) k => t.set k.1 k.2) keep

/-- An epoch at an instant T: every unit latches its counters, and the drover keeps what it collects. -/
def State.latchEpoch (s : State) (T : Nat) : State :=
  let n := s.epoch + 1
  let c := s.collected
  let s := s.each ((s.tiles.map (·.1)).filter fun t => !s.unlatched (tileUnit t)) fun s t =>
    let v := ((List.range 12).map (· + 1)).map fun i => (i, s.counter t i)
    s.modTile t fun x => { x with shadow := v, shadowEpoch := n }
  { s with epoch := n, tallyAt := none, shadows := s.latched, tallies := ((n, T, c) :: s.tallies).take 8 }

/-- Two instants within 20 µs of each other. -/
def near (a b : Nat) : Bool := decide (a ≤ b + 20000 ∧ b ≤ a + 20000)

/-- The drover runs the automatic epochs: from the firmware's start on, a drover restart included (R420). -/
def State.epochsRun (s : State) : Bool := s.phase == .firmware || s.phase == .open || s.phase == .drover

/-- Row TALLY_EPOCH (R420, R421): every unit latches within 20 ns of T. An automatic epoch within 20 µs of one that
HLTH_TALLY asked for is that one. -/
def execTallyEpoch (s : State) : Out :=
  let sec := s.now / 1000000000 * 1000000000
  match s.pendingT with
  | some T => .next (if T ≤ s.now then s.latchEpoch T else if s.epochsRun ∧ s.now ≤ sec + 20 ∧ sec ≠ 0 ∧ !near T sec
      ∧ !(s.tallies.any fun k => near k.2.1 sec) then { s.latchEpoch sec with tallyAt := some T } else s)
  | none =>
    if s.epochsRun ∧ s.now ≤ sec + 20 ∧ sec ≠ 0 ∧ !(s.tallies.any fun k => near k.2.1 sec) then .next (s.latchEpoch sec)
    else .next s

/-- Row HLTH_TALLY (R420, R421): T was fixed at the acceptance; a call after the epoch replies. -/
def execHlthTally (m : MbxId) (s : State) : Out :=
  .next (s.runPlain m 0x6003 fun s r =>
    let wait := fun (s : State) (T : Nat) =>
      ({ s with tallyAt := some T } : State).modMbox m fun x => { x with accepted := some { r with latch := some T } }
    match r.latch.bind fun T => s.tallies.find? (·.2.1 == T) with
    | some k => s.finish m stOk (toLE 4 k.1 ++ zeros 4 ++ toLE 8 k.2.1)
    | none => if r.latch.isSome ∧ r.latch = s.pendingT then s else wait s s.tallyT)

/-! ## Reading -/

/-- Row HLTH_STATE (R427); a reply holds 1,018 units. -/
def execHlthState (m : MbxId) (s : State) : Out :=
  .next (s.runPlain m 0x6001 fun s _ =>
    let pens := ((s.histories.filter fun h => h.2.penned).map (·.1)).take 1018
    s.finish m stOk (toLE 1 s.shownDstate ++ toLE 1 0 ++ toLE 2 pens.length ++ zeros 4 ++ pens.flatMap (toLE 4)))

/-- Counters that a function may not read: other units than its job's tiles, and indices above 63 (R184, R418). -/
def State.countersDenied (s : State) (m : Nat) (r : Req) : Bool :=
  decide (m < 16) && r.len == 12 && unitOk (r.f 4 4) && (match s.jobByHandle r.object with
    | some j => r.f 4 4 / 2 ^ 24 != 1 || !j.all.contains (r.f 4 4 % 2 ^ 24) || decide (64 < r.f 8 2 + r.f 10 2)
    | none => false)

/-- The epoch that a request names, 0 for the latest. -/
def State.epochFor (s : State) (n : Nat) : Option (Nat × Nat × Tbl Nat) :=
  if n = 0 then s.tallies.head? else s.tallies.find? (·.1 == n)

/-- The ST_BADARG checks of HLTH_COUNTERS; a reply holds 509 counters. -/
def State.countersBad (s : State) (r : Req) : Bool :=
  !unitOk (r.f 4 4) || (s.epochFor (r.f 0 4)).isNone || decide (509 < r.f 10 2)
    || (List.range (r.f 10 2)).any fun i => !counterOk (r.f 4 4 / 2 ^ 24) (r.f 8 2 + i)

/-- Row HLTH_COUNTERS (R418, R421). -/
def execHlthCounters (m : MbxId) (s : State) : Out :=
  .next (s.run m 0x6002 (s.countersDenied m) (fun r => r.f 10 2 == 0) s.countersBad fun s r =>
    match s.epochFor (r.f 0 4) with
    | none => s.finish m stBadArg
    | some k =>
      let u := r.f 4 4
      if (k.2.2.find (tallyKey u 2047)).isSome then s.finish m stBadState
      else
        let v := fun (i : Nat) => if u / 2 ^ 24 = 1 ∧ i = 0 then k.1 else (k.2.2.find (tallyKey u i)).getD 0
        s.finish m stOk (toLE 4 k.1 ++ zeros 4 ++ (List.range (r.f 10 2)).flatMap fun i => toLE 8 (v (r.f 8 2 + i))))

/-- Row HLTH_UNIT (R426). -/
def execHlthUnit (m : MbxId) (s : State) : Out :=
  .next (s.run m 0x6004 (fun _ => false) (fun _ => false) (fun r => !unitOk (r.f 0 4)) fun s r =>
    s.finish m stOk (s.historyRecord (r.f 0 4)))

/-! ## The operator's commands (R429, R430) -/

/-- The running jobs owe a checkpoint; `park`: and are PARKED after it. -/
def State.checkpointAll (s : State) (park : Bool) : State :=
  { s with jobs := s.jobs.map fun j =>
      if j.state = 3 then { j with ckptDue := true, drainOwed := true, parkNext := j.parkNext || park }
      else if park then { j with restart := j.restart.map fun r => { r with park := true } } else j }

/-- Row HLTH_DRAIN (R429). -/
def execHlthDrain (m : MbxId) (s : State) : Out :=
  .next (s.runPlain m 0x6006 fun s _ =>
    if s.dstate ≠ 0 ∧ s.dstate ≠ 2 then s.finish m stBadState
    else (({ s.checkpointAll false with opDrain := true } : State).setDstate 1).finish m stOk)

/-- The state after a drain or a clearing: GUARDED while a unit is penned. -/
def State.calmState (s : State) : Nat := if s.histories.any (·.2.penned) then 2 else 0

/-- Row HLTH_RESUME (R429). -/
def execHlthResume (m : MbxId) (s : State) : Out :=
  .next (s.runPlain m 0x6007 fun s _ =>
    if s.dstate ≠ 1 ∧ s.dstate ≠ 3 then s.finish m stBadState
    else if s.dstate = 1 ∧ !s.opDrain ∧ s.drain.isSome then s.finish m stBusy
    else (({ s with opDrain := false } : State).setDstate s.calmState).finish m stOk)

/-- Row HLTH_RETIRE (R204, R429, R435). A load that ends so gives its tiles and its handle back (R191). -/
def execHlthRetire (m : MbxId) (s : State) : Out :=
  .next (s.runPlain m 0x6008 fun s _ =>
    let s := s.each (List.range 20) State.bgAbort
    let s := (s.jobs.filter (·.state == 1)).foldl State.freeJob s
    let s := ({ s.checkpointAll true with opDrain := false } : State).setDstate 3
    s.snapshot.finish m stOk)

/-- How a cleared unit returns to service (R430). A regulator starts once both tiles of the pair are held; its tie opens, and they
resume, when it has reached its set-point. A converter that had failed starts with all its slices, none at its limit (DESIGN CHOICE,
log 157). A fold whose mesh is not empty yet comes up by FOLD_ON. -/
def State.backToService (s : State) (u : Nat) : State :=
  let i := u % 2 ^ 24
  match u / 2 ^ 24 with
  | 1 => s.modTile i fun x => { x with selftest := true, cleared := true }
  | 2 => if s.foldOff (foldOf i) then s.wr VCH_STATE_STATE i 0 else (s.wr VCH_STATE_STATE i 1).invalidateAll i
  | 3 =>
    if s.regOn i && s.regState i != rsTied then s
    else if i < 2048 then
      let s := s.modRegul i fun x => { x with back := true, stopAt := none }
      let s := s.each [regTile i, regTile (neighbourReg i)] fun s t => s.sendHold t (if t = regTile i then 1 else 2)
      s.startBack i
    else if i < 2112 then (s.wr TLR_CFG_EN i 0).foldOn (i - 2048)
    else (s.wr TLR_CFG_EN i 0).regEnable i 0
  | 4 => if s.rd WELT_LANE_ST_STATE i = 3 then s.setLane i 0 else s
  | 5 =>
    let s := (s.wr FCV_STAT_FAULT i 0).wr FCV_STAT_SLICES i 0xFF
    let s := s.each (List.range 8) fun s k => (s.wr FCV_SLICE_B_RETIRED (8 * i + k) 0).wr FCV_SLICE_B_LIMITRUN (8 * i + k) 0
    s.foldOn i
  | _ => s

/-- A unit's charges, pen and replacement request are cleared. -/
def State.clearUnit (s : State) (u : Nat) : State :=
  let h := s.hist u
  let s := s.setHist u { h with
    charges := h.charges.map fun c => (c.1, c.2.1, true, c.2.2.2), penned := false, replace := false }
  let s : State := { s with drainUnits := s.drainUnits.filter (· ≠ u) }
  let s := (s.event evUnitCleared u none).journal 3 (toLE 4 u)
  let s := s.wr LREC_STAT_REPLACE 0 (b2n (s.histories.any (·.2.replace)))
  let failed := decide (u / 2 ^ 24 = 5) && s.rdb FCV_STAT_FAULT (u % 2 ^ 24)
  (if h.penned ∨ h.viaTie ∨ failed then s.backToService u else s).journalState

/-- Row HLTH_CLEAR_UNIT (R429, R430). -/
def execHlthClearUnit (m : MbxId) (s : State) : Out :=
  .next (s.run m 0x6005 (fun _ => false) (fun _ => false) (fun r => !unitOk (r.f 0 4)) fun s r =>
    let s := s.clearUnit (r.f 0 4)
    let s := if s.dstate = 2 ∧ s.calmState = 0 ∧ !s.histories.any (fun h => h.2.viaTie && h.2.replace) then s.setDstate 0 else s
    s.finish m stOk)

/-- The tiles that an HLTH_SELFTEST names. -/
def State.testTiles (s : State) (u : Nat) : List Nat :=
  if u = 0xFFFFFFFF then (List.range 1024).filter fun t => !s.penned (tileUnit t) else [u % 2 ^ 24]

/-- Row HLTH_SELFTEST (R234). A tile in Tile Off is brought on for its test, but for one in a fold in Fold Off. A tile that an
earlier HLTH_SELFTEST still tests keeps the command busy. -/
def execHlthSelftest (m : MbxId) (s : State) : Out :=
  .next (s.run m 0x6009 (fun _ => false) (fun _ => false)
    (fun r => r.f 0 4 != 0xFFFFFFFF && !(unitOk (r.f 0 4) && r.f 0 4 / 2 ^ 24 == 1)) fun s r =>
      let ts := s.testTiles (r.f 0 4)
      match s.bgFree m with
      | none => s.finish m stBusy
      | some k =>
        if ts.any fun t => (s.tile t).selftestFor.isSome then s.finish m stBusy
        else
          let s := s.finishBg m 0x6009 0 [0, 0]
          if ts.isEmpty then s.bgEnd m k stOk (toLE 4 0 ++ toLE 4 0)
          else s.each ts fun s t =>
            (s.modTile t fun x => { x with
              selftest := true, selftestFor := some (m.val, k), testOn := x.off && !s.foldOff (foldOf t) }).powerOn t)

/-! ## GUARDED (R428) -/

/-- The checkpoints of the drain are complete, whatever later ones run, and the jobs that held a unit are PARKED. -/
def State.drainDone (s : State) : Bool :=
  s.jobs.all fun j => !((j.state == 3 || j.state == 4) && j.drainOwed) && !(match j.restart with | some r => r.park | none => false)

/-- Row GUARDED_ENTRY (R428 steps 4 and 5): the units of the drain are penned, but for a regulator served through a tie;
DRAINING that a unit caused becomes GUARDED. -/
def execGuardedEntry (s : State) : Out :=
  match s.drain with
  | none => .next s
  | some t0 =>
    if !s.drainDone ∧ s.now < t0 + 100000000 then .next s
    else
      let s := s.each s.drainUnits fun s u => if (s.hist u).viaTie then s else s.pen u
      let s : State := { s with drain := none, drainUnits := [] }
      .next (if s.dstate = 3 ∨ (s.dstate = 1 ∧ s.opDrain) then s else s.setDstate 2)

/-! ## Histograms (R419) -/

/-- The bins of R419 in index order. -/
def binIds : List Nat := (List.range 192).map (256 + ·) ++ (List.range 256).map (512 + ·) ++ (List.range 244).map (768 + ·)
  ++ (List.range 288).map (1024 + ·)

/-- Row HIST_APPEND (R419): at each whole hour, and after a charge or a change of state at most once in 10 minutes. The lifetime
totals take the bins of the entry. -/
def execHistAppend (s : State) : Out :=
  let hour := s.now / 3600000000000 * 3600000000000
  if s.phase ≠ .reset ∧ (s.histAt < hour ∨ (s.histOwed ∧ s.histAt + 600000000000 ≤ s.now)) then
    let body := toLE 8 s.histAt ++ toLE 8 s.now ++ binIds.flatMap fun i => toLE 4 ((s.bins.find i).getD 0)
    let s := s.journal 5 body
    .next { s.bins.foldl (fun s k => s.lifeInc stratumUnit k.1 k.2) s with bins := [], histAt := s.now, histOwed := false }
  else .next s

end Sys2Proof.Machine
end

