-- ==== Sys2Proof/Machine/Life.lean ====
section
/-! DEFINITION. Powered time and the Life Record on flash (R424, R432 to R439), and the maintenance of the flash (R400,
R411). -/
namespace Sys2Proof.Machine

/-- The drover runs: from its boot ROM until everything stops or PERST# falls. -/
def State.alive (s : State) : Bool := s.phase != .reset && s.phase != .stopped

/-- The drover runs and writes the flash; the boot ROM of recovery mode writes nothing (R13, R414). -/
def State.writesFlash (s : State) : Bool := s.alive && s.phase != .recovery

/-- Row POWERED_MINUTE (R424): a POWERED entry every 10 minutes. -/
def execPoweredMinute (s : State) : Out :=
  if !s.alive ∨ s.now < s.minuteAt + 60000000000 then .next s
  else
    let n := s.minutes + 1
    let s := ({ s with minuteAt := s.minuteAt + 60000000000 } : State).wr LREC_POWERED_MIN 0 n
    .next (if n % 10 = 0 then s.journal 7 (toLE 4 n) else s)

/-- Row SNAPSHOT_WRITE (R435): every 24 h of powered operation. -/
def execSnapshotWrite (s : State) : Out :=
  if s.writesFlash ∧ s.snapMin + 1440 ≤ s.minutes then .next s.snapshot else .next s

/-! ## Flushing and retention (R398, R435, R436, R438, R439) -/

/-- An erase or program of the flash begins, and ends (R398, R440). -/
def State.flashBegin (s : State) (w : FlashWork) : State :=
  ({ s with flash := { s.flash with busy := some w } } : State).wr LREC_STAT_FLUSHING 0 1
def State.flashEnd (s : State) : State :=
  ({ s with flash := { s.flash with busy := none } } : State).wr LREC_STAT_FLUSHING 0 0

/-- A row of flash work: its first call begins the work when it is due and no other is under way, the next one ends it with its
effect; PERST# in between abandons it (R398; DESIGN CHOICE, log 165). -/
def State.flashRow (s : State) (w : FlashWork) (due : Bool) (act : State → State) : State :=
  if !s.writesFlash then s
  else if s.flash.busy = some w then (act s).flashEnd
  else if s.flash.busy.isNone ∧ due then s.flashBegin w
  else s

/-- The program of the head's sector fails: a spare takes its place and its content is written again; with no spare the
sector is lost and its content goes to the next good one (R400, R435, R439). -/
def State.headFails (s : State) : State :=
  let h := s.rd LREC_STAT_HEAD 0
  let x := s.sector h
  if !s.flash.freeSpares.isEmpty then
    (s.badSector (regionSector 9 + h)).setSector h { x with header := Sector.head 1 x.first x.opened }
  else
    let s := s.setSector h { x with bad := true, entries := [] }
    let s := s.wr LREC_STAT_LOWSPARE 0 (b2n (decide (s.goodSectors < 64)))
    if s.goodSectors = 0 then s
    else x.entries.foldl (fun (s : State) e => s.append e true) (s.advanceHead (s.rd LREC_SEQ_NEXT 0))

/-- Row JOURNAL_FLUSH (R436). `ok` false: the program of a page fails. -/
def execJournalFlush (ok : Bool) (s : State) : Out :=
  .next (s.flashRow .flush (!s.buffer.isEmpty) fun s => if ok then s.flush else s.headFails.flush)

/-- A month of powered operation, in minutes (DESIGN CHOICE, log 61). -/
def monthMinutes : Nat := 43200

/-- Sectors opened more than 12 months ago, from the one after the head on. -/
def State.oldSectors (s : State) : List Nat :=
  let h := s.rd LREC_STAT_HEAD 0
  ((List.range 512).map fun k => (h + 1 + k) % 512).filter fun k =>
    let x := s.sector k
    x.ok && !x.entries.isEmpty && decide (x.opened + 12 * monthMinutes < s.minutes)

/-- A sector's entries are copied to the head with their sequence numbers, and it is erased, unless the head has
entered it anew on the way. -/
def State.rewriteSector (s : State) (i : Nat) : State :=
  let s := if s.rd LREC_STAT_HEAD 0 = i then s.advanceHead (s.rd LREC_SEQ_NEXT 0) else s
  let x := s.sector i
  let s := x.entries.foldl (fun (s : State) e => s.append e true) s
  let y := s.sector i
  if y.erases ≠ x.erases then s else
  (s.setSector i { y with header := Sector.head (y.erases + 1) 0 s.minutes, entries := [] }).wr LREC_ERASEMAX_COUNT 0
    (max (s.rd LREC_ERASEMAX_COUNT 0) (y.erases + 1))

/-- Row RETENTION_PASS (R438): once per month of powered operation. -/
def execRetentionPass (s : State) : Out :=
  .next (s.flashRow .retention (decide (s.rd LREC_REWRITE_MIN 0 + monthMinutes ≤ s.minutes)) fun s =>
    let s := (s.each s.oldSectors State.rewriteSector).snapState
    s.wr LREC_REWRITE_MIN 0 s.minutes)

/-! ## Maintenance of the flash (R400, R411) -/

/-- The number of the map's region that holds a copy: of the factory part, of the operator identity, or a firmware image. -/
def copyRegion (region copy : Nat) : Nat := [3, 5, 1].getD region 1 + copy

/-- The copy that a refresh reads verifies. -/
def State.copyOk (s : State) (region copy : Nat) : Bool :=
  match region with
  | 0 => (s.flash.factory[copy]?).any (Part.ok factoryMagic)
  | 1 => (s.flash.operator[copy]?).any (Part.ok operatorMagic)
  | _ => (s.flash.images[copy]?).any (Image.ok 0)

/-- A copy takes the content of another place of its region, or is erased. -/
def Flash.setCopy (f : Flash) (region copy : Nat) (src : Option Nat) : Flash :=
  match region with
  | 0 => { f with factory := f.factory.set copy ((src.bind fun k => f.factory[k]?).getD Part.erased) }
  | 1 => { f with operator := f.operator.set copy ((src.bind fun k => f.operator[k]?).getD Part.erased) }
  | _ => { f with images := f.images.set copy ((src.bind fun k => f.images[k]?).getD Image.erased) }

/-- The copy of a region that a refresh rewrites now: one whose last refresh lies 12 months back, not in the month of the other's,
and whose source verifies; a refresh from a source that does not is abandoned (R400). -/
def State.refreshDue (s : State) (region : Nat) : Option Nat :=
  let at' := fun (c : Nat) => s.flash.refreshed.find (2 * region + c)
  ([0, 1].find? fun c => decide (((at' c).getD 0) + 12 * monthMinutes ≤ s.minutes)
    && (match at' (1 - c) with | some t => decide (t + monthMinutes ≤ s.minutes) | none => true)
    && s.copyOk region (1 - c))

/-- Row FLASH_REFRESH (R400): factory part, operator identity, firmware images. The copy is erased as the refresh begins. `ok`
false: the program fails and a spare sector, if one is left, takes the copy's first (DESIGN CHOICE, log 165). -/
def execFlashRefresh (region : Fin 3) (ok : Bool) (s : State) : Out :=
  let finish := fun (s : State) (c : Nat) =>
    let kept := ok || !s.flash.freeSpares.isEmpty
    let f := s.flash.setCopy region c (if kept then some (1 - c) else none)
    let s : State := { s with flash := { f with refreshed := f.refreshed.set (2 * region.val + c) s.minutes } }
    if ok then s else s.badSector (regionSector (copyRegion region c))
  match s.flash.busy, s.refreshDue region with
  | some (.refresh r c), _ => .next (if r = region.val then s.flashRow (.refresh r c) false fun s => finish s c else s)
  | some _, _ => .next s
  | none, none => .next s
  | none, some c =>
    let t := s.flashRow (.refresh region c) true id
    .next (if t.flash.busy.isSome then { t with flash := t.flash.setCopy region c none } else t)

/-- A block that verifies stands in the current half, newer than every block of the other (R411). -/
def Flash.newerHere (f : Flash) : Bool :=
  f.log.any fun b => b.ok && f.other.all fun c => fld c.bytes 0 4 != 0x4346584B || decide (c.seq < b.seq)

/-- Row CONFIG_HALF_ERASE (R411): a full half is erased once a newer block stands in the other. -/
def execConfigHalfErase (s : State) : Out :=
  .next (s.flashRow .half (!s.flash.other.isEmpty && s.flash.newerHere) fun s =>
    { s with flash := { s.flash with other := [] } })

end Sys2Proof.Machine
end

