-- ==== Sys2Proof/Machine/Govern.lean ====
section
/-! DEFINITION. The operator's PWR_ and DBG_ commands (R333, R335, R339, R340, R393). -/
namespace Sys2Proof.Machine

/-! ## PWR -/

/-- Row PWR_CAP_SET (R339, R181). -/
def execPwrCapSet (m : MbxId) (s : State) : Out :=
  .next (s.runPlain m 0x7001 fun s r =>
    let k := s.cfgWrites [(0x0100, r.f 0 4)]
    k.1.finishClamps m k.2)

/-- Row PWR_PRIORITY (R340, R181). A code above 2 in any byte is out of range, and is reported. -/
def execPwrPriority (m : MbxId) (s : State) : Out :=
  .next (s.run m 0x7002 (fun _ => false) (fun _ => false) (fun r => r.f 3 1 != 0) fun s r =>
    let v := r.f 0 1 + 4 * r.f 1 1 + 16 * r.f 2 1
    if r.f 0 1 ≤ 2 ∧ r.f 1 1 ≤ 2 ∧ r.f 2 1 ≤ 2 then
      let k := s.cfgWrites [(0x0102, v)]
      k.1.finishClamps m k.2
    else (s.setConf 0x0102 0x24).finishClamps m [(0x0102, v, 0x24)])

/-- The 64 bytes of a telemetry record (R335). -/
def Tele.bytes (k : Tele) : Bytes :=
  toLE 8 k.start ++ toLE 4 (twos 32 k.ma) ++ toLE 2 k.mv ++ toLE 2 k.n ++ toLE 8 k.mvAt ++ toLE 4 k.mw
    ++ toLE 4 k.est ++ toLE 4 k.grant ++ toLE 2 k.vib ++ toLE 1 k.flags ++ zeros 25

/-- The record of a unit so many windows back (R335). -/
def State.teleOf (s : State) (u back : Nat) : Option Tele := ((s.tele.find u).getD [])[back]?

/-- Row PWR_TELEMETRY (R335). A unit without telemetry, and a window that has not been, give ST_BADARG (log 82). -/
def execPwrTelemetry (m : MbxId) (s : State) : Out :=
  .next (s.run m 0x7003 (fun _ => false) (fun _ => false)
    (fun r => (s.teleOf (r.f 0 4) (min 63 (r.f 4 4))).isNone) fun s r =>
      let n := min 63 (r.f 4 4)
      let l := clampOf 4 (r.f 4 4) n
      match s.teleOf (r.f 0 4) n with
      | none => s.finish m stBadArg
      | some k => s.finish m (if l.isEmpty then stOk else stClamped) (k.bytes ++ l.flatMap clampBytes) l.length)

/-- Row PWR_NOTCH_LIMIT (R333, R181): a tile's NOTCH_LIMIT, or NOTCH_MAX. -/
def execPwrNotchLimit (m : MbxId) (s : State) : Out :=
  .next (s.run m 0x7004 (fun _ => false) (fun _ => false)
    (fun r => r.f 3 1 != 0 || (decide (1023 < r.f 0 2) && r.f 0 2 != 0xFFFF)) fun s r =>
      let id := if r.f 0 2 = 0xFFFF then 0x0101 else 0x1000 + r.f 0 2
      let k := s.cfgWrites [(id, r.f 2 1)]
      k.1.finishClamps m k.2)

/-! ## DBG (R393) -/

/-- The checks of a command that names a tile and one flag bit. -/
def dbgFlagBad (r : Req) : Bool := decide (1023 < r.f 0 2) || decide (1 < r.f 2 1) || r.f 3 1 != 0

/-- Row DBG_ATTACH (R72, R393). A detach leaves a halted core halted (log 83). -/
def execDbgAttach (m : MbxId) (s : State) : Out :=
  .next (s.run m 0x8001 (fun _ => false) (fun _ => false) dbgFlagBad fun s r =>
    (s.modTile (r.f 0 2) fun x => { x with dbg := bit (r.f 2 1) 0 }).finish m stOk)

/-- Row DBG_HALT (R393). -/
def execDbgHalt (m : MbxId) (s : State) : Out :=
  .next (s.run m 0x8002 (fun _ => false) (fun _ => false) dbgFlagBad fun s r =>
    let t := r.f 0 2
    ((s.modTile t fun x => { x with haltDbg := bit (r.f 2 1) 0 }).wdogGo t).finish m stOk)

/-- The checks of DBG_READ and DBG_WRITE: tile, space, place and length. -/
def dbgPlaceBad (r : Req) : Bool :=
  let sp := r.f 2 1
  let lim := if sp = 0 then spadSize else if sp = 1 then colLines * 64 else 0x4000
  decide (1023 < r.f 0 2) || decide (2 < sp) || r.f 3 1 != 0 || decide (4064 < r.f 8 4)
    || decide (lim < r.f 4 4 + r.f 8 4) || (sp == 2 && (r.f 4 4 % 4 != 0 || r.f 8 4 % 4 != 0))

/-- The column lines of the range are held for check handling: the command waits. -/
def State.dbgWaits (s : State) (r : Req) : Bool :=
  r.f 2 1 == 1 && (linesOf (r.f 4 4) (r.f 8 4)).any fun l => ((s.tile (r.f 0 2)).heldLines.find l).isSome

/-- The command names a column that nothing reaches (R24, R233): a wrong state (DESIGN CHOICE, log 108). -/
def State.dbgNoCol (s : State) (r : Req) : Bool := r.f 2 1 == 1 && s.chanClosed (r.f 0 2)

/-- Plaintext bytes of a column, through the owning slot. -/
def State.dbgColRead (s : State) (t a n : Nat) : State × Bytes :=
  let k := (linesOf a n).foldl (fun (acc : State × Bytes) (l : Nat) =>
    let r := acc.1.readLine t l (acc.1.slotFor t l)
    (r.1, acc.2 ++ r.2.data)) (s, [])
  (k.1, sub k.2 (a % 64) n)

/-- Row DBG_READ (R393). -/
def execDbgRead (m : MbxId) (s : State) : Out :=
  .next (s.run m 0x8003 (fun _ => false) (fun r => r.f 8 4 == 0) dbgPlaceBad fun s r =>
    let t := r.f 0 2
    let a := r.f 4 4
    let n := r.f 8 4
    if s.dbgNoCol r then s.finish m stBadState
    else if s.dbgWaits r then s
    else if r.f 2 1 = 0 then s.finish m stOk ((s.tile t).rdSpad a n)
    else if r.f 2 1 = 1 then
      let k := s.dbgColRead t a n
      k.1.finish m stOk k.2
    else s.finish m stOk ((List.range (n / 4)).flatMap fun i => toLE 4 (s.readTile t (a + 4 * i))))

/-- Bytes written to a column: whole lines as they are, others merged (R243). -/
def State.dbgColWrite (s : State) (t a : Nat) (b : Bytes) : State :=
  s.each (linesOf a b.length) fun s l =>
    let lo := max a (l * 64)
    let hi := min (a + b.length) (l * 64 + 64)
    if hi - lo = 64 then s.writeLine t l (s.slotFor t l) (sub b (lo - a) 64)
    else s.mergeLine t l (s.slotFor t l) (lo - l * 64) (sub b (lo - a) (hi - lo))

/-- Row DBG_WRITE (R393). -/
def execDbgWrite (m : MbxId) (s : State) : Out :=
  .next (s.run m 0x8004 (fun _ => false) (fun r => r.f 8 4 == 0)
    (fun r => decide (r.len < 12) || dbgPlaceBad r || r.len != 12 + r.f 8 4) fun s r =>
      let t := r.f 0 2
      let a := r.f 4 4
      let b := sub r.payload 12 (r.f 8 4)
      if s.dbgNoCol r then s.finish m stBadState
      else if s.dbgWaits r then s
      else if r.f 2 1 = 0 then (s.modTile t fun x => x.move a b fun _ => false).finish m stOk
      else if r.f 2 1 = 1 then (s.dbgColWrite t a b).finish m stOk
      else (s.each (List.range (b.length / 4)) fun s i => s.writeTile t (a + 4 * i) (fld b (4 * i) 4)).finish m stOk)

/-- Row DBG_TRACE (R393): the connection of the mailbox traces one tile. -/
def execDbgTrace (m : MbxId) (s : State) : Out :=
  .next (s.run m 0x8005 (fun _ => false) (fun _ => false) dbgFlagBad fun s r =>
    let t := r.f 0 2
    let n := clampN 4 256 (r.f 4 4)
    let s := s.modConn (m - 16) fun c =>
      if bit (r.f 2 1) 0 then { c with trace := some (t, n) }
      else if c.trace.any (·.1 == t) then { c with trace := none } else c
    s.finishClamps m (clampOf 4 (r.f 4 4) n))

end Sys2Proof.Machine
end

