-- ==== Sys2Proof/Machine/Rings.lean ====
section
/-! DEFINITION. Result rings (R199 to R201) and the event log (R187, R391, R422). -/
namespace Sys2Proof.Machine

/-! ## Rings -/

/-- The function of a ring may write host memory: bus mastering is on, no session of it is being overwritten, and it is
enabled (R262, R385, R386). -/
def State.ringOpen (s : State) (f : Nat) : Bool := s.masters f && (s.sess f).state != 2

/-- Every send channel toward a ring: tile and channel (R201). -/
def State.ringAimed (s : State) (f n : Nat) : List (Nat × Nat) :=
  ((s.jobs.filter (·.fn == f)).flatMap Job.all).flatMap fun t =>
    ((List.range 16).filter fun ch =>
      let k := chanOf t ch
      s.rd TILE_TXC_CFG_DEST k == 0x410 && s.rd TILE_TXC_CFG_DCH k == n).map fun ch => (t, ch)

/-- Those of them that are enabled. -/
def State.ringSenders (s : State) (f n : Nat) : List (Nat × Nat) :=
  (s.ringAimed f n).filter fun k => s.rdb TILE_TXC_CFG_EN (chanOf k.1 k.2)

/-- EN = 1 written: PROD and CONS 0; the senders of a ring that was disabled get their credits (R199, R201). -/
def State.ringOn (s : State) (f n : Nat) : State :=
  let r := ringOf f n
  let on := s.rdb MBX_RING_CFG_EN r
  let s := ((s.wr MBX_RING_CFG_EN r 1).wr MBX_RING_PROD_PROD r 0).wr MBX_RING_CONS_CONS r 0
  if on then s.setStall r
  else (((s.ringSenders f n).foldl (fun s k => s.ringGrant k.1 k.2) s)).setStall r

/-- EN = 0 written to an enabled ring: every credit aimed at it is revoked; what was released stays queued (R201). -/
def State.ringOff (s : State) (f n : Nat) : State :=
  let r := ringOf f n
  if !s.rdb MBX_RING_CFG_EN r then s
  else
    let s := (s.wr MBX_RING_CFG_EN r 0).setStall r
    (s.ringAimed f n).foldl (fun s k =>
      s.inject k.2 ⟨.revoke, 0x410, s.rd TILE_JOB_JOB k.1, k.1, k.2, 0, 0, (s.tile k.1).txGenOf k.2⟩) s

/-- CONS written by the host (R201). -/
def State.ringCons (s : State) (f n v : Nat) : State :=
  (s.wr MBX_RING_CONS_CONS (ringOf f n) v).setStall (ringOf f n)

/-- Ring registers take no write while the function's session is being overwritten (R262). -/
def State.ringWrite (s : State) (f : Nat) (g : State → State) : State := if (s.sess f).state = 2 then s else g s

/-- Row RING_ENABLE (R199). -/
def execRingEnable (f : FnId) (n : Fin 4) (s : State) : Out := .next (s.ringWrite f fun s => s.ringOn f n)

/-- Row RING_DISABLE (R201). -/
def execRingDisable (f : FnId) (n : Fin 4) (s : State) : Out := .next (s.ringWrite f fun s => s.ringOff f n)

/-- Row RING_CONS_WRITE (R201). -/
def execRingConsWrite (f : FnId) (n : Fin 4) (cons : W32) (s : State) : Out :=
  .next (s.ringWrite f fun s => s.ringCons f n cons.toNat)

/-- MBX_RINGn_CFG written: the geometry only while EN = 0 (R199). -/
def State.ringCfg (s : State) (f n v : Nat) : State :=
  let r := ringOf f n
  let s := if s.rdb MBX_RING_CFG_EN r then s
    else
      let s := s.wr MBX_RING_CFG_LOG2N r (clampN 4 16 (bf v 0 5))
      if bf v 5 3 = 7 then s else s.wr MBX_RING_CFG_ESC r (bf v 5 3)
  let s := (s.wr MBX_RING_CFG_IRQ_EVERY r (bf v 8 8)).wr MBX_RING_CFG_IRQ_HOLD r (bf v 16 8)
  if bit v 31 then s.ringOn f n else s.ringOff f n

/-- The bytes of a ring entry (R200). A payload that an entry of the ring no longer holds is cut (log 84). -/
def ringEntry (i : RingItem) (es phase : Nat) : Bytes :=
  let b := i.msg.payload.take (es - 32)
  toLE 2 b.length ++ toLE 2 i.msg.src ++ toLE 1 i.msg.sch ++ toLE 1 phase ++ toLE 2 i.msg.job ++ toLE 8 i.at'
    ++ toLE 4 i.msg.seq ++ zeros 12 ++ b

/-- The interrupt condition of a ring after one more entry (R199). -/
def State.ringSignal (s : State) (f n : Nat) : State :=
  let r := ringOf f n
  let k := (s.ringIrq.find r).getD (0, s.now)
  let c := if k.1 = 0 then (1, s.now) else (k.1 + 1, k.2)
  if s.rd MBX_RING_CFG_IRQ_HOLD r = 0 ∨ s.rd MBX_RING_CFG_IRQ_EVERY r + 1 ≤ c.1 then
    ({ s with ringIrq := s.ringIrq.del r } : State).irq f (2 + n)
  else { s with ringIrq := s.ringIrq.set r c }

/-- The credit of a result goes back to its channel, and to its twin's (R201, R208), while its job is there. -/
def State.ringCredit (s : State) (m : Msg) : State :=
  if (s.jobByTag m.job).isNone then s
  else
    let back := fun (t : Nat) => (⟨.back, 0x410, m.job, t, m.sch, 1, 0, m.gen⟩ : Credit)
    (back m.src :: ((s.partnerOf m.src).map back).toList).foldl (fun s c => s.inject m.sch c) s

/-- Row RING_ENTRY_WRITE (R200): the oldest released result goes to entry PROD of its ring. -/
def execRingEntryWrite (f : FnId) (n : Fin 4) (s : State) : Out :=
  let r := ringOf f n
  match (s.ringQ.find r).getD [] with
  | [] => .next s
  | i :: q =>
    if !s.rdb MBX_RING_CFG_EN r ∨ !s.ringOpen f then .next s
    else if s.ringFull r then .next (s.setStall r)
    else
      let l := s.rd MBX_RING_CFG_LOG2N r
      let p := s.rd MBX_RING_PROD_PROD r
      let es := s.ringES f n
      let s := s.wrHost (s.rd MBX_RING_BASE_BASE r * 4096 + p % 2 ^ l * es) (ringEntry i es (1 - p / 2 ^ l % 2))
      let s := ({ s with ringQ := s.ringQ.set r q } : State).inc MBX_RING_PROD_PROD r 1
      .next (((s.ringCredit i.msg).ringSignal f n).setStall r)

/-- Row RING_IRQ_HOLD_EXPIRY (R199): the oldest unsignalled entry is IRQ_HOLD µs old. -/
def execRingIrqHoldExpiry (f : FnId) (n : Fin 4) (s : State) : Out :=
  let r := ringOf f n
  match s.ringIrq.find r with
  | none => .next s
  | some k =>
    if s.now < k.2 + s.rd MBX_RING_CFG_IRQ_HOLD r * 1000 then .next s
    else .next (({ s with ringIrq := s.ringIrq.del r } : State).irq f (2 + n))

/-! ## The event log -/

/-- Whose log a record goes to: its tenant's, or function 0's (R422). -/
def EventRec.fn (e : EventRec) : Nat := if e.tenant < 16 then e.tenant else 0

/-- The record goes to the function's log, or counts as LOST (R187). -/
def State.logRecord (s : State) (f : Nat) (b : Bytes) : State :=
  let p := s.rd MBX_SP_EVT_PROD_PROD f
  if 256 ≤ (p + 2 ^ 32 - s.rd MBX_EVT_CONS_CONS f) % 2 ^ 32 then s.cnt MBX_SP_EVT_LOST_LOST f 1
  else
    let s := s.modMbox f fun x => { x with evlog := x.evlog.set (p % 256) b }
    (s.inc MBX_SP_EVT_PROD_PROD f 1).irq f 1

/-- The record goes to every open connection as an EVENT frame, or is kept for the next one (R391). -/
def State.mgtRecord (s : State) (b : Bytes) : State :=
  let l := (List.range 4).filter fun c => s.connOpen c && !(s.conn c).closing
  if l.isEmpty then
    let k := s.evKept ++ [b]
    if 4096 < k.length then ({ s with evKept := k.drop 1 } : State).cnt MGT_EVLOST_COUNT 0 1 else { s with evKept := k }
  else s.each l fun s c => s.sendFrame c 4 b

/-- Row EVENT_RECORD_WRITE (R187, R391, R422): the oldest record that waits is written. -/
def execEventRecordWrite (s : State) : Out :=
  match s.events with
  | [] => .next s
  | e :: r =>
    let s : State := { s with events := r }
    .next (((s.logRecord e.fn e.bytes).mgtRecord e.bytes).lifeInc stratumUnit 5 1)

end Sys2Proof.Machine
end

