-- ==== Sys2Proof/Machine/Registers.lean ====
section
/-! DEFINITION. Writes to registers that have no row of their own (R9, R10, R384): the spaces of the tiles, of BAR0
(R176, R199, R383), of the regulators, converters and loops (R304, R316, R330), and of governance. -/
namespace Sys2Proof.Machine

/-! ## Regulators, converters and loops -/

/-- A word written to a regulator's block (R304). An enable starts from the output's latest sample. -/
def State.writeTlr (s : State) (r off v : Nat) : State :=
  match off with
  | 0x00 => s.setPoint r (bf v 0 8) (bf v 12 4)
  | 0x08 =>
    let s := (s.wr TLR_CFG_BURST_EN r (bf v 1 1)).wr TLR_CFG_SHED_EN r (bf v 2 1)
    let s := if r < 1024 then (s.wr TLR_CFG_HINT_MAXUP r (min 40 (bf v 3 8))).wr TLR_CFG_HDR_STAGE r (bf v 11 5) else s
    if bit v 0 then s.regEnable r (s.softFrom r) else s.railOff r
  | _ => s.writeWord .tlr r off v

/-- What a regulator's block reads (R304): Vref and its movement as they are now; fields of other families zero; an LKR's copy
of what its local loop measures and trims, which the base die brings (a free value). -/
def State.readTlr (s : State) (r off : Nat) : Nat :=
  let w := s.regWord .tlr r off
  let live := fun (p : Nat) => if s.regOn r then (Config.lkrCopy r p s.now).toNat else 0
  if off = 0x00 then if r < 1024 then w else bfSet w 12 4 0
  else if off = 0x08 then if r < 1024 then w else bf w 0 3
  else if off = 0x0C then
    let w := bfSet w 7 1 (b2n (s.regOn r && s.vref r != (s.regul r).refTo))
    if r < 2112 then w else bfSet (bfSet w 3 4 (min 8 (bf (live 0x0C) 3 4))) 9 2 (bf (live 0x0C) 9 2)
  else if off = 0x14 ∧ 2112 ≤ r then live 0x14
  else if off = 0x18 then if 2112 ≤ r then live 0x18 else 0
  else if off = 0x20 ∧ 2112 ≤ r then live 0x20
  else if off = 0x24 ∧ 2048 ≤ r then 0
  else if off = 0x28 then bfSet (if 2112 ≤ r then live 0x28 / 65536 * 65536 else w) 0 8 (if s.regOn r then s.vref r else 0)
  else if (off = 0x2C ∨ off = 0x30) ∧ 1024 ≤ r then 0
  else w

/-- A word written to a converter's block (R316). The raw code of an urgent sample is a free value. -/
def State.writeFcv (s : State) (f off v : Nat) : State :=
  if off ≤ 0x010 ∧ off % 4 = 0 then s.writeMask f (off / 4) v
  else if off = 0x018 then ({ s with drawn := s.drawn + 1 } : State).urgent f (bf v 0 8) ((Config.free s.drawn).toNat % 4096)
  else s.writeWord .fcv f off v

/-- What FCE_PERIOD reads while the control periods run: the start of the current one (R306, R330). -/
def State.periodStart (s : State) (f : Nat) : Nat :=
  if s.rdb FCE_CTRL_RUN f then s.now / 1000 * 1000 else s.rd FCE_PERIOD_START f

/-- FCE_LOOPn_CFG written (R324, R330): LAW and NX wait for the frame close; LAW 3 is ignored. -/
def State.writeLoopCfg (s : State) (l v : Nat) : State :=
  let s := s.setLoop l { s.loop l with
    lawNext := if bf v 0 2 = 3 then (s.loop l).lawNext else some (bf v 0 2)
    nxNext := some (bf v 2 2) }
  let s := if bit v 4 then s.wr FCE_LOOP_CFG_SWAP l 1 else s
  if 33 ≤ l % 36 then (s.wr FCE_LOOP_CFG_TIED l (bf v 5 1)).wr FCE_LOOP_CFG_REG l (bf v 6 12) else s

/-- A word written to a fold's FCE_ block, by its offset in the fold's space (R330). -/
def State.writeFce (s : State) (f off v : Nat) : State :=
  if off < 0x1000 then s.writeWord .fce f off v
  else
    let n := (off - 0x1000) / 0x300
    let o := (off - 0x1000) % 0x300
    let l := 36 * f + n
    if 36 ≤ n then s
    else if o = 0x000 then s.writeLoopCfg l v
    else if o = 0x004 then
      (s.wr FCE_LOOP_DLIM_DMIN l (min (bf v 0 16) (bf v 16 16))).wr FCE_LOOP_DLIM_DMAX l (bf v 16 16)
    else if 0x080 ≤ o ∧ o < 0x100 ∧ o % 4 = 0 then s.wr FCE_LOOP_SCOEF_COEF (32 * l + (o - 0x080) / 4) v
    else if 0x100 ≤ o ∧ o < 0x120 ∧ o % 4 = 0 then
      s.each (List.range 4) fun s q => s.wr FCE_LOOP_SSH_SHIFT (32 * l + (o - 0x100) + q) (bf v (8 * q) 5)
    else s.writeWord .loop l o v

/-! ## Governance -/

/-- A word written to the PWR_ block (R356): its fields are configuration fields. -/
def State.writePwr (s : State) (off v : Nat) : State :=
  if off = 0x000 then (s.cfgWrite 0x0100 (bf v 0 12)).1
  else if off = 0x004 then (s.cfgWrite 0x0102 (bf v 0 6)).1
  else if 0x1000 ≤ off ∧ off < 0x2000 ∧ off % 4 = 0 then (s.cfgWrite (0x1000 + (off - 0x1000) / 4) (bf v 0 4)).1
  else s.writeWord .pwr 0 off v

/-! ## The mailbox page and BAR0 -/

/-- A word written to a mailbox page (R176, R177). -/
def State.writePage (s : State) (m off v : Nat) : State :=
  if off = 0x000 then
    let s := if bit v 0 then s.mbxGo m else s
    if bit v 1 then s.mbxRelease m else s
  else if off < 0x010 then s.writeWord .mbx m off v
  else if 0x1000 ≤ off ∧ off < 0x2000 then s.modMbox m fun x => { x with request := Memory.putN x.request (off - 0x1000) (toLE 4 v) }
  else s

/-- A word written to a ring's block (R199). -/
def State.writeRing (s : State) (f n off v : Nat) : State :=
  s.ringWrite f fun s =>
    if off = 0x08 then s.ringCfg f n v
    else if off = 0x14 then s.ringCons f n v
    else if s.rdb MBX_RING_CFG_EN (ringOf f n) then s
    else s.writeWord .ring (ringOf f n) off v

/-- A word written to the MSI-X table: a vector that is no longer masked and is pending is raised (R383; log 163). -/
def State.writeMsix (s : State) (f w v : Nat) : State :=
  let s : State := { s with msixTab := s.msixTab.set (32 * f + w) (v % 2 ^ 32) }
  let k := 8 * f + w / 4
  if w % 4 = 3 ∧ !bit v 0 ∧ (s.msixPend.find k).isSome then ({ s with msixPend := s.msixPend.del k } : State).irq f (w / 4) else s

/-- BAR0's buffers: request and reply buffer, and the event log window; every other offset is a register's or reserved (R384). -/
def bar0Buffer (off : Nat) : Bool := decide (0x1000 ≤ off ∧ off < 0x3000) || decide (0x10000 ≤ off ∧ off < 0x14000)

/-- An access that BAR0 does not accept (R384): a register takes naturally aligned 4 and 8 bytes, a buffer whole 4-byte words. -/
def bar0Bad (off len : Nat) : Bool :=
  if bar0Buffer off then decide (off % 4 ≠ 0 ∨ len % 4 ≠ 0 ∨ len = 0)
  else !(decide (len = 4 ∧ off % 4 = 0) || decide (len = 8 ∧ off % 8 = 0))

/-- A word written in BAR0 (R383). -/
def State.writeBar0 (s : State) (f off v : Nat) : State :=
  if off < 0x4000 then s.writePage f off v
  else if 0x20000 ≤ off ∧ off < 0x20100 then s.writeRing f ((off - 0x20000) / 0x40) (off % 0x40) v
  else if 0x30000 ≤ off ∧ off < 0x30080 then s.writeMsix f ((off - 0x30000) / 4) v
  else s

/-- A word read in BAR0 (R383): mailbox page, status page, event log window, rings, MSI-X table and pending bits; zero elsewhere. -/
def State.bar0Word (s : State) (f off : Nat) : Nat :=
  let x := s.mbox f
  if off < 0x10 then s.regWord .mbx f off
  else if 0x1000 ≤ off ∧ off < 0x2000 then leNat (Memory.getN x.request (off - 0x1000) 4)
  else if 0x2000 ≤ off ∧ off < 0x3000 then fld x.reply (off - 0x2000) 4
  else if 0x4000 ≤ off ∧ off < 0x5000 then fld (s.statusPage f) (off - 0x4000) 4
  else if 0x10000 ≤ off ∧ off < 0x14000 then fld ((x.evlog.find ((off - 0x10000) / 64)).getD []) (off % 64) 4
  else if 0x20000 ≤ off ∧ off < 0x20100 then s.regWord .ring (ringOf f ((off - 0x20000) / 0x40)) (off % 0x40)
  else if 0x30000 ≤ off ∧ off < 0x30080 then (s.msixTab.find (32 * f + (off - 0x30000) / 4)).getD 0
  else if off = 0x31000 then (List.range 8).foldl (fun n v => n + if (s.msixPend.find (8 * f + v)).isSome then 2 ^ v else 0) 0
  else 0

/-- What a read in BAR0 returns (R384): the words, all of one instant; zeros for an access that BAR0 does not accept, or of a function
that is not enabled. -/
def State.readBar0 (s : State) (f off len : Nat) : Bytes :=
  if bar0Bad off len ∨ !bit (s.rd PCIE_VFEN_EN 0) f then zeros len
  else (List.range (len / 4)).flatMap fun i => toLE 4 (s.bar0Word f (off + 4 * i))

/-- A word written to a register's space. A tile's window holds registers up to 0x3FFF (R75). -/
def State.writeReg (s : State) (sp : RegSpace) (off v : Nat) : State :=
  match sp with
  | .tile t => if off < 0x4000 then s.writeTile t off v else s
  | .bar0 f => s.writeBar0 f off v
  | .mgtMbx m => if off % 4 = 0 then s.writePage (16 + m) off v else s
  | .tlr r => s.writeTlr r off v
  | .fcv f => s.writeFcv f off v
  | .fce f => s.writeFce f off v
  | .pwr => s.writePwr off v
  | .thm => s.writeWord .thm 0 off v
  | .welt p => s.writeWord .welt p off v
  | .pcie => s.writeWord .pcie 0 off v
  | .mgt => s.writeWord .mgt 0 off v
  | .lrec => s.writeWord .lrec 0 off v

/-- Row REGISTER_WRITE (R9, R10, R384). In BAR0 of an enabled function an access that it does not accept is dropped and counted. -/
def execRegisterWrite (sp : RegSpace) (off : Nat) (v : RegData) (s : State) : Out :=
  let put := fun (s : State) =>
    let s := s.writeReg sp off v.lo.toNat
    match v.hi with
    | some w => s.writeReg sp (off + 4) w.toNat
    | none => s
  .next (match sp with
  | .bar0 f =>
    if !bit (s.rd PCIE_VFEN_EN 0) f then s
    else if bar0Bad off (if v.hi.isSome then 8 else 4) then s.cnt PCIE_BADACC_COUNT 0 1
    else put s
  | _ => if v.hi.isSome ∧ off % 8 ≠ 0 then s else put s)

end Sys2Proof.Machine
end

