-- ==== Sys2Proof/Machine/Thermal.lean ====
section
/-! DEFINITION. The thermal loop (R344 to R350): sensors and their failures, limits, the hobble schedule, critical
actions and stop decisions. Temperatures are in 0.125 °C. -/
namespace Sys2Proof.Machine

/-! ## Sensors (R344, R347) -/

/-- A signed trim of the factory part, held in its range (R407, R410). -/
def State.signedTrim (s : State) (id : Nat) (lo hi : Int) : Int :=
  clampI lo hi (sext 32 ((s.stackRecord.trims.find id).getD 0))

/-- The trim of a diode (R309). -/
def State.diodeTrim (s : State) (f i : Nat) : Int := s.signedTrim (0x8000 + 4 * f + i) (-512) 511

/-- A converter diode in 0.125 °C, after its trim (R309). -/
def State.diode (s : State) (f i : Nat) : Int := (s.chCode f (132 + i) : Int) - 512 + s.diodeTrim f i

/-- The sensor of a tile has been found broken. -/
def State.sensorBad (s : State) (t : Nat) : Bool := bit (s.rd THM_BROKEN_TILE (t / 32)) (t % 32)

/-- The median of some readings; of an even number, the lower middle one (DESIGN CHOICE, log 43). -/
def median (l : List Int) : Int :=
  let m := l.mergeSort (fun a b => decide (a ≤ b))
  m.getD ((m.length - 1) / 2) 0

/-- The raw reading of a tile in a sample. -/
def rawTemp (c : TempCodes) (t : Nat) : Int := sext 16 (c.getD t 0#16).toNat

/-- The other valid readings of a tile's fold. -/
def State.foldOthers (s : State) (c : TempCodes) (t : Nat) : List Int :=
  ((tilesOf (foldOf t)).filter fun u => u != t && !s.sensorBad u).map (rawTemp c)

/-- A broken memory diode. -/
def State.diodeBroken (s : State) (f i : Nat) : Bool := (s.diodeBad.find (2 * f + i)).isSome

/-- The memory temperature of a fold from its own diodes 2 and 3. -/
def State.ownMem (s : State) (f : Nat) : Option Int :=
  match s.diodeBroken f 0, s.diodeBroken f 1 with
  | false, false => some (max (s.diode f 2) (s.diode f 3))
  | false, true => some (s.diode f 2)
  | true, false => some (s.diode f 3)
  | true, true => none

/-- Folds that share an edge. -/
def foldEdges (f : Nat) : List Nat :=
  (if f % 8 = 0 then [] else [f - 1]) ++ (if f % 8 = 7 then [] else [f + 1])
    ++ (if f < 8 then [] else [f - 8]) ++ (if 56 ≤ f then [] else [f + 8])

def State.memTemp (s : State) (f : Nat) : Int :=
  match s.ownMem f with
  | some v => v
  | none => ((foldEdges f).filterMap s.ownMem).foldl max (-32768)

/-- The run of a sensor's unchanged code: its length, and the reference reading when it began; whether it has lasted 100
samples while that moved by 1 °C. -/
def State.stuckRun (s : State) (k : Nat) (v prev : Int) (others : Int) : State × Bool :=
  let old := (s.stuck.find k).getD 0
  let n := if v = prev ∧ old ≠ 0 then old / 2 ^ 17 + 1 else 1
  let m : Int := if v = prev ∧ old ≠ 0 then (old % 2 ^ 17 : Nat) - 65536 else others
  ({ s with stuck := s.stuck.set k (n * 2 ^ 17 + (m + 65536).toNat) },
   decide (100 ≤ n ∧ 8 ≤ (others - m).natAbs))

/-- Whether a reading is outside the sensors' range. -/
def outOfRange (v : Int) : Bool := decide (v < -320 ∨ 1200 < v)

/-- Tile sensors that this sample finds broken; they are ignored from the next one. A tile in Tile Off and in Fold Off is
measured too (R24, R270). -/
def State.checkSensors (s : State) (c : TempCodes) : State :=
  let was := s
  s.each ((List.range 1024).filter fun t => !was.sensorBad t) fun s t =>
    let v := rawTemp c t
    let o := was.foldOthers c t
    let m := median o
    let r := s.stuckRun t v (sext 16 (s.rd TILE_TEMP_TEMP t)) m
    if outOfRange v ∨ (!o.isEmpty ∧ (r.2 ∨ 120 < (v - m).natAbs)) then
      (r.1.wr THM_BROKEN_TILE (t / 32) (bfSet (s.rd THM_BROKEN_TILE (t / 32)) (t % 32) 1 1)).event evSensorBroken
        (tileUnit t) none (detail := toLE 4 t)
    else r.1

/-- Memory diodes that this sample finds broken, ignored from the next one; one found before no longer stands for comparison. The converter of a fold in
Fold Off samples on; before its first period there is no sample. -/
def State.checkDiodes (s : State) : State :=
  let was := s
  s.each ((List.range 128).filter fun k => s.rdb FCE_CTRL_RUN (k / 2) && !was.diodeBroken (k / 2) (k % 2)) fun s k =>
    let f := k / 2
    let v := s.diode f (2 + k % 2)
    let o := s.diode f (3 - k % 2)
    let other := !was.diodeBroken f (1 - k % 2)
    let prev : Int := ((s.temps.find (4096 + k)).bind (·.head?)).map (·.2) |>.getD v
    let r := s.stuckRun (2048 + k) v prev o
    let s := { r.1 with temps := r.1.temps.set (4096 + k) [(s.now, v)] }
    if outOfRange v ∨ (other ∧ (r.2 ∨ 120 < (v - o).natAbs)) then
      { s with diodeBad := s.diodeBad.set k 1 }.wr THM_DBROKEN_FOLD 0 (bfSet (s.rd THM_DBROKEN_FOLD 0) f 1 1)
    else s

/-! ## Rates (R345) -/

/-- The readings of a history, newest first, back to the one that stood 1 ms ago. -/
def keepMs (now : Nat) (h : List (Nat × Int)) : List (Nat × Int) :=
  h.takeWhile (fun e => decide (now < e.1 + 1000000)) ++ (h.dropWhile fun e => decide (now < e.1 + 1000000)).take 1

/-- The rise of a reading over the last 1 ms, per ms: against the value that its latest sample of 1 ms ago or earlier gave, 0 where
there is none (DESIGN CHOICE, log 158); the history takes the new one. -/
def State.rate (s : State) (k : Nat) (v : Int) : State × Int :=
  let h := keepMs s.now ((s.temps.find k).getD [])
  let old := h.find? fun e => decide (e.1 + 1000000 ≤ s.now)
  ({ s with temps := s.temps.set k ((s.now, v) :: h) }, match old with | some e => v - e.2 | none => 0)

/-- A tile's reading in a sample: its ID, its temperature and its rate. -/
abbrev Reading := Nat × Int × Int

/-! ## Hobbling (R348, R349) -/

/-- One step of the schedule on a tile. -/
def State.hobbleUp (s : State) (t : Nat) : State :=
  let p := s.rd TILE_HOBBLE_PAUSE t
  if p = 0 then s.wr TILE_HOBBLE_PAUSE t 256
  else if p < 4095 then s.wr TILE_HOBBLE_PAUSE t (min 4095 (2 * p))
  else s.wr PWR_TILE_THN t (s.rd PWR_TILE_THN t - 1)

/-- One step of its release, once per window. -/
def State.hobbleDown (s : State) (t : Nat) : State :=
  let n := s.rd PWR_TILE_THN t
  let p := s.rd TILE_HOBBLE_PAUSE t / 2
  if n < 15 then s.wr PWR_TILE_THN t (n + 1)
  else s.wr TILE_HOBBLE_PAUSE t (if p < 256 then 0 else p)

/-- The schedule of one tile in a sample; `by'` the thresholds that it has reached (1 the tile's, 2 the memory's), `cool` every
threshold that it follows is cleared by 3 °C. A released tile follows none. -/
def State.hobble (s : State) (t by' : Nat) (cool : Bool) : State :=
  if by' ≠ 0 then
    ({ s with cool := s.cool.set t 0, heatBy := s.heatBy.set t (((s.heatBy.find t).getD 0) ||| by') } : State).hobbleUp t
  else
    let n := if cool then min 8 ((s.cool.find t).getD 0 + 1) else 0
    let s := { s with cool := s.cool.set t n }
    let s := if n = 8 ∧ s.now % 1000000 = 0 then s.hobbleDown t else s
    if s.rd PWR_TILE_THN t = 15 ∧ s.rd TILE_HOBBLE_PAUSE t = 0 then { s with heatBy := s.heatBy.set t 0 } else s

/-- A tile's run of cool samples starts over, and it follows no threshold of R348. -/
def State.coolReset (s : State) (t : Nat) : State := { s with cool := s.cool.set t 0, heatBy := s.heatBy.set t 0 }

/-- A critical action on a fold: THN 0 and PAUSE 4,095 on every tile; recorded where it begins. -/
def State.critical (s : State) (f ev cause : Nat) (began : Bool) : State :=
  let s := s.each (tilesOf f) fun s t =>
    ((s.wr PWR_TILE_THN t 0).wr TILE_HOBBLE_PAUSE t 4095).coolReset t
  let s := s.modFold f fun x => { x with critCause := cause }
  if began then s.event ev (fcvUnit f) none (detail := toLE 4 f) else s

/-- The two pauses of a Dual pair follow the greater (R208). -/
def State.pairPauses (s : State) : State :=
  s.each (s.jobs.flatMap fun j => j.tiles) fun s t =>
    match s.partnerOf t with
    | none => s
    | some u =>
      let p := max (s.rd TILE_HOBBLE_PAUSE t) (s.rd TILE_HOBBLE_PAUSE u)
      (s.wr TILE_HOBBLE_PAUSE t p).wr TILE_HOBBLE_PAUSE u p

/-! ## The sample (R344 to R350) -/

/-- The time to trip of a tile in µs (R350). -/
def tripUs (v rate : Int) : Nat :=
  let d := (944 - v).toNat
  if rate < 1 then d * 1250 else d * 1000 / rate.toNat

/-- Whether every threshold that a tile's schedule follows is cleared by 3 °C: that of the action in force, or else the tile's own
where it was reached, and the memory's where that was. A rate-of-rise action is released below its 4 °C/ms (DEDUCED, log 135). -/
def State.cleared (s : State) (cause : Nat) (mem : Int) (r : Reading) : Bool :=
  let by' := (s.heatBy.find r.1).getD 0
  (if cause = 1 then decide (r.2.1 ≤ 856) else if cause = 2 then decide (r.2.2 < 32) else !bit by' 0 || decide (r.2.1 ≤ 776))
    && (!bit by' 1 || decide (mem ≤ 736))

/-- The limits of one fold: critical and rate actions, refresh rate, memory stop; and the hobble schedule of its
tiles. Any action is released only below 100 °C (DEDUCED, log 135). Answers whether
a stop is decided: for a tile at or above 110 °C in every sample of 1 ms since the action, one that rises by 8 °C/ms in two samples
on end, or a memory stop (R350). -/
def State.foldHeat (s : State) (f : Nat) (rs : List Reading) : State × Bool :=
  let mem := s.memTemp f
  let x := s.fold f
  let crit := (rs.filter fun r => decide (880 ≤ r.2.1)).map (·.1)
  let ror := (rs.filter fun r => decide (64 ≤ r.2.2)).map (·.1)
  let still := x.critTiles.filter fun k => crit.contains k.1
  let began := still.isEmpty
  let fresh := (crit.filter fun t => !still.any (·.1 == t)).map fun t => (t, s.now)
  let stay := still.any (fun k => decide (k.2 + 1000000 ≤ s.now)) || ror.any x.rorTiles.contains
  let s := s.modFold f fun x => { x with critTiles := still ++ fresh, rorTiles := ror }
  let two := fun (s : State) (v : Nat) => s.each (tilesOf f) fun s t => s.wr VCH_STATE_REFRESH2X t v
  let s := if 680 ≤ mem then two s 1 else if mem < 656 then two s 0 else s
  let s := s.modFold f fun x => { x with memStop := if 800 ≤ mem then some (x.memStop.getD s.now) else none }
  let memStop := match (s.fold f).memStop with | some t => decide (t + 1000000 ≤ s.now) | none => false
  let cause := (s.fold f).critCause
  let s := rs.foldl (fun s r =>
    s.hobble r.1 (b2n (decide (800 ≤ r.2.1)) + 2 * b2n (decide (760 ≤ mem))) (s.cleared cause mem r)) s
  let s := if ror.isEmpty then s else s.critical f evThermalRorAct 2 x.rorTiles.isEmpty
  let s := if crit.isEmpty then s else s.critical f evThermalCritical 1 began
  let calm := rs.all fun r => s.rd PWR_TILE_THN r.1 == 15 && s.rd TILE_HOBBLE_PAUSE r.1 == 0
  let s := if calm then s.modFold f fun x => { x with critCause := 0 } else s
  (s, stay || memStop)

/-- THERMAL_WARN once per minute per tile. -/
def State.warnTile (s : State) (t : Nat) : State :=
  let due := match s.warnAt.find t with | some w => decide (w + 60000000000 ≤ s.now) | none => true
  if due then ({ s with warnAt := s.warnAt.set t s.now } : State).event evThermalWarn (tileUnit t) (s.jobOf t) else s

/-- The bin of a temperature (R419). -/
def tempBin (v : Int) : Nat := if v < -320 then 0 else if 1200 ≤ v then 191 else (v / 8 + 41).toNat

/-- Near a limit not yet reached, by 8 °C. -/
def nearLimit (ls : List Int) (v : Int) : Bool := ls.any fun l => decide (v < l ∧ l ≤ v + 64)

/-- The stop decision (R350): orderly when more than 2 ms remain before the trip. It may fall while the stratum comes back from an
orderly stop, too. -/
def State.decideStop (s : State) (us : Nat) : State :=
  if s.stopKind = 1 ∨ s.stopKind = 2 then s
  else
    let s := if s.stopKind = 3 then s.wr THM_STAT_LEVEL 0 4 else s
    { s with stopKind := if 2000 < us then 1 else 2, stopAt := s.now }

/-- The readings of the valid tile sensors, with their rates. -/
def State.sensors (s : State) (c : TempCodes) : State × List Reading :=
  let r := ((List.range 1024).filter fun t => !s.sensorBad t).foldl (fun (acc : State × List Reading) t =>
    let k := acc.1.rate t (rawTemp c t)
    (k.1, (t, rawTemp c t, k.2) :: acc.2)) (s, [])
  (r.1, r.2.reverse)

/-- The higher of a fold's diodes 0 and 1 plus 10 °C, with its rate (R347). -/
def State.fallback (s : State) (f : Nat) : State × Int × Int :=
  let a := s.rate (2048 + 2 * f) (s.diode f 0)
  let b := a.1.rate (2049 + 2 * f) (s.diode f 1)
  (b.1, if s.diode f 0 < s.diode f 1 then (s.diode f 1 + 80, b.2) else (s.diode f 0 + 80, a.2))

/-- The hottest reading. -/
def hottestOf (rs : List Reading) : Reading :=
  rs.foldl (fun (a : Reading) k => if a.2.1 < k.2.1 then k else a) (0, -32768, 0)

/-- The temperatures that the loop uses for the tiles of a fold, from its valid sensors (R347): with fewer than four, the fallback;
of a tile with a broken sensor, the highest of the others. The rate is that of the sensor whose value is taken. -/
def foldReadings (valid : List Reading) (d : Int × Int) (f : Nat) : List Reading :=
  (tilesOf f).map fun t =>
    if valid.length < 4 then (t, d)
    else match valid.find? (·.1 == t) with
      | some k => k
      | none => (t, (hottestOf valid).2)

/-- The readings of the valid sensors, and what the loop uses for every tile. -/
def State.readings (s : State) (temps : TempCodes) : State × List Reading × List Reading :=
  let k := s.sensors temps
  let r := (List.range 64).foldl (fun (acc : State × List (List Reading)) f =>
    let d := acc.1.fallback f
    (d.1, foldReadings (k.2.filter fun v => foldOf v.1 == f) d.2 f :: acc.2)) (k.1, [])
  let all := r.2.reverse.flatten
  (r.1, k.2, (List.range 1024).filterMap fun t => all.find? (·.1 == t))

/-- The hottest memory of the folds. -/
def State.hotMem (s : State) : Nat × Int :=
  (List.range 64).foldl (fun (a : Nat × Int) f => if a.2 < s.memTemp f then (f, s.memTemp f) else a) (0, -32768)

/-- The greatest rate. -/
def rateOf (rs : List Reading) : Int := rs.foldl (fun m k => max m k.2.2) (-32768)

/-- The least time to trip of some readings, µs. -/
def soonest (rs : List Reading) : Nat := rs.foldl (fun m k => min m (tripUs k.2.1 k.2.2)) (2 ^ 32 - 1)

/-- The temperature histogram once per window, the checks of the tile sensors, and TILE_TEMP. -/
def State.takeTemps (s : State) (temps : TempCodes) (valid : List Reading) : State :=
  let s := if s.now % 1000000 = 0 then valid.foldl (fun s k => s.sample (256 + tempBin k.2.1)) s else s
  (s.checkSensors temps).each (List.range 1024) fun s t => s.wr TILE_TEMP_TEMP t (temps.getD t 0#16).toNat

/-- The THM_ registers of a sample, with the rate warnings (R345, R349, R357). -/
def State.heatRegs (s : State) (valid rs : List Reading) : State :=
  let hot := hottestOf valid
  let memf := s.hotMem
  let rate := rateOf rs
  let was := s.rdb THM_STAT_ROR_WARN 0
  let s := ((s.wr THM_TMAX_TEMP 0 (twos 16 hot.2.1)).wr THM_TMAX_TILE 0 hot.1).wr THM_MEMMAX_TEMP 0 (twos 16 memf.2)
  let s := ((s.wr THM_MEMMAX_FOLD 0 memf.1).wr THM_RATE_RATE 0 (twos 16 rate)).wr THM_TTT_US 0
    (soonest (rs.filter fun k => decide (0 < k.2.2)))
  let s := (s.wr THM_STAT_ROR_WARN 0 (b2n (decide (32 ≤ rate)))).wr THM_STAT_ROR_ACT 0 (b2n (decide (64 ≤ rate)))
  let s := if 32 ≤ rate ∧ !was then s.event evThermalRorWarn stratumUnit none else s
  rs.foldl (fun s k => if 760 ≤ k.2.1 then s.warnTile k.1 else s) s

/-- A trim held at its range end is recorded once per hour. -/
def State.trimLimit (s : State) (k code unit : Nat) : State :=
  let due := match s.trimAt.find k with | some w => decide (w + 3600000000000 ≤ s.now) | none => true
  if due then ({ s with trimAt := s.trimAt.set k s.now } : State).event code unit none else s

/-- The oscillator trims of the tiles and the gain-reference trims of the folds, written anew and held at their range ends (R346;
log 11). -/
def State.trims (s : State) (rs : List Reading) : State :=
  let s := rs.foldl (fun s k =>
    let coef := (s.stackRecord.oscCoef.find k.1).getD 0
    let v := s.signedTrim (0x4000 + 16 * k.1 + s.rd TILE_NOTCH_CUR k.1) (-2048) 2047 + Config.oscDrift coef (k.2.1 - 200)
    let s := s.modTile k.1 fun x => { x with oscTrim := clampI (-2048) 2047 v }
    if v < -2048 ∨ 2047 < v then s.trimLimit k.1 evOscTrimLimit (tileUnit k.1) else s) s
  s.each ((List.range 64).filter fun f => s.rdb FCE_CTRL_RUN f) fun s f =>
    let v := Config.refDrift (s.signedTrim (0x8400 + f) (-128) 127) ((s.diode f 0 + s.diode f 1) / 2 - 200)
    let s := s.modFold f fun x => { x with refTrim := clampI Config.refTrimLo Config.refTrimHi v }
    if v < Config.refTrimLo ∨ Config.refTrimHi < v then s.trimLimit (1024 + f) evRefTrimLimit (fcvUnit f) else s

/-- The limits of every fold; whether one asks for a stop. -/
def State.allFolds (s : State) (rs : List Reading) : State × Bool :=
  (List.range 64).foldl (fun (acc : State × Bool) f =>
    let k := acc.1.foldHeat f (rs.filter fun k => foldOf k.1 == f)
    (k.1, acc.2 || k.2)) (s, false)

/-- The sampling rate (R344). -/
def State.sampleRate (s : State) (valid rs : List Reading) : State :=
  let near := valid.any (fun k => nearLimit [760, 800, 880, 944] k.2.1)
    || (List.range 64).any (fun f => [0, 1].any fun i =>
        !s.diodeBroken f i && nearLimit [680, 760, 800] (s.diode f (2 + i)))
    || decide (32 ≤ rateOf rs)
  let run := if near then 0 else s.fastRun + 1
  let s := { s with fastRun := run }
  s.wr THM_STAT_FAST 0 (b2n (near || (s.rdb THM_STAT_FAST 0 && decide (run < 8))))

/-- The stop decisions of a sample (R350). An orderly stop under way becomes an immediate one at a trip reading, and where less
time is left than the rest of its 1,500 µs (R351). -/
def State.stops (s : State) (rs : List Reading) (asked : Bool) : State :=
  if 944 ≤ (hottestOf rs).2.1 then { s with stopKind := 2 }
  else if s.stopKind = 1 ∧ s.rd THM_STAT_LEVEL 0 < 5 ∧ soonest rs * 1000 + s.now < s.stopAt + 1500000 then { s with stopKind := 2 }
  else if asked then s.decideStop (soonest rs)
  else s

/-- Since when every valid Tj and every memory temperature is low enough to resume (R352), and THM_STAT.LEVEL (R357). -/
def State.heatLevel (s : State) (valid rs : List Reading) : State :=
  let calm := valid.all (fun k => decide (k.2.1 < 720)) && (List.range 64).all fun f => decide (s.memTemp f < 680)
  let hot := (hottestOf rs).2.1
  let lvl := if 880 ≤ hot then 3 else if 800 ≤ hot ∨ 760 ≤ s.hotMem.2 then 2 else if 760 ≤ hot then 1 else 0
  let s := { s with coolFrom := if calm then some (s.coolFrom.getD s.now) else none }
  if s.rd THM_STAT_LEVEL 0 < 4 then s.wr THM_STAT_LEVEL 0 lvl else s

/-- Row THERMAL_SAMPLE (R344): every 1 ms on the window grid, or every 125 µs. -/
def execThermalSample (temps : TempCodes) (s : State) : Out :=
  let grid := if s.rdb THM_STAT_FAST 0 then 125000 else 1000000
  let k := s.fit 1024 1024 temps (·.setWidth 16)
  let s := k.1
  let temps := k.2
  if s.now % grid ≠ 0 ∨ s.thmAt = s.now ∨ s.phase = .stopped ∨ s.phase = .reset then .next s
  else
    let r := ({ s with thmAt := s.now } : State).readings temps
    let valid := r.2.1
    let rs := r.2.2
    let h := (((r.1.takeTemps temps valid).trims rs).heatRegs valid rs).allFolds rs
    .next ((((h.1.pairPauses.sampleRate valid rs).stops rs h.2).heatLevel valid rs).checkDiodes).applyNotches

end Sys2Proof.Machine
end

