-- ==== Sys2Proof/Machine/Stops.lean ====
section
/-! DEFINITION. The thermal stops and the return from an orderly one (R350 to R353, R358). -/
namespace Sys2Proof.Machine

/-- The fields of a tile that the drover holds for the job there, and writes again after they took their Reset values
(R191, R415; DEDUCED, log 85). -/
def jobFields : List Field :=
  [TILE_BOOT_ADDR, TILE_BOOT_SPACE, TILE_JOB_JOB, TILE_WDOG_LIMIT, NBC_CTRL_MODE, TILE_PG_DIR_DIR, TILE_PG_FRAMES_NFRAMES,
   TILE_PG_FRAMES_RESERVE, TILE_PG_BASE_FBASE, TILE_PG_GEOM_DCODE, TILE_PG_GEOM_FFMT, TILE_PG_GEOM_KSLOT,
   TILE_PG_FREE_FREE, TILE_PG_FREE_PENDING, TILE_PG_EPOCH_EPOCH]

/-- Those fields of a tile as an earlier state has them. -/
def State.keepJobFields (s old : State) (t : Nat) : State := jobFields.foldl (fun s f => s.wr f t (old.rd f t)) s

/-- A tile loses its supply at an orderly stop; its column, and what the drover knows of its job, stay. -/
def State.tileDown (s : State) (t : Nat) : State :=
  if (s.tile t).off then s
  else
    let x := s.tile t
    match s.jobOf t with
    | none => s.tileOff t
    | some _ =>
      let d := ((((s.clock t true).tileReset t true).weigh t).resetRegs (tileHit t) 2).keepJobFields s t
      let d := d.modTile t fun y => { y.dark with nfte := x.nfte, ftab := x.ftab, haltJob := true }
      (d.regDisable (tlrOf t)).regDisable (tarOf t)

/-! ## The orderly stop -/

/-- A restart is abandoned: the job stays PARKED on its previous checkpoint, or, its tiles all restored, goes to be
checkpointed (R358). -/
def State.abandonRestart (s : State) (j : Job) : State :=
  let s := match j.ckptOp with
    | some (m, k) => s.bgEnd m k stAborted
    | none => s
  let done := j.all.all fun t => (s.tile t).restored
  s.modJob j.tag fun j => { j with state := if done then 3 else 5, restart := none, ckptOp := none }

/-- Held results of a job that are not released: retracted or discarded, their credits back (R224). -/
def State.retractHeld (s : State) (tag : Nat) : State :=
  let held := (s.ports.flatMap (fun p => (p.2.holdStore ++ p.2.sentHeld).map (·.msg)) ++ s.ringHeld.map (·.msg)).filter
    fun m => m.job == tag
  (held.foldl State.refund s).dropHeld tag

/-- What the stop asks of the jobs: restarts abandoned, running jobs halted for their last checkpoint. -/
def State.haltForStop (s : State) : State :=
  let s := (s.jobs.filter (·.state == 4)).foldl State.abandonRestart s
  (s.jobs.filter fun j => j.state == 3 && !j.parkNext).foldl (fun s j =>
    let s := (s.retractHeld j.tag).modJob j.tag fun j => { j with parkNext := true }
    if j.ckptOn then s else s.beginCkpt j.tag) s

/-- Every lane of a port leaves service and the port goes DOWN. -/
def State.stopPort (s : State) (p : Nat) : State :=
  let s := s.lanesTo p 0 0
  if s.portState p = psDisabled then s else s.portGo p psDown

/-- The last step: every TLR and TAR and the LKRs off, the CIRs in burst mode (R351). -/
def State.powerDown (s : State) : State :=
  let s := s.each (List.range 1024) State.tileDown
  let s := s.each (List.range 2048) State.regDisable
  let s := (s.each (List.range 8) State.stopPort).each (List.range 32) fun s l => s.regDisable (lkrOf l)
  s.each (List.range 64) fun s f =>
    if s.regOn (cirOf f) then s.enterBurst (cirOf f) else s

/-- Row ORDERLY_STOP (R351): at the decision admission stops and the jobs halt for their checkpoints; once these are
complete, the Life Record is flushed and the supplies go (DEDUCED, log 86). -/
def execOrderlyStop (s : State) : Out :=
  if s.stopKind ≠ 1 ∨ (s.phase ≠ .open ∧ s.phase ≠ .firmware) ∨ s.rd THM_STAT_LEVEL 0 = 5 then .next s
  else if s.rd THM_STAT_LEVEL 0 < 4 then .next ((s.wr THM_STAT_LEVEL 0 4).haltForStop)
  else if s.jobs.any (fun j => j.state == 3 || j.state == 4) then .next s.haltForStop
  else
    let s := (s.event evThermalStop stratumUnit none).lifeInc stratumUnit 4 1
    .next (((s.snapshot.flush).powerDown).wr THM_STAT_LEVEL 0 5)

/-! ## The immediate stop -/

/-- Row IMMEDIATE_STOP (R351, R353): every regulator and island stops, THERMTRIP_N falls and is latched; what the
scratchpads and columns held is lost. -/
def execImmediateStop (s : State) : Out :=
  if s.stopKind ≠ 2 ∨ s.phase = .stopped ∨ s.phase = .reset then .next s
  else
    let s := ({ s.stopAll with trip := true } : State).wr THM_STAT_LEVEL 0 5
    let s := (s.event evThermalTrip stratumUnit none).lifeInc stratumUnit 4 1
    .next { s with tiles := s.tiles.map fun k => (k.1, { k.2 with spad := [], poison := [] }) }

/-! ## The return -/

/-- The folds are brought up, their columns kept; their tiles follow one at a time, by rows TILE_ON (R294, R352; log 130). The
lanes' supplies come back. -/
def State.powerUp (s : State) : State :=
  let s := s.each ((List.range 64).filter fun f => !s.foldOff f) fun s f =>
    let s := s.modFold f fun x => { x with bringUp := true }
    if s.regState (cirOf f) = rsBurst then s.allPhases (cirOf f) else s.regEnable (cirOf f) (s.softFrom (cirOf f))
  s.each (List.range 32) fun s l => if bit (s.lanesOn (l / 4)) (l % 4) then s.regEnable (lkrOf l) 0 else s

/-- Row THERMAL_RESUME (R352): 1 s below the resume temperatures after an orderly stop the folds come up; once every tile is on, or
will not be, the return is recorded and work is admitted again (DESIGN CHOICE, log 130). -/
def execThermalResume (s : State) : Out :=
  if s.stopKind = 3 then
    if (List.range 64).all fun f => s.foldOff f || (tilesOf f).all s.settled then
      .next ((({ s with stopKind := 0 } : State).wr THM_STAT_LEVEL 0 0).event evThermalResume stratumUnit none)
    else .next s
  else match s.coolFrom with
    | none => .next s
    | some c =>
      if s.stopKind ≠ 1 ∨ s.rd THM_STAT_LEVEL 0 ≠ 5 ∨ s.now < c + 1000000000 then .next s
      else .next { s.powerUp with stopKind := 3 }

end Sys2Proof.Machine
end

