-- ==== Sys2Proof/Machine/Record.lean ====
section
/-! DEFINITION. What a start-up reads from the board flash: the firmware image (R401), the Stack Record with its clamps
and findings (R404 to R410), and the lifetime account from the Life Record (R434). -/
namespace Sys2Proof.Machine

/-! ## Firmware images (R401) -/

/-- An image that the boot ROM may start, by the MIN_FW_SEQ of the factory part. -/
def State.imageOk (s : State) (k : Nat) : Bool := (s.flash.images[k]?).any (Image.ok s.stackRecord.minFwSeq)

/-- The image that R401 prefers: the higher sequence number, ties to image A. -/
def State.preferredImage (s : State) : Option Nat :=
  let q := fun (k : Nat) => ((s.flash.images[k]?).map Image.seq).getD 0
  if s.imageOk 0 then some (if s.imageOk 1 && decide (q 0 < q 1) then 1 else 0)
  else if s.imageOk 1 then some 1 else none

/-- The image that is started: the other one after three starts of the preferred one that failed. -/
def State.chosenImage (s : State) : Option Nat :=
  s.preferredImage.map fun k => if 3 ≤ s.fwFails ∧ s.imageOk (1 - k) then 1 - k else k

/-! ## The Stack Record (R402, R404, R406) -/

/-- The boot ROM reads the factory part: the copy in use, and whether the die gives the key of its leaf certificate (R445). -/
def State.readFactory (s : State) : Option (State × Bool) :=
  (usedCopy factoryMagic s.flash.factory).bind fun c => (s.flash.factory[c]?).map fun p =>
    ({ s with stackRecord := Factory.ofPart p }, p.keyOk)

/-- The firmware reads the operator identity: the copy in use, none if no copy verifies. -/
def State.readOperator (s : State) : State :=
  { s with operator := (usedCopy operatorMagic s.flash.operator).bind fun c => (s.flash.operator[c]?).map Operator.ofPart }

/-! ## The active configuration (R405 to R407) -/

/-- The committed values that are no defaults, each clamped (R407). -/
def State.committed (s : State) : Tbl Nat :=
  match s.cfgBlock with
  | none => []
  | some b => b.values.foldl (fun (t : Tbl Nat) k => match cfgClamp k.1 k.2 with
    | some a => if (cfgField k.1).any fun c => c.dflt == a then t else t.set k.1 a
    | none => t) []

/-- Fields of the catalogue that registers of class K4 hold. -/
def cfgInRegs (id : Nat) : Bool := id == 0x0100 || id == 0x0102 || decide (0x0203 ≤ id ∧ id ≤ 0x0206) || decide (0x1000 ≤ id)

/-! ## Trims (R410) -/

/-- A trim held in its range; an ID that names no trim keeps its value. Signed trims are two's complement in 32 bits. -/
def trimClamp (id v : Nat) : Nat :=
  let signed := fun (lo hi : Int) => twos 32 (clampI lo hi (sext 32 v))
  if 0x3000 ≤ id ∧ id < 0x3020 then clampN 140 190 v
  else if 0x4000 ≤ id ∧ id < 0x8000 then signed (-2048) 2047
  else if 0x8000 ≤ id ∧ id < 0x8100 then signed (-512) 511
  else if 0x8400 ≤ id ∧ id < 0x8440 then signed (-128) 127
  else if 0x8500 ≤ id ∧ id < 0x850A then min 1000000 v
  else v

/-- The trim codes of regulators: RLL, and the set-points of the LKRs. -/
def State.applyTrims (s : State) : State :=
  let tr := s.stackRecord.trims
  let s := s.each (List.range 2144) fun s r => match tr.find (0x2000 + r) with
    | some v => s.wr TLR_RLL_RLL r v
    | none => s
  s.each (List.range 32) fun s k => match tr.find (0x3000 + k) with
    | some v => s.wr TLR_SET_VSET (lkrOf k) (trimClamp (0x3000 + k) v)
    | none => s

/-! ## Banks (R325) -/

/-- The loops of a fold, each with the bank of the Stack Record that serves it: the families', and for a spare loop the TLRs'
tied law until a tie loads its own (R325; log 131). -/
def bankLoops : List (Nat × Nat) :=
  (List.range 36).map fun n => (n, if n < 16 then 0 else if n < 32 then 1 else if n < 33 then 2 else 3)

/-- Both banks of a loop hold the factory's values. -/
def State.holdBank (s : State) (l : Nat) (b : Bank) : State :=
  let s := s.each (List.range 32) fun s m =>
    let s := (s.wr FCE_LOOP_SCOEF_COEF (32 * l + m) (b.coef.getD m 0)).wr FCE_LOOP_SSH_SHIFT (32 * l + m) (b.shift.getD m 0)
    (s.wr FCE_LOOP_ACOEF_COEF (32 * l + m) (b.coef.getD m 0)).wr FCE_LOOP_ASH_SHIFT (32 * l + m) (b.shift.getD m 0)
  (s.wr FCE_LOOP_DLIM_DMIN l (min b.dmin b.dmax)).wr FCE_LOOP_DLIM_DMAX l b.dmax

/-! ## Fields of class K4 (R12, R13, R411) -/

/-- A key of the register table is that of a K4 field, inside the Life Record or outside it. -/
def k4Key (lrec : Bool) (k : Nat) : Bool :=
  match Blk.ofCode (k / 64 / 65536 % 32) with
  | none => false
  | some b => (b == .lrec) == lrec && b.fields.any fun f => decide (regKey f (k / 64 / 65536 / 32) = k) && f.kept.rank == 4

/-- The K4 fields outside the Life Record take their Reset values. -/
def State.dropRecord (s : State) : State := { s with regs := s.regs.drop (k4Key false) }

/-- Recovery mode shows the K4 fields of the Life Record at their Reset values too; flash keeps what they held (R13). -/
def State.hideLrec (s : State) : State :=
  { s with lrecHeld := List.filter (fun k => k4Key true k.1) s.regs, regs := s.regs.drop (k4Key true) }

/-- After recovery mode the fields of the Life Record stand as flash holds them. -/
def State.showLrec (s : State) : State :=
  { s with regs := s.lrecHeld.foldl (fun (r : Tbl Nat) k => r.set k.1 k.2) s.regs, lrecHeld := [] }

/-- They hold the committed values, whatever was written since. -/
def State.holdRecord (s : State) : State :=
  let s : State := { s.dropRecord with cfg := s.committed }
  let s := s.cfg.foldl (fun s k => if cfgInRegs k.1 then s.cfgEffect k.1 0 k.2 else s) s
  (s.applyTrims).each (List.range 64) fun s f =>
    bankLoops.foldl (fun s k => s.holdBank (36 * f + k.1) (s.bankOf k.2)) s

/-! ## Findings (R404, R406, R407, R409, R410) -/

/-- Findings on the factory part and the operator identity. -/
def State.partFindings (s : State) : State :=
  let s := if usedCopy factoryMagic s.flash.factory = some 1 then s.finding 0xF001 0 1 else s
  let s := (s.stackRecord.unknown ++ ((s.operator.map (·.unknown)).getD [])).foldl (fun s ty => s.finding 0xF004 ty 0) s
  if s.operator.isSome then s else s.finding 0xF003 0 0

/-- Findings on the configuration log and the clamped fields. -/
def State.cfgFindings (s : State) : State :=
  if s.operator.isNone then s
  else
    let s := match s.flash.newest with
      | some b => if b.ok then s else s.finding 0xF002 b.seq ((s.flash.newestOk.map CfgBlock.seq).getD 0)
      | none => s
    match s.flash.newestOk with
    | none => s
    | some (b : CfgBlock) => b.values.foldl (fun (s : State) (k : Nat × Nat) => match cfgClamp k.1 k.2 with
      | some a => if a = k.2 then s else s.finding k.1 k.2 a
      | none => s) s

/-- Findings on clamped trims, and on banks whose DMIN lies above DMAX, as DLIM words. -/
def State.trimFindings (s : State) : State :=
  let p := s.stackRecord
  let s := p.trims.foldl (fun s k => if trimClamp k.1 k.2 = k.2 then s else s.finding k.1 k.2 (trimClamp k.1 k.2)) s
  s.each (List.range 64) fun s f => bankLoops.foldl (fun s k =>
    let b := s.bankOf k.2
    if b.dmin ≤ b.dmax then s
    else s.finding (0x9000 + 36 * f + k.1) (b.dmin + 65536 * b.dmax) (b.dmax + 65536 * b.dmax)) s

/-- The Configuration Report of a start-up but for the findings of training: the image used, the copies, the clamps (R409). -/
def State.buildReport (s : State) : State :=
  (((({ s with report := [] } : State).finding 0xF000 (s.preferredImage.getD s.fwImage) s.fwImage).partFindings).cfgFindings).trimFindings

/-- After a drover restart the report is built again from the same Stack Record; the findings of training are those of the channels'
registers still (R409). -/
def State.rebuildReport (s : State) : State :=
  let old := s.report.filter fun c => decide (0xF005 ≤ c.1 ∧ c.1 ≤ 0xF008)
  old.foldl (fun s c => s.finding c.1 c.2.1 c.2.2) s.buildReport

/-! ## The lifetime account (R434) -/

/-- A unit's history changes. -/
def State.modHist (s : State) (u : Nat) (g : History → History) : State := s.setHist u (g (s.hist u))

/-- The lifetime counter that counts the occurrences of an event (R418, R423): its unit and index. A tie counts for its source. -/
def lifeOfEvent (code unit opcode : Nat) : Option (Nat × Nat) :=
  if code = evLineCorrected then some (unit, 1)
  else if code = evLineRecomputed then some (unit, 2)
  else if code = evLinePoisoned then some (unit, 3)
  else if code = evPoisonRead then some (unit, 4)
  else if code = evChannelRetrain then some (unit, 5)
  else if code = evTileFault ∧ opcode = 0x1A then some (unit, 67)
  else if code = evRegFault then some (unit, 0)
  else if code = evRegTied then some (regUnit (neighbourReg (unit % 2 ^ 24)), 2)
  else if code = evLaneOut then some (unit, 2)
  else if code = evHoldExpired then some (unit, 2)
  else if code = evFcvSliceRetired then some (unit, 1)
  else if code = evThermalStop ∨ code = evThermalTrip then some (stratumUnit, 4)
  else none

/-- An EVENT entry applied: the records written, the counter of its event, uncharged occurrences, and suspects: a unit became one at
the minute of the charge journalled just before (R426). -/
def State.applyEvent (s : State) (b : Bytes) : State :=
  let u := fld b 4 4
  let code := fld b 0 2
  let n := fld b 32 4
  let s := s.lifeInc stratumUnit 5 n
  let s := match lifeOfEvent code u (fld b 20 4) with
    | some k => s.lifeInc k.1 k.2 n
    | none => s
  let s := if code = evHeldLost then s.lifeInc u 1 (fld b 40 4) else s
  let s := if fld b 2 1 = 0 then s.modHist u fun h => { h with lifeUncharged := h.lifeUncharged + n } else s
  if code = evUnitSuspect then s.modHist u fun h => { h with
    suspectAt := ((h.charges.head?).map (·.1)).getD s.minutes, replace := true }
  else if code = evReplaceRequest then s.modHist u fun h => { h with replace := true }
  else s

/-- A CHARGE entry applied. -/
def State.applyCharge (s : State) (b : Bytes) : State :=
  s.modHist (fld b 0 4) fun h => { h with
    charges := (fld b 8 4, fld b 4 1, false, fld b 6 2, fld b 12 4) :: h.charges, lifeCharged := h.lifeCharged + 1 }

/-- A CLEAR entry applied. -/
def State.applyClear (s : State) (b : Bytes) : State :=
  s.modHist (fld b 0 4) fun h => { h with
    charges := h.charges.map fun c => (c.1, c.2.1, true, c.2.2.2), penned := false, replace := false }

/-- A STATE entry applied: the state and the pen list. -/
def State.applyState (s : State) (b : Bytes) : State :=
  let pens := (List.range (fld b 2 2)).map fun i => fld b (4 + 4 * i) 4
  let s : State := { s with dstate := fld b 0 1, histories := s.histories.map fun k => (k.1, { k.2 with penned := false }) }
  s.each pens fun s u => s.modHist u fun h => { h with penned := true }

/-- A HIST entry applied to the lifetime bins. -/
def State.applyHist (s : State) (b : Bytes) : State :=
  (binIds.zip (chunks 4 980 (b.drop 16))).foldl (fun s k =>
    if leNat k.2 = 0 then s else s.lifeInc stratumUnit k.1 (leNat k.2)) s

def State.applyEntry (s : State) (e : JEntry) : State :=
  match e.type with
  | 1 => s.applyEvent e.body
  | 2 => s.applyCharge e.body
  | 3 => s.applyClear e.body
  | 4 => s.applyState e.body
  | 5 => s.applyHist e.body
  | 7 => s.wr LREC_POWERED_MIN 0 (max s.minutes (fld e.body 0 4))
  | _ => s

/-- The head: the good sector of the highest first entry (R434). -/
def State.foundHead (s : State) : Nat :=
  ((s.sectors.filter fun k => k.2.ok).foldl (fun (a : Option (Nat × Nat)) k => match a with
    | some b => if b.2 ≤ k.2.first then some (k.1, k.2.first) else a
    | none => some (k.1, k.2.first)) none).elim (s.rd LREC_STAT_HEAD 0) (·.1)

/-- Every entry that the sectors and the retained buffer hold whole, by sequence number. -/
def State.journalEntries (s : State) : Tbl JEntry := s.buffer.foldl (fun (t : Tbl JEntry) e => t.set e.seq e) s.flashEntries

/-- Entries with a bad CRC but for one that ends the head's sector, where a program was cut short (R434). -/
def State.badEntries (s : State) (head : Nat) : Nat :=
  (s.sectors.map fun k =>
    let l := if k.2.ok then k.2.entries else []
    let l := if k.1 = head then l.reverse.dropWhile (fun e => !e.ok) else l
    (l.filter fun e => !e.ok).length).sum

/-- The account from the newest SNAPSHOT whose parts all verify and every later entry, in sequence order (R434). No tie outlives a
stack reset (R299). -/
def State.rebuild (s : State) : State :=
  let head := s.foundHead
  let l := s.journalEntries
  let base := newestSnap l
  let n := (base.map fun k => Snapshot.ofParts (k.2.map (·.body))).getD ⟨0, 0, [], []⟩
  let wrong := s.badEntries head
  let s : State := { s with histories := n.histories, life := n.life, dstate := n.dstate, snapMin := n.minutes }
  let s := (s.wr LREC_STAT_HEAD 0 head).wr LREC_POWERED_MIN 0 (max s.minutes n.minutes)
  let s := s.wr LREC_SEQ_NEXT 0 (max (s.rd LREC_SEQ_NEXT 0) (((l.getLast?).map fun k => k.1 + 1).getD 0))
  let s := (l.filter fun (k : Nat × JEntry) => match base with
    | some b => decide (b.1 < k.1)
    | none => true).foldl (fun s k => s.applyEntry k.2) s
  let s : State := { s with histories := s.histories.map fun k => (k.1, { k.2 with viaTie := false }) }
  let s := s.each (List.range wrong) fun s _ => (s.event evLrecEntryBad stratumUnit none).cnt LREC_BADENT_COUNT 0 1
  (s.wr LREC_STAT_REPLACE 0 (b2n (s.histories.any (·.2.replace)))).lifeInc stratumUnit 2 1

end Sys2Proof.Machine
end

