-- ==== Sys2Proof/Machine/Startup.lean ====
section
/-! DEFINITION. Stack reset, cold power-on, start-up (R397 to R403, R414, R431), the drover restart (R179, R415), the
function-level reset (R382, R386), and Stratum Standby (R416). -/
namespace Sys2Proof.Machine

/-! ## Stack reset and cold power-on (R398, R415) -/

/-- What an event leaves that resets every field whose survival code lies below a rank: the fields above it, the flash,
the retained buffer, host memory, and the commands that wait. -/
def State.resetTo (s : State) (rank : Nat) : State :=
  let t := (s.resetRegs (fun _ _ => true) rank).showLrec
  { State.reset with
    pending := s.pending, drawn := s.drawn, regs := t.regs, host := s.host, flash := s.flash, stackRecord := s.stackRecord
    operator := s.operator, fwFails := s.fwFails, buffer := s.buffer, sectors := s.sectors, trip := s.trip, stopKind := if s.trip then 2 else 0 }

/-- A start of the preferred image that has not opened the mailboxes within the boot bound counts as failed (R401). -/
def State.countFail (s : State) : State :=
  if s.phase = .firmware ∧ 1350000000 ≤ s.now ∧ some s.fwImage = s.preferredImage then { s with fwFails := s.fwFails + 1 } else s

/-- An entry that is being programmed at the head is cut short; where a sector was to be entered first, its header is. -/
def State.tearEntry (s : State) (e : JEntry) : State :=
  let h := s.rd LREC_STAT_HEAD 0
  let cut := fun (i : Nat) => s.setSector i { s.sector i with
    header := (Sector.head ((s.sector i).erases + 1) e.seq s.minutes).take 16 ++ List.replicate 48 0xFF#8, entries := [] }
  if !(s.sector h).ok then cut h
  else if (s.sector h).used + e.size ≤ 65536 then s.putEntry h e.cut
  else match s.nextSector h with
    | some i => cut i
    | none => s

/-- The erase or program in progress is abandoned, what it was writing is not whole (R398): an entry at the journal's head, a copy
already erased for its refresh, every block of a half of the configuration log. -/
def State.tearWork (s : State) : State :=
  let t : State := { s with flash := { s.flash with busy := none } }
  match s.flash.busy with
  | none => s
  | some .flush => (s.buffer.head?).elim t t.tearEntry
  | some .retention => ((s.oldSectors.head?).bind fun i => (s.sector i).entries.head?).elim t t.tearEntry
  | some (.refresh _ _) => t
  | some .half => { t with flash := { t.flash with other := t.flash.other.map fun _ => ⟨[], false⟩ } }

/-- A DEV_CONFIG_COMMIT that has been accepted may be programming its block: whether it is, and how many pages stand, are free
values (R398, R405). -/
def State.tearCommit (s : State) : State :=
  let v := (Config.free s.drawn).toNat
  if !((List.range 20).any fun m => (s.command m 0x1005).isSome) ∨ v % 2 = 0 then s
  else ((({ s with drawn := s.drawn + 1 } : State).placeBlock (s.newBlock.cut (v / 2 % 4))).getD s)

/-- Row PERST_ASSERT (R397, R398): regulators, clocks, links stop, the keys are erased, flash work is abandoned; the K4 fields hold
the committed values. THERMTRIP_N stays while an immediate stop is latched (R353). -/
def execPerstAssert (s : State) : Out :=
  if s.phase = .reset then .next s else .next ((s.countFail.tearCommit.tearWork).resetTo 3).holdRecord

/-- The powered minutes that the flash holds. -/
def State.journalMinutes (s : State) : Nat :=
  let l := s.flashEntries
  l.foldl (fun n k => if k.2.type = 7 then max n (fld k.2.body 0 4) else n)
    (((newestSnap l).map fun k => (Snapshot.ofParts (k.2.map (·.body))).minutes).getD 0)

/-- Row COLD_POWER_ON (R415): fields of class K3 and below take their Reset values; what the flash does not hold is
lost. PERST# is asserted. -/
def execColdPowerOn (s : State) : Out :=
  let s : State := { ((s.tearCommit.tearWork).resetTo 4) with buffer := [], fwFails := 0, trip := false, stopKind := 0 }
  let s := s.snapState.wr LREC_POWERED_MIN 0 s.journalMinutes
  .next (s.wr LREC_SEQ_NEXT 0 (((s.flashEntries.getLast?).map fun k => k.1 + 1).getD 0)).holdRecord

/-! ## Opening mailboxes (R178, R185, R188) -/

/-- A mailbox becomes ready: of an enabled function, or of the management network. -/
def State.openMbx (s : State) (m : Nat) : State :=
  if m < 16 ∧ !bit (s.rd PCIE_VFEN_EN 0) m then s
  else
    let s := ((s.wr MBX_STAT_STATE m mxIdle).wr MBX_SP_INFO_READY m 1).wr MBX_SP_INFO_LEVEL m s.fwLevel
    let s := (s.wr MBX_SP_INFO_DSTATE m s.shownDstate).wr MBX_SP_INFO_SSTATE m (if m < 16 then (s.sess m).state else 0)
    (s.wr MBX_SP_STIME_STIME m s.now).irq m 7

/-- Every mailbox opens; the fingerprint goes to the status pages (R413). -/
def State.openAll (s : State) : State :=
  { (s.each (List.range 20) State.openMbx).printCfg with phase := .open, idleFrom := s.now }

/-! ## Release of PERST# (R402, R414) -/

/-- The PCIe link that the endpoint has trained: free values within what R381 and R387 allow. -/
def State.linkUp (s : State) : State :=
  let v := (Config.free s.drawn).toNat
  let rate := v % 6 + 1
  let s : State := { s with drawn := s.drawn + 1 }
  let s := (s.wr PCIE_LINK_RATE 0 rate).wr PCIE_LINK_WIDTH 0 ([1, 2, 4, 8, 16].getD (v / 8 % 5) 16)
  s.wr PCIE_LINK_FLIT 0 (if rate = 6 then 1 else v / 64 % 2)

/-- Recovery mode: the boot ROM serves mailbox 0 alone; K4 fields at their Reset values (R13, R414). -/
def State.recover (s : State) (finding : Nat) : State :=
  let s : State := { s.dropRecord.hideLrec with phase := .recovery, fwLevel := 3, cfg := [] }
  (s.openMbx 0).finding finding 0 0xFFFFFFFF

/-- Row PERST_RELEASE (R402): stack time starts at 0 and the boot ROM runs: directory and factory part are read; without a factory
part, its key or an image it stays in recovery. -/
def execPerstRelease (s : State) : Out :=
  if s.phase ≠ .reset then .next s
  else
    let s : State := { s with phase := .rom, now := 0, frac := 0, trip := false, stopKind := 0 }
    let s := s.linkUp
    match s.readFactory with
    | none => .next (s.recover 0xF001)
    | some (t, key) =>
      if !key then .next (t.recover 0xF001)
      else if t.chosenImage.isNone then .next (t.recover 0xF000)
      else .next t

/-! ## The firmware's start (R402 to R410, R434) -/

/-- The image runs. -/
def State.startImage (s : State) (k : Nat) : State :=
  let i := (s.flash.images[k]?).getD Image.erased
  { s with phase := .firmware, fwImage := k, fwVersion := i.version, fwLevel := i.level }

/-- No operator identity verifies: the event of R406. -/
def State.noOperator (s : State) : State :=
  if s.operator.isNone then s.event evOperatorAbsent stratumUnit none else s

/-- Configuration and banks reach the engines (R325, R410). -/
def State.loadEngines (s : State) : State :=
  s.each (List.range 64) fun s f =>
    let s := bankLoops.foldl (fun s k => s.loadBank (36 * f + k.1) (s.bankOf k.2) (if k.1 < 33 then s.conf (0x0300 + k.2) else 0)) s
    let s := s.testMask f (s.conf 0x0303)
    s.wr FCV_STAT_SLICES f (0xFF - ((List.range 8).filter fun k => s.rdb FCV_SLICE_B_RETIRED (8 * f + k)).foldl (fun n k => n + 2 ^ k) 0)

/-- The ports that the configuration gives no lane are disabled; the others train once the regulators are up (R366, R402). -/
def State.startPort (s : State) (p : Nat) : State := if s.conf (0x0509 + p) = 0 then s.portGo p psDisabled else s

/-- Row FIRMWARE_START (R402): Stack Record, configuration and Life Record are read, and the bring-up begins: the folds,
channels, ports, tiles and self-tests have rows of their own. -/
def execFirmwareStart (s : State) : Out :=
  match s.phase, s.chosenImage with
  | .rom, some k =>
    let s := (s.startImage k).readOperator
    let s := (s.buildReport.noOperator).holdRecord.takeLimits
    let s := (s.loadEngines.rebuild).flush
    let s := (s.histories.filter fun h => h.2.penned).foldl (fun s h => s.penEffect h.1) s
    let s := (s.each (List.range 8) State.startPort).timeTree
    let s := s.each ((List.range 1024).filter fun t => !s.penned (tileUnit t)) fun s t =>
      s.modTile t fun x => { x with selftest := true }
    let link := (Config.free s.drawn).toNat % 2
    .next (({ s with drawn := s.drawn + 1, vibOwed := true } : State).wr MGT_STAT_LINK 0 link)
  | _, _ => .next s

/-! ## The end of the start-up (R402, R403, R431) -/

/-- A tile is brought up as far as it will be: its channel trained, its rails up and its self-test made, unless it is
penned or its rails have failed. -/
def State.tileUp (s : State) (t : Nat) : Bool :=
  let x := s.tile t
  s.penned (tileUnit t) || s.foldOff (foldOf t)
    || (s.rd VCH_STATE_STATE t != 1 && (if x.off then decide (6 ≤ s.regState (tlrOf t) ∨ 6 ≤ s.regState (tarOf t)) else !x.selftest))

/-- The bring-up is complete. -/
def State.broughtUp (s : State) : Bool :=
  ((List.range 64).all fun f => !s.foldOff f || s.fcvDown f || decide (6 ≤ s.regState (cirOf f)))
    && (List.range 1024).all s.tileUp

/-- A unit that the start-up leaves permanent-suspect is penned, and with a TLR or TAR its tile (R233, R298, R403). -/
def State.penSuspect (s : State) (u : Nat) : State :=
  if (s.hist u).viaTie then s
  else
    let s := s.pen u
    if u / 2 ^ 24 = 3 ∧ u % 2 ^ 24 < 2048 then s.pen (tileUnit (regTile (u % 2 ^ 24))) else s

/-- The state in which the mailboxes open: RETIRED stays; GUARDED with a unit that is permanent-suspect, one served through a tie
included, or penned; else the state recorded last, NORMAL for DRAINING (R403, R431). -/
def State.openState (s : State) : Nat :=
  if s.dstate = 3 then 3
  else if s.dstate = 2 ∨ s.histories.any (fun h => h.2.penned || h.2.replace) then 2 else 0

/-- Row MAILBOX_OPEN (R402, R403, R431): at the end of the bring-up, at the boot bound at the latest. -/
def execMailboxOpen (s : State) : Out :=
  if s.phase ≠ .firmware ∨ !(s.broughtUp || decide (1350000000 ≤ s.now)) then .next s
  else
    let s := ((s.histories.filter fun h => h.2.replace && !h.2.penned).map (·.1)).foldl State.penSuspect s
    let s : State := { s with
      drain := none, drainUnits := []
      fwFails := if s.now ≤ 1350000000 ∧ some s.fwImage = s.preferredImage then 0 else s.fwFails }
    .next (s.setDstate s.openState).openAll

/-! ## The drover restart (R179, R415) -/

/-- A mailbox after its K1 fields took their Reset values: what waited in it is forgotten; its buffers keep their bytes. -/
def Mailbox.restart (x : Mailbox) : Mailbox := { x with go := false, accepted := none, bg := [], queue := [] }

/-- Jobs at a drover restart: loads abort, running jobs restart from their checkpoints, a restart under way begins over. -/
def State.restartJobs (s : State) : State :=
  let s := (s.jobs.filter (·.state == 1)).foldl State.freeJob s
  let s := (s.jobs.filter (·.state == 3)).foldl (fun s j => s.beginRestart j.tag false) s
  s.each ((s.jobs.filter (·.state == 4)).flatMap Job.all) fun s t => s.modTile t fun x => { x with restored := false }

/-- Every K0 and K1 field takes its Reset value; the tiles are reset, and what the drover holds of their jobs is written
again. -/
def State.droverFields (s : State) : State :=
  let old := s
  let s := s.each (List.range 1024) fun s t =>
    (((s.settle t).weigh t).tileReset t (s.jobOf t).isSome).modTile t fun x => { x with inWin := false, haltWin := false }
  let s := s.resetRegs (fun _ _ => true) 2
  let s := s.each (List.range 1024) fun s t => s.modTile t fun x => { x with fceNotch := 12, fceWas := 12 }
  s.each (old.jobs.flatMap Job.all) fun s t => s.keepJobFields old t

/-- What every restart of the drover does (R185, R415, R418): the lifetime counter, RESTARTS, K1 everywhere. -/
def State.droverFalls (s : State) : State :=
  let n := min 255 (s.rd MBX_SP_INFO_RESTARTS 0 + 1)
  let s := (s.lifeInc stratumUnit 3 1).droverFields
  let s := s.each (List.range 20) fun s m => (s.modMbox m Mailbox.restart).wr MBX_SP_INFO_RESTARTS m n
  { s with conns := [], ringIrq := [], discRun := 0, discGap := 0 }

/-- Row DROVER_RESTART (R179, R415): K1 everywhere, running jobs restart, background operations abort, the management
connections close; ports stay UP, and released results stay queued for their rings. READY falls, which raises vector 7
(R188). Before the mailboxes are open the start-up goes on after it, in recovery mode the boot ROM serves its mailbox again
(DESIGN CHOICE, log 101). -/
def execDroverRestart (s : State) : Out :=
  match s.phase with
  | .reset => .next s
  | .stopped => .next s
  | .rom => .next s.droverFalls
  | .firmware => .next (s.droverFalls).rebuildReport
  | .recovery => .next ((s.droverFalls).openMbx 0)
  | _ =>
    let ready := (List.range 16).filter fun m => s.rdb MBX_SP_INFO_READY m
    let s := ((s.each (List.range 20) State.bgAbort).restartJobs).droverFalls
    let s := s.each ready fun s m => s.irq m 7
    .next { s with phase := .drover }

/-- Row DROVER_READY (R179, R409). -/
def execDroverReady (s : State) : Out := .next (if s.phase = .drover then (s.rebuildReport.openAll).droverBack else s)

/-! ## The function-level reset (R382, R386) -/

/-- Registers of a function's mailbox page, status page and rings. -/
def fnHit (f : Nat) (b : Blk) (u : Nat) : Bool :=
  match b with
  | .mbx => u == f
  | .sp => u == f
  | .ring => u / 4 == f
  | _ => false

/-- A function is reset: its session closes, K1 of it takes Reset values, bus mastering ends. It is ready again at once
while it is enabled. -/
def State.functionReset (s : State) (f : Nat) : State :=
  let s := if (s.sess f).state = 1 then s.closeSession f else (s.dropFunction f).bgAbort f
  let s := (s.modMbox f Mailbox.restart).resetRegs (fnHit f) 2
  let s : State := { s with
    busMaster := if bit s.busMaster f then s.busMaster - 2 ^ f else s.busMaster
    ringIrq := s.ringIrq.drop fun k => k / 4 == f
    msixTab := s.msixTab.drop fun k => k / 32 == f
    msixPend := s.msixPend.drop fun k => k / 8 == f }
  if s.phase = .open then
    (s.openMbx f).wr MBX_SP_FPRINT_FPRINT f (if bit (s.rd PCIE_VFEN_EN 0) f then s.fprint else 0)
  else if s.phase = .recovery ∧ f = 0 then s.openMbx 0 else s

/-- The functions enabled. -/
def State.enabledFns (s : State) : List Nat := (List.range 16).filter fun f => bit (s.rd PCIE_VFEN_EN 0) f

/-- The host's configuration space answers: PERST# is released (R402). -/
def State.pcieUp (s : State) : Bool := s.phase != .reset

/-- Row FUNCTION_LEVEL_RESET (R386): of the PF, every VF too, and VF Enable is cleared. -/
def execFunctionLevelReset (f : FnId) (s : State) : Out :=
  if !s.pcieUp ∨ !bit (s.rd PCIE_VFEN_EN 0) f then .next s
  else if f.val ≠ 0 then .next (s.functionReset f)
  else
    let l := s.enabledFns
    .next ((s.wr PCIE_VFEN_EN 0 1).each (l.reverse) State.functionReset)

/-- Row VF_ENABLE_CLEAR (R382): VFs 1 to `numVfs` stay enabled; one that is removed is reset, one that is added becomes
ready. In recovery mode there are none (R414). -/
def execVfEnableClear (numVfs : Fin 16) (s : State) : Out :=
  if !s.pcieUp ∨ s.phase = .recovery then .next s
  else
    let old := s.enabledFns
    let s := s.wr PCIE_VFEN_EN 0 (2 ^ (numVfs.val + 1) - 1)
    let s := s.each (old.filter fun f => numVfs.val < f) State.functionReset
    if s.phase ≠ .open then .next s
    else .next (s.each ((List.range 16).filter fun f => decide (f ≤ numVfs.val) && !old.contains f) fun s f =>
      (s.openMbx f).wr MBX_SP_FPRINT_FPRINT f s.fprint)

/-! ## Stratum Standby (R416) -/

/-- No session is open and no job exists. -/
def State.idleNow (s : State) : Bool := s.jobs.isEmpty && s.sessions.all fun k => k.2.state != 1

/-- The regulators of the folds in service. -/
def State.liveRegs (s : State) : List Nat := (List.range 2112).filter fun r => !s.foldOff (foldOfReg r)

/-- Row STANDBY_ENTER (R415, R416): no session open and no job for STANDBY_IDLE_S; every tile dozes at the codes of
notch 0, and every TLR, TAR and CIR runs in burst mode. -/
def execStandbyEnter (s : State) : Out :=
  let idle := s.conf 0x0600
  if s.phase ≠ .open ∨ s.standby ∨ idle = 0 ∨ !s.idleNow ∨ s.heatStops ∨ s.now < s.idleFrom + idle * 1000000000 then .next s
  else
    let s := s.each ((List.range 1024).filter fun t => !(s.tile t).off) fun s t => (s.goNotch t 0).doze t
    let s := s.each (s.liveRegs.filter fun r => s.regState r == rsRegulate || s.regState r == rsSource) State.enterBurst
    .next { s with standby := true }

/-- A command that admits work has been accepted. -/
def State.workAsked (s : State) : Bool :=
  (List.range 20).any fun m => match (s.mbox m).accepted with
    | some r => (cmdSpec r.opcode).any (·.admits)
    | none => false

/-- Row STANDBY_EXIT (R416): the set-points rise, and the command proceeds. -/
def execStandbyExit (s : State) : Out :=
  if !s.standby ∨ !s.workAsked then .next s
  else
    let s := s.each (s.liveRegs.filter fun r => s.regState r == rsBurst) State.allPhases
    .next (({ s with standby := false, idleFrom := s.now } : State).applyNotches)

end Sys2Proof.Machine
end

