-- ==== Sys2Proof/Machine/Pcie.lean ====
section
/-! DEFINITION. The host endpoint's own events (R384, R385). -/
namespace Sys2Proof.Machine

/-! ## Configuration space (R382) -/

/-- The configuration header of a function. -/
structure PciHeader where
  vendor : Nat
  device : Nat
  subVendor : Nat
  subsystem : Nat
  classCode : Nat
  /-- BAR0: its low bits (memory, 64-bit, not prefetchable) and its size. -/
  bar0 : Nat
  bar0Size : Nat
  deriving DecidableEq, Repr

/-- What function `f` shows: the physical function is function 0, VF n is function n (R382; the bits of a 64-bit non-prefetchable BAR are
PCI's: PRESUMED, log 163). -/
def State.pciHeader (s : State) (f : Nat) : PciHeader :=
  let r := s.stackRecord
  { vendor := r.vendor, device := if f = 0 then 0x0A24 else 0x0A25, subVendor := r.subVendor, subsystem := r.subsystem
    classCode := 0x120000, bar0 := 0x4, bar0Size := 256 * 1024 * 1024 }

/-- SR-IOV as the PF offers it: TotalVFs, First VF Offset, VF Stride; in recovery mode no VF (R382, R414). -/
def State.sriov (s : State) : Nat × Nat × Nat := (if s.phase = .recovery then 0 else 15, 1, 1)

/-- Row BAR0_BAD_ACCESS (R384): an access that BAR0 does not accept completes without an error and is counted. -/
def execBar0BadAccess (f : Bar0Access) (s : State) : Out :=
  .next (if s.pcieUp ∧ bit (s.rd PCIE_VFEN_EN 0) f.fn ∧ f.off < 256 * 1024 * 1024 ∧ bar0Bad f.off f.len then
      s.cnt PCIE_BADACC_COUNT 0 1
    else s)

/-- A running operation that needs host memory now: it reads images, batches, copies and restores; while bus mastering is
off its writes wait too. -/
def State.needsHost (s : State) (m : Nat) (b : BgSlot) : Bool :=
  let job := s.jobByHandle b.object
  let wr := !s.masters m
  match b.opcode with
  | 0x2001 => true
  | 0x2005 => job.any (·.state == 2)
  | 0x2006 => wr
  | 0x3002 => true
  | 0x4004 => wr || !bit (b.a 3) 0
  | 0x5002 => (s.sess m).bulkDone && (s.sess m).swaps.any fun k => k.gen != (s.sess m).keyGen
  | _ => false

/-- An operation ends with ST_HOST_FAULT; a key rotation goes on without the image (R173). What a batch had delivered stays in its RESULT. -/
def State.hostFault (s : State) (m k : Nat) (b : BgSlot) : State :=
  match b.opcode, s.jobByHandle b.object with
  | 0x2001, some j => s.endLoad j m k stHostFault []
  | 0x3002, _ => s.bgEnd m k stHostFault (toLE 4 (b.a 5) ++ toLE 4 (b.a 6))
  | 0x5002, _ => s.imageFails m
  | _, _ => s.bgEnd m k stHostFault

/-- A background operation that needs host memory ends with ST_HOST_FAULT: its read failed, or it has waited 10 ms for bus
mastering. -/
def State.slotFails (s : State) (m slot : Nat) : State :=
  match s.bg m slot with
  | none => s
  | some b =>
    if b.state ≠ 1 ∨ 16 ≤ m ∨ !s.needsHost m b then s
    else (if s.masters m then s.cnt PCIE_HOSTERR_COUNT 0 1 else s).hostFault m slot b

/-- A swap-in whose image could not be read ends: its frames are free again, and the flow is SWAPPED as before; the tile program may
fetch it anew (DESIGN CHOICE, log 77). -/
def State.swapInFails (s : State) (t entry : Nat) : State :=
  let x := s.tile t
  match x.swaps.find? (fun w => w.entry == entry && !w.out), s.jobOf t with
  | some w, some j =>
    if !s.masters j.fn ∨ !x.drained then s
    else
      let s := (s.cnt PCIE_HOSTERR_COUNT 0 1).modTile t fun x => { x with swaps := x.swaps.filter (· ≠ w) }
      (s.each w.frames fun s f => s.unrefFrame t f).setFte t entry 24 1 3
  | _, _ => s

/-- A restart's reload of a tile's RECOMP sections could not read the image: a JOB_RESTORE that waits for the restart ends with
ST_HOST_FAULT, and the restart reads again (DESIGN CHOICE, log 77). -/
def State.reloadFails (s : State) (t : Nat) : State :=
  match s.jobOf t with
  | none => s
  | some j =>
    if !s.masters j.fn ∨ !s.mayRestore j t ∨ !((j.restart.map (·.reload)).getD false) ∨ (j.recompOf t).isEmpty then s
    else
      let s := s.cnt PCIE_HOSTERR_COUNT 0 1
      match j.ckptOp with
      | some (m, k) => (s.bgEnd m k stHostFault).modJob j.tag fun j => { j with ckptOp := none }
      | none => s

/-- Row HOST_READ_FAILURE (R385): a read of host memory completes with UR or CA, or has no completion within 10 ms. `slot` is the
background slot, or the flow table entry that is swapped in. -/
def execHostReadFailure (m : HostReader) (slot : Nat) (s : State) : Out :=
  .next (match m with
  | .mbx m => s.slotFails m slot
  | .swapIn t => s.swapInFails t slot
  | .reload t => s.reloadFails t)

/-- Row BUS_MASTER_ENABLE (R385): what waited for host memory may go on, or waits. -/
def execBusMasterEnable (f : FnId) (en : Bool) (s : State) : Out :=
  if !s.pcieUp ∨ !bit (s.rd PCIE_VFEN_EN 0) f then .next s
  else
    let s : State := { s with busMaster := bfSet s.busMaster f 1 (b2n en) }
    .next (s.each (List.range 8) fun s k => s.importNow f k)

end Sys2Proof.Machine
end

