-- ==== Sys2Proof/Machine/Mgmt.lean ====
section
/-! DEFINITION. The management endpoint (R388 to R392) and attestation (R395, R396). -/
namespace Sys2Proof.Machine

/-! ## Connections (R388, R389) -/

/-- Eight failures of an address within 60 s refuse it for 60 s after the last of them. -/
def State.addressBlocked (s : State) (a : Nat) : Bool :=
  let l := (s.authFails.filter (·.1 == a)).map (·.2)
  match l[0]?, l[7]? with
  | some t, some u => decide (t ≤ u + 60000000000 ∧ s.now < t + 60000000000)
  | _, _ => false

/-- Wall clock, ns (R392). -/
def State.wall (s : State) : Int := (s.now : Int) + sext 64 (s.rd MGT_WALL_OFFSET 0)

/-- The client's certificate is accepted: an operator's, or one that an operator's issued directly, and before any operator
identity one that the provisioning key issued directly; dates count while the wall clock is valid (R388, R406). -/
def State.certOk (s : State) (c : ClientCert) : Bool :=
  (match s.operator with
    | some o => o.certs.contains c.leaf || o.certs.contains c.issuer
    | none => c.issuer == s.stackRecord.provKey)
    && (!s.rdb MGT_STAT_WALLOK 0 || decide ((c.notBefore.toNat : Int) ≤ s.wall ∧ s.wall ≤ (c.notAfter.toNat : Int)))

/-- The lowest free management mailbox. -/
def State.freeConn (s : State) : Option Nat := (List.range 4).find? fun c => !s.connOpen c

/-- A connection is bound: its first frame, then the records kept for it (R175, R390, R391). -/
def State.bindConn (s : State) (c : Nat) : State :=
  let s := s.wr MGT_STAT_CONN 0 (bfSet (s.rd MGT_STAT_CONN 0) c 1 1)
  let s := s.setConn c { Conn.reset with mbx := 16 + c, lastFrame := s.now }
  let s := s.sendFrame c 1 (toLE 2 s.fwLevel ++ toLE 2 (16 + c) ++ toLE 8 s.stackId)
  { s.evKept.foldl (fun s b => s.sendFrame c 4 b) s with evKept := [] }

/-- The TLS alert bad_certificate (R388; the number of RFC 8446: PRESUMED, log 163). -/
def badCertificate : Nat := 42

/-- Row MGT_CONNECT (R388, R389). -/
def execMgtConnect (cert : ClientCert) (s : State) : Out :=
  if !s.mgtUp then .next s
  else
    let s := s.wr MGT_STAT_LINK 0 1
    match s.freeConn with
    | none => .next (s.cnt MGT_REFUSED_COUNT 0 1)
    | some c =>
      if s.addressBlocked cert.address then .next (s.cnt MGT_REFUSED_COUNT 0 1)
      else if s.certOk cert then .next (s.bindConn c)
      else
        let s : State := { s with
          authFails := (cert.address, s.now) :: s.authFails.filter fun k => decide (s.now < k.2 + 120000000000)
          alerts := s.alerts ++ [(cert.address, badCertificate)] }
        .next (s.event evMgtAuthFail stratumUnit none)

/-- A connection closes: a running command completes first and its reply is discarded. -/
def State.closeConn (s : State) (c : Nat) : State :=
  if s.mbxState (16 + c) = mxBusy then
    s.modConn c fun x => { x with closing := true, trace := none, traced := [], frames := [], unread := [] }
  else s.unbind (16 + c)

/-- Row MGT_IDLE_TIMEOUT (R389). -/
def execMgtIdleTimeout (c : Fin 4) (s : State) : Out :=
  if s.heard c ∧ (s.conn c).lastFrame + s.conf 0x0514 * 1000000000 ≤ s.now then .next (s.closeConn c) else .next s

/-- Row MGT_CLOSE (R389). -/
def execMgtClose (c : Fin 4) (s : State) : Out := .next (if s.heard c then s.closeConn c else s)

/-! ## Frames of the client (R390) -/

/-- Row REQUEST (R390): the request goes to the mailbox, or waits behind earlier ones; beyond four that wait the connection is not
read. -/
def execRequest (c : Fin 4) (body : Bytes) (s : State) : Out :=
  let k := s.fitBytes 16 4096 body
  .next (k.1.clientFrame c (.request k.2))

/-- Row STATUS_READ (R390). -/
def execStatusRead (c : Fin 4) (s : State) : Out := .next (s.clientFrame c .status)

/-- Row MGT_BADFRAME (R390): a TYPE that no client frame has. -/
def execMgtBadframe (c : Fin 4) (type : BitVec 16) (s : State) : Out :=
  .next (if type = 2#16 ∨ type = 6#16 ∨ type = 7#16 then s else s.clientFrame c .bad)

/-! ## The wall clock (R392) -/

/-- Row PTP_SYNC (R392): the offset of the wall clock from stack time; 16 in a row within 1 µs make it valid. -/
def execPtpSync (offset : BitVec 64) (s : State) : Out :=
  if !s.mgtUp then .next s
  else
    let d := sext 64 offset.toNat - sext 64 s.ptpOff
    let run := if s.ptpRun ≠ 0 ∧ d ≤ 1000 ∧ -1000 ≤ d then min 16 (s.ptpRun + 1) else 1
    let s : State := { s with ptpRun := run, ptpAt := s.now, ptpOff := offset.toNat }
    let s := ((s.wr MGT_WALL_OFFSET 0 offset.toNat).wr MGT_STAT_PTP 0 1).wr MGT_STAT_LINK 0 1
    .next (if run = 16 then s.wr MGT_STAT_WALLOK 0 1 else s)

/-- Row PTP_LOST (R392): 10 s without a synchronisation, and 60 s. -/
def execPtpLost (s : State) : Out :=
  let s := if s.rdb MGT_STAT_PTP 0 ∧ s.ptpAt + 10000000000 ≤ s.now then
      (({ s with ptpRun := 0 } : State).wr MGT_STAT_PTP 0 0).event evPtpLost stratumUnit none
    else s
  .next (if s.rdb MGT_STAT_WALLOK 0 ∧ s.ptpAt + 60000000000 ≤ s.now then s.wr MGT_STAT_WALLOK 0 0 else s)

/-! ## Attestation (R395, R396) -/

/-- Row GET_VERSION (R395): version 1.2 only. -/
def execGetVersion (p : SpdmPath) (s : State) : Out := .next (s.spdm p .version)

/-- Row GET_CAPABILITIES (R395). -/
def execGetCapabilities (p : SpdmPath) (s : State) : Out := .next (s.spdm p .capabilities)

/-- Row NEGOTIATE_ALGORITHMS (R395). -/
def execNegotiateAlgorithms (p : SpdmPath) (asym hash : W32) (s : State) : Out := .next (s.spdm p (.algorithms asym hash))

/-- Row GET_DIGESTS (R395). -/
def execGetDigests (p : SpdmPath) (s : State) : Out := .next (s.spdm p .digests)

/-- Row GET_CERTIFICATE (R395). -/
def execGetCertificate (p : SpdmPath) (slot : BitVec 4) (off len : BitVec 16) (s : State) : Out :=
  .next (s.spdm p (.certificate slot off len))

/-- Row CHALLENGE (R395). -/
def execChallenge (p : SpdmPath) (slot : BitVec 4) (nonce : Bytes) (s : State) : Out :=
  let k := s.fitBytes 32 32 nonce
  .next (k.1.spdm p (.challenge slot k.2))

/-- Row GET_MEASUREMENTS (R396). -/
def execGetMeasurements (p : SpdmPath) (index : Byte) (nonce : Bytes) (s : State) : Out :=
  let k := s.fitBytes 32 32 nonce
  .next (k.1.spdm p (.measurements index k.2))

/-- Row SPDM_UNSUPPORTED_REQUEST (R395): ERROR UnsupportedRequest. -/
def execSpdmUnsupportedRequest (p : SpdmPath) (code : Byte) (s : State) : Out :=
  .next (if spdmKnown code.toNat then s else s.spdm p (.other code))

end Sys2Proof.Machine
end

