-- ==== Sys2Proof/Machine/Dispatch.lean ====
section
/-! DEFINITION. Each command's meaning: one arm per constructor. -/
namespace Sys2Proof.Machine

def exec (i : Instr) (s : State) : Host.Outcome State Fault Refusal :=
  match i with
  | .mbxGo m => Sys2Proof.Machine.execMbxGo m s
  | .mbxAccept m => Sys2Proof.Machine.execMbxAccept m s
  | .mbxRelease m => Sys2Proof.Machine.execMbxRelease m s
  | .devInfo m => Sys2Proof.Machine.execDevInfo m s
  | .devFingerprint m => Sys2Proof.Machine.execDevFingerprint m s
  | .devConfigRead m => Sys2Proof.Machine.execDevConfigRead m s
  | .devConfigWrite m => Sys2Proof.Machine.execDevConfigWrite m s
  | .devConfigCommit m ok1 ok2 => Sys2Proof.Machine.execDevConfigCommit m ok1 ok2 s
  | .devConfigReport m => Sys2Proof.Machine.execDevConfigReport m s
  | .devBgFree m => Sys2Proof.Machine.execDevBgFree m s
  | .jobLoad m => Sys2Proof.Machine.execJobLoad m s
  | .jobLoadDone m slot => Sys2Proof.Machine.execJobLoadDone m slot s
  | .jobStart m => Sys2Proof.Machine.execJobStart m s
  | .jobStatus m => Sys2Proof.Machine.execJobStatus m s
  | .jobCheckpoint m => Sys2Proof.Machine.execJobCheckpoint m s
  | .jobRestore m => Sys2Proof.Machine.execJobRestore m s
  | .jobExport m => Sys2Proof.Machine.execJobExport m s
  | .jobExportDone m slot => Sys2Proof.Machine.execJobExportDone m slot s
  | .jobStop m => Sys2Proof.Machine.execJobStop m s
  | .jobFinish job => Sys2Proof.Machine.execJobFinish job s
  | .flowOpen m => Sys2Proof.Machine.execFlowOpen m s
  | .flowSubmit m => Sys2Proof.Machine.execFlowSubmit m s
  | .batchTokenDeliver m slot => Sys2Proof.Machine.execBatchTokenDeliver m slot s
  | .flowSubmitDelivered m slot => Sys2Proof.Machine.execFlowSubmitDelivered m slot s
  | .flowQuery m => Sys2Proof.Machine.execFlowQuery m s
  | .flowRetire m => Sys2Proof.Machine.execFlowRetire m s
  | .memPoolCreate m => Sys2Proof.Machine.execMemPoolCreate m s
  | .memSwapArea m => Sys2Proof.Machine.execMemSwapArea m s
  | .memScrub m => Sys2Proof.Machine.execMemScrub m s
  | .memScrubDone m slot => Sys2Proof.Machine.execMemScrubDone m slot s
  | .memCopy m => Sys2Proof.Machine.execMemCopy m s
  | .memCopyDone m slot => Sys2Proof.Machine.execMemCopyDone m slot s
  | .sessOpen m trngOk => Sys2Proof.Machine.execSessOpen m trngOk s
  | .sessRotateKey m trngOk => Sys2Proof.Machine.execSessRotateKey m trngOk s
  | .sessClose m => Sys2Proof.Machine.execSessClose m s
  | .sessionScrubDone f => Sys2Proof.Machine.execSessionScrubDone f s
  | .sessStatus m => Sys2Proof.Machine.execSessStatus m s
  | .hlthState m => Sys2Proof.Machine.execHlthState m s
  | .hlthCounters m => Sys2Proof.Machine.execHlthCounters m s
  | .hlthTally m => Sys2Proof.Machine.execHlthTally m s
  | .hlthUnit m => Sys2Proof.Machine.execHlthUnit m s
  | .hlthClearUnit m => Sys2Proof.Machine.execHlthClearUnit m s
  | .hlthDrain m => Sys2Proof.Machine.execHlthDrain m s
  | .hlthResume m => Sys2Proof.Machine.execHlthResume m s
  | .hlthRetire m => Sys2Proof.Machine.execHlthRetire m s
  | .hlthSelftest m => Sys2Proof.Machine.execHlthSelftest m s
  | .selftestDone t pass => Sys2Proof.Machine.execSelftestDone t pass s
  | .pwrCapSet m => Sys2Proof.Machine.execPwrCapSet m s
  | .pwrPriority m => Sys2Proof.Machine.execPwrPriority m s
  | .pwrTelemetry m => Sys2Proof.Machine.execPwrTelemetry m s
  | .pwrNotchLimit m => Sys2Proof.Machine.execPwrNotchLimit m s
  | .dbgAttach m => Sys2Proof.Machine.execDbgAttach m s
  | .dbgHalt m => Sys2Proof.Machine.execDbgHalt m s
  | .dbgRead m => Sys2Proof.Machine.execDbgRead m s
  | .dbgWrite m => Sys2Proof.Machine.execDbgWrite m s
  | .dbgTrace m => Sys2Proof.Machine.execDbgTrace m s
  | .eventRecordWrite => Sys2Proof.Machine.execEventRecordWrite s
  | .ringEnable f n => Sys2Proof.Machine.execRingEnable f n s
  | .ringDisable f n => Sys2Proof.Machine.execRingDisable f n s
  | .ringConsWrite f n cons => Sys2Proof.Machine.execRingConsWrite f n cons s
  | .ringEntryWrite f n => Sys2Proof.Machine.execRingEntryWrite f n s
  | .ringIrqHoldExpiry f n => Sys2Proof.Machine.execRingIrqHoldExpiry f n s
  | .baseInstruction t => Sys2Proof.Machine.execBaseInstruction t s
  | .ecall t => Sys2Proof.Machine.execEcall t s
  | .ebreak t => Sys2Proof.Machine.execEbreak t s
  | .wfi t => Sys2Proof.Machine.execWfi t s
  | .fenceI t => Sys2Proof.Machine.execFenceI t s
  | .counterCsrAccess t rd csr write => Sys2Proof.Machine.execCounterCsrAccess t rd csr write s
  | .codeWindowFetch t line => Sys2Proof.Machine.execCodeWindowFetch t line s
  | .kxTaissue t rd rs1 => Sys2Proof.Machine.execKxTaissue t rd rs1 s
  | .taissueStallEnd t => Sys2Proof.Machine.execTaissueStallEnd t s
  | .kxVissue t rd rs1 => Sys2Proof.Machine.execKxVissue t rd rs1 s
  | .kxTawait t rd rs1 => Sys2Proof.Machine.execKxTawait t rd rs1 s
  | .kxVwait t rd rs1 => Sys2Proof.Machine.execKxVwait t rd rs1 s
  | .opWaitReturn t => Sys2Proof.Machine.execOpWaitReturn t s
  | .kxNbctol t rd rs1 => Sys2Proof.Machine.execKxNbctol t rd rs1 s
  | .kxHint t rd rs1 rs2 => Sys2Proof.Machine.execKxHint t rd rs1 rs2 s
  | .kxStime t rd => Sys2Proof.Machine.execKxStime t rd s
  | .kxTally t rd rs1 => Sys2Proof.Machine.execKxTally t rd rs1 s
  | .kxCntr t rd rs1 => Sys2Proof.Machine.execKxCntr t rd rs1 s
  | .kxPet t => Sys2Proof.Machine.execKxPet t s
  | .kxMsend t rd rs1 rs2 => Sys2Proof.Machine.execKxMsend t rd rs1 rs2 s
  | .msendWaitEnd t => Sys2Proof.Machine.execMsendWaitEnd t s
  | .kxMrecv t rd rs1 => Sys2Proof.Machine.execKxMrecv t rd rs1 s
  | .kxMfree t rd rs1 => Sys2Proof.Machine.execKxMfree t rd rs1 s
  | .kxMwait t rd rs1 rs2 => Sys2Proof.Machine.execKxMwait t rd rs1 rs2 s
  | .mwaitWake t => Sys2Proof.Machine.execMwaitWake t s
  | .mwaitTimeout t => Sys2Proof.Machine.execMwaitTimeout t s
  | .kxPut t rd rs1 => Sys2Proof.Machine.execKxPut t rd rs1 s
  | .kxGet t rd rs1 => Sys2Proof.Machine.execKxGet t rd rs1 s
  | .transferStallEnd t => Sys2Proof.Machine.execTransferStallEnd t s
  | .kxXwait t rd rs1 => Sys2Proof.Machine.execKxXwait t rd rs1 s
  | .xwaitReturn t => Sys2Proof.Machine.execXwaitReturn t s
  | .transferComplete t tag => Sys2Proof.Machine.execTransferComplete t tag s
  | .msgInject t => Sys2Proof.Machine.execMsgInject t s
  | .msgDeliver t ch => Sys2Proof.Machine.execMsgDeliver t ch s
  | .creditGrant t ch => Sys2Proof.Machine.execCreditGrant t ch s
  | .creditReturn t ch => Sys2Proof.Machine.execCreditReturn t ch s
  | .creditRevoke t ch => Sys2Proof.Machine.execCreditRevoke t ch s
  | .rxcOpen t ch => Sys2Proof.Machine.execRxcOpen t ch s
  | .rxcClose t ch => Sys2Proof.Machine.execRxcClose t ch s
  | .txcEnable t ch => Sys2Proof.Machine.execTxcEnable t ch s
  | .taOpStart t => Sys2Proof.Machine.execTaOpStart t s
  | .matmul t fault => Sys2Proof.Machine.execMatmul t fault s
  | .attn t fault => Sys2Proof.Machine.execAttn t fault s
  | .taOpComplete t => Sys2Proof.Machine.execTaOpComplete t s
  | .vectorOpStart t => Sys2Proof.Machine.execVectorOpStart t s
  | .add t fault => Sys2Proof.Machine.execAdd t fault s
  | .sub t fault => Sys2Proof.Machine.execSub t fault s
  | .mul t fault => Sys2Proof.Machine.execMul t fault s
  | .fma t fault => Sys2Proof.Machine.execFma t fault s
  | .min t fault => Sys2Proof.Machine.execMin t fault s
  | .max t fault => Sys2Proof.Machine.execMax t fault s
  | .relu t fault => Sys2Proof.Machine.execRelu t fault s
  | .silu t fault => Sys2Proof.Machine.execSilu t fault s
  | .exp t fault => Sys2Proof.Machine.execExp t fault s
  | .recip t fault => Sys2Proof.Machine.execRecip t fault s
  | .sqrt t fault => Sys2Proof.Machine.execSqrt t fault s
  | .rsqrt t fault => Sys2Proof.Machine.execRsqrt t fault s
  | .cvt t fault => Sys2Proof.Machine.execCvt t fault s
  | .sum t fault => Sys2Proof.Machine.execSum t fault s
  | .maxr t fault => Sys2Proof.Machine.execMaxr t fault s
  | .softmax t fault => Sys2Proof.Machine.execSoftmax t fault s
  | .rmsnorm t fault => Sys2Proof.Machine.execRmsnorm t fault s
  | .vectorOpComplete t => Sys2Proof.Machine.execVectorOpComplete t s
  | .nbcCheckClose t => Sys2Proof.Machine.execNbcCheckClose t s
  | .nbcOpenWaitEnd t => Sys2Proof.Machine.execNbcOpenWaitEnd t s
  | .guardedWriteResume t => Sys2Proof.Machine.execGuardedWriteResume t s
  | .taSeedTaWrite t v => Sys2Proof.Machine.execTaSeedTaWrite t v s
  | .taSeedVecWrite t v => Sys2Proof.Machine.execTaSeedVecWrite t v s
  | .nbcTolWrite t v => Sys2Proof.Machine.execNbcTolWrite t v s
  | .tileWdogWrite t v => Sys2Proof.Machine.execTileWdogWrite t v s
  | .registerWrite sp off v => Sys2Proof.Machine.execRegisterWrite sp off v s
  | .watchdogExpiry t => Sys2Proof.Machine.execWatchdogExpiry t s
  | .meshParityError t => Sys2Proof.Machine.execMeshParityError t s
  | .scratchpadParityError t => Sys2Proof.Machine.execScratchpadParityError t s
  | .tileReset t => Sys2Proof.Machine.execTileReset t s
  | .tileStart t => Sys2Proof.Machine.execTileStart t s
  | .tileDoze t => Sys2Proof.Machine.execTileDoze t s
  | .foldMapChange f off => Sys2Proof.Machine.execFoldMapChange f off s
  | .alloc t drover index fmt => Sys2Proof.Machine.execAlloc t drover index fmt s
  | .ref t drover index => Sys2Proof.Machine.execRef t drover index s
  | .unref t drover index => Sys2Proof.Machine.execUnref t drover index s
  | .cow t drover index => Sys2Proof.Machine.execCow t drover index s
  | .setcount t drover index count => Sys2Proof.Machine.execSetcount t drover index count s
  | .fetch t drover index => Sys2Proof.Machine.execFetch t drover index s
  | .retire t drover index => Sys2Proof.Machine.execRetire t drover index s
  | .poolCmdDone t => Sys2Proof.Machine.execPoolCmdDone t s
  | .graceEpochClose t => Sys2Proof.Machine.execGraceEpochClose t s
  | .preempt t => Sys2Proof.Machine.execPreempt t s
  | .updateWindowHalt t => Sys2Proof.Machine.execUpdateWindowHalt t s
  | .updateWindowWrite t => Sys2Proof.Machine.execUpdateWindowWrite t s
  | .swapOut t entry => Sys2Proof.Machine.execSwapOut t entry s
  | .swapOutComplete t entry => Sys2Proof.Machine.execSwapOutComplete t entry s
  | .swapIn t entry => Sys2Proof.Machine.execSwapIn t entry s
  | .swapInComplete t entry => Sys2Proof.Machine.execSwapInComplete t entry s
  | .flowRepin t entry dest => Sys2Proof.Machine.execFlowRepin t entry dest s
  | .pageRekeyMove t frame => Sys2Proof.Machine.execPageRekeyMove t frame s
  | .swapImageRekey f slot => Sys2Proof.Machine.execSwapImageRekey f slot s
  | .oldSlotErase f => Sys2Proof.Machine.execOldSlotErase f s
  | .heldSend e => Sys2Proof.Machine.execHeldSend e s
  | .horizonReport t => Sys2Proof.Machine.execHorizonReport t s
  | .heldRelease e => Sys2Proof.Machine.execHeldRelease e s
  | .holdRetractTimeout p => Sys2Proof.Machine.execHoldRetractTimeout p s
  | .quarantineExpiry p => Sys2Proof.Machine.execQuarantineExpiry p s
  | .jobFaultDetect t => Sys2Proof.Machine.execJobFaultDetect t s
  | .recomputeIssue t => Sys2Proof.Machine.execRecomputeIssue t s
  | .recomputeComplete t fault => Sys2Proof.Machine.execRecomputeComplete t fault s
  | .normRegen t => Sys2Proof.Machine.execNormRegen t s
  | .tileRestore t => Sys2Proof.Machine.execTileRestore t s
  | .jobResume job => Sys2Proof.Machine.execJobResume job s
  | .dualCompare t => Sys2Proof.Machine.execDualCompare t s
  | .dualLagTimeout t => Sys2Proof.Machine.execDualLagTimeout t s
  | .checkpointTimer job => Sys2Proof.Machine.execCheckpointTimer job s
  | .checkpointWrite t => Sys2Proof.Machine.execCheckpointWrite t s
  | .checkpointComplete job => Sys2Proof.Machine.execCheckpointComplete job s
  | .digestPoint job => Sys2Proof.Machine.execDigestPoint job s
  | .flockDecisionTimeout flock point => Sys2Proof.Machine.execFlockDecisionTimeout flock point s
  | .selftestSchedule t => Sys2Proof.Machine.execSelftestSchedule t s
  | .lineRead t line flip => Sys2Proof.Machine.execLineRead t line flip s
  | .refetchResult t line flip => Sys2Proof.Machine.execRefetchResult t line flip s
  | .lineRecompute t line inTime => Sys2Proof.Machine.execLineRecompute t line inTime s
  | .lineWrite t line data => Sys2Proof.Machine.execLineWrite t line data s
  | .partialLineWrite t line off data => Sys2Proof.Machine.execPartialLineWrite t line off data s
  | .refresh t layer bank => Sys2Proof.Machine.execRefresh t layer bank s
  | .invalidateRange t first count => Sys2Proof.Machine.execInvalidateRange t first count s
  | .frameZeroOverwrite t frame => Sys2Proof.Machine.execFrameZeroOverwrite t frame s
  | .channelTraining t r => Sys2Proof.Machine.execChannelTraining t r s
  | .eyeRecentre t => Sys2Proof.Machine.execEyeRecentre t s
  | .channelRetrain t r => Sys2Proof.Machine.execChannelRetrain t r s
  | .rotationLineMove t => Sys2Proof.Machine.execRotationLineMove t s
  | .rotationBulkPassEnd t => Sys2Proof.Machine.execRotationBulkPassEnd t s
  | .sessionOverwritePass f t => Sys2Proof.Machine.execSessionOverwritePass f t s
  | .setPointCommand r code notch => Sys2Proof.Machine.execSetPointCommand r code notch s
  | .setPointReached r => Sys2Proof.Machine.execSetPointReached r s
  | .setPointTimeout r => Sys2Proof.Machine.execSetPointTimeout r s
  | .regulatorEnable r sampledMv => Sys2Proof.Machine.execRegulatorEnable r sampledMv s
  | .regulatorDisable r => Sys2Proof.Machine.execRegulatorDisable r s
  | .hint t => Sys2Proof.Machine.execHint t s
  | .hintExpiry t => Sys2Proof.Machine.execHintExpiry t s
  | .retuned t => Sys2Proof.Machine.execRetuned t s
  | .held t => Sys2Proof.Machine.execHeld t s
  | .notch t => Sys2Proof.Machine.execNotch t s
  | .ack t => Sys2Proof.Machine.execAck t s
  | .hold t => Sys2Proof.Machine.execHold t s
  | .resume t => Sys2Proof.Machine.execResume t s
  | .reinNak t toTile seq => Sys2Proof.Machine.execReinNak t toTile seq s
  | .reinReservedFrame t toTile type payload => Sys2Proof.Machine.execReinReservedFrame t toTile type payload s
  | .dipTrip r => Sys2Proof.Machine.execDipTrip r s
  | .burstPulse r cycles => Sys2Proof.Machine.execBurstPulse r cycles s
  | .cycleLimit r phase => Sys2Proof.Machine.execCycleLimit r phase s
  | .overvoltageTrip r => Sys2Proof.Machine.execOvervoltageTrip r s
  | .ovPersistCheck r above => Sys2Proof.Machine.execOvPersistCheck r above s
  | .lkrFaultReport l cause => Sys2Proof.Machine.execLkrFaultReport l cause s
  | .boardFaultAssert => Sys2Proof.Machine.execBoardFaultAssert s
  | .vspnFault mv => Sys2Proof.Machine.execVspnFault mv s
  | .headerStage t => Sys2Proof.Machine.execHeaderStage t s
  | .tileOn t => Sys2Proof.Machine.execTileOn t s
  | .tileOff t => Sys2Proof.Machine.execTileOff t s
  | .foldOn f => Sys2Proof.Machine.execFoldOn f s
  | .foldOff f => Sys2Proof.Machine.execFoldOff f s
  | .tieClose r => Sys2Proof.Machine.execTieClose r s
  | .tieLoadCheck r meanMa => Sys2Proof.Machine.execTieLoadCheck r meanMa s
  | .avsTransaction cmd ok value => Sys2Proof.Machine.execAvsTransaction cmd ok value s
  | .frameClose f sc => Sys2Proof.Machine.execFrameClose f sc s
  | .outputPhase f => Sys2Proof.Machine.execOutputPhase f s
  | .fcvUrg f ch raw => Sys2Proof.Machine.execFcvUrg f ch raw s
  | .fcvMaskWrite f word v => Sys2Proof.Machine.execFcvMaskWrite f word v s
  | .fceSwap f loop => Sys2Proof.Machine.execFceSwap f loop s
  | .fceWindowEnd f => Sys2Proof.Machine.execFceWindowEnd f s
  | .powerWindowEnd inputs => Sys2Proof.Machine.execPowerWindowEnd inputs s
  | .thermalSample temps => Sys2Proof.Machine.execThermalSample temps s
  | .orderlyStop => Sys2Proof.Machine.execOrderlyStop s
  | .immediateStop => Sys2Proof.Machine.execImmediateStop s
  | .thermalResume => Sys2Proof.Machine.execThermalResume s
  | .schedulerPeriod t => Sys2Proof.Machine.execSchedulerPeriod t s
  | .idle p h => Sys2Proof.Machine.execIdle p h s
  | .hello p h b => Sys2Proof.Machine.execHello p h b s
  | .time p h own peerEcho peerArrival arrival => Sys2Proof.Machine.execTime p h own peerEcho peerArrival arrival s
  | .nak p h => Sys2Proof.Machine.execNak p h s
  | .marker p h lane lanes => Sys2Proof.Machine.execMarker p h lane lanes s
  | .msg p h b => Sys2Proof.Machine.execMsg p h b s
  | .release p h ids => Sys2Proof.Machine.execRelease p h ids s
  | .retract p h ids => Sys2Proof.Machine.execRetract p h ids s
  | .grant p h b => Sys2Proof.Machine.execGrant p h b s
  | .dput p h b => Sys2Proof.Machine.execDput p h b s
  | .dgetreq p h b => Sys2Proof.Machine.execDgetreq p h b s
  | .dgetrsp p h b digests => Sys2Proof.Machine.execDgetrsp p h b digests s
  | .reservedFlit p h type vc => Sys2Proof.Machine.execReservedFlit p h type vc s
  | .helloTimer p => Sys2Proof.Machine.execHelloTimer p s
  | .timeTimer => Sys2Proof.Machine.execTimeTimer s
  | .linkTrainingAttempt p => Sys2Proof.Machine.execLinkTrainingAttempt p s
  | .helloTimeout p => Sys2Proof.Machine.execHelloTimeout p s
  | .peerHelloLoss p => Sys2Proof.Machine.execPeerHelloLoss p s
  | .portRetrain p lanesOk => Sys2Proof.Machine.execPortRetrain p lanesOk s
  | .laneOut l cause => Sys2Proof.Machine.execLaneOut l cause s
  | .laneRetrain l ok => Sys2Proof.Machine.execLaneRetrain l ok s
  | .bar0BadAccess f => Sys2Proof.Machine.execBar0BadAccess f s
  | .hostReadFailure m slot => Sys2Proof.Machine.execHostReadFailure m slot s
  | .functionLevelReset f => Sys2Proof.Machine.execFunctionLevelReset f s
  | .vfEnableClear numVfs => Sys2Proof.Machine.execVfEnableClear numVfs s
  | .mgtConnect c => Sys2Proof.Machine.execMgtConnect c s
  | .mgtIdleTimeout c => Sys2Proof.Machine.execMgtIdleTimeout c s
  | .mgtClose c => Sys2Proof.Machine.execMgtClose c s
  | .request c body => Sys2Proof.Machine.execRequest c body s
  | .statusRead c => Sys2Proof.Machine.execStatusRead c s
  | .mgtBadframe c type => Sys2Proof.Machine.execMgtBadframe c type s
  | .getVersion p => Sys2Proof.Machine.execGetVersion p s
  | .getCapabilities p => Sys2Proof.Machine.execGetCapabilities p s
  | .negotiateAlgorithms p asym hash => Sys2Proof.Machine.execNegotiateAlgorithms p asym hash s
  | .getDigests p => Sys2Proof.Machine.execGetDigests p s
  | .getCertificate p slot off len => Sys2Proof.Machine.execGetCertificate p slot off len s
  | .challenge p slot nonce => Sys2Proof.Machine.execChallenge p slot nonce s
  | .getMeasurements p index nonce => Sys2Proof.Machine.execGetMeasurements p index nonce s
  | .spdmUnsupportedRequest p code => Sys2Proof.Machine.execSpdmUnsupportedRequest p code s
  | .ptpSync offset => Sys2Proof.Machine.execPtpSync offset s
  | .ptpLost => Sys2Proof.Machine.execPtpLost s
  | .perstAssert => Sys2Proof.Machine.execPerstAssert s
  | .perstRelease => Sys2Proof.Machine.execPerstRelease s
  | .coldPowerOn => Sys2Proof.Machine.execColdPowerOn s
  | .firmwareStart => Sys2Proof.Machine.execFirmwareStart s
  | .mailboxOpen => Sys2Proof.Machine.execMailboxOpen s
  | .droverRestart => Sys2Proof.Machine.execDroverRestart s
  | .droverReady => Sys2Proof.Machine.execDroverReady s
  | .flashRefresh region ok => Sys2Proof.Machine.execFlashRefresh region ok s
  | .configHalfErase => Sys2Proof.Machine.execConfigHalfErase s
  | .standbyEnter => Sys2Proof.Machine.execStandbyEnter s
  | .standbyExit => Sys2Proof.Machine.execStandbyExit s
  | .tallyEpoch => Sys2Proof.Machine.execTallyEpoch s
  | .histAppend => Sys2Proof.Machine.execHistAppend s
  | .poweredMinute => Sys2Proof.Machine.execPoweredMinute s
  | .snapshotWrite => Sys2Proof.Machine.execSnapshotWrite s
  | .journalFlush ok => Sys2Proof.Machine.execJournalFlush ok s
  | .retentionPass => Sys2Proof.Machine.execRetentionPass s
  | .guardedEntry => Sys2Proof.Machine.execGuardedEntry s
  | .badFlit p => Sys2Proof.Machine.execBadFlit p s
  | .reinBadCrc t toTile seq => Sys2Proof.Machine.execReinBadCrc t toTile seq s
  | .laneLock l ok => Sys2Proof.Machine.execLaneLock l ok s
  | .busMasterEnable f en => Sys2Proof.Machine.execBusMasterEnable f en s

end Sys2Proof.Machine
end

