-- ==== Sys2Proof/Machine/Tick.lean ====
section
/-! DEFINITION. What passes when no command waits: stack time (R6, R88, R377). -/
namespace Sys2Proof.Machine

/-- Time runs: PERST# is released. -/
def State.ticks (s : State) : Bool := s.phase != .reset

/-- STIME of the status pages of the ready mailboxes (R185). -/
def State.showTime (s : State) : State :=
  s.each ((List.range 20).filter fun m => s.rdb MBX_SP_INFO_READY m) fun s m => s.wr MBX_SP_STIME_STIME m s.now

/-- An urgent sample that has been served for 40 ns stands in FCV_URG_RES (R314). -/
def State.serveUrgent (s : State) : State :=
  (s.folds.filter fun k => k.2.urgDue.isSome && decide (k.2.urgBusy ≤ s.now)).foldl (fun s k =>
    let s := (s.wr FCV_URG_RES_CODE k.1 (k.2.urgDue.getD 0)).wr FCV_URG_RES_STATUS k.1 1
    s.modFold k.1 fun x => { x with urgDue := none }) s

/-- One nanosecond of the reference clock, in 64 bits (R6), at the rate that TIME has set; every 10 µs the status pages show it (DESIGN
CHOICE, log 2). -/
def State.tick (s : State) : State :=
  if !s.ticks then s
  else
    let ppm := if s.now < s.ppmUntil then s.ppm else 0
    let f := s.frac + (1000000 + ppm).toNat
    let t : State := { s with now := (s.now + f / 1000000) % 2 ^ 64, frac := f % 1000000 }
    let t := t.serveUrgent
    if t.now / 10000 = s.now / 10000 then t else t.showTime

end Sys2Proof.Machine
end

