-- ==== Sys2Proof/Safety.lean ====
section
/-! DEFINITION. What counts as a safe run, and the terms in which the statements speak: a command that completes,
a command that leaves everything else alone, the canonical forms of the state. -/
namespace Sys2Proof.Machine

/-- The command completes from the state with a next state, of which the property holds. -/
def Completes (c : Instr) (s : State) (P : State → Prop) : Prop := ∃ s', exec c s = .next s' ∧ P s'

/-- The machine can run on: the outcome is a next state. -/
def safeOutcome : Out → Bool
  | .next _ => true
  | _ => false

/-- A run of `k` steps is safe: every one of them answers a next state. -/
def State.safeRun : Nat → State → Bool
  | 0, _ => true
  | k + 1, s => match step s with
    | .next t => State.safeRun k t
    | _ => false

/-! ## Mailbox commands -/

/-- The request accepted in a mailbox is the command with this opcode, it may run now, and no check of R183
refuses it. `denied`, `zero` and `bad` are the command's own checks. -/
def State.mayRun (s : State) (m op : Nat) (r : Req) (denied zero bad : Bool := false) : Bool :=
  match s.command m op with
  | some (q, c) => decide (q = r) && (s.refusal m r c denied zero bad).isNone
  | none => false

/-- Only the mailboxes, their registers, their connections and their interrupts differ. -/
def State.onlyReplies (s t : State) : Prop :=
  t = { s with regs := t.regs, mboxes := t.mboxes, conns := t.conns, msix := t.msix, msixPend := t.msixPend }

/-- The mailbox has its reply (R178): the status and the payload in the reply buffer, the status in MBX_STAT, no request
accepted any more, and for a function's mailbox the state DONE. -/
def State.answered (s : State) (m status : Nat) (payload : Bytes) : Prop :=
  fld (s.mbox m).reply 0 2 = status % 65536 ∧ fld (s.mbox m).reply 2 2 = payload.length % 65536
    ∧ ((s.mbox m).reply.drop 16).take payload.length = payload
    ∧ s.rd MBX_STAT_STATUS m = status % 65536 ∧ (s.mbox m).accepted = none
    ∧ (m < 16 → s.mbxState m = mxDone)

/-- A background operation of a mailbox stands in a slot with an opcode, its object and a state. -/
def State.slotIs (s : State) (m k op object st : Nat) : Prop :=
  ∃ b, s.bg m k = some b ∧ b.opcode = op ∧ b.object = object ∧ b.state = st

/-! ## Tiles -/

/-- An instruction of 4 bytes of a tile's core retired with a value in rd (R81): the pc moves past it, x0 stays
zero, no other register and no other tile changes. -/
def State.retired (s t : State) (u rd v : Nat) : Prop :=
  (t.tile u).pc = (s.tile u).pc + 4#64
    ∧ (∀ r, (t.tile u).xr r = if r = rd ∧ rd ≠ 0 then v % 2 ^ 64 else (s.tile u).xr r)
    ∧ ∀ w, w ≠ u → t.tile w = s.tile w

/-- No other tile changes. -/
def State.otherTiles (s t : State) (u : Nat) : Prop := ∀ w, w ≠ u → t.tile w = s.tile w

/-- Only the tiles and the trace buffers of the connections differ. -/
def State.onlyTiles (s t : State) : Prop := t = { s with tiles := t.tiles, conns := t.conns }

/-- Only the tiles, the registers and the trace buffers of the connections differ. -/
def State.onlyTileRegs (s t : State) : Prop := t = { s with tiles := t.tiles, regs := t.regs, conns := t.conns }

/-- The state of the core of every other tile stays, and no other tile's state in TILE_STATE changes. -/
def State.otherRegisters (s t : State) (u : Nat) : Prop :=
  ∀ w, w ≠ u → t.rd TILE_STATE_STATE w = s.rd TILE_STATE_STATE w ∧ (t.tile w).x = (s.tile w).x ∧ (t.tile w).pc = (s.tile w).pc

/-- A tile stands in FAULT with a cause and a value, at the pc that it had (R71, R110). -/
def State.faulted (s t : State) (u cause val : Nat) : Prop :=
  t.rd TILE_STATE_STATE u = 4 ∧ t.rd TILE_FAULT_CAUSE u = cause ∧ t.rdb TILE_FAULT_VALID u = true
    ∧ t.rd TILE_FAULT_VAL_VAL u = val % 2 ^ 64 ∧ t.rd TILE_FAULT_PC_PC u = (s.tile u).pc.toNat ∧ t.runs u = false

/-- The operation that runs on the vector unit of a tile may write its one row of FP32 elements, without poison,
a guard or a fault of the silicon (R143). -/
def State.vecReady (s : State) (u : Nat) (op : UnitOp) : Bool :=
  let x := s.tile u
  let v := Vec.of op.desc
  x.vecRun == some op && !op.written && x.unitsGo && !(vecOutputs op.desc).any (fun r => x.guards r (some (true, op.num)))
    && v.af == 0 && v.rows == 1 && !v.poisoned x

/-- A word read from the core's pc, 4 bytes long, and the state after the fetch (R73, R77). -/
def State.fetched (s : State) (u w : Nat) (s' : State) : Prop := s.runs u = true ∧ s.fetchInstr u = .got s' (w, 4)

/-- The page pool unit runs a command of a tile that has given a result INDEX and status, and takes some nanoseconds
(R157, R159, R160). -/
def State.poolRuns (s t : State) (u op index status ns : Nat) : Prop :=
  ∃ c, (t.tile u).poolRun = some c ∧ c.op = op ∧ c.resIndex = index ∧ c.resStatus = status ∧ c.ready = s.now + ns

/-! ## Flits -/

/-- The flits that have left a port, its MARKERs apart (R360). -/
def Port.flitsOut (x : Port) : List OutFlit := x.line.filter (·.type != 4)

/-! ## Records -/

/-- The first state but for what an event's record may change: the records that wait, the journal and the histories. -/
def State.logged (s t : State) : State := { s with
  buffer := t.buffer, histOwed := t.histOwed, sectors := t.sectors, snapMin := t.snapMin, coalesced := t.coalesced
  evSeq := t.evSeq, events := t.events, histories := t.histories, regs := t.regs }

/-- The first state but for what a charge, and the drain and restart that it may begin, may change. -/
def State.charged (s t : State) : State := { s.logged t with
  credits := t.credits, creditQ := t.creditQ, drain := t.drain, drainUnits := t.drainUnits, dstate := t.dstate, jobs := t.jobs, life := t.life
  mboxes := t.mboxes, mesh := t.mesh, msix := t.msix, msixPend := t.msixPend, ports := t.ports, ringHeld := t.ringHeld, sessions := t.sessions
  tiles := t.tiles }

/-- The first state but for what the fault of a rail may change: what a charge may, the regulators, the converter's loops,
the folds, and the credits of channels that close. -/
def State.railed (s t : State) : State := { s.charged t with
  reguls := t.reguls, loops := t.loops, folds := t.folds, meshStop := t.meshStop, drvGrants := t.drvGrants }

/-- A regulator has stopped on a fault with a cause, counted and recorded (R289). -/
def State.regFaulted (s t : State) (r cause : Nat) : Prop :=
  t.rd TLR_STAT_STATE r = rsFault ∧ t.rd TLR_FAULT_CAUSE r = cause ∧ t.rd TLR_FAULT_VALID r = 1
    ∧ t.rd TLR_FAULT_COUNT r = satAdd TLR_FAULT_COUNT.w (s.rd TLR_FAULT_COUNT r) 1
    ∧ ∃ e ∈ t.events, e.code = evRegFault ∧ e.unit = regUnit r

/-- One record with a code about a unit was reported. -/
def State.reported (s t : State) (code unit : Nat) : Prop :=
  ∃ e, e.code = code ∧ e.unit = unit ∧ t.events = s.events ++ [e]

/-- The register table lists each field once, in rising order of key. -/
def State.regsCanonical (s : State) : Bool := Tbl.rising s.regs

/-- Host memory is in its canonical form. -/
def State.hostCanonical (s : State) : Bool := Memory.wf s.host

end Sys2Proof.Machine
end

