-- ==== Sys2Proof/WellFormed.lean ====
section
/-! DEFINITION. Which commands the spec gives: the lengths of their byte and list operands. A command of another length runs
too, with a free value for what its operand lacks (log 118). -/
namespace Sys2Proof

open Sys2Proof.Machine in
/-- A command whose operands have the lengths that the spec gives them. Every other operand is limited by its type. -/
def Instr.wellFormed : Instr → Bool
  -- R240: an array line is 68 bytes: 64 of ciphertext and the sideband.
  | .lineRead _ _ flip => decide (flip.length ≤ 68)
  | .refetchResult _ _ flip => decide (flip.length ≤ 68)
  -- R243: a whole line, or a run inside one.
  | .lineWrite _ _ data => decide (data.length = 64)
  | .partialLineWrite _ _ off data => !data.isEmpty && decide (off.toNat + data.length ≤ 64)
  -- R264: one to three attempts, none after one that passed.
  | .channelTraining _ r => trainingOk r
  | .channelRetrain _ r => trainingOk r
  -- R308: a scan has 144 channels.
  | .frameClose _ sc => decide (sc.raw.length = 144)
  -- R344: a sensor per tile.
  | .thermalSample temps => decide (temps.length = 1024)
  -- R367: up to 8 barrier stamps.
  | .hello _ _ b => decide (b.stamps.length ≤ 8)
  -- R95: payloads of 1 to 4,096 bytes.
  | .msg _ _ b => decide (1 ≤ b.payload.length ∧ b.payload.length ≤ 4096)
  -- R374: 1 to 60 hold IDs.
  | .release _ _ ids => decide (1 ≤ ids.length ∧ ids.length ≤ 60)
  | .retract _ _ ids => decide (1 ≤ ids.length ∧ ids.length ≤ 60)
  -- R375: digests of 32 bytes, at most 7 in a reply.
  | .dput _ _ b => decide (b.digest.length = 32)
  | .dgetrsp _ _ _ ds => decide (ds.length ≤ 7) && ds.all fun d => decide (d.length = 32)
  -- R390: 16 to 4,096 bytes.
  | .request _ body => decide (16 ≤ body.length ∧ body.length ≤ 4096)
  -- R395: a nonce of SPDM has 32 bytes.
  | .challenge _ _ nonce => decide (nonce.length = 32)
  | .getMeasurements _ _ nonce => decide (nonce.length = 32)
  | _ => true

end Sys2Proof
end

