-- ==== Sys2Proof/Certificates/Slice0/Obligations.lean ====
section
/-! DEFINITION. The statements for the provers, drawn from the numbered rules of spec/. -/
open Sys2Proof Sys2Proof.Machine

/-! ## The queue, reset and commands that do not exist -/

/-- A step takes the command at the front of the queue and runs it on the state with the queue's rest. -/
def Obligations.StepRunsTheFrontCommand : Prop :=
  ∀ (c : Instr) (r : List Instr) (s : State), s.pending = c :: r → step s = exec c { s with pending := r }

/-- With no command waiting, a step is the passing of one nanosecond (the model's choice, log 2), and before the boot
ROM runs it changes nothing. -/
def Obligations.EmptyQueueOnlyPassesTime : Prop :=
  ∀ s : State, s.pending = [] →
    step s = .next s.tick ∧ (s.phase = .reset → step s = .next s)

/-! ## Mailboxes and device commands (R178 to R183, R408 to R413) -/

/-- GO, acceptance and RELEASE (R177, R178, R202): GO is taken in IDLE; acceptance, when the drover's round has come
to the mailbox, copies the request, shows its TAG and makes the mailbox BUSY; RELEASE makes a DONE mailbox IDLE;
elsewhere LATE is set, but that GO before READY does nothing. -/
def Obligations.MailboxHandshake : Prop :=
  (∀ (m : MbxId) (s : State), s.mbxState m = mxIdle →
    Completes (.mbxGo m) s fun t => (t.mbox m).go = true ∧ (t.mbox m).request = (s.mbox m).request ∧ t.regs = s.regs)
  ∧ (∀ (m : MbxId) (s : State), s.mbxState m = mxBusy ∨ s.mbxState m = mxDone →
    Completes (.mbxGo m) s fun t => t.rdb MBX_STAT_LATE m = true ∧ t.mboxes = s.mboxes)
  ∧ (∀ (m : MbxId) (s : State), s.mbxState m = mxDone →
    Completes (.mbxRelease m) s fun t => t.mbxState m = mxIdle ∧ t.mboxes = s.mboxes)
  ∧ (∀ (m : MbxId) (s : State), s.mbxState m ≠ mxDone →
    Completes (.mbxRelease m) s fun t => t.rdb MBX_STAT_LATE m = true ∧ t.mboxes = s.mboxes)
  ∧ (∀ (m : MbxId) (s : State), s.mbxState m = mxNotReady → exec (.mbxGo m) s = .next s)
  ∧ (∀ (m : MbxId) (s : State), s.nextMbx = some m.val →
    (cmdSpec (fld (Memory.getN (s.mbox m).request 0 16) 0 2)).isSome = true →
    Completes (.mbxAccept m) s fun t => t.mbxState m = mxBusy ∧ (t.mbox m).go = false
      ∧ t.rd MBX_ACCEPT_TAG m = fld (Memory.getN (s.mbox m).request 0 16) 4 4
      ∧ ∃ r, (t.mbox m).accepted = some r ∧ r.opcode = fld (Memory.getN (s.mbox m).request 0 16) 0 2
        ∧ r.object = fld (Memory.getN (s.mbox m).request 0 16) 8 4 ∧ r.order = s.acceptSeq)

/-- The DEV commands that read: each answers ST_OK with its payload and leaves everything but the mailbox, its
registers, its connection and its interrupt alone. DEV_INFO gives level, mailbox, version, stack ID, tiles in service
and penned, and DSTATE; DEV_FINGERPRINT the fingerprint; DEV_CONFIG_READ the fields of the range; DEV_CONFIG_REPORT
the entries. The DEV commands that change something. DEV_CONFIG_WRITE of one defined field with a value in range sets
it; DEV_CONFIG_COMMIT programs a block with the active configuration and the next sequence number (R411); DEV_BG_FREE
frees a done slot (R186). -/
def Obligations.DeviceCommands : Prop :=
  (∀ (m : MbxId) (s : State) (r : Req),
     (s.mayRun m 0x1001 r → Completes (.devInfo m) s fun t => ∃ p, t.answered m stOk p ∧ p.length = 24
       ∧ fld p 0 2 = s.fwLevel % 65536 ∧ fld p 2 2 = m.val ∧ fld p 4 4 = s.fwVersion % 2 ^ 32 ∧ fld p 8 8 = s.stackId % 2 ^ 64
       ∧ fld p 16 2 = 1024 - ((List.range 1024).filter fun u => s.penned (tileUnit u)).length
       ∧ fld p 18 2 = ((List.range 1024).filter fun u => s.penned (tileUnit u)).length
       ∧ fld p 20 1 = (if s.phase = .recovery then 4 else s.dstate) % 256
       ∧ s.onlyReplies t)
     ∧ (s.mayRun m 0x1002 r → Completes (.devFingerprint m) s fun t => t.answered m stOk s.fingerprint
       ∧ s.onlyReplies t)
     ∧ (s.mayRun m 0x1003 r → r.f 2 2 ≠ 0 → Completes (.devConfigRead m) s fun t =>
       t.answered m stOk (((((List.range (r.f 2 2)).map (r.f 0 2 + ·)).filter fun i => (cfgField i).isSome).take 510).flatMap
         fun i => cfgEntry i (s.conf i))
       ∧ s.onlyReplies t)
     ∧ (s.mayRun m 0x1006 r → r.f 2 2 ≠ 0 → Completes (.devConfigReport m) s fun t =>
       t.answered m stOk (((s.report.drop (r.f 0 2)).take (min 340 (r.f 2 2))).flatMap clampBytes)
       ∧ s.onlyReplies t))
  ∧ (∀ (m : MbxId) (s : State) (r : Req),
       (∀ id v, s.mayRun m 0x1004 r → r.len = 12 → r.f 0 2 = 1 → r.f 2 2 = 0 → r.f 6 2 = 0 → r.f 4 2 = id → r.f 8 4 = v →
         cfgClamp id v = some v → Completes (.devConfigWrite m) s fun t => t.answered m stOk [] ∧ t.conf id = v)
       ∧ (s.mayRun m 0x1005 r → s.flash.log.length < halfBlocks → Completes (.devConfigCommit m true true) s fun t =>
         t.answered m stOk s.fingerprint
           ∧ t.flash = { s.flash with log := s.flash.log ++ [s.newBlock] } ∧ s.newBlock.sigOk = true
           ∧ s.newBlock.seq = ((s.flash.newest.map CfgBlock.seq).getD 0 + 1) % 2 ^ 32 ∧ t.cfg = s.cfg)
       ∧ (∀ k b, s.mayRun m 0x1007 r → (s.mbox m).bg.find? (fun b => b.2.opid == r.f 0 4) = some (k, b) →
         b.state ≠ 1 → b.state ≠ 3 → Completes (.devBgFree m) s fun t => t.answered m stOk [] ∧ t.bg m k = none))

/-! ## Jobs (R190 to R194, R219) -/

/-- JOB_LOAD takes free tiles (R191): the reply names handle, tag and tiles, a new job stands in LOADING and a
background slot runs. When the image is read and passes its checks the job is LOADED and every tile boots at the
image's entry; else the slot ends with the image's status, the job is gone and its tiles are free. JOB_START makes a
LOADED job RUNNING and starts every core of it at its entry address (R190), JOB_STATUS answers the job's state,
JOB_CHECKPOINT takes a slot and makes a checkpoint due (R219). -/
def Obligations.JobsLoadAndRun : Prop :=
  (∀ (m : MbxId) (s : State) (r : Req) (ts tw : List Nat),
     (s.mayRun m 0x2001 r (zero := r.f 8 4 == 0) (bad := r.f 12 4 != 0 || r.f 38 10 != 0) →
       s.takeTiles (readPolicy r).1 = some (ts, tw) → ∀ k, s.bgFree m = some k → Completes (.jobLoad m) s fun t =>
       t.answered m (if (readPolicy r).2.isEmpty then stOk else stClamped) (toLE 4 (s.newHandle m) ++ toLE 2 s.newTag
           ++ toLE 2 ts.length ++ toLE 2 (readPolicy r).2.length ++ zeros 6 ++ ts.flatMap (toLE 2)
           ++ (readPolicy r).2.flatMap clampBytes)
       ∧ t.slotIs m k 0x2001 (s.newHandle m) 1
       ∧ (∃ j, t.jobs = s.jobs ++ [j] ∧ j.handle = s.newHandle m ∧ j.tag = s.newTag ∧ j.fn = m.val ∧ j.state = 1
         ∧ j.tiles = ts ∧ j.twins = tw ∧ j.policy = (readPolicy r).1)
       ∧ t.flows = s.flows ∧ t.sessions = s.sessions ∧ t.keys = s.keys ∧ t.host = s.host)
     ∧ (∀ (k : Fin 8) b j, s.bgRuns m k 0x2001 = some b → s.jobByHandle b.object = some j → s.masters m = true →
       (j.all.all fun t => (s.tile t).heldLines.isEmpty) = true →
       imageStatus (s.rdHost j.imgAddr j.imgLen) j.imgLen j.tiles.length ≠ stOk →
       Completes (.jobLoadDone m k) s fun t => t.jobs = s.jobs.filter (·.tag != j.tag)
         ∧ (∀ c, t.bg m k = some c → c.state = 2
           ∧ c.status = imageStatus (s.rdHost j.imgAddr j.imgLen) j.imgLen j.tiles.length)
         ∧ (∀ u ∈ j.all, t.rd TILE_JOB_JOB u = 0
           ∧ (t.freeTile u = false → (∃ q ∈ s.jobs, q.tag ≠ j.tag
             ∧ q.all.contains u = true) ∨ s.lost u = true ∨ s.foldOff (foldOf u) = true
             ∨ (s.tile u).cleared = true))
         ∧ t = { s with jobs := t.jobs, mboxes := t.mboxes, msix := t.msix, msixPend := t.msixPend, regs := t.regs,
                        sessions := t.sessions, flocks := t.flocks, flockAt := t.flockAt, flockDone := t.flockDone })
     ∧ (∀ (k : Fin 8) b j, s.bgRuns m k 0x2001 = some b → s.jobByHandle b.object = some j → s.masters m = true →
       (j.all.all fun t => (s.tile t).heldLines.isEmpty) = true →
       imageStatus (s.rdHost j.imgAddr j.imgLen) j.imgLen j.tiles.length = stOk →
       Completes (.jobLoadDone m k) s fun t => (∀ q ∈ t.jobs, q.tag = j.tag → q.state = 2)
         ∧ (∀ q ∈ t.jobs, q.tag = j.tag → q.entry = fld (s.rdHost j.imgAddr j.imgLen) 12 4)
         ∧ (∀ u ∈ j.all, t.rd TILE_BOOT_ADDR u = fld (s.rdHost j.imgAddr j.imgLen) 12 4 / 4 % 2 ^ TILE_BOOT_ADDR.w
           ∧ t.rd TILE_BOOT_SPACE u = fld (s.rdHost j.imgAddr j.imgLen) 16 1 % 2)
         ∧ (∀ c, t.bg m k = some c → c.state = 2 ∧ c.status = stOk)
         ∧ t = { s with jobs := t.jobs, mboxes := t.mboxes, msix := t.msix, msixPend := t.msixPend, regs := t.regs,
                        sessions := t.sessions, tiles := t.tiles }))
  ∧ (∀ (m : MbxId) (s : State) (r : Req) (j : Job), s.jobByHandle r.object = some j →
       (s.mayRun m 0x2002 r → j.state = 2 → s.lostTile j = false → s.inService = true → s.jobByTag j.tag = some j →
         Completes (.jobStart m) s fun t => t.answered m stOk [] ∧ t.jobEver = true
           ∧ t.jobs.map (·.tag) = s.jobs.map (·.tag) ∧ (∀ q ∈ t.jobs, q.tag = j.tag → q.state = 3 ∧ q.startAt = s.now)
           ∧ (∀ u ∈ j.all, t.rd TILE_STATE_STATE u = 1 ∧ (t.tile u).pc = BitVec.ofNat 64 (s.bootAddr u))
           ∧ t.flows = s.flows ∧ t.keys = s.keys ∧ t.host = s.host)
       ∧ (s.mayRun m 0x2002 r → j.state ≠ 2 → Completes (.jobStart m) s fun t => t.answered m stBadState [] ∧ s.onlyReplies t)
       ∧ (s.mayRun m 0x2002 r → j.state = 2 → s.lostTile j = true →
         Completes (.jobStart m) s fun t => t.answered m stNoTiles [] ∧ s.onlyReplies t)
       ∧ (s.mayRun m 0x2003 r → Completes (.jobStatus m) s fun t => (∃ p, t.answered m stOk p ∧ p.length = 18
         ∧ fld p 0 1 = j.state % 256 ∧ fld p 2 2 = j.restarts % 65536 ∧ fld p 4 8 = j.lastCkpt % 2 ^ 64)
         ∧ s.onlyReplies t)
       ∧ (∀ k, s.mayRun m 0x2004 r → j.state = 3 → s.jobBusy j = false → s.bgFree m = some k →
         Completes (.jobCheckpoint m) s fun t => t.answered m stOk [] ∧ t.slotIs m k 0x2004 j.handle 1
           ∧ (∀ q ∈ t.jobs, q.tag = j.tag → q.ckptDue = true ∧ q.ckptOp = some (m.val, k))
           ∧ t = { s with jobs := t.jobs, regs := t.regs, mboxes := t.mboxes, conns := t.conns, msix := t.msix,
                          msixPend := t.msixPend }))

/-- JOB_RESTORE puts the job in RESTARTING behind a slot, on free tiles in place of any it has lost (R190, R216; log
52). With an image, a LOADED job goes to RESTARTING with the image's checkpoints, under the image's policy (R194; log
149); it stays LOADED and the slot ends with ST_INTEGRITY where the bytes are no image of this session's job; with Bus
Master Enable clear it waits. JOB_EXPORT starts a slot; at its end the image, and nothing else, stands in host memory,
or, where there is no room, the slot says how much it needs and nothing is written (R194). JOB_STOP: no job with the
tag and no flow of the job is left, its tiles are reset and free and their columns read unwritten, and the slots that
ran for it are over; a LOADING one is not stopped. JOB_FINISH: FINISHED, its batches retired (R190, R198). -/
def Obligations.JobsRestoreExportAndEnd : Prop :=
  (∀ (m : MbxId) (s : State) (j : Job),
     (∀ r k, s.jobByHandle r.object = some j → s.jobByTag j.tag = some j → s.mayRun m 0x2005 r → r.f 0 8 = 0 →
       (j.state = 3 ∨ j.state = 5 ∨ j.state = 7) → s.jobBusy j = false → s.bgFree m = some k →
       (∀ l, s.substitutes j = some l → Completes (.jobRestore m) s fun t =>
         t.answered m stOk [] ∧ t.slotIs m k 0x2005 j.handle 1
         ∧ (∃ q, t.jobByTag j.tag = some q ∧ q.state = 4 ∧ q.handle = j.handle
           ∧ q.tiles = j.tiles.map (renamed l.unzip.1 l.unzip.2) ∧ q.ckptOp = some (m.val, k)
           ∧ q.restart.map (·.at') = some s.now)
         ∧ (l = [] → t.flows = s.flows) ∧ t.keys = s.keys ∧ t.host = s.host)
       ∧ (s.substitutes j = none → Completes (.jobRestore m) s fun t => t.answered m stNoTiles [] ∧ s.onlyReplies t))
     ∧ (∀ r k, s.jobByHandle r.object = some j → s.jobByTag j.tag = some j → s.mayRun m 0x2005 r → r.f 0 8 ≠ 0 → j.state = 2 →
       s.jobBusy j = false → s.lostTile j = false → s.bgFree m = some k →
       (s.masters m = false → Completes (.jobRestore m) s fun t => t.answered m stOk [] ∧ t.slotIs m k 0x2005 j.handle 1
         ∧ t.jobs = s.jobs ∧ t.keys = s.keys ∧ t.host = s.host)
       ∧ (s.masters m = true → s.findExport m (r.f 0 8) (r.f 8 4 * 65536) = none → Completes (.jobRestore m) s fun t =>
         t.answered m stOk [] ∧ t.slotIs m k 0x2005 j.handle 2 ∧ (∃ c, t.bg m k = some c ∧ c.status = stIntegrity)
         ∧ t.jobs = s.jobs ∧ t.keys = s.keys ∧ t.host = s.host)
       ∧ (∀ e, s.masters m = true → s.findExport m (r.f 0 8) (r.f 8 4 * 65536) = some e → e.tiles.length = j.all.length →
         Completes (.jobRestore m) s fun t => t.answered m stOk [] ∧ t.slotIs m k 0x2005 j.handle 1
           ∧ (∃ q, t.jobByTag j.tag = some q ∧ q.state = 4 ∧ q.handle = j.handle ∧ q.tiles = j.tiles
             ∧ q.policy = { e.policy with ntiles := j.policy.ntiles, mode := j.policy.mode }
             ∧ q.ckptOp = some (m.val, k) ∧ q.restart.map (·.at') = some s.now)
           ∧ (∀ (i u : Nat) (x : Ckpt × Tbl (Option Bytes)), j.all.Nodup → j.all[i]? = some u → e.tiles[i]? = some x →
             (t.tile u).curSlot = 0 ∧ ((t.tile u).ckpts.find 0).map (fun c => (c.x, c.pc, c.spad)) = some (x.1.x, x.1.pc, x.1.spad))
           ∧ t.keys = s.keys ∧ t.host = s.host))
     ∧ (∀ r k, s.jobByHandle r.object = some j → s.mayRun m 0x2006 r (zero := r.f 8 4 == 0) (bad := r.f 0 8 % 4096 != 0) →
       (j.state = 5 ∨ j.state = 6 ∨ j.state = 7) → s.jobBusy j = false → s.bgFree m = some k →
       Completes (.jobExport m) s fun t => t.answered m stOk [] ∧ t.slotIs m k 0x2006 j.handle 1
         ∧ (∃ c, t.bg m k = some c ∧ c.args = [r.f 0 8, r.f 8 4]) ∧ s.onlyReplies t)
     ∧ (∀ (k : Fin 8) b, s.bgRuns m k 0x2006 = some b → b.orphan = false → s.jobByHandle b.object = some j →
       s.masters m = true → (j.all.all fun t => (s.tile t).heldLines.isEmpty) = true →
       let x := (s.freezeJob j).exportTiles j
       let len := exportLen j x.2
       let need := ceilDiv len 65536 * 65536
       let img := exportImage j (s.sess m).gen (s.sess m).exportKey s.now len ((x.2.head?.map fun k => k.1.at').getD 0) x.2
       (b.args.getD 1 0 * 65536 < need → Completes (.jobExportDone m k) s fun t =>
         (∃ c, t.bg m k = some c ∧ c.state = 2 ∧ c.status = stNoSpace ∧ c.result = toLE 8 0 ++ toLE 8 need)
         ∧ t = s.charged t)
       ∧ (need ≤ b.args.getD 1 0 * 65536 → Completes (.jobExportDone m k) s fun t =>
         (∃ c, t.bg m k = some c ∧ c.state = 2 ∧ c.status = stOk ∧ c.result = toLE 8 need ++ toLE 8 need)
         ∧ t.rdHost (b.args.getD 0 0) img.length = img
         ∧ (∀ a, a < b.args.getD 0 0 ∨ b.args.getD 0 0 + img.length ≤ a → t.rdHost a 1 = s.rdHost a 1)
         ∧ (∃ e, t.exports = s.exports ++ [e] ∧ e.image = img ∧ e.fn = m.val ∧ e.policy = j.policy ∧ e.ids = j.all)
         ∧ t = { s.charged t with exports := t.exports, host := t.host })))
  ∧ (∀ (m : MbxId) (s : State) (j : Job),
       (∀ r, s.jobByHandle r.object = some j → s.mayRun m 0x2007 r → j.state ≠ 1 → s.jobBusy j = false →
         Completes (.jobStop m) s fun t => t.answered m stOk [] ∧ (∀ q ∈ t.jobs, q.tag ≠ j.tag) ∧ (∀ f ∈ t.flows, f.job ≠ j.handle)
           ∧ (∀ u ∈ j.all, t.rd TILE_JOB_JOB u = 0 ∧ t.rd TILE_PG_FRAMES_NFRAMES u = 0
             ∧ ((s.tile u).recomp = none → t.rd TILE_STATE_STATE u = 0)
             ∧ ((s.tile u).heldLines = [] → ∀ l, l < colLines → (t.tile u).col.find l = none))
           ∧ (∀ k b, t.bg j.fn k = some b → b.object = j.handle → b.state ≠ 1)
           ∧ t.keys = s.keys ∧ t.host = s.host ∧ t.cfg = s.cfg ∧ t.flash = s.flash)
       ∧ (∀ r, s.jobByHandle r.object = some j → s.mayRun m 0x2007 r → j.state = 1 →
         Completes (.jobStop m) s fun t => t.answered m stBadState [] ∧ s.onlyReplies t)
       ∧ (s.jobByTag j.tag = some j → j.state = 3 → j.ckptOn = false → (s.outbound j.tag).isEmpty = true →
         (∀ t ∈ j.all, s.rd TILE_STATE_STATE t = 2 ∧ (s.tile t).taRun = none ∧ (s.tile t).vecRun = none
           ∧ (s.tile t).taOpen = [] ∧ (s.tile t).dual = [] ∧ (s.tile t).detections = [] ∧ (s.tile t).guarded = []
           ∧ (s.tile t).sendBuf = none) →
         Completes (.jobFinish j.tag) s fun t => (∀ q ∈ t.jobs, q.tag = j.tag → q.state = 6)
           ∧ (∀ k b, t.bg j.fn k = some b → b.opcode = 0x3002 → b.object = j.handle → b.state ≠ 1 ∧ b.state ≠ 3)
           ∧ t = { s with jobs := t.jobs, mboxes := t.mboxes, msix := t.msix, msixPend := t.msixPend }))

/-! ## Flows and batches (R154, R171, R195 to R198) -/

/-- FLOW_OPEN writes the entry of R154 into the flow table of the tile, and of its twin: handle, page list, no page,
capacity, state 1 or, for a template, 5; it gives a handle. FLOW_QUERY answers the entry; FLOW_RETIRE ends the flow
(R171, R195). A tile whose job runs is first asked for an update window (R156); one that is off or penned takes no
flow (R233; DESIGN CHOICE, log 124). FLOW_SUBMIT starts a slot, at once retired for a FINISHED job; each record of the
batch is skipped, or goes to the mesh as a message from 0x410 with its flow's handle, its ordinal and its token; with
every record settled the slot is delivered, retired if the job is FINISHED (R196 to R198). -/
def Obligations.FlowsAndBatches : Prop :=
  (∀ (m : MbxId) (s : State) (r : Req) (j : Job),
     (∀ t' e, s.jobByHandle r.object = some j → s.mayRun m 0x3001 r → r.f 2 1 ≤ 1 → r.f 3 1 = 0 → r.f 10 6 = 0 →
       (r.f 0 2 = 0xFFFF ∨ j.tiles.contains (r.f 0 2) = true) → (j.state = 2 ∨ j.state = 3 ∨ j.state = 5) →
       s.flowTile j (r.f 0 2) = t' → s.nframes t' ≠ 0 → (j.pair t').any s.lost = false → s.emptyEntry t' = some e →
       s.inWindow' j t' = true →
       Completes (.flowOpen m) s fun t =>
         t.flows = s.flows ++ [⟨s.newHandle m, j.handle, m, t', e, 0, true⟩]
         ∧ t.rd MBX_STAT_STATUS m = (if r.f 4 4 % 16 = 0 ∧ r.f 4 4 ≤ spadSize - 16 * clampN 1 4096 (r.f 8 2)
             ∧ 1 ≤ r.f 8 2 ∧ r.f 8 2 ≤ 4096 then stOk else stClamped)
         ∧ (∀ u ∈ j.pair t', (t.tile u).rdSpad ((s.tile u).fteAddr e) 32 = fteBytes (s.newHandle m)
             (min (r.f 4 4 / 16 * 16) (spadSize - 16 * clampN 1 4096 (r.f 8 2))) (clampN 1 4096 (r.f 8 2)) (r.f 2 1 == 1)
           ∧ (∀ a, a < (s.tile u).fteAddr e ∨ (s.tile u).fteAddr e + 32 ≤ a → (t.tile u).rdSpad a 1 = (s.tile u).rdSpad a 1)
           ∧ t.tile u = { s.tile u with winReq := false, spad := (t.tile u).spad, resv := (t.tile u).resv })
         ∧ (∀ u, u ∉ j.pair t' → t.tile u = s.tile u)
         ∧ t = { s with tiles := t.tiles, flows := t.flows, handles := s.handles + 1
                        regs := t.regs, mboxes := t.mboxes, conns := t.conns, msix := t.msix, msixPend := t.msixPend })
     ∧ (∀ t' e, s.jobByHandle r.object = some j → s.mayRun m 0x3001 r → r.f 2 1 ≤ 1 → r.f 3 1 = 0 → r.f 10 6 = 0 →
       (r.f 0 2 = 0xFFFF ∨ j.tiles.contains (r.f 0 2) = true) → j.state = 3 →
       s.flowTile j (r.f 0 2) = t' → s.nframes t' ≠ 0 → (j.pair t').any s.lost = false → s.emptyEntry t' = some e →
       s.inWindow' j t' = false →
       Completes (.flowOpen m) s fun t => (t.tile t').winReq = true ∧ t = { s with tiles := t.tiles })
     ∧ (∀ t', s.jobByHandle r.object = some j → s.mayRun m 0x3001 r → r.f 2 1 ≤ 1 → r.f 3 1 = 0 → r.f 10 6 = 0 →
       r.f 0 2 = t' → j.tiles.contains t' = true → t' ≠ 0xFFFF → s.lost t' = true →
       Completes (.flowOpen m) s fun t => t.answered m stBadState [] ∧ s.onlyReplies t)
     ∧ (∀ f, s.flowByHandle r.object = some f → s.mayRun m 0x3003 r → s.flowSwaps f = false →
       Completes (.flowQuery m) s fun t => (∃ p, t.answered m stOk p ∧ p.length = 24 ∧ fld p 0 2 = f.tile % 65536
         ∧ fld p 2 1 = (s.tile f.tile).fteState f.entry % 256 ∧ fld p 4 4 = (s.tile f.tile).fte f.entry 12 4 % 2 ^ 32)
         ∧ s.onlyReplies t)
     ∧ (∀ f, s.flowByHandle r.object = some f → s.jobByHandle f.job = some j → s.mayRun m 0x3004 r → s.flowSwaps f = false →
       j.state ≠ 4 → s.inWindow' j f.tile = true →
       Completes (.flowRetire m) s fun t => t.answered m stOk [] ∧ (∀ g ∈ t.flows, g.handle = f.handle → g.live = false)
         ∧ t.flows.map (·.handle) = s.flows.map (·.handle)
         ∧ t = { s with tiles := t.tiles, flows := t.flows, sessions := t.sessions
                        regs := t.regs, mboxes := t.mboxes, conns := t.conns, msix := t.msix, msixPend := t.msixPend }))
  ∧ (∀ (m : MbxId) (s : State) (j : Job),
       (∀ r k, s.jobByHandle r.object = some j → s.mayRun m 0x3002 r → r.f 12 4 ≠ 0 → j.state ≠ 1 → s.bgFree m = some k →
         Completes (.flowSubmit m) s fun t => t.answered m stOk []
           ∧ t.slotIs m k 0x3002 j.handle (if j.state = 6 then 4 else 1) ∧ s.onlyReplies t)
       ∧ (∀ (k : Fin 8) b i x, s.bg m k = some b → s.jobByHandle b.object = some j → b.opcode = 0x3002 →
         (b.state = 1 ∨ b.state = 3) → 7 + b.a 2 ≤ b.args.length → j.state = 3 → s.masters m = true → s.heatStops = false →
           s.meshStop = false →
         s.nextRecord j b = some (i, x) → s.recSkips j b x = true →
         Completes (.batchTokenDeliver m k) s fun t =>
           (∃ c, t.bg m k = some c ∧ c.a 5 = b.a 5 ∧ c.a 6 = b.a 6 + (if b.rec' i = 0 then 1 else 0))
           ∧ t = { s with mboxes := t.mboxes })
       ∧ (∀ (k : Fin 8) b i x f c, s.bg m k = some b → s.jobByHandle b.object = some j → b.opcode = 0x3002 →
         (b.state = 1 ∨ b.state = 3) → 7 + b.a 2 ≤ b.args.length → j.state = 3 → s.masters m = true → s.heatStops = false →
           s.meshStop = false →
         s.nextRecord j b = some (i, x) → s.recSkips j b x = false → s.recFlow j x = some f →
         s.drvGrant f.tile j.policy.ingestCh = some c →
         Completes (.batchTokenDeliver m k) s fun t =>
           (∃ q ∈ t.mesh, q.src = 0x410 ∧ q.dst = f.tile ∧ q.dch = j.policy.ingestCh ∧ q.gen = c.gen ∧ q.payload
             = toLE 4 f.handle ++ toLE 4 0 ++ toLE 8 f.ordinal ++ s.rdHost (b.a 0 + x.off + 8) x.len)
           ∧ (∃ d, t.drvGrant f.tile j.policy.ingestCh = some d ∧ d.n = c.n - 1)
           ∧ (∃ d, t.bg m k = some d ∧ d.a 5 = b.a 5 + (if b.rec' i = 0 then 1 else 0) ∧ d.a 6 = b.a 6)
           ∧ t = { s with mboxes := t.mboxes, mesh := t.mesh, drvGrants := t.drvGrants, flows := t.flows, tiles := t.tiles })
       ∧ (∀ (k : Fin 8) b, s.bgRuns m k 0x3002 = some b → b.a 2 ≤ b.a 5 + b.a 6 → s.jobByHandle b.object = some j →
         Completes (.flowSubmitDelivered m k) s fun t =>
           (∃ c, t.bg m k = some c ∧ c.state = (if j.state = 6 then 4 else 3) ∧ c.status = stOk
             ∧ c.result = toLE 4 (b.a 5) ++ toLE 4 (b.a 6))
           ∧ t = { s with mboxes := t.mboxes, msix := t.msix, msixPend := t.msixPend }))

/-! ## Memory commands (R150, R168, R184, R252 to R254) -/

/-- MEM_POOL_CREATE leaves every frame of the pools free, and ends the flows of the tiles (R150). MEM_SWAP_AREA sets
or clears the session's area (R168). MEM_SCRUB and MEM_COPY start a slot (R184, R252). A scrub that runs alone ends
with its lines and its time in the result (R253, R254) and leaves host memory and the keys alone; a copy into a
scratchpad or a column leaves there what stands in host memory, and one out of a scratchpad without poison, or of a
column, leaves in host memory what was read. -/
def Obligations.PoolsScrubsAndCopies : Prop :=
  (∀ (m : MbxId) (s : State) (r : Req) (j : Job),
     (s.jobByHandle r.object = some j → s.mayRun m 0x4001 r → r.f 22 2 = 0 →
       (r.f 0 2 = 0xFFFF ∨ j.tiles.contains (r.f 0 2) = true) → j.state = 2 → Completes (.memPoolCreate m) s fun t =>
       t.answered m (if (readPool r).2.isEmpty then stOk else stClamped) ((readPool r).2.flatMap clampBytes)
         ∧ (∀ u ∈ (if r.f 0 2 = 0xFFFF then j.tiles else [r.f 0 2]), t.nframes u = (readPool r).1.nframes % 65536
           ∧ t.rd TILE_PG_FREE_FREE u = (readPool r).1.nframes % 65536 ∧ t.rd TILE_PG_FREE_PENDING u = 0
           ∧ t.rd TILE_PG_EPOCH_EPOCH u = 0 ∧ (t.tile u).ftab = (readPool r).1.ftab ∧ (t.tile u).nfte = (readPool r).1.nfte)
         ∧ (∀ f ∈ t.flows, (if r.f 0 2 = 0xFFFF then j.tiles else [r.f 0 2]).contains f.tile = true → f.live = false)
         ∧ t = { s with tiles := t.tiles, flows := t.flows, regs := t.regs, mboxes := t.mboxes, conns := t.conns, msix := t.msix, msixPend := t.msixPend })
     ∧ (s.mayRun m 0x4002 r → r.f 8 8 ≠ 0 → r.f 16 1 = 0 → r.f 17 7 = 0 → r.f 0 8 % 4096 = 0 → r.f 8 8 % 4096 = 0 →
       Completes (.memSwapArea m) s fun t => t.answered m stOk [] ∧ (t.sess m).swap = some (r.f 0 8, r.f 8 8)
         ∧ (∀ f, f ≠ m.val → t.sess f = s.sess f)
         ∧ t = { s with sessions := t.sessions, regs := t.regs, mboxes := t.mboxes, conns := t.conns, msix := t.msix, msixPend := t.msixPend })
     ∧ (s.mayRun m 0x4002 r → r.f 16 1 = 1 → r.f 17 7 = 0 → r.f 0 8 % 4096 = 0 → r.f 8 8 % 4096 = 0 → s.anySwapped m = false →
       Completes (.memSwapArea m) s fun t => t.answered m stOk [] ∧ (t.sess m).swap = none
         ∧ t = { s with sessions := t.sessions, regs := t.regs, mboxes := t.mboxes, conns := t.conns, msix := t.msix, msixPend := t.msixPend }))
  ∧ (∀ (m : MbxId) (s : State),
       (∀ r k ts, s.mayRun m 0x4003 r (denied := s.scrubDenied m r) → r.f 8 4 ≠ 0 → r.f 2 2 = 0 → r.f 4 4 < 0x10000000 →
         (r.f 0 2 = 0xFFFF ∨ (∃ j, s.jobByHandle r.object = some j ∧ j.all.contains (r.f 0 2) = true)
           ∨ (s.jobByHandle r.object = none ∧ r.f 0 2 < 1024)) → s.scrubTiles r = some ts → s.bgFree m = some k →
         Completes (.memScrub m) s fun t =>
           t.rd MBX_STAT_STATUS m = (if (scrubRange r).2.2.isEmpty then stOk else stClamped) ∧ t.slotIs m k 0x4003 r.object 1
           ∧ (∃ b, t.bg m k = some b ∧ b.a 2 = (scrubRange r).1 ∧ b.a 3 = (scrubRange r).2.1 ∧ b.scrubs = ts) ∧ s.onlyReplies t)
       ∧ (∀ (k : Fin 8) b, s.bgRuns m k 0x4003 = some b → s.scrubSlots = [(m.val, k.val, b)] → b.a 1 ≠ 0 →
         b.scrubs.any (fun t => s.rangeHeld t (b.a 2) (b.a 3)) = false →
         Completes (.memScrubDone m k) s fun t => (∀ c, t.bg m k = some c → c.state = 2 ∧ c.status = stOk
             ∧ fld c.result 0 8 = b.scrubs.length * b.a 3 % 2 ^ 64 ∧ fld c.result 24 8 = (s.now + 1 - b.a 1) % 2 ^ 64)
           ∧ t = { s.charged t with flows := t.flows })
       ∧ (∀ r k j, s.jobByHandle r.object = some j → s.mayRun m 0x4004 r → r.f 8 4 ≠ 0 → s.copyBad r = false →
         (j.state = 2 ∨ j.state = 5 ∨ j.state = 6 ∨ j.state = 7) → s.bgFree m = some k →
         Completes (.memCopy m) s fun t => t.answered m stOk [] ∧ t.slotIs m k 0x4004 j.handle 1 ∧ s.onlyReplies t)
       ∧ (∀ (k : Fin 8) b j u, s.bgRuns m k 0x4004 = some b → s.jobByHandle b.object = some j → s.masters m = true →
         b.a 3 = 0 → j.tiles[b.a 2]? = some u → Completes (.memCopyDone m k) s fun t =>
           (t.tile u).rdSpad (b.a 4) (b.a 1) = s.rdHost (b.a 0) (b.a 1)
           ∧ (∀ a, a < b.a 4 ∨ b.a 4 + b.a 1 ≤ a → (t.tile u).rdSpad a 1 = (s.tile u).rdSpad a 1)
           ∧ (∀ v, v ∉ j.pair u → t.tile v = s.tile v)
           ∧ (∀ c, t.bg m k = some c → c.state = 2 ∧ c.status = stOk)
           ∧ t = { s with tiles := t.tiles, mboxes := t.mboxes, msix := t.msix, msixPend := t.msixPend })
       ∧ (∀ (k : Fin 8) b j u, s.bgRuns m k 0x4004 = some b → s.jobByHandle b.object = some j → s.masters m = true →
         b.a 3 = 1 → j.tiles[b.a 2]? = some u → (s.tile u).poison = [] → Completes (.memCopyDone m k) s fun t =>
           t.rdHost (b.a 0) (b.a 1) = (s.tile u).rdSpad (b.a 4) (b.a 1)
           ∧ (∀ a, a < b.a 0 ∨ b.a 0 + b.a 1 ≤ a → Memory.get t.host a = Memory.get s.host a)
           ∧ (∀ c, t.bg m k = some c → c.state = 2 ∧ c.status = stOk)
           ∧ t = { s with host := t.host, mboxes := t.mboxes, msix := t.msix, msixPend := t.msixPend })
       ∧ (∀ (k : Fin 8) b j u, s.bgRuns m k 0x4004 = some b → s.jobByHandle b.object = some j → s.masters m = true →
         b.a 3 = 2 → j.tiles[b.a 2]? = some u → s.chanClosed u = false → s.rangeHeld u (b.a 4 / 64) (b.a 1 / 64) = false →
         Completes (.memCopyDone m k) s fun t =>
           (∀ i key, i < b.a 1 / 64 → s.key (s.slotFor u (b.a 4 / 64 + i)) = some key → (t.tile u).line (b.a 4 / 64 + i)
             = goodLine key u (b.a 4 / 64 + i) (s.rdHost (b.a 0 + 64 * i) 64))
           ∧ (∀ c, t.bg m k = some c → c.state = 2 ∧ c.status = stOk)
           ∧ t = { s with tiles := t.tiles, sessions := t.sessions, mboxes := t.mboxes, msix := t.msix, msixPend := t.msixPend })
       ∧ (∀ (k : Fin 8) b j u, s.bgRuns m k 0x4004 = some b → s.jobByHandle b.object = some j → s.masters m = true →
         b.a 3 = 3 → j.tiles[b.a 2]? = some u → s.chanClosed u = false → s.rangeHeld u (b.a 4 / 64) (b.a 1 / 64) = false →
         Completes (.memCopyDone m k) s fun t =>
           t.rdHost (b.a 0) (b.a 1) = (s.copyOutCol j u (b.a 4 / 64) (b.a 1 / 64)).2.1
           ∧ (∀ a, a < b.a 0 ∨ b.a 0 + b.a 1 ≤ a → Memory.get t.host a = Memory.get s.host a)
           ∧ (∀ c, t.bg m k = some c → c.state = 2 ∧ c.status = stOk)
           ∧ t = { s.charged t with flows := t.flows, host := t.host }))

/-! ## Sessions (R189, R256, R259 to R262) -/

/-- SESS_OPEN draws a key and an export key, each of two halves that differ, for the function's slot, and the session
is open; a bad draw leaves the command waiting. SESS_ROTATE_KEY draws a key for the other slot (R256, R259). -/
def Obligations.SessionKeys : Prop :=
  ∀ (m : MbxId) (s : State) (r : Req),
    (s.mayRun m 0x5001 r → (s.sess m).state = 0 → Completes (.sessOpen m true) s fun t =>
      if goodKey (Config.trng s.drawn).toNat && goodKey (Config.trng (s.drawn + 1)).toNat then
        t.answered m stOk (toLE 4 (s.sessGen + 1)) ∧ (t.sess m).state = 1 ∧ t.rd MBX_SP_INFO_SSTATE m = 1
        ∧ (t.sess m).gen = s.sessGen + 1 ∧ t.keys.find (2 * m.val) = some (Config.trng s.drawn).toNat
        ∧ (∀ k, k ≠ 2 * m.val → t.keys.find k = s.keys.find k)
        ∧ t = { s with drawn := s.drawn + 2, sessGen := s.sessGen + 1, keys := t.keys, sessions := t.sessions
                       regs := t.regs, mboxes := t.mboxes, conns := t.conns, msix := t.msix, msixPend := t.msixPend }
      else t = { s with drawn := s.drawn + 2 })
    ∧ (∀ k, s.mayRun m 0x5002 r → s.bgFree m = some k → (s.sess m).rotating = false →
      Completes (.sessRotateKey m true) s fun t =>
      if goodKey (Config.trng s.drawn).toNat then
        t.answered m stOk [] ∧ t.slotIs m k 0x5002 0 1 ∧ (t.sess m).rotating = true ∧ t.slotOf m = s.oldSlotOf m
        ∧ t.keys.find (s.oldSlotOf m) = some (Config.trng s.drawn).toNat
        ∧ (∀ k, k ≠ s.oldSlotOf m → t.keys.find k = s.keys.find k)
      else t = { s with drawn := s.drawn + 1 })
    ∧ (∀ c, (c = .sessOpen m false ∧ s.mayRun m 0x5001 r ∧ (s.sess m).state = 0)
        ∨ (c = .sessRotateKey m false ∧ s.mayRun m 0x5002 r ∧ (s.bgFree m).isSome) →
      Completes c s fun t => t.answered m stBusy [] ∧ s.onlyReplies t)

/-- SESS_CLOSE erases both keys, ends the function's jobs, flows and exports and shows SSTATE 2; each tile of the
session's map is then overwritten; with all of them done the session is as at reset (R261). SESS_STATUS answers KEYGEN
and ROT. A rotation moves the column's lines one by one to the new key: the mark passes the line, which stands
re-encrypted under the slot in use; past the last line, or with none left, the pass ends (R259). -/
def Obligations.SessionsEndAndRotate : Prop :=
  (∀ (m : MbxId) (f : FnId) (u : TileId) (s : State) (r : Req),
     (s.mayRun m 0x5003 r → (s.bgFree m).isSome → Completes (.sessClose m) s fun t =>
       (t.sess m).state = 2 ∧ t.rd MBX_SP_INFO_SSTATE m = 2 ∧ t.keys = (s.keys.del (2 * m.val)).del (2 * m.val + 1)
         ∧ (∀ x ∈ t.flows, x.fn ≠ m.val) ∧ (∀ x ∈ t.exports, x.fn ≠ m.val) ∧ (∀ x ∈ t.jobs, x.fn ≠ m.val) ∧ t.host = s.host)
     ∧ (s.mayRun m 0x5004 r → Completes (.sessStatus m) s fun t => (∃ p, t.answered m stOk p ∧ p.length = 24
       ∧ fld p 0 1 = (s.sess m).keyGen % 256 ∧ fld p 1 1 = (if (s.sess m).rotating then 1 else 0)) ∧ s.onlyReplies t)
     ∧ ((s.sess f).state = 2 → (s.sess f).written.contains u.val = true → (s.sess f).scrubbed.contains u.val = false →
       Completes (.sessionOverwritePass f u) s fun t => (t.sess f).scrubbed = (s.sess f).scrubbed ++ [u.val]
         ∧ (∀ k ∈ (t.tile u).col, classify k.2 k.1 ≠ .unwritten) ∧ (∀ v, v ≠ u.val → t.tile v = s.tile v)
         ∧ t = { s with sessions := t.sessions, tiles := t.tiles })
     ∧ ((s.sess f).state = 2 → (s.sess f).written.all (s.sess f).scrubbed.contains = true →
       Completes (.sessionScrubDone f) s fun t => t.sess f = Session.reset ∧ t.rd MBX_SP_INFO_SSTATE f = 0
         ∧ (∀ k, (s.sess f).closeSlot = some k → ∀ c, t.bg f k = some c → c.state = 2
           ∧ c.result = toLE 8 (s.sess f).bytes)
         ∧ t = { s with sessions := t.sessions, mboxes := t.mboxes, msix := t.msix, msixPend := t.msixPend, regs := t.regs }))
  ∧ (∀ (u : TileId) (s : State), s.rdb VCH_KEY_ROT u = true →
       (∀ l, s.chanUp u = true → s.nextRotLine u = some l → (s.tile u).heldLines.any (fun k => k.1 == l) = false →
         Completes (.rotationLineMove u) s fun t =>
           (l + 1 ≠ colLines → t.rd VCH_ROT_MARK_MARK u = (l + 1) % 2 ^ VCH_ROT_MARK_MARK.w)
           ∧ (l + 1 = colLines → t.rd VCH_KEY_ROT u = 0)
           ∧ (∀ key, s.key (s.rd VCH_KEY_CUR u) = some key → (s.readLine u l (s.rd VCH_KEY_PREV u)).2.poison = false →
             (t.tile u).line l = goodLine key u l (s.readLine u l (s.rd VCH_KEY_PREV u)).2.data))
       ∧ (s.chanUp u = false ∨ s.nextRotLine u = none → Completes (.rotationBulkPassEnd u) s fun t =>
         t.rd VCH_KEY_ROT u = 0 ∧ t = { s with regs := t.regs, sessions := t.sessions }))

/-! ## Health (R234, R418 to R421, R426 to R430) -/

/-- HLTH_STATE answers DSTATE and the penned units; HLTH_COUNTERS an epoch's counters; HLTH_UNIT a unit's history
record. None of them changes anything but its mailbox (R418, R421, R426, R427). HLTH_TALLY fixes, as it is accepted,
an instant that is a multiple of 10 µs from 20 µs on, or that of a pending epoch, and waits; at that instant every
unit latches its live counters under the next epoch number, and eight epochs are kept; the call then answers the epoch
(R420, R421). -/
def Obligations.HealthReadsAndEpochs : Prop :=
  (∀ (m : MbxId) (s : State) (r : Req),
     (s.mayRun m 0x6001 r → Completes (.hlthState m) s fun t => (∃ p, t.answered m stOk p ∧ fld p 0 1 = s.shownDstate % 256
       ∧ fld p 2 2 = min 1018 (s.histories.filter fun h => h.2.penned).length) ∧ s.onlyReplies t)
     ∧ (∀ k, s.mayRun m 0x6002 r (denied := s.countersDenied m r) → r.f 10 2 ≠ 0 → s.countersBad r = false →
       s.epochFor (r.f 0 4) = some k → k.2.2.find (tallyKey (r.f 4 4) 2047) = none →
       Completes (.hlthCounters m) s fun t => (∃ p, t.answered m stOk p ∧ p.length = 8 + 8 * r.f 10 2 ∧ fld p 0 4 = k.1 % 2 ^ 32
         ∧ ∀ i < r.f 10 2, (r.f 4 4 / 2 ^ 24 ≠ 1 ∨ r.f 8 2 + i ≠ 0) →
           fld p (8 + 8 * i) 8 = ((k.2.2.find (tallyKey (r.f 4 4) (r.f 8 2 + i))).getD 0) % 2 ^ 64) ∧ s.onlyReplies t)
     ∧ (∀ k, s.mayRun m 0x6002 r (denied := s.countersDenied m r) → r.f 10 2 ≠ 0 → s.countersBad r = false →
       s.epochFor (r.f 0 4) = some k → (k.2.2.find (tallyKey (r.f 4 4) 2047)).isSome = true →
       Completes (.hlthCounters m) s fun t => t.answered m stBadState [] ∧ s.onlyReplies t)
     ∧ (s.mayRun m 0x6004 r → unitOk (r.f 0 4) = true → Completes (.hlthUnit m) s fun t =>
       t.answered m stOk (s.historyRecord (r.f 0 4)) ∧ s.onlyReplies t))
  ∧ (∀ (m : MbxId) (s : State) (r : Req),
       (s.nextMbx = some m.val → s.tallyAsked m (s.waiting m) = true → s.pendingT = none → Completes (.mbxAccept m) s fun t =>
         ∃ T, t.tallyAt = some T ∧ T % 10000 = 0 ∧ s.now + 20000 ≤ T ∧ T < s.now + 30000
           ∧ (t.mbox m).accepted = some { s.waiting m with latch := some T })
       ∧ (∀ T, s.nextMbx = some m.val → s.tallyAsked m (s.waiting m) = true → s.pendingT = some T →
         Completes (.mbxAccept m) s fun t =>
         t.tallyAt = some T ∧ (t.mbox m).accepted = some { s.waiting m with latch := some T })
       ∧ (∀ T, s.mayRun m 0x6003 r → r.latch = some T → s.pendingT = some T → (∀ k ∈ s.tallies, k.2.1 ≠ T) →
         exec (.hlthTally m) s = .next s)
       ∧ (∀ T k, s.mayRun m 0x6003 r → r.latch = some T → s.tallies.find? (·.2.1 == T) = some k →
         Completes (.hlthTally m) s fun t => t.answered m stOk (toLE 4 k.1 ++ zeros 4 ++ toLE 8 k.2.1) ∧ s.onlyReplies t)
       ∧ (∀ T, s.tallyAt = some T → T ≤ s.now → s.now ≤ T + 20 → Completes .tallyEpoch s fun t =>
         t.epoch = s.epoch + 1 ∧ t.tallyAt = none ∧ t.tallies = ((s.epoch + 1, T, s.collected) :: s.tallies).take 8
           ∧ (∀ u, s.tiles.find u ≠ none → s.unlatched (tileUnit u) = false → (t.tile u).shadowEpoch = s.epoch + 1
             ∧ ∀ i, 1 ≤ i → i ≤ 12 → (t.tile u).shadow.find i = some (s.counter u i))
           ∧ (∀ f g u, (f, g) ∈ counterFields → s.regsCanonical = true → s.unlatched (g u) = false →
             t.shadows.find (regKey f u) = s.regs.find (regKey f u))
           ∧ t = { s with epoch := t.epoch, tallyAt := none, tallies := t.tallies, tiles := t.tiles, shadows := t.shadows }))

/-- HLTH_DRAIN: DRAINING, the running jobs owing a checkpoint; HLTH_RESUME: back to NORMAL, or to GUARDED while a unit
is penned; HLTH_RETIRE: RETIRED, for good as to the jobs, which are parked (R427, R429). HLTH_CLEAR_UNIT takes a
unit's charges, pen and replacement request away (R430); HLTH_SELFTEST marks the tiles to be tested behind a slot, and
brings one in Tile Off on (R234); GUARDED_ENTRY pens the units of a drain and makes the stratum GUARDED (R428). -/
def Obligations.OperatorStatesAndPens : Prop :=
  (∀ (m : MbxId) (s : State) (r : Req),
     (s.mayRun m 0x6006 r → (s.dstate = 0 ∨ s.dstate = 2) → Completes (.hlthDrain m) s fun t => t.answered m stOk []
       ∧ t.dstate = 1 ∧ t.opDrain = true ∧ (∀ k < 20, t.rd MBX_SP_INFO_DSTATE k = 1)
       ∧ (∀ j ∈ t.jobs, j.state = 3 → j.ckptDue = true) ∧ t.tiles = s.tiles ∧ t.flows = s.flows ∧ t.keys = s.keys)
     ∧ (s.mayRun m 0x6006 r → s.dstate ≠ 0 → s.dstate ≠ 2 → Completes (.hlthDrain m) s fun t =>
       t.answered m stBadState [] ∧ s.onlyReplies t)
     ∧ (s.mayRun m 0x6007 r → (s.dstate = 3 ∨ (s.dstate = 1 ∧ (s.opDrain = true ∨ s.drain = none))) →
       Completes (.hlthResume m) s fun t => t.answered m stOk [] ∧ t.opDrain = false ∧ t.jobs = s.jobs ∧ t.tiles = s.tiles
         ∧ t.dstate = (if s.histories.any (·.2.penned) then 2 else 0))
     ∧ (s.mayRun m 0x6008 r → Completes (.hlthRetire m) s fun t => t.answered m stOk [] ∧ t.dstate = 3
       ∧ (∀ j ∈ t.jobs, j.state = 3 → j.parkNext = true ∧ j.ckptDue = true) ∧ t.flows = s.flows ∧ t.keys = s.keys))
  ∧ (∀ (m : MbxId) (s : State) (r : Req),
       (s.mayRun m 0x6005 r → unitOk (r.f 0 4) = true → Completes (.hlthClearUnit m) s fun t => t.answered m stOk []
         ∧ t.penned (r.f 0 4) = false ∧ (t.hist (r.f 0 4)).replace = false
         ∧ (∀ c ∈ (t.hist (r.f 0 4)).charges, c.2.2.1 = true) ∧ (r.f 0 4) ∉ t.drainUnits
         ∧ t.jobs = s.jobs ∧ t.flows = s.flows ∧ t.keys = s.keys)
       ∧ (∀ k, s.mayRun m 0x6009 r → (r.f 0 4 = 0xFFFFFFFF ∨ (unitOk (r.f 0 4) = true ∧ r.f 0 4 / 2 ^ 24 = 1)) →
         s.bgFree m = some k → s.testTiles (r.f 0 4) ≠ [] → (∀ u ∈ s.testTiles (r.f 0 4), (s.tile u).selftestFor = none) →
         Completes (.hlthSelftest m) s fun t => t.answered m stOk [] ∧ t.slotIs m k 0x6009 0 1
           ∧ (∀ u ∈ s.testTiles (r.f 0 4), (t.tile u).selftest = true ∧ (t.tile u).selftestFor = some (m.val, k))
           ∧ ((∀ u ∈ s.testTiles (r.f 0 4), (s.tile u).off = false) → (∀ u, u ∉ s.testTiles (r.f 0 4) → t.tile u = s.tile u)
             ∧ t = { s with tiles := t.tiles, regs := t.regs, mboxes := t.mboxes, conns := t.conns, msix := t.msix, msixPend := t.msixPend })
           ∧ t = { s with tiles := t.tiles, regs := t.regs, mboxes := t.mboxes, conns := t.conns, msix := t.msix, msixPend := t.msixPend
                          reguls := t.reguls, loops := t.loops })
       ∧ (∀ t0, s.drain = some t0 → (s.drainDone = true ∨ t0 + 100000000 ≤ s.now) → s.dstate ≠ 3 →
         (s.dstate ≠ 1 ∨ s.opDrain = false) →
         Completes .guardedEntry s fun t => t.dstate = 2 ∧ t.drain = none ∧ t.drainUnits = []
           ∧ (∀ u ∈ s.drainUnits, (s.hist u).viaTie = false → t.penned u = true)
           ∧ t.jobs = s.jobs ∧ t.flows = s.flows ∧ t.keys = s.keys))

/-! ## Power settings and the debugger (R333, R335, R339, R340, R393) -/

/-- PWR_CAP_SET, PWR_PRIORITY and PWR_NOTCH_LIMIT put the clamped value into the active configuration and say when
they clamped; PWR_TELEMETRY answers a record (R181, R333, R335, R339, R340). DBG_ATTACH and DBG_HALT set the tile's
debugger flag and halt; DBG_READ and DBG_WRITE read and write its scratchpad; DBG_TRACE traces the tile on the
mailbox's connection. Other tiles keep their state (R393). -/
def Obligations.PowerSettingsAndDebugger : Prop :=
  (∀ (m : MbxId) (s : State) (r : Req),
     (∀ v, s.mayRun m 0x7001 r → cfgClamp 0x0100 (r.f 0 4) = some v → Completes (.pwrCapSet m) s fun t =>
       t.conf 0x0100 = v ∧ t.rd PWR_CAP_CAP_W 0 = v % 2 ^ PWR_CAP_CAP_W.w
         ∧ t.rd MBX_STAT_STATUS m = (if v = r.f 0 4 then stOk else stClamped))
     ∧ (s.mayRun m 0x7002 r → r.f 3 1 = 0 → r.f 0 1 ≤ 2 → r.f 1 1 ≤ 2 → r.f 2 1 ≤ 2 →
       prioOk (r.f 0 1 + 4 * r.f 1 1 + 16 * r.f 2 1) = true → Completes (.pwrPriority m) s fun t =>
       t.conf 0x0102 = r.f 0 1 + 4 * r.f 1 1 + 16 * r.f 2 1 ∧ t.rd MBX_STAT_STATUS m = stOk
         ∧ t.rd PWR_PRIO_FIRST 0 = r.f 0 1 ∧ t.rd PWR_PRIO_SECOND 0 = r.f 1 1 ∧ t.rd PWR_PRIO_THIRD 0 = r.f 2 1)
     ∧ (s.mayRun m 0x7002 r → r.f 3 1 = 0 →
       (2 < r.f 0 1 ∨ 2 < r.f 1 1 ∨ 2 < r.f 2 1 ∨ prioOk (r.f 0 1 + 4 * r.f 1 1 + 16 * r.f 2 1) = false) →
       Completes (.pwrPriority m) s fun t => t.conf 0x0102 = 0x24 ∧ t.rd MBX_STAT_STATUS m = stClamped)
     ∧ (∀ k, s.mayRun m 0x7003 r → r.f 4 4 ≤ 63 → s.teleOf (r.f 0 4) (r.f 4 4) = some k →
       Completes (.pwrTelemetry m) s fun t => t.answered m stOk k.bytes ∧ s.onlyReplies t)
     ∧ (∀ v, s.mayRun m 0x7004 r → r.f 3 1 = 0 → r.f 0 2 ≤ 1023 → cfgClamp (0x1000 + r.f 0 2) (r.f 2 1) = some v →
       Completes (.pwrNotchLimit m) s fun t => t.conf (0x1000 + r.f 0 2) = v ∧ t.rd PWR_TILE_LIMIT (r.f 0 2) = v % 16
         ∧ t.rd MBX_STAT_STATUS m = (if v = r.f 2 1 then stOk else stClamped)))
  ∧ (∀ (m : MbxId) (s : State) (r : Req), r.f 0 2 ≤ 1023 → r.f 3 1 = 0 →
       (s.mayRun m 0x8001 r → r.f 2 1 ≤ 1 → Completes (.dbgAttach m) s fun t => t.answered m stOk []
         ∧ (t.tile (r.f 0 2)).dbg = decide (r.f 2 1 = 1) ∧ (∀ u, u ≠ r.f 0 2 → t.tile u = s.tile u)
         ∧ t = { s with tiles := t.tiles, regs := t.regs, mboxes := t.mboxes, conns := t.conns, msix := t.msix, msixPend := t.msixPend })
       ∧ (s.mayRun m 0x8002 r → r.f 2 1 ≤ 1 → Completes (.dbgHalt m) s fun t => t.answered m stOk []
         ∧ (t.tile (r.f 0 2)).haltDbg = decide (r.f 2 1 = 1) ∧ (∀ u, u ≠ r.f 0 2 → t.tile u = s.tile u)
         ∧ t = { s with tiles := t.tiles, regs := t.regs, mboxes := t.mboxes, conns := t.conns, msix := t.msix, msixPend := t.msixPend })
       ∧ (s.mayRun m 0x8003 r → r.f 8 4 ≠ 0 → dbgPlaceBad r = false → r.f 2 1 = 0 → Completes (.dbgRead m) s fun t =>
         t.answered m stOk ((s.tile (r.f 0 2)).rdSpad (r.f 4 4) (r.f 8 4)) ∧ s.onlyReplies t)
       ∧ (s.mayRun m 0x8004 r → r.f 8 4 ≠ 0 → dbgPlaceBad r = false → r.len = 12 + r.f 8 4 → r.f 2 1 = 0 →
         Completes (.dbgWrite m) s fun t => t.answered m stOk []
           ∧ (t.tile (r.f 0 2)).rdSpad (r.f 4 4) (r.f 8 4) = sub r.payload 12 (r.f 8 4)
           ∧ (∀ a, a < r.f 4 4 ∨ r.f 4 4 + r.f 8 4 ≤ a →
             Memory.get (t.tile (r.f 0 2)).spad a = Memory.get (s.tile (r.f 0 2)).spad a)
           ∧ (∀ u, u ≠ r.f 0 2 → t.tile u = s.tile u)
           ∧ t = { s with tiles := t.tiles, regs := t.regs, mboxes := t.mboxes, conns := t.conns, msix := t.msix, msixPend := t.msixPend })
       ∧ (s.mayRun m 0x8005 r → r.f 2 1 = 1 → (s.conn (m.val - 16)).closing = false → s.connOpen (m.val - 16) = true →
         Completes (.dbgTrace m) s fun t => (t.conn (m.val - 16)).trace = some (r.f 0 2, clampN 4 256 (r.f 4 4))
           ∧ t = { s with conns := t.conns, regs := t.regs, mboxes := t.mboxes, msix := t.msix, msixPend := t.msixPend }))

/-! ## Result rings and the event log (R187, R199 to R201, R422) -/

/-- RING_ENABLE starts an empty ring, RING_CONS_WRITE moves CONS, RING_DISABLE clears EN and revokes credits; while
the function's session is being overwritten none of them does anything (R199, R201, R262). RING_ENTRY_WRITE puts the
oldest released result into entry PROD of its ring in host memory, with the phase bit of the pass, and PROD advances;
every other byte of host memory stays. A full ring takes nothing and is stalled (R200, R201). The oldest waiting
record goes to the log of its function at EVT_PROD, or is counted as lost when 256 wait; an unsignalled ring entry of
age IRQ_HOLD raises its vector, which stays pending where its table entry is masked (log 163; R187, R199, R422). -/
def Obligations.ResultRingsAndRecords : Prop :=
  (∀ (f : FnId) (n : Fin 4) (s : State),
     ((s.sess f).state ≠ 2 → Completes (.ringEnable f n) s fun t =>
       t.rdb MBX_RING_CFG_EN (ringOf f n) = true ∧ t.rd MBX_RING_PROD_PROD (ringOf f n) = 0
         ∧ t.rd MBX_RING_CONS_CONS (ringOf f n) = 0
         ∧ (s.rdb MBX_RING_CFG_EN (ringOf f n) = true → t.credits = s.credits ∧ t.creditQ = s.creditQ)
         ∧ t = { s with regs := t.regs, credits := t.credits, creditQ := t.creditQ })
     ∧ ((s.sess f).state ≠ 2 → s.rdb MBX_RING_CFG_EN (ringOf f n) = true → Completes (.ringDisable f n) s fun t =>
       t.rdb MBX_RING_CFG_EN (ringOf f n) = false ∧ t.rdb MBX_RING_STAT_STALL (ringOf f n) = false
         ∧ (∃ l, t.credits = s.credits ++ l ∧ ∀ c ∈ l, c.kind = .revoke)
         ∧ (∃ l, t.creditQ = s.creditQ ++ l ∧ ∀ c ∈ l, c.2.kind = .revoke)
         ∧ t = { s with regs := t.regs, credits := t.credits, creditQ := t.creditQ })
     ∧ (∀ v : W32, (s.sess f).state ≠ 2 → Completes (.ringConsWrite f n v) s fun t =>
       t.rd MBX_RING_CONS_CONS (ringOf f n) = v.toNat ∧ t.rd MBX_RING_PROD_PROD (ringOf f n) = s.rd MBX_RING_PROD_PROD (ringOf f n)
         ∧ t = { s with regs := t.regs })
     ∧ (∀ c, (c = .ringEnable f n ∨ c = .ringDisable f n ∨ ∃ v, c = .ringConsWrite f n v) → (s.sess f).state = 2 →
       exec c s = .next s))
  ∧ (∀ (f : FnId) (n : Fin 4) (s : State) (i : RingItem) (q : List RingItem),
       s.ringQ.find (ringOf f n) = some (i :: q) → s.rdb MBX_RING_CFG_EN (ringOf f n) = true → s.ringOpen f = true →
       (s.ringFull (ringOf f n) = false → Completes (.ringEntryWrite f n) s fun t =>
         t.rd MBX_RING_PROD_PROD (ringOf f n) = (s.rd MBX_RING_PROD_PROD (ringOf f n) + 1) % 2 ^ 32
           ∧ t.ringQ.find (ringOf f n) = some q
           ∧ (let l := s.rd MBX_RING_CFG_LOG2N (ringOf f n)
              let p := s.rd MBX_RING_PROD_PROD (ringOf f n)
              let b := ringEntry i (s.ringES f n) (1 - p / 2 ^ l % 2)
              let a := s.rd MBX_RING_BASE_BASE (ringOf f n) * 4096 + p % 2 ^ l * s.ringES f n
              t.rdHost a b.length = b ∧ ∀ x, x < a ∨ a + b.length ≤ x → Memory.get t.host x = Memory.get s.host x)
           ∧ t = { s with host := t.host, ringQ := t.ringQ, ringIrq := t.ringIrq, regs := t.regs, credits := t.credits
                          creditQ := t.creditQ, msix := t.msix, msixPend := t.msixPend })
       ∧ (s.ringFull (ringOf f n) = true → Completes (.ringEntryWrite f n) s fun t =>
         t.rdb MBX_RING_STAT_STALL (ringOf f n) = true ∧ t = { s with regs := t.regs }))
  ∧ (∀ (s : State),
       (∀ e r, s.events = e :: r → (s.rd MBX_SP_EVT_PROD_PROD e.fn + 2 ^ 32 - s.rd MBX_EVT_CONS_CONS e.fn) % 2 ^ 32 < 256 →
         Completes .eventRecordWrite s fun t => t.events = r
           ∧ (t.mbox e.fn).evlog.find (s.rd MBX_SP_EVT_PROD_PROD e.fn % 256) = some e.bytes
           ∧ t.rd MBX_SP_EVT_PROD_PROD e.fn = (s.rd MBX_SP_EVT_PROD_PROD e.fn + 1) % 2 ^ 32
           ∧ t = { s with events := r, mboxes := t.mboxes, regs := t.regs, msix := t.msix, msixPend := t.msixPend, conns := t.conns
                          evKept := t.evKept, life := t.life })
       ∧ (∀ e r, s.events = e :: r → 256 ≤ (s.rd MBX_SP_EVT_PROD_PROD e.fn + 2 ^ 32 - s.rd MBX_EVT_CONS_CONS e.fn) % 2 ^ 32 →
         Completes .eventRecordWrite s fun t => t.events = r ∧ t.mboxes = s.mboxes
           ∧ t.rd MBX_SP_EVT_LOST_LOST e.fn = satAdd 32 (s.rd MBX_SP_EVT_LOST_LOST e.fn) 1)
       ∧ (∀ (f : FnId) (n : Fin 4) k, s.ringIrq.find (ringOf f n) = some k →
         k.2 + s.rd MBX_RING_CFG_IRQ_HOLD (ringOf f n) * 1000 ≤ s.now →
         Completes (.ringIrqHoldExpiry f n) s fun t => t.ringIrq.find (ringOf f n) = none
           ∧ (if bit ((s.msixTab.find (32 * f.val + 4 * (2 + n.val) + 3)).getD 0) 0 then
               t.msixPend.find (8 * f.val + (2 + n.val)) = some 1 ∧ t.msix = s.msix
             else t.msix.find (8 * f.val + (2 + n.val)) = some ((s.msix.find (8 * f.val + (2 + n.val))).getD 0 + 1))
           ∧ t = { s with ringIrq := t.ringIrq, msix := t.msix, msixPend := t.msixPend }))

/-! ## The tile core (R69 to R78, R81, R85 to R90, R110) -/

/-- Base instructions of 4 bytes at the pc: ADD, ADDI, MUL, a load and a store of 8 bytes in the scratchpad, BEQ. A
zeroed word at the pc is an illegal instruction of 16 bits (R69, R75, R76, R110). -/
def Obligations.BaseInstructions : Prop :=
  ∀ (u : TileId) (s s' : State) (w : Nat), s.fetched u w s' →
    (w % 128 = 0x33 → bf w 12 3 = 0 → bf w 25 7 = 0 → Completes (.baseInstruction u) s fun t =>
      s.retired t u (bf w 7 5) ((s.tile u).xr (bf w 15 5) + (s.tile u).xr (bf w 20 5))
        ∧ t = { s with tiles := t.tiles, drawn := t.drawn })
    ∧ (w % 128 = 0x33 → bf w 12 3 = 0 → bf w 25 7 = 1 → Completes (.baseInstruction u) s fun t =>
      s.retired t u (bf w 7 5) ((s.tile u).xr (bf w 15 5) * (s.tile u).xr (bf w 20 5))
        ∧ t = { s with tiles := t.tiles, drawn := t.drawn })
    ∧ (w % 128 = 0x13 → bf w 12 3 = 0 → bf w 31 1 = 0 → Completes (.baseInstruction u) s fun t =>
      s.retired t u (bf w 7 5) ((s.tile u).xr (bf w 15 5) + bf w 20 12)
        ∧ t = { s with tiles := t.tiles, drawn := t.drawn })
    ∧ (∀ a, w % 128 = 0x03 → bf w 12 3 = 3 → a = ((s.tile u).xr (bf w 15 5) + (if bf w 31 1 = 0 then 0 else 2 ^ 64 - 4096)
        + bf w 20 12) % 2 ^ 64 → a + 8 ≤ spadSize → (s.tile u).poisonedIn a 8 = false →
      Completes (.baseInstruction u) s fun t => s.retired t u (bf w 7 5) (leNat ((s.tile u).rdSpad a 8))
        ∧ t = { s with tiles := t.tiles, drawn := t.drawn })
    ∧ (∀ a, w % 128 = 0x23 → bf w 12 3 = 3 → bf w 31 1 = 0 →
      a = ((s.tile u).xr (bf w 15 5) + bf w 7 5 + bf w 25 7 * 32) % 2 ^ 64 →
      a + 8 ≤ spadSize → (s.tile u).guards ⟨a, 8⟩ = false → Completes (.baseInstruction u) s fun t =>
        s.retired t u 0 0 ∧ (t.tile u).rdSpad a 8 = toLE 8 ((s.tile u).xr (bf w 20 5))
        ∧ (∀ b, b < a ∨ a + 8 ≤ b → Memory.get (t.tile u).spad b = Memory.get (s.tile u).spad b)
        ∧ t = { s with tiles := t.tiles, drawn := t.drawn })
    ∧ (w % 128 = 0x63 → bf w 12 3 = 0 → Completes (.baseInstruction u) s fun t =>
      (t.tile u).pc = (s.tile u).pc + (if (s.tile u).xr (bf w 15 5) = (s.tile u).xr (bf w 20 5) then rvImmB w else 4#64)
        ∧ (∀ r, (t.tile u).xr r = (s.tile u).xr r) ∧ s.otherTiles t u ∧ t = { s with tiles := t.tiles, drawn := t.drawn })

/-- ECALL ends the program, FINISHED with a code of 0 and EXITED_ERROR with another; EBREAK halts for a debugger and
faults without one; WFI does nothing; FENCE.I empties the instruction cache (R70, R72, R77, R110). The counter CSRs
read cycle, time and instret; a write to one is an illegal instruction; mtvec reads zero (R71, R74). A line of the
code window fills the instruction cache; a poisoned one is a fault of the fetch (R77, R78). -/
def Obligations.SystemInstructionsAndCounters : Prop :=
  (∀ (u : TileId) (s : State), s.runs u = true →
     ((s.tile u).xr 10 % 65536 = 0 → Completes (.ecall u) s fun t => t.rd TILE_STATE_STATE u = 2 ∧ t.rd TILE_FAULT_CAUSE u = 0x0B
       ∧ t.rd TILE_FAULT_EXIT u = 0 ∧ s.otherRegisters t u)
     ∧ ((s.tile u).xr 10 % 65536 ≠ 0 → Completes (.ecall u) s fun t => t.rd TILE_STATE_STATE u = 3 ∧ t.rd TILE_FAULT_CAUSE u = 0x0B
       ∧ t.rd TILE_FAULT_EXIT u = (s.tile u).xr 10 % 65536 ∧ s.otherRegisters t u)
     ∧ ((s.tile u).dbg = true → Completes (.ebreak u) s fun t => (t.tile u).haltDbg = true ∧ (t.tile u).pc = (s.tile u).pc
       ∧ s.otherTiles t u ∧ t = { s with tiles := t.tiles })
     ∧ ((s.tile u).dbg = false → Completes (.ebreak u) s fun t => s.faulted t u 0x03 0)
     ∧ Completes (.wfi u) s (fun t => s.retired t u 0 0 ∧ t = { s with tiles := t.tiles })
     ∧ Completes (.fenceI u) s (fun t => s.retired t u 0 0 ∧ (t.tile u).icache = [] ∧ t = { s with tiles := t.tiles }))
  ∧ (∀ (u : TileId) (s : State), s.runs u = true →
       (∀ rd : XReg, Completes (.counterCsrAccess u rd 0xC00#12 false) s fun t =>
         s.retired t u rd (s.cyclesOf u) ∧ s.onlyTiles t)
       ∧ (∀ rd : XReg, Completes (.counterCsrAccess u rd 0xC01#12 false) s fun t => s.retired t u rd s.now ∧ s.onlyTiles t)
       ∧ (∀ rd : XReg, Completes (.counterCsrAccess u rd 0xC02#12 false) s fun t =>
         s.retired t u rd (s.counter u 2) ∧ s.onlyTiles t)
       ∧ (∀ (rd : XReg) (w : Bool), Completes (.counterCsrAccess u rd 0x305#12 w) s fun t => s.retired t u rd 0 ∧ s.onlyTiles t)
       ∧ (∀ (rd : XReg) (c : BitVec 12), (c = 0xC00#12 ∨ c = 0xC01#12 ∨ c = 0xC02#12) →
         Completes (.counterCsrAccess u rd c true) s fun t => ∃ bits, s.faulted t u 0x02 bits)
       ∧ (∀ line : BitVec 22, (s.tile u).icache.find (winBase / 64 + line.toNat) = none →
         (s.tile u).pc.toNat / 64 = winBase / 64 + line.toNat → s.lineHeld u line.toNat = false →
         (s.readLine u line.toNat (s.slotFor u line.toNat)).2.poison = false → Completes (.codeWindowFetch u line) s fun t =>
           (t.tile u).icache.find (winBase / 64 + line.toNat)
             = some (s.readLine u line.toNat (s.slotFor u line.toNat)).2.data)
       ∧ (∀ line : BitVec 22, (s.tile u).icache.find (winBase / 64 + line.toNat) = none →
         (s.tile u).pc.toNat / 64 = winBase / 64 + line.toNat → s.lineHeld u line.toNat = false →
         (s.readLine u line.toNat (s.slotFor u line.toNat)).2.poison = true → Completes (.codeWindowFetch u line) s fun t =>
           t.rd TILE_STATE_STATE u = 4 ∧ t.rd TILE_FAULT_CAUSE u = 0x19))

/-- KX.PET reloads the watchdog from its limit (R90). -/
def Obligations.PetReloadsTheWatchdog : Prop :=
  ∀ (u : TileId) (s : State), s.runs u = true → Completes (.kxPet u) s fun t =>
    t.wdogRemain u = s.rd TILE_WDOG_LIMIT u * 1000 ∧ s.retired t u 0 0 ∧ s.onlyTiles t

/-- KX.STIME gives stack time, KX.CNTR a live counter, KX.TALLY a latched one, KX.NBCTOL sets the tolerance and gives
the old one; KX.HINT with no duration gives ST_EMPTY, else it counts and says whether it was cut (R85 to R89). -/
def Obligations.XkraxaSimpleInstructions : Prop :=
  ∀ (u : TileId) (rd a b : XReg) (s : State), s.runs u = true →
    Completes (.kxStime u rd) s (fun t => s.retired t u rd s.now ∧ s.onlyTiles t)
    ∧ Completes (.kxCntr u rd a) s (fun t => s.retired t u rd (s.counter u ((s.tile u).xr a % 64)) ∧ s.onlyTiles t)
    ∧ Completes (.kxTally u rd a) s (fun t => s.retired t u rd ((s.tile u).tally ((s.tile u).xr a % 64)) ∧ s.onlyTiles t)
    ∧ Completes (.kxNbctol u rd a) s (fun t => s.retired t u rd (s.rd NBC_TOL_EXTRA u)
        ∧ t.rd NBC_TOL_EXTRA u = (s.tile u).xr a % 256 ∧ s.onlyTileRegs t)
    ∧ (bf ((s.tile u).xr b) 0 24 = 0 → Completes (.kxHint u rd a b) s fun t =>
        s.retired t u rd (statusWord kxEmpty 0) ∧ s.onlyTiles t)
    ∧ (bf ((s.tile u).xr b) 0 24 ≠ 0 → Completes (.kxHint u rd a b) s fun t =>
        s.retired t u rd (statusWord (if bf ((s.tile u).xr a) 0 20 ≤ 1000000 ∧ bf ((s.tile u).xr b) 0 24 ≤ 10000000
          then kxOk else kxClamped) 0)
        ∧ (t.tile u).counters.find 11 = some ((((s.tile u).counters.find 11).getD 0 + 1) % 2 ^ 64) ∧ s.onlyTiles t)

/-! ## The Tensor Array and the vector unit (R83, R84, R113 to R147) -/

/-- KX.TAISSUE and KX.VISSUE of a descriptor that is not refused put an operation with the next number into the queue
and give that number; a refused one is a fault with cause 0x18; a stalled one goes on when there is room (R83, R84).
KX.TAWAIT and KX.VWAIT give ST_OK for an operation that has completed, ST_BADARG for a number not issued, and else
wait until it completes (R84). The oldest queued operation starts on a free unit, for the Tensor Array once the pause
is over and fewer than fifteen checks are open; a written one completes no earlier than its time, its unit free, its
checks open, the watchdog reloaded (R67, R83, R84, R108, R147). -/
def Obligations.OperationsIssueRunAndComplete : Prop :=
  (∀ (u : TileId) (rd a : XReg) (s : State),
     (s.runs u = true → (s.tile u).taQ.length < 8 → (s.tile u).xr a % 64 = 0 → (s.tile u).xr a + 64 ≤ spadSize →
       taRefused (s.tile u) ((s.tile u).rdSpad ((s.tile u).xr a) 64) = false →
       taEmpty ((s.tile u).rdSpad ((s.tile u).xr a) 64) = false → Completes (.kxTaissue u rd a) s fun t =>
         s.retired t u rd ((s.tile u).taCount % 2 ^ 32) ∧ (t.tile u).taCount = (s.tile u).taCount + 1
         ∧ (t.tile u).taQ = (s.tile u).taQ ++ [newOp false (s.tile u).taCount (s.milliCycles u)
             (s.tile u).pc.toNat (s.rd NBC_TOL_EXTRA u) ((s.tile u).rdSpad ((s.tile u).xr a) 64)] ∧ s.onlyTiles t)
     ∧ (s.runs u = true → (s.tile u).vecQ.length < 8 → (s.tile u).xr a % 64 = 0 → (s.tile u).xr a + 64 ≤ spadSize →
       Vec.refused ((s.tile u).rdSpad ((s.tile u).xr a) 64) = false →
       vecEmpty ((s.tile u).rdSpad ((s.tile u).xr a) 64) = false → Completes (.kxVissue u rd a) s fun t =>
         s.retired t u rd ((s.tile u).vecCount % 2 ^ 32)
         ∧ (t.tile u).vecQ = (s.tile u).vecQ ++ [newOp true (s.tile u).vecCount (s.milliCycles u)
             (s.tile u).pc.toNat 0 ((s.tile u).rdSpad ((s.tile u).xr a) 64)] ∧ s.onlyTiles t)
     ∧ (s.runs u = true → (s.tile u).taQ.length < 8 → (s.tile u).xr a % 64 ≠ 0 → Completes (.kxTaissue u rd a) s fun t =>
         s.faulted t u 0x18 ((s.tile u).taCount % 2 ^ 32))
     ∧ (s.runs u = true → 8 ≤ (s.tile u).taQ.length → Completes (.kxTaissue u rd a) s fun t =>
         (t.tile u).wait = some (.taIssue rd ((s.tile u).xr a)) ∧ (t.tile u).pc = (s.tile u).pc ∧ s.onlyTiles t)
     ∧ (∀ p, s.waits u = true → (s.tile u).wait = some (.taIssue rd p) → (s.tile u).taQ.length < 8 → p % 64 = 0 →
       p + 64 ≤ spadSize → taRefused (s.tile u) ((s.tile u).rdSpad p 64) = false → taEmpty ((s.tile u).rdSpad p 64) = false →
       Completes (.taissueStallEnd u) s fun t => s.retired t u rd ((s.tile u).taCount % 2 ^ 32) ∧ (t.tile u).wait = none
         ∧ (t.tile u).taQ.length = (s.tile u).taQ.length + 1 ∧ s.onlyTiles t))
  ∧ (∀ (u : TileId) (rd a : XReg) (s : State),
       (s.runs u = true → issued (s.tile u).taCount ((s.tile u).xr a % 2 ^ 32) = true →
         completed (s.tile u).taCount (s.tile u).taDone ((s.tile u).xr a % 2 ^ 32) = true → Completes (.kxTawait u rd a) s fun t =>
           s.retired t u rd (statusWord kxOk 0) ∧ s.onlyTiles t)
       ∧ (s.runs u = true → issued (s.tile u).taCount ((s.tile u).xr a % 2 ^ 32) = false → Completes (.kxTawait u rd a) s fun t =>
           s.retired t u rd (statusWord kxBadArg 0) ∧ s.onlyTiles t)
       ∧ (s.runs u = true → issued (s.tile u).taCount ((s.tile u).xr a % 2 ^ 32) = true →
         completed (s.tile u).taCount (s.tile u).taDone ((s.tile u).xr a % 2 ^ 32) = false → Completes (.kxTawait u rd a) s fun t =>
           (t.tile u).wait = some (.taOp rd ((s.tile u).xr a % 2 ^ 32)) ∧ t.runs u = false ∧ s.onlyTiles t)
       ∧ (s.runs u = true → issued (s.tile u).vecCount ((s.tile u).xr a % 2 ^ 32) = true →
         completed (s.tile u).vecCount (s.tile u).vecDone ((s.tile u).xr a % 2 ^ 32) = true → Completes (.kxVwait u rd a) s fun t =>
           s.retired t u rd (statusWord kxOk 0) ∧ s.onlyTiles t)
       ∧ (∀ v, s.waits u = true → (s.tile u).wait = some (.taOp rd v) → completed (s.tile u).taCount (s.tile u).taDone v = true →
         Completes (.opWaitReturn u) s fun t => s.retired t u rd (statusWord kxOk 0) ∧ (t.tile u).wait = none ∧ s.onlyTiles t))
  ∧ (∀ (u : TileId) (s : State) (op : UnitOp) (q : List UnitOp), (s.tile u).unitsGo = true →
       (∀ c, (c = .taOpStart u ∨ c = .nbcOpenWaitEnd u) → (s.tile u).taQ = op :: q → (s.tile u).taRun = none →
         taEmpty op.desc = false → (s.tile u).taOpen.length < 15 → s.pauseOver u = true → taRefused (s.tile u) op.desc = false →
         Completes c s fun t => (∃ p, (t.tile u).taRun = some p ∧ p.num = op.num ∧ p.desc = op.desc ∧ p.tol = op.tol
             ∧ p.start = s.milliCycles u ∧ s.milliCycles u ≤ p.ready) ∧ (t.tile u).taQ = q ∧ s.otherTiles t u
               ∧ t = { s with tiles := t.tiles, regs := t.regs })
       ∧ ((s.tile u).taRun = some op → op.written = true → op.ready ≤ s.milliCycles u → Completes (.taOpComplete u) s fun t =>
         (t.tile u).taRun = none ∧ (t.tile u).taOpen = (s.tile u).taOpen ++ [{ op with done := some s.now }]
           ∧ t.wdogRemain u = s.rd TILE_WDOG_LIMIT u * 1000 ∧ s.otherTiles t u ∧ t = { s with tiles := t.tiles, regs := t.regs })
       ∧ ((s.tile u).vecQ = op :: q → (s.tile u).vecRun = none → vecEmpty op.desc = false → Completes (.vectorOpStart u) s fun t =>
         (∃ p, (t.tile u).vecRun = some p ∧ p.num = op.num ∧ p.desc = op.desc ∧ p.start = s.milliCycles u) ∧ (t.tile u).vecQ = q
           ∧ s.otherTiles t u ∧ t = { s with tiles := t.tiles })
       ∧ ((s.tile u).vecRun = some op → op.written = true → op.ready ≤ s.milliCycles u → Completes (.vectorOpComplete u) s fun t =>
         (t.tile u).vecRun = none ∧ t.wdogRemain u = s.rd TILE_WDOG_LIMIT u * 1000
           ∧ (t.tile u).counters.find 5 = some ((((s.tile u).counters.find 5).getD 0 + 1) % 2 ^ 64)
           ∧ s.otherTiles t u ∧ t = { s with tiles := t.tiles, regs := t.regs }))

/-- A vector operation of one row of FP32 elements writes for each element the value of its formula, in FP32 (R143).
CVT writes the converted elements of its row; SUM and MAXR one value for the row, SOFTMAX and RMSNORM one for each
element, in FP32 (R143 to R145). -/
def Obligations.VectorOperations : Prop :=
  (∀ (u : TileId) (s : State) (op : UnitOp), s.vecReady u op = true → (Vec.of op.desc).yf = 0 →
     ∀ k ∈ ([(0x01, .add u none, fun a b _ => fadd a b), (0x02, .sub u none, fun a b _ => fsub a b),
         (0x03, .mul u none, fun a b _ => fmul a b), (0x04, .fma u none, fun a b y => ffma a b y),
         (0x05, .min u none, fun a b _ => fmin a b), (0x06, .max u none, fun a b _ => fmax a b),
         (0x07, .relu u none, fun a _ _ => fmax a Val.zero),
         (0x08, .silu u none, fun a _ _ => fmul a (frecip (fadd (.fin false 1) (fexp a.neg)))),
         (0x09, .exp u none, fun a _ _ => fexp a), (0x0A, .recip u none, fun a _ _ => frecip a),
         (0x0B, .sqrt u none, fun a _ _ => fsqrt a), (0x0C, .rsqrt u none, fun a _ _ => frsqrt a)]
         : List (Nat × Instr × (Val → Val → Val → Val))), fld op.desc 0 1 = k.1 →
     Completes k.2.1 s fun t =>
       (let v := Vec.of op.desc
        let row := fun (a : Nat) => plainRow 0 v.len ((s.tile u).rdSpad a (4 * v.len))
        let b := if v.bscalar then List.replicate v.len (fp32Val v.imm) else row v.b
        (t.tile u).rdSpad v.y (4 * v.len) = (row v.a).zipIdx.flatMap (fun (x, i) =>
           toLE 4 (fp32Bits (k.2.2 x (b.getD i Val.zero) ((row v.y).getD i Val.zero))))
         ∧ ∀ z, z < v.y ∨ v.y + 4 * v.len ≤ z → Memory.get (t.tile u).spad z = Memory.get (s.tile u).spad z)
       ∧ (∃ p, (t.tile u).vecRun = some p ∧ p.written = true ∧ p.num = op.num) ∧ s.otherTiles t u
       ∧ t = { s with tiles := t.tiles, regs := t.regs })
  ∧ (∀ (u : TileId) (s : State) (op : UnitOp), s.vecReady u op = true →
       (fld op.desc 0 1 = 0x0D → recordBytes (Vec.of op.desc).yf (Vec.of op.desc).len = 0 → Completes (.cvt u none) s fun t =>
         (let v := Vec.of op.desc
          let r := cvtRun v.yf (s.rdb TA_ARITH_SATF u) (stochMode v.rnd (s.rd TA_ARITH_RMODE u))
            (plainRow 0 v.len ((s.tile u).rdSpad v.a (4 * v.len))) (s.rd TA_SRNG_VEC_STATE u)
          (t.tile u).rdSpad v.y (r.bytes v.yf).length = r.bytes v.yf)
         ∧ (∃ p, (t.tile u).vecRun = some p ∧ p.written = true) ∧ s.otherTiles t u ∧ t = { s with tiles := t.tiles, regs := t.regs })
       ∧ (∀ c, ((fld op.desc 0 1 = 0x0E ∧ c = .sum u none) ∨ (fld op.desc 0 1 = 0x0F ∧ c = .maxr u none)
           ∨ (fld op.desc 0 1 = 0x10 ∧ c = .softmax u none) ∨ (fld op.desc 0 1 = 0x11 ∧ c = .rmsnorm u none)) →
         (Vec.of op.desc).yf = 0 → Completes c s fun t =>
         (let v := Vec.of op.desc
          let row := fun (a : Nat) => plainRow 0 v.len ((s.tile u).rdSpad a (4 * v.len))
          let b := if !v.usesB then [] else if v.bscalar then List.replicate v.len (fp32Val v.imm) else row v.b
          let r := (vecRow v 0 none (row v.a) b []).1.flatMap fun k => toLE 4 (fp32Bits k)
          (t.tile u).rdSpad v.y r.length = r
           ∧ ∀ z, z < v.y ∨ v.y + r.length ≤ z → Memory.get (t.tile u).spad z = Memory.get (s.tile u).spad z)
         ∧ (∃ p, (t.tile u).vecRun = some p ∧ p.written = true) ∧ s.otherTiles t u ∧ t = { s with tiles := t.tiles, regs := t.regs }))

/-- MATMUL on the floating path, one column, FP32 results and ACCIN = 0, writes y_i, the sum of the products of row i
of W with the column, accumulated from +0 chunk by chunk. An ATTN leaves its operation written. A unit whose operation
is another does nothing (R39, R116, R118, R136). -/
def Obligations.TensorOperations : Prop :=
  ∀ (u : TileId) (s : State) (op : UnitOp), (s.tile u).taRun = some op → op.written = false → (s.tile u).unitsGo = true →
    ((taOutputs op.desc).any fun r => (s.tile u).guards r (some (false, op.num))) = false →
    (∀ g k, fld op.desc 0 1 = 1 → pairOf (Matmul.of op.desc).wf (Matmul.of op.desc).xf = some (g, false, k) →
      (Matmul.of op.desc).n = 1 → (Matmul.of op.desc).yf = 0 → (Matmul.of op.desc).accin = false →
      (Matmul.of op.desc).flagen = false → Completes (.matmul u none) s fun t =>
      (let a := Matmul.of op.desc
       let w := (operandRows (s.tile u) a.wf a.k a.m a.w a.ws a.wsc).1
       let x := (operandRows (s.tile u) a.xf a.k a.n a.x a.xs a.xsc).1.headD []
       let y := w.flatMap fun r => toLE 4 (fp32Bits (accFloat g Val.zero (r.zip x)))
       (t.tile u).rdSpad a.y y.length = y
        ∧ ∀ z, z < a.y ∨ a.y + y.length ≤ z → Memory.get (t.tile u).spad z = Memory.get (s.tile u).spad z)
      ∧ (∃ p, (t.tile u).taRun = some p ∧ p.written = true ∧ p.num = op.num) ∧ s.otherTiles t u
      ∧ t = { s with tiles := t.tiles, regs := t.regs })
    ∧ (fld op.desc 0 1 = 2 → s.attnHeld u (Attn.of op.desc) = false →
      Completes (.attn u none) s fun t => (∃ p, (t.tile u).taRun = some p ∧ p.written = true
      ∧ p.num = op.num ∧ p.desc = op.desc) ∧ t.keys = s.keys ∧ t.host = s.host ∧ t.flows = s.flows)
    ∧ (fld op.desc 0 1 ≠ 1 → exec (.matmul u none) s = .next s) ∧ (fld op.desc 0 1 ≠ 2 → exec (.attn u none) s = .next s)

/-! ## Messages, credits and transfers (R92 to R106, R443) -/

/-- KX.MSEND on an open channel with a credit and a free buffer puts the message into the send buffer and spends the
credit; without length, without an open channel, or without a credit under NB it says so; a waiting one goes on (R96).
KX.MRECV gives the slot of the oldest message and reloads the watchdog, KX.MFREE frees it and advances HEAD; a closed
or empty channel is reported (R97). -/
def Obligations.MessagesSentAndReceived : Prop :=
  (∀ (u : TileId) (rd a b : XReg) (s : State) (addr len ch : Nat),
     (s.runs u = true → addr = (s.tile u).xr a → len = bf ((s.tile u).xr b) 0 13 → ch = bf ((s.tile u).xr b) 16 4 →
       (len = 0 → Completes (.kxMsend u rd a b) s fun t => s.retired t u rd (statusWord kxEmpty 0) ∧ s.onlyTiles t)
       ∧ (len ≠ 0 → s.rdb TILE_TXC_CFG_EN (chanOf u ch) = false → Completes (.kxMsend u rd a b) s fun t =>
           s.retired t u rd (statusWord kxNotOpen 0) ∧ s.onlyTiles t)
       ∧ (len ≠ 0 → s.rdb TILE_TXC_CFG_EN (chanOf u ch) = true → len ≤ s.rd TILE_TXC_CREDIT_MAXLEN (chanOf u ch) →
           addr + len ≤ spadSize → s.foldOff (endpointFold (s.twinView u (s.rd TILE_TXC_CFG_DEST (chanOf u ch)))) = false →
           s.rd TILE_TXC_CREDIT_CREDITS (chanOf u ch) = 0 → bit ((s.tile u).xr b) 24 = true →
           Completes (.kxMsend u rd a b) s fun t => s.retired t u rd (statusWord kxNoCredit 0) ∧ s.onlyTiles t))
     ∧ (∀ c, ((c = .kxMsend u rd a b ∧ s.runs u = true ∧ addr = (s.tile u).xr a ∧ len = bf ((s.tile u).xr b) 0 13
           ∧ ch = bf ((s.tile u).xr b) 16 4)
         ∨ (c = .msendWaitEnd u ∧ s.waits u = true ∧ ∃ nb, (s.tile u).wait = some (.send rd addr len ch nb))) →
       len ≠ 0 → s.rdb TILE_TXC_CFG_EN (chanOf u ch) = true → len ≤ s.rd TILE_TXC_CREDIT_MAXLEN (chanOf u ch) →
       addr + len ≤ spadSize → s.foldOff (endpointFold (s.twinView u (s.rd TILE_TXC_CFG_DEST (chanOf u ch)))) = false →
       s.rd TILE_TXC_CREDIT_CREDITS (chanOf u ch) ≠ 0 → (s.tile u).poisonedIn addr len = false → (s.tile u).sendBuf = none →
       Completes c s fun t => s.retired t u rd (statusWord kxOk 0)
         ∧ (∃ m, (t.tile u).sendBuf = some m ∧ m.src = u.val ∧ m.sch = ch ∧ m.payload = (s.tile u).rdSpad addr len
           ∧ m.dst = s.twinView u (s.rd TILE_TXC_CFG_DEST (chanOf u ch)) ∧ m.job = s.rd TILE_JOB_JOB u)
         ∧ t.rd TILE_TXC_CREDIT_CREDITS (chanOf u ch) = (s.rd TILE_TXC_CREDIT_CREDITS (chanOf u ch) - 1) % 128
         ∧ s.onlyTileRegs t)
     ∧ (s.waits u = true → (s.tile u).wait = some (.send rd addr len ch true) → len ≠ 0 →
       s.rdb TILE_TXC_CFG_EN (chanOf u ch) = true → len ≤ s.rd TILE_TXC_CREDIT_MAXLEN (chanOf u ch) → addr + len ≤ spadSize →
       s.foldOff (endpointFold (s.twinView u (s.rd TILE_TXC_CFG_DEST (chanOf u ch)))) = false →
       s.rd TILE_TXC_CREDIT_CREDITS (chanOf u ch) = 0 → Completes (.msendWaitEnd u) s fun t =>
         s.retired t u rd (statusWord kxNoCredit 0) ∧ (t.tile u).wait = none ∧ s.onlyTiles t))
  ∧ (∀ (u : TileId) (rd a : XReg) (s : State) (k : Nat), s.runs u = true → k = chanOf u ((s.tile u).xr a % 16) →
       (s.rdb TILE_RXC_RING_EN k = true → s.rd TILE_RXC_STAT_FULL k ≠ 0 → Completes (.kxMrecv u rd a) s fun t =>
         s.retired t u rd (statusWord kxOk (s.rd TILE_RXC_BASE_BASE k * 64
           + s.rd TILE_RXC_STAT_HEAD k * (128 * 2 ^ s.rd TILE_RXC_RING_SLOTSZ k)))
         ∧ t.wdogRemain u = s.rd TILE_WDOG_LIMIT u * 1000 ∧ s.onlyTiles t)
       ∧ (s.rdb TILE_RXC_RING_EN k = true → s.rd TILE_RXC_STAT_FULL k ≠ 0 → Completes (.kxMfree u rd a) s fun t =>
         s.retired t u rd (statusWord kxOk 0) ∧ t.rd TILE_RXC_STAT_FULL k = (s.rd TILE_RXC_STAT_FULL k - 1) % 128
           ∧ t.rd TILE_RXC_STAT_HEAD k = (s.rd TILE_RXC_STAT_HEAD k + 1) % s.rd TILE_RXC_RING_SLOTS k % 64
           ∧ (t.tile u).spad = (s.tile u).spad
           ∧ t = { s with tiles := t.tiles, regs := t.regs, conns := t.conns, credits := t.credits, creditQ := t.creditQ, drvGrants := t.drvGrants
                          ports := t.ports })
       ∧ (∀ c, (c = .kxMrecv u rd a ∨ c = .kxMfree u rd a) →
         (s.rdb TILE_RXC_RING_EN k = false → Completes c s fun t => s.retired t u rd (statusWord kxNotOpen 0) ∧ s.onlyTiles t)
         ∧ (s.rdb TILE_RXC_RING_EN k = true → s.rd TILE_RXC_STAT_FULL k = 0 → Completes c s fun t =>
             s.retired t u rd (statusWord kxEmpty 0) ∧ s.onlyTiles t)))

/-- KX.MWAIT returns at once when a selected condition holds or there is nothing to wait for, and else waits; it wakes
with the conditions, or with ST_TIMEOUT at its limit (R98). A message leaves the send buffer for the mesh; at an open
channel that accepts it, with room and no guard, it is written into the next slot and counted; at one that does not it
is discarded and counted (R95, R99, R102). -/
def Obligations.MessagesWaitAndTravel : Prop :=
  (∀ (u : TileId) (rd a b : XReg) (s : State),
     (s.runs u = true → (s.tile u).xr a % 2 ^ 32 ≠ 0 → s.ready u ((s.tile u).xr a % 2 ^ 32) ≠ 0 →
       Completes (.kxMwait u rd a b) s fun t =>
         s.retired t u rd (statusWord kxOk (s.ready u ((s.tile u).xr a % 2 ^ 32))) ∧ s.onlyTiles t)
     ∧ (s.runs u = true → (s.tile u).xr a % 2 ^ 32 ≠ 0 → s.ready u ((s.tile u).xr a % 2 ^ 32) = 0 → (s.tile u).xr b ≠ 0 →
       (s.tile u).xr b < 2 ^ 64 - 1 → Completes (.kxMwait u rd a b) s fun t =>
         (t.tile u).wait = some (.mwait rd ((s.tile u).xr a % 2 ^ 32) (some (s.now + (s.tile u).xr b)))
         ∧ (t.tile u).wdogFrom = none ∧ (t.tile u).pc = (s.tile u).pc ∧ s.onlyTiles t)
     ∧ (∀ mask d, s.waits u = true → (s.tile u).wait = some (.mwait rd mask d) → s.ready u mask ≠ 0 →
       Completes (.mwaitWake u) s fun t => s.retired t u rd (statusWord kxOk (s.ready u mask)) ∧ (t.tile u).wait = none
         ∧ s.onlyTiles t)
     ∧ (∀ mask d, s.waits u = true → (s.tile u).wait = some (.mwait rd mask (some d)) → s.ready u mask = 0 → d ≤ s.now →
       Completes (.mwaitTimeout u) s fun t => s.retired t u rd (statusWord kxTimeout 0) ∧ (t.tile u).wait = none
         ∧ s.onlyTiles t))
  ∧ (∀ (u : TileId) (ch : ChId) (s : State) (m : Msg),
       ((s.tile u).sendBuf = some m → s.meshStop = false → (s.tile u).off = false → (s.tile u).haltCkpt = false →
         (m.dst < 0x400 ∨ s.isTwin u = false) → Completes (.msgInject u) s fun t => (t.tile u).sendBuf = none
           ∧ t.mesh = s.mesh ++ [m] ∧ s.otherTiles t u ∧ t = { s with tiles := t.tiles, mesh := t.mesh })
       ∧ (∀ r, s.restartingAt u = false → (s.tile u).ckptDone = false →
         takeMsg (fun m => m.dst == u.val && m.dch == ch.val) s.mesh = some (m, r) → s.accepts u m = true →
         s.rd TILE_RXC_STAT_FULL (chanOf u m.dch) < s.rd TILE_RXC_RING_SLOTS (chanOf u m.dch) →
         (s.tile u).heldDelivery m.dch = false → (s.tile u).guards ⟨s.nextSlot u m.dch, (s.slotBytes u m).length⟩ = false →
         Completes (.msgDeliver u ch) s fun t => t.mesh = r
           ∧ (t.tile u).rdSpad (s.nextSlot u m.dch) (s.slotBytes u m).length = s.slotBytes u m
           ∧ (∀ a, a < s.nextSlot u m.dch ∨ s.nextSlot u m.dch + (s.slotBytes u m).length ≤ a →
             Memory.get (t.tile u).spad a = Memory.get (s.tile u).spad a)
           ∧ t.rd TILE_RXC_STAT_FULL (chanOf u m.dch) = (s.rd TILE_RXC_STAT_FULL (chanOf u m.dch) + 1) % 128
           ∧ s.otherTiles t u ∧ t = { s with tiles := t.tiles, mesh := r, regs := t.regs, jobs := t.jobs })
       ∧ (∀ r, s.restartingAt u = false → (s.tile u).ckptDone = false →
         takeMsg (fun m => m.dst == u.val && m.dch == ch.val) s.mesh = some (m, r) → s.accepts u m = false →
         Completes (.msgDeliver u ch) s fun t => t.mesh = r ∧ (t.tile u).spad = (s.tile u).spad
           ∧ (t.tile u).counters.find 8 = some ((((s.tile u).counters.find 8).getD 0 + 1) % 2 ^ 64) ∧ s.otherTiles t u))

/-- A grant opens a send channel with its credits and generation, a return adds a credit of the same generation up to
127, a revoke takes all away (R93, R94, R443). EN = 1 opens a receive channel whose ring fits the scratchpad, empty
and under a new generation, and sets CFG_ERR on one that does not fit; EN = 0 closes it and leaves its slots; EN = 1
opens a send channel (R92 to R94, R201). -/
def Obligations.ChannelsAndCredits : Prop :=
  (∀ (u : TileId) (ch : ChId) (s : State) (c : Credit) (r : List Credit),
     (takeCredit (fun c => c.dst == u.val && c.ch == ch.val && ordered c) s.credits = some (c, r) → c.kind = .grant →
       (1024 ≤ c.src ∨ c.srcJob = s.rd TILE_JOB_JOB u) → Completes (.creditGrant u ch) s fun t => t.credits = r
         ∧ t.rd TILE_TXC_CREDIT_CREDITS (chanOf u ch) = c.n % 128 ∧ t.rd TILE_TXC_CREDIT_MAXLEN (chanOf u ch) = c.maxlen % 8192
         ∧ (t.tile u).txGenOf ch = c.gen ∧ s.otherTiles t u ∧ t = { s with credits := r, tiles := t.tiles, regs := t.regs })
     ∧ (takeCredit (fun c => c.dst == u.val && c.ch == ch.val && !ordered c) s.credits = some (c, r) →
       Completes (.creditReturn u ch) s fun t => t.credits = r
         ∧ ((s.tile u).txGenOf ch = c.gen → t.rd TILE_TXC_CREDIT_CREDITS (chanOf u ch)
             = min 127 (s.rd TILE_TXC_CREDIT_CREDITS (chanOf u ch) + c.n))
         ∧ (c.kind = .discard → t.rdb TILE_TXC_STAT_DENIED (chanOf u ch) = true)
         ∧ t = { s with credits := r, regs := t.regs })
     ∧ (takeCredit (fun c => c.dst == u.val && c.ch == ch.val && ordered c) s.credits = some (c, r) → c.kind = .revoke →
       Completes (.creditRevoke u ch) s fun t => t.rd TILE_TXC_CREDIT_CREDITS (chanOf u ch) = 0
         ∧ t = { s with credits := r, regs := t.regs }))
  ∧ (∀ (u : TileId) (ch : ChId) (s : State),
       (s.rdb TILE_RXC_RING_EN (chanOf u ch) = false → s.rd TILE_RXC_BASE_BASE (chanOf u ch) * 64
           + s.rd TILE_RXC_RING_SLOTS (chanOf u ch) * s.slotSize u ch ≤ spadSize → Completes (.rxcOpen u ch) s fun t =>
         t.rdb TILE_RXC_RING_EN (chanOf u ch) = true ∧ t.rd TILE_RXC_STAT_FULL (chanOf u ch) = 0
           ∧ t.rd TILE_RXC_STAT_HEAD (chanOf u ch) = 0 ∧ t.rdb TILE_RXC_STAT_CFG_ERR (chanOf u ch) = false
           ∧ (t.tile u).rxGenOf ch = ((s.tile u).rxGenOf ch + 1) % 65536 ∧ (t.tile u).spad = (s.tile u).spad ∧ s.otherTiles t u)
       ∧ (s.rdb TILE_RXC_RING_EN (chanOf u ch) = false → spadSize < s.rd TILE_RXC_BASE_BASE (chanOf u ch) * 64
           + s.rd TILE_RXC_RING_SLOTS (chanOf u ch) * s.slotSize u ch → Completes (.rxcOpen u ch) s fun t =>
         t.rdb TILE_RXC_STAT_CFG_ERR (chanOf u ch) = true ∧ t.rdb TILE_RXC_RING_EN (chanOf u ch) = false
           ∧ t = { s with regs := t.regs })
       ∧ (s.rdb TILE_RXC_RING_EN (chanOf u ch) = true → Completes (.rxcClose u ch) s fun t =>
         t.rdb TILE_RXC_RING_EN (chanOf u ch) = false ∧ t.tiles = s.tiles
           ∧ t.rd TILE_RXC_STAT_FULL (chanOf u ch) = s.rd TILE_RXC_STAT_FULL (chanOf u ch)
           ∧ t = { s with regs := t.regs, credits := t.credits, creditQ := t.creditQ, drvGrants := t.drvGrants, ports := t.ports })
       ∧ (s.rdb TILE_TXC_CFG_EN (chanOf u ch) = false → Completes (.txcEnable u ch) s fun t =>
         t.rdb TILE_TXC_CFG_EN (chanOf u ch) = true
           ∧ t.rd TILE_TXC_CFG_DEST (chanOf u ch) = s.rd TILE_TXC_CFG_DEST (chanOf u ch)
           ∧ t = { s with regs := t.regs, credits := t.credits, creditQ := t.creditQ, tiles := t.tiles, ports := t.ports }))

/-- KX.PUT and KX.GET of a descriptor that R105 accepts start a transfer and give its tag, an empty one gives
ST_EMPTY; KX.XWAIT gives the status of a completed one and forgets it, ST_BADARG for an unknown tag, and else waits
(R104 to R106). A transfer between scratchpads of one job, unguarded and without poison, leaves at its destination the
bytes of its source, counts them and reloads the watchdog; a remote tile of another job moves nothing and ends with
ST_DENIED (R106). -/
def Obligations.Transfers : Prop :=
  (∀ (u : TileId) (rd a : XReg) (s : State) (p : Nat) (d : Bytes), d = (s.tile u).rdSpad p 32 →
     (∀ c put, ((c = .kxPut u rd a ∧ put = true ∧ s.runs u = true ∧ p = (s.tile u).xr a)
         ∨ (c = .kxGet u rd a ∧ put = false ∧ s.runs u = true ∧ p = (s.tile u).xr a)
         ∨ (c = .transferStallEnd u ∧ s.waits u = true ∧ (s.tile u).wait = some (.xferStart rd put p))) →
       p % 32 = 0 → p + 32 ≤ spadSize → fld d 20 4 ≠ 0 → xferBad d = false →
       s.foldOff (foldOf (s.twinView u (fld d 16 2))) = false → (s.tile u).outstanding < 16 →
       Completes c s fun t => (∃ x, (t.tile u).xfers = (s.tile u).xfers ++ [x] ∧ x.put = put ∧ x.loc = fld d 0 8
         ∧ x.rem = fld d 8 8
           ∧ x.len = fld d 20 4 ∧ x.status = none ∧ s.retired t u rd (statusWord kxOk x.tag)) ∧ s.onlyTiles t)
     ∧ (∀ c, (c = .kxPut u rd a ∨ c = .kxGet u rd a) → s.runs u = true → p = (s.tile u).xr a → p % 32 = 0 → p + 32 ≤ spadSize →
       fld d 20 4 = 0 → Completes c s fun t => s.retired t u rd (statusWord kxEmpty 0) ∧ s.onlyTiles t)
     ∧ (∀ x st c, ((c = .kxXwait u rd a ∧ s.runs u = true ∧ p = (s.tile u).xr a % 65536)
         ∨ (c = .xwaitReturn u ∧ s.waits u = true ∧ (s.tile u).wait = some (.xfer rd p))) →
       (s.tile u).xfers.find? (·.tag == p) = some x → x.status = some st → Completes c s fun t =>
         s.retired t u rd (statusWord st 0) ∧ (t.tile u).xfers = (s.tile u).xfers.filter (·.tag ≠ p) ∧ s.onlyTiles t)
     ∧ (s.runs u = true → p = (s.tile u).xr a % 65536 → (s.tile u).xfers.find? (·.tag == p) = none →
       Completes (.kxXwait u rd a) s fun t => s.retired t u rd (statusWord kxBadArg 0) ∧ s.onlyTiles t))
  ∧ (∀ (u : TileId) (tag : BitVec 16) (s : State) (k : Xfer),
       (s.tile u).xfers.find? (fun k => k.tag == tag.toNat && k.status.isNone) = some k → s.meshStop = false →
       s.xferHeld u k = false → (s.rd TILE_JOB_JOB k.tile = s.rd TILE_JOB_JOB u → k.lspace = 0 → k.rspace = 0 → ∀ d da o oa : Nat,
         d = (if k.put then k.tile else u.val) → da = (if k.put then k.rem else k.loc) →
         o = (if k.put then u.val else k.tile) → oa = (if k.put then k.loc else k.rem) →
         ((s.tile d).guarded.any fun g => g.2 == .xfer k.tag u) = false → (s.tile d).guards ⟨da, k.len⟩ = false →
         (s.tile o).poisonedIn oa k.len = false → Completes (.transferComplete u tag) s fun t =>
           (t.tile d).rdSpad da k.len = (s.tile o).rdSpad oa k.len
           ∧ (∀ a, a < da ∨ da + k.len ≤ a → Memory.get (t.tile d).spad a = Memory.get (s.tile d).spad a)
           ∧ (∀ x ∈ (t.tile u).xfers, x.tag = k.tag → x.status = some kxOk)
           ∧ t.wdogRemain u = s.rd TILE_WDOG_LIMIT u * 1000
           ∧ (∀ w, w ≠ u.val → w ≠ d → t.tile w = s.tile w) ∧ t = { s with tiles := t.tiles })
       ∧ (s.rd TILE_JOB_JOB k.tile ≠ s.rd TILE_JOB_JOB u → Completes (.transferComplete u tag) s fun t =>
         (∀ x ∈ (t.tile u).xfers, x.tag = k.tag → x.status = some kxDenied) ∧ (t.tile u).spad = (s.tile u).spad
           ∧ s.otherTiles t u ∧ t = { s with tiles := t.tiles }))

/-! ## Checks, registers and control of a tile (R54, R61 to R68, R102, R107 to R112, R206) -/

/-- The checks of the oldest completed operation close: passed, exempt, or violated, and then the first violation is
captured and every one counted (R61 to R63, R68). A store that waited behind the input guard is made once no region
stalls it: its bytes stand in the scratchpad, its instruction retires, and the wait is counted (R206). -/
def Obligations.ChecksAndGuardedStores : Prop :=
  (∀ (u : TileId) (s : State) (op : UnitOp) (q : List UnitOp), (s.tile u).taOpen = op :: q →
     (op.viol = none → Completes (.nbcCheckClose u) s fun t => (t.tile u).taOpen = q
       ∧ (op.exempt = true → t.rdb NBC_STATUS_EXEMPT u = true) ∧ t.rd NBC_VIOLATIONS_COUNT u = s.rd NBC_VIOLATIONS_COUNT u
       ∧ (t.tile u).detections = (s.tile u).detections ∧ s.otherTiles t u ∧ t = { s with tiles := t.tiles, regs := t.regs })
     ∧ (∀ c, op.viol = some c → Completes (.nbcCheckClose u) s fun t => (t.tile u).taOpen = q
       ∧ t.rd NBC_VIOLATIONS_COUNT u = satAdd NBC_VIOLATIONS_COUNT.w (s.rd NBC_VIOLATIONS_COUNT u) 1
       ∧ t.rdb NBC_STATUS_VIOL u = true
       ∧ (s.rdb NBC_STATUS_VIOL u = false → t.rd NBC_VIOL_SEQ_SEQ u = op.num % 2 ^ 32
         ∧ t.rd NBC_VIOL_POS_ROW u = c.row % 2 ^ NBC_VIOL_POS_ROW.w
           ∧ t.rd NBC_VIOL_POS_COL u = c.col % 2 ^ NBC_VIOL_POS_COL.w ∧ t.rd NBC_VIOL_Y_Y u = c.y % 2 ^ 32)
       ∧ (s.rdb NBC_STATUS_VIOL u = true → t.rd NBC_VIOL_SEQ_SEQ u = s.rd NBC_VIOL_SEQ_SEQ u
           ∧ t.rd NBC_VIOL_Y_Y u = s.rd NBC_VIOL_Y_Y u)
       ∧ ((s.jobOf u).isSome = true → (t.tile u).detections.length = (s.tile u).detections.length + 1)
       ∧ s.otherTiles t u ∧ t = { s with tiles := t.tiles, regs := t.regs }))
  ∧ (∀ (u : TileId) (s : State) (t0 a rd v : Nat) (b : Bytes) (r : List (Nat × GuardedWrite)), rd < 32 →
       (s.tile u).wait = some (.store a b rd v 4) → (s.tile u).guarded = (t0, .store) :: r →
       (s.tile u).guards ⟨a, b.length⟩ = false → Completes (.guardedWriteResume u) s fun t =>
         s.retired t u rd v ∧ (t.tile u).wait = none ∧ (t.tile u).guarded = r ∧ (t.tile u).rdSpad a b.length = b
           ∧ (∀ x, x < a ∨ a + b.length ≤ x → Memory.get (t.tile u).spad x = Memory.get (s.tile u).spad x)
           ∧ t.rd NBC_GUARD_STALL u = satAdd NBC_GUARD_STALL.w (s.rd NBC_GUARD_STALL u) ((s.now - t0) * s.mhz u / 1000)
           ∧ t = { s with tiles := t.tiles, regs := t.regs })

/-- A seed written while its unit has no conversion to come loads at once, zero as 1, and one written before waits;
NBC_TOL takes its low byte and leaves the issued operations as they are; LIMIT is clamped to 5 to 50 (R54, R64, R109).
A register written by its access code: the tile's registers with rows of their own behave as those; a W1C flag is
cleared by 1 and left by 0; TILE_ID is read only; PWR_CAP goes through the configuration; 8 bytes are two words. BAR0
counts an access that it does not accept and reads it as zeros; its request buffer reads as written; an MSI-X vector
that waits is raised as its mask goes (R9, R10, R356, R383, R384; the mask's place: log 163). -/
def Obligations.RegisterWritesTakeEffect : Prop :=
  (∀ (u : TileId) (v : W32) (s : State),
     ((s.tile u).taQ = [] → (s.tile u).taRun = none → Completes (.taSeedTaWrite u v) s fun t =>
       t.rd TA_SRNG_TA_STATE u = (if v = 0#32 then 1 else v.toNat) ∧ s.otherTiles t u
         ∧ t = { s with tiles := t.tiles, regs := t.regs })
     ∧ ((s.tile u).taRun.isSome = true → (s.tile u).taDone < (s.tile u).taCount → (s.tile u).seedTa = [] →
       (s.tile u).seedVec = [] → Completes (.taSeedTaWrite u v) s fun t => t.rd TA_SRNG_TA_STATE u = s.rd TA_SRNG_TA_STATE u
         ∧ (t.tile u).seedTa = [((s.tile u).taCount, v.toNat)])
     ∧ ((s.tile u).vecQ = [] → (s.tile u).vecRun = none → Completes (.taSeedVecWrite u v) s fun t =>
       t.rd TA_SRNG_VEC_STATE u = (if v = 0#32 then 1 else v.toNat) ∧ s.otherTiles t u
         ∧ t = { s with tiles := t.tiles, regs := t.regs })
     ∧ Completes (.nbcTolWrite u v) s (fun t => t.rd NBC_TOL_EXTRA u = v.toNat % 256 ∧ t = { s with regs := t.regs })
     ∧ Completes (.tileWdogWrite u v) s (fun t => t.rd TILE_WDOG_LIMIT u = max 5 (min 50 (v.toNat % 64))
       ∧ t = { s with regs := t.regs }))
  ∧ (∀ (u : TileId) (f : FnId) (v : W32) (s : State),
       exec (.registerWrite (.tile u) 0x018 ⟨v, none⟩) s = exec (.tileWdogWrite u v) s
       ∧ exec (.registerWrite (.tile u) 0x1088 ⟨v, none⟩) s = exec (.taSeedTaWrite u v) s
       ∧ exec (.registerWrite (.tile u) 0x2004 ⟨v, none⟩) s = exec (.nbcTolWrite u v) s
       ∧ exec (.registerWrite (.tile u) 0x000 ⟨v, none⟩) s = .next s
       ∧ (∀ off w, 0x4000 ≤ off → exec (.registerWrite (.tile u) off ⟨v, w⟩) s = .next s)
       ∧ Completes (.registerWrite (.tile u) 0x1084 ⟨v, none⟩) s (fun t =>
           (v.toNat % 2 = 1 → t.rd TA_AFLAGS_INT_OVF u = 0)
           ∧ (v.toNat % 2 = 0 → s.rd TA_AFLAGS_INT_OVF u < 2 → t.rd TA_AFLAGS_INT_OVF u = s.rd TA_AFLAGS_INT_OVF u)
           ∧ t = { s with regs := t.regs })
       ∧ (∀ sp off w t, (∀ g, sp ≠ .bar0 g) → off % 8 = 0 → exec (.registerWrite sp off ⟨v, none⟩) s = .next t →
           exec (.registerWrite sp off ⟨v, some w⟩) s = exec (.registerWrite sp (off + 4) ⟨w, none⟩) t)
       ∧ (∀ off w, bit (s.rd PCIE_VFEN_EN 0) f = true → bar0Bad off (if w.isSome then 8 else 4) = true →
           Completes (.registerWrite (.bar0 f) off ⟨v, w⟩) s fun t =>
             t.rd PCIE_BADACC_COUNT 0 = satAdd PCIE_BADACC_COUNT.w (s.rd PCIE_BADACC_COUNT 0) 1 ∧ t = { s with regs := t.regs }
               ∧ s.readBar0 f off (if w.isSome then 8 else 4) = zeros (if w.isSome then 8 else 4))
       ∧ (∀ off w, bit (s.rd PCIE_VFEN_EN 0) f = false → exec (.registerWrite (.bar0 f) off ⟨v, w⟩) s = .next s)
       ∧ (∀ off w, bit (s.rd PCIE_VFEN_EN 0) f = true → 0x1000 ≤ off → off + 8 ≤ 0x2000 → off % 4 = 0 →
           Completes (.registerWrite (.bar0 f) off ⟨v, some w⟩) s fun t => t.readBar0 f off 8 = toLE 4 v.toNat ++ toLE 4 w.toNat
             ∧ (∀ m, m ≠ f.val → t.mbox m = s.mbox m) ∧ t = { s with mboxes := t.mboxes })
       ∧ (∀ k : Fin 8, bit (s.rd PCIE_VFEN_EN 0) f = true → v.toNat % 2 = 0 → (s.msixPend.find (8 * f.val + k.val)).isSome = true →
           Completes (.registerWrite (.bar0 f) (0x30000 + 16 * k.val + 12) ⟨v, none⟩) s fun t =>
             t.msixPend.find (8 * f.val + k.val) = none
               ∧ t.msix.find (8 * f.val + k.val) = some ((s.msix.find (8 * f.val + k.val)).getD 0 + 1)
               ∧ t = { s with msix := t.msix, msixPend := t.msixPend, msixTab := t.msixTab })
       ∧ Completes (.registerWrite .pwr 0x000 ⟨v, none⟩) s (fun t => cfgClamp 0x0100 (bf v.toNat 0 12) = some (t.conf 0x0100)))

/-- The watchdog's expiry and the parity errors are faults of a running core with their causes, and nothing to one
that does not run (R108, R110). A tile reset leaves the tile HELD, its numbering at 0, its instruction cache empty,
its channels closed and no message on the mesh for it, and keeps its fault record and scratchpad; the core then starts
at TILE_BOOT while the firmware serves; a tile without a running job dozes with its clock stopped (R107, R112). The
Fold Off map changes when no message and no credit message is on the mesh, and injection stands until then, the
credits that waited going on after it; a fold that would cut the mesh apart stays on, and the drover answers ST_DENIED
(R102). -/
def Obligations.TileControl : Prop :=
  (∀ (u : TileId) (s : State),
     (s.running u = true → (s.tile u).wdogFrom.isSome = true → s.wdogRemain u = 0 → Completes (.watchdogExpiry u) s fun t =>
       s.faulted t u 0x1A 0)
     ∧ (s.running u = true → Completes (.meshParityError u) s fun t => s.faulted t u 0x1B 0)
     ∧ (s.running u = true → Completes (.scratchpadParityError u) s fun t => s.faulted t u 0x1C 0)
     ∧ (∀ c, (c = .watchdogExpiry u ∨ c = .meshParityError u ∨ c = .scratchpadParityError u) → s.running u = false →
       exec c s = .next s))
  ∧ (∀ (u : TileId) (s : State),
       ((∀ j, s.jobOf u = some j → j.state ≠ 3 ∧ j.state ≠ 4) → Completes (.tileReset u) s fun t =>
         t.rd TILE_STATE_STATE u = 0 ∧ (t.tile u).taCount = 0 ∧ (t.tile u).vecCount = 0 ∧ (t.tile u).icache = []
           ∧ (∀ ch : ChId, t.rdb TILE_RXC_RING_EN (chanOf u ch) = false ∧ t.rdb TILE_TXC_CFG_EN (chanOf u ch) = false)
           ∧ (∀ m ∈ t.mesh, m.dst ≠ u.val) ∧ (t.tile u).spad = (s.tile u).spad
           ∧ t.rd TILE_FAULT_CAUSE u = s.rd TILE_FAULT_CAUSE u ∧ t.wdogRemain u = t.rd TILE_WDOG_LIMIT u * 1000)
       ∧ (∀ j, s.jobOf u = some j → (j.state = 3 ∨ j.state = 4) → exec (.tileReset u) s = .next s)
       ∧ (s.inService = false → exec (.tileStart u) s = .next s)
       ∧ (s.rd TILE_STATE_STATE u = 0 → (s.tile u).off = false → s.inService = true → Completes (.tileStart u) s fun t =>
         t.rd TILE_STATE_STATE u = 1 ∧ (t.tile u).pc = BitVec.ofNat 64 (s.bootAddr u) ∧ (t.tile u).clkStop = false
           ∧ (t.tile u).x = (s.tile u).x ∧ s.otherTiles t u ∧ t = { s with tiles := t.tiles, regs := t.regs })
       ∧ ((s.rd TILE_STATE_STATE u = 0 ∨ s.jobOf u = none) → (s.tile u).off = false → Completes (.tileDoze u) s fun t =>
         t.rd TILE_STATE_STATE u = 5 ∧ (t.tile u).clkStop = true ∧ s.otherTiles t u
           ∧ t = { s with tiles := t.tiles, regs := t.regs }))
  ∧ (∀ (f : FoldId) (off : Bool) (s : State),
       ((off = false ∨ s.foldOffDenied f = false) → s.mesh = [] → s.credits = [] →
         Completes (.foldMapChange f off) s fun t => t.foldOff f = off ∧ t.meshStop = false
           ∧ (∀ g, g ≠ f.val → t.fold g = s.fold g) ∧ t.creditQ = []
           ∧ ((∀ k ∈ s.creditQ, k.2.dst < 1024) → t.credits = s.creditQ.map (·.2)
             ∧ t = { s with folds := t.folds, meshStop := false, foldReply := 0, creditQ := [], credits := t.credits })
           ∧ t = { s with folds := t.folds, meshStop := false, foldReply := 0, creditQ := [], credits := t.credits
                          drvGrants := t.drvGrants, ports := t.ports })
       ∧ ((off = false ∨ s.foldOffDenied f = false) → (s.mesh ≠ [] ∨ s.credits ≠ []) →
         Completes (.foldMapChange f off) s fun t => t = { s with meshStop := true, foldReply := 0 })
       ∧ (off = true → s.foldOffDenied f = true → Completes (.foldMapChange f off) s fun t =>
         t = { s with foldReply := 0x0007 }))

/-! ## The page pool unit of a tile (R149, R156 to R174, R247) -/

/-- A command of the pool unit takes effect when the unit begins it: ALLOC takes the lowest free frame with REFCNT 1,
REF and UNREF count, the last UNREF hands the frame to reclamation, COW takes a copy, SETCOUNT raises COUNT, FETCH
asks for a swap-in, RETIRE empties the entry. While the unit runs another command it waits its turn (R157 to R160). A
completed command of the tile shows its result and DONE, one of the drover does not; an epoch closes at each
millisecond when no read is open, and frees only frames that reclamation holds; a frame that became FREE joins the
free list with its lines zero (R157, R160, R164, R165, R247). -/
def Obligations.PagePoolCommands : Prop :=
  (∀ (u : TileId) (drover : Bool) (i : BitVec 16) (s : State),
     ((s.tile u).poolRun = none → (s.tile u).poolQ = [] →
       (∀ (fmt : BitVec 2) k, i.toNat < (s.tile u).nfte → (fmt = 2#2 ∨ (fmt = 1#2 ∧ s.rdb TILE_PG_GEOM_FFMT u = false)) →
         (drover = true ∨ (s.tile u).fteState i.toNat = 1 ∨ (s.tile u).fteState i.toNat = 5) → s.freeFrame u = some k →
         Completes (.alloc u drover i fmt) s fun t => s.poolRuns t u 1 k pgOk 40 ∧ (t.dirEntry u k).fmt = fmt.toNat
           ∧ (t.dirEntry u k).refcnt = 1 ∧ (t.dirEntry u k).reclaim = false
           ∧ t.rd TILE_PG_FREE_FREE u = (s.rd TILE_PG_FREE_FREE u - 1) % 2 ^ TILE_PG_FREE_FREE.w
           ∧ s.otherTiles t u ∧ t = { s with tiles := t.tiles, regs := t.regs })
       ∧ (∀ (fmt : BitVec 2), (fmt = 0#2 ∨ fmt = 3#2) → Completes (.alloc u drover i fmt) s fun t =>
           s.poolRuns t u 1 0 pgBadArg 40 ∧ (t.tile u).spad = (s.tile u).spad ∧ s.otherTiles t u
           ∧ t = { s with tiles := t.tiles, regs := t.regs })
       ∧ (i.toNat < s.nframes u → (s.dirEntry u i.toNat).fmt ≠ 0 → (s.dirEntry u i.toNat).reclaim = false →
           ((s.dirEntry u i.toNat).refcnt ≠ 65535 → Completes (.ref u drover i) s fun t =>
             s.poolRuns t u 2 i.toNat pgOk 40 ∧ (t.dirEntry u i.toNat).refcnt = (s.dirEntry u i.toNat).refcnt + 1
             ∧ s.otherTiles t u ∧ t = { s with tiles := t.tiles, regs := t.regs })
           ∧ ((s.dirEntry u i.toNat).refcnt ≠ 0 → Completes (.unref u drover i) s fun t =>
             s.poolRuns t u 3 i.toNat pgOk 40 ∧ (t.dirEntry u i.toNat).refcnt = (s.dirEntry u i.toNat).refcnt - 1
             ∧ (t.dirEntry u i.toNat).reclaim = decide ((s.dirEntry u i.toNat).refcnt = 1)
             ∧ s.otherTiles t u ∧ t = { s with tiles := t.tiles, regs := t.regs })
           ∧ ((s.dirEntry u i.toNat).refcnt = 1 → s.frameHeld u i.toNat = false → Completes (.cow u drover i) s fun t =>
             s.poolRuns t u 4 i.toNat pgOk 40 ∧ (t.tile u).spad = (s.tile u).spad
             ∧ s.otherTiles t u ∧ t = { s with tiles := t.tiles, regs := t.regs })
           ∧ ((s.dirEntry u i.toNat).refcnt ≠ 1 → s.freeFrame u = none → s.frameHeld u i.toNat = false →
             Completes (.cow u drover i) s fun t =>
             s.poolRuns t u 4 0 pgFull 40 ∧ t.rdb TILE_PG_STAT_EXHAUSTED u = true
             ∧ (t.tile u).failedAlloc = some 0xFFFF ∧ t = { s with tiles := t.tiles, regs := t.regs })
           ∧ (∀ k, (s.dirEntry u i.toNat).refcnt ≠ 1 → s.freeFrame u = some k → s.frameHeld u i.toNat = false →
             Completes (.cow u drover i) s fun t =>
             s.poolRuns t u 4 k pgOk (100 + ceilDiv (5 * pageLines (s.dirEntry u i.toNat).fmt (s.poolD u)) 4)
             ∧ t = s.charged t)
           ∧ (∀ (n : BitVec 5), n.toNat ≤ 16 → (s.dirEntry u i.toNat).count < n.toNat → (s.dirEntry u i.toNat).refcnt ≤ 1 →
             Completes (.setcount u drover i n) s fun t => s.poolRuns t u 5 i.toNat pgOk 40
               ∧ (t.dirEntry u i.toNat).count = n.toNat ∧ (t.dirEntry u i.toNat).refcnt = (s.dirEntry u i.toNat).refcnt
               ∧ s.otherTiles t u ∧ t = { s with tiles := t.tiles, regs := t.regs }))
       ∧ (i.toNat < (s.tile u).nfte → (drover = true ∨ (s.tile u).fteState i.toNat = 3) → Completes (.fetch u drover i) s fun t =>
           s.poolRuns t u 6 0 pgOk 40 ∧ i.toNat ∈ (t.tile u).fetches ∧ s.otherTiles t u
           ∧ t = { s with tiles := t.tiles, regs := t.regs })
       ∧ (i.toNat < (s.tile u).nfte → Completes (.retire u true i) s fun t =>
           s.poolRuns t u 7 0 (if (s.tile u).fte i.toNat 8 2 = 0 then pgEmpty else pgOk) (40 + 20 * (s.tile u).fte i.toNat 8 2)
           ∧ (t.tile u).rdSpad ((s.tile u).fteAddr i.toNat) 32 = zeros 32 ∧ s.otherTiles t u
           ∧ t = { s with tiles := t.tiles, regs := t.regs })
       ∧ (i.toNat < (s.tile u).nfte → (s.tile u).fteState i.toNat = 1 → Completes (.retire u false i) s fun t =>
           (t.tile u).rdSpad ((s.tile u).fteAddr i.toNat) 32 = zeros 32
           ∧ (∀ f ∈ t.flows, f.handle = (s.tile u).fte i.toNat 0 4 → f.live = false)
           ∧ s.reported t evFlowRetired (tileUnit u) ∧ t = { s.logged t with tiles := t.tiles, flows := t.flows }))
     ∧ (∀ r c, (s.tile u).poolRun = some r →
         ((∃ fmt, c = .alloc u drover i fmt) ∨ c = .ref u drover i ∨ c = .unref u drover i ∨ c = .cow u drover i
           ∨ (∃ n, c = .setcount u drover i n) ∨ c = .fetch u drover i ∨ c = .retire u drover i) → Completes c s fun t =>
         (t.tile u).poolRun = some r ∧ (t.tile u).poolQ.length = (s.tile u).poolQ.length + 1
         ∧ (t.tile u).spad = (s.tile u).spad ∧ s.otherTiles t u ∧ t = { s with tiles := t.tiles, regs := t.regs }))
  ∧ (∀ (u : TileId) (s : State),
       (∀ c, (s.tile u).poolRun = some c → c.ready ≤ s.now → c.drover = false → (∀ w n, (s.tile u).wait ≠ some (.pool w n)) →
         (s.tile u).poolQ = [] → Completes (.poolCmdDone u) s fun t => (t.tile u).poolRun = none
           ∧ t.rd TILE_PG_RES_INDEX u = c.resIndex % 2 ^ TILE_PG_RES_INDEX.w
           ∧ t.rd TILE_PG_RES_STATUS u = c.resStatus % 2 ^ TILE_PG_RES_STATUS.w ∧ t.rd TILE_PG_RES_DONE u = 1
           ∧ s.otherTiles t u ∧ t = { s with tiles := t.tiles, regs := t.regs })
       ∧ (∀ c, (s.tile u).poolRun = some c → c.ready ≤ s.now → c.drover = true → (s.tile u).poolQ = [] →
         Completes (.poolCmdDone u) s fun t => (t.tile u).poolRun = none ∧ (t.tile u).spad = (s.tile u).spad
           ∧ t = { s with tiles := t.tiles })
       ∧ (s.nframes u ≠ 0 → s.now % 1000000 = 0 → (s.tile u).epochAt ≠ s.now → s.readsOpen u = false →
         Completes (.graceEpochClose u) s fun t =>
         t.rd TILE_PG_EPOCH_EPOCH u = (s.rd TILE_PG_EPOCH_EPOCH u + 1) % 2 ^ TILE_PG_EPOCH_EPOCH.w
           ∧ (∀ i, i < s.nframes u → t.dirEntry u i = s.dirEntry u i
             ∨ ((s.dirEntry u i).reclaim = true ∧ (t.dirEntry u i).fmt = 0 ∧ (t.dirEntry u i).reclaim = false))
           ∧ s.otherTiles t u ∧ t = { s with tiles := t.tiles, regs := t.regs })
       ∧ ((s.readsOpen u = true ∨ (s.tile u).epochAt = s.now) → exec (.graceEpochClose u) s = .next s)
       ∧ (∀ i k, (s.tile u).zeroFrames.contains i = true → i < s.nframes u → (s.dirEntry u i).fmt = 0 →
         s.frameHeld u i = false → s.key (s.rd VCH_KEY_CUR u) = some k → Completes (.frameZeroOverwrite u i) s fun t =>
           (∀ l, l < s.frameBytes u / 64 → (t.tile u).line (s.frameAddr u i / 64 + l)
             = goodLine k u (s.frameAddr u i / 64 + l) (zeros 64))
           ∧ i ∉ (t.tile u).zeroFrames ∧ t.rd TILE_PG_FREE_FREE u = (s.rd TILE_PG_FREE_FREE u + 1) % 2 ^ TILE_PG_FREE_FREE.w
           ∧ s.otherTiles t u ∧ t = { s with tiles := t.tiles, regs := t.regs, jobs := t.jobs, sessions := t.sessions }))

/-- The drover halts a core whose tile wants a window, and once the tile has drained writes what waits (a key slot of
R259, a flow whose image is lost) and lets the core go on (R156). Without a victim PREEMPT clears the failed request;
without a swap area, or without room in it, it reports POOL_EXHAUSTED; else the victims are chosen (R167, R168). -/
def Obligations.WindowsAndPreemption : Prop :=
  ∀ (u : TileId) (s : State),
    ((s.tile u).inWin = false → s.winWanted u = true → Completes (.updateWindowHalt u) s fun t =>
      (t.tile u).inWin = true ∧ t.runs u = false ∧ (t.tile u).wdogFrom = none ∧ s.otherTiles t u
        ∧ t = { s with tiles := t.tiles })
    ∧ (s.winWanted u = false → exec (.updateWindowHalt u) s = .next s)
    ∧ ((s.tile u).inWin = true → (s.tile u).drained = true → (s.tile u).selftest = false → s.winAsked u = false →
      (s.tile u).winActs.any s.awaitsTwin = false → Completes (.updateWindowWrite u) s fun t =>
        (t.tile u).inWin = false ∧ (t.tile u).haltWin = false ∧ (t.tile u).winActs = []
        ∧ (∀ c p, (s.tile u).winActs = [.keySlot c p] → t.rd VCH_KEY_CUR u = c % 2 ^ VCH_KEY_CUR.w
          ∧ t.rd VCH_KEY_PREV u = p % 2 ^ VCH_KEY_PREV.w ∧ t.rd VCH_KEY_ROT u = 1 ∧ t.rd VCH_ROT_MARK_MARK u = 0)
        ∧ (∀ f h, (s.tile u).winActs = [.loseFlow f h] → ∀ g ∈ t.flows, g.handle = h → g.live = false)
        ∧ ((∀ a ∈ (s.tile u).winActs, ∀ f h, a ≠ .loseFlow f h) → s.otherTiles t u
          ∧ t = { s with tiles := t.tiles, regs := t.regs })
        ∧ t = { s.logged t with tiles := t.tiles, flows := t.flows, sessions := t.sessions })
    ∧ ((s.winAsked u = true ∨ (s.tile u).winActs.any s.awaitsTwin = true) → exec (.updateWindowWrite u) s = .next s)
    ∧ ((s.tile u).drained = false → exec (.updateWindowWrite u) s = .next s)
    ∧ (s.nframes u ≠ 0 → ((s.tile u).failedAlloc ≠ none
          ∨ (s.rd TILE_PG_FREE_FREE u + s.rd TILE_PG_FREE_PENDING u < s.rd TILE_PG_FRAMES_RESERVE u ∧ s.now % 1000000 = 0)) →
      let skip := (s.tile u).failedAlloc.getD 0xFFFF
      let need := max (max 1 (s.rd TILE_PG_FRAMES_RESERVE u)) (if (s.tile u).fetches.contains skip then s.fetchNeeds u skip else 0)
      let picked := s.pickVictims u need (s.rd TILE_PG_FREE_FREE u + s.rd TILE_PG_FREE_PENDING u + s.comingFree u)
        (s.candidates u skip)
      (picked = [] → (∀ j, s.jobOf u = some j → (s.sess j.fn).swap.isSome = true) → Completes (.preempt u) s fun t =>
        (t.tile u).failedAlloc = none ∧ (t.tile u).victims = (s.tile u).victims
        ∧ s.otherTiles t u ∧ t = { s with tiles := t.tiles })
      ∧ (∀ j, s.jobOf u = some j → picked = [] → (s.sess j.fn).swap = none → Completes (.preempt u) s fun t =>
          s.reported t evPoolExhausted (tileUnit u) ∧ (t.tile u).failedAlloc = none ∧ (t.tile u).victims = (s.tile u).victims
          ∧ t = { s.logged t with tiles := t.tiles })
      ∧ (∀ j e r, s.jobOf u = some j → picked = e :: r →
        (s.sess j.fn).room (s.imageLen u (s.releasable u e).length) = none → Completes (.preempt u) s fun t =>
          s.reported t evPoolExhausted (tileUnit u) ∧ (t.tile u).victims = (s.tile u).victims
          ∧ t = { s.logged t with tiles := t.tiles })
      ∧ (∀ j e r, s.jobOf u = some j → picked = e :: r →
        (s.sess j.fn).room (s.imageLen u (s.releasable u e).length) ≠ none → Completes (.preempt u) s fun t =>
          (t.tile u).victims = (s.tile u).victims ++ picked ∧ s.otherTiles t u ∧ t = { s with tiles := t.tiles }))

/-- A swap-out writes one image, header, released pages and digest, encrypted under the session's key, into the area,
and shows the entry SWAPPING_OUT; at its end the entry is SWAPPED with the slot, and its frames wait for reclamation.
A swap-in shows it SWAPPING_IN and takes free frames with the image's formats and counts, or asks for preemption; at
its end the list names the frames, the entry is RESIDENT and the image swapped in, or the flow of a corrupt image is
retired (R168 to R170). A flow moves off a penned tile to another of its job, or ends behind a penned channel (R149).
In a rotation each page of the old slot moves to a spare frame, each image is written back under the new key or, if it
is corrupt, its flow is retired in the next window of its tiles, and the empty old slot is erased (R173, R174, R259).
-/
def Obligations.PagesSwapAndMove : Prop :=
  (∀ (u : TileId) (e : Nat) (s : State), (s.tile u).drained = true →
     (s.releasable u e).any (fun k => s.frameHeld u k.2) = false →
     (∀ j, s.jobOf u = some j → ∀ slot, (s.sess j.fn).room (s.imageLen u (s.releasable u e).length) = some slot →
       ∀ key, s.key (s.slotOf j.fn) = some key → ∀ area, (s.sess j.fn).swap = some area →
       (s.tile u).victims.contains e = true → (s.tile u).fteState e = 1 → s.masters j.fn = true →
         Completes (.swapOut u e) s fun t =>
         (∃ w ∈ (t.tile u).swaps, w.entry = e ∧ w.out = true ∧ w.slot = slot ∧ w.frames = (s.releasable u e).map (·.2))
         ∧ (t.tile u).fteState e = 2 ∧ e ∉ (t.tile u).victims
         ∧ (∃ k ∈ (t.sess j.fn).swaps, k.flow = (s.tile u).fte e 0 4 ∧ k.tile = u.val ∧ k.slot = slot
           ∧ k.gen = (s.sess j.fn).keyGen
             ∧ k.len = s.imageLen u (s.releasable u e).length ∧ k.live = true
             ∧ k.pages = (s.releasable u e).map fun p => (p.1, (s.dirEntry u p.2).fmt, (s.dirEntry u p.2).count))
         ∧ (let x := s.tile u
            let pages := (((s.modTile u fun x => { x with victims := x.victims.filter (· ≠ e) }).setFte u e 24 1 2).readReleased u
              (s.releasable u e)).2.1
            let shared := ((x.pageList e).zipIdx).filterMap fun (a, i) =>
              (s.listFrame u a).bind fun f => if (s.dirEntry u f).refcnt = 1 then none else some (i, f)
            t.host = Memory.putN s.host (area.1 + slot * 64) (swapCrypt true key slot (sealImage
              (toLE 64 (Config.swapHeader (x.fte e 0 4) (x.fte e 8 2) (x.fte e 12 4) shared).toNat ++ pages))))
         ∧ t = { s.charged t with host := t.host })
     ∧ (∀ j, (s.tile u).victims.contains e = true → (s.tile u).fteState e = 1 → s.jobOf u = some j →
       (s.sess j.fn).room (s.imageLen u (s.releasable u e).length) = none → Completes (.swapOut u e) s fun t =>
         e ∉ (t.tile u).victims ∧ s.reported t evPoolExhausted (tileUnit u) ∧ t = { s.logged t with tiles := t.tiles })
     ∧ (∀ w, (s.tile u).swaps.find? (fun w => w.entry == e && w.out) = some w → Completes (.swapOutComplete u e) s fun t =>
       (t.tile u).fteState e = 3 ∧ (t.tile u).fte e 28 4 = w.slot % 2 ^ 32 ∧ w ∉ (t.tile u).swaps ∧ s.otherTiles t u
         ∧ (w.frames ≠ [] → w.frames.Nodup → (∀ i ∈ w.frames, (s.dirEntry u i).fmt ≠ 0 ∧ (s.dirEntry u i).refcnt = 1) →
           t.rd TILE_PG_FREE_PENDING u = (s.rd TILE_PG_FREE_PENDING u + w.frames.length) % 2 ^ TILE_PG_FREE_PENDING.w)
         ∧ t = { s with tiles := t.tiles, regs := t.regs })
     ∧ (∀ j, s.jobOf u = some j → ∀ k,
       s.imageAt j.fn u e = some k → (s.tile u).fetches.contains e = true →
         ((s.tile u).fteState e = 3 ∨ (s.tile u).fteState e = 4) →
       (s.tile u).swaps.any (fun w => w.entry == e && !w.out) = false → s.masters j.fn = true →
       ((s.setFte u e 24 1 4).freeFrames u k.pages.length).any ((s.setFte u e 24 1 4).frameHeld u) = false →
       (((s.setFte u e 24 1 4).freeFrames u k.pages.length).length = k.pages.length → Completes (.swapIn u e) s fun t =>
         (∃ w ∈ (t.tile u).swaps, w.entry = e ∧ w.out = false ∧ w.frames = (s.setFte u e 24 1 4).freeFrames u k.pages.length
           ∧ w.ok = (s.openImage j.fn k).2 ∧ w.slot = k.slot
           ∧ ∀ (i i' : Nat) (p : Nat × Nat × Nat), w.frames[i]? = some i' → k.pages[i]? = some p →
             (t.dirEntry u i').fmt = p.2.1 % 256
             ∧ (t.dirEntry u i').count = p.2.2 % 256 ∧ (t.dirEntry u i').refcnt = 1)
         ∧ e ∉ (t.tile u).fetches ∧ s.otherTiles t u
         ∧ t = { s with tiles := t.tiles, regs := t.regs, jobs := t.jobs, sessions := t.sessions })
       ∧ (((s.setFte u e 24 1 4).freeFrames u k.pages.length).length < k.pages.length → Completes (.swapIn u e) s fun t =>
         (t.tile u).fteState e = 4 ∧ (t.tile u).failedAlloc = some e ∧ s.otherTiles t u ∧ t = { s with tiles := t.tiles }))
     ∧ (∀ j, s.jobOf u = some j → ∀ w, (s.tile u).swaps.find? (fun w => w.entry == e && !w.out) = some w →
       (w.ok = true → Completes (.swapInComplete u e) s fun t => (t.tile u).fteState e = 1 ∧ (t.tile u).fte e 28 4 = 0
         ∧ w ∉ (t.tile u).swaps ∧ (s.imageAt j.fn u e ≠ none → ∀ q ∈ (t.sess j.fn).swaps, some q ≠ s.imageAt j.fn u e)
         ∧ (∀ k, s.imageAt j.fn u e = some k → (k.pages.map (·.1)).Nodup →
           (∀ p ∈ k.pages, let a := (s.tile u).fte e 4 4 + 16 * p.1
             (a + 16 ≤ s.dirAddr u ∨ s.dirAddr u + 16 * s.nframes u ≤ a)
               ∧ (a + 16 ≤ (s.tile u).fteAddr e ∨ (s.tile u).fteAddr e + 32 ≤ a)) →
           ∀ (i i' : Nat) (p : Nat × Nat × Nat), w.frames[i]? = some i' → i' < s.nframes u → k.pages[i]? = some p →
             (t.tile u).rdSpad ((s.tile u).fte e 4 4 + 16 * p.1) 16 = (s.dirEntry u i').bytes)
         ∧ t = { s with tiles := t.tiles, sessions := t.sessions })
       ∧ (∀ g, w.ok = false → s.mayLose ((s.tile u).fte e 0 4) = true →
         s.flows.find? (fun g => g.live && g.handle == (s.tile u).fte e 0 4) = some g → g.tile = u.val →
         Completes (.swapInComplete u e) s fun t => (t.tile u).rdSpad ((s.tile u).fteAddr e) 32 = zeros 32
         ∧ (∀ f ∈ t.flows, f.handle = (s.tile u).fte e 0 4 → f.live = false)
         ∧ s.reported t evFlowSwapCorrupt (tileUnit u)
         ∧ t = { s.logged t with tiles := t.tiles, flows := t.flows, sessions := t.sessions })))
  ∧ (∀ (u v : TileId) (e : Nat) (f : FnId) (s : State),
       (∀ x, s.flows.find? (fun g => g.live && g.tile == u.val && g.entry == e && g.handle == (s.tile u).fte e 0 4) = some x →
         ∀ j, s.jobs.find? (fun j => j.handle == x.job) = some j → e < (s.tile u).nfte → (∀ w ∈ u.val :: (j.partner u).toList,
           (s.tile w).fteState e ≠ 2 ∧ (s.tile w).fteState e ≠ 4 ∧ s.mayWrite w = true) →
         (s.penned (chanUnit u) = true → Completes (.flowRepin u e v) s fun t =>
           (t.tile u).rdSpad ((s.tile u).fteAddr e) 32 = zeros 32
           ∧ (∀ g ∈ t.flows, g.handle = (s.tile u).fte e 0 4 → g.live = false)
           ∧ (∀ q ∈ (t.sess j.fn).swaps, q.flow ≠ (s.tile u).fte e 0 4) ∧ s.reported t evFlowStateLost (tileUnit u)
           ∧ t = { s.logged t with tiles := t.tiles, flows := t.flows, sessions := t.sessions })
         ∧ (∀ n, s.emptyEntry v = some n → (∀ w ∈ u.val :: (j.partner u).toList, s.penned (chanUnit w) = false) →
           (s.penned (tileUnit u) = true ∨ j.all.contains u.val = false) → j.tiles.contains v.val = true →
           v ≠ u → (j.partner u).isSome = (j.partner v).isSome → s.mayRepin u e v = true →
           (∀ w y, j.partner u = some w → j.partner v = some y → s.mayRepin w e y = true) → Completes (.flowRepin u e v) s fun t =>
             (∀ g ∈ t.flows, g.handle = (s.tile u).fte e 0 4 → g.tile = v.val ∧ g.entry = n)
             ∧ (j.partner u = none → j.partner v = none → (t.tile u).rdSpad ((s.tile u).fteAddr e) 32 = zeros 32
               ∧ (t.tile v).rdSpad ((s.tile v).fteAddr n) 32 = (s.tile u).rdSpad ((s.tile u).fteAddr e) 32)
             ∧ t.flows.map (·.handle) = s.flows.map (·.handle) ∧ t = { s.charged t with flows := t.flows }))
       ∧ (∀ j, s.jobOf u = some j → (s.freeFrame u).isSome = true → (s.sess j.fn).rotating = true → (s.sess j.fn).bulkDone = true →
         e < s.nframes u → (s.dirEntry u e).fmt ≠ 0 → (s.dirEntry u e).reclaim = false → (s.dirEntry u e).kslot = s.oldSlotOf j.fn →
         (s.tile u).drained = true → s.frameHeld u e = false → Completes (.pageRekeyMove u e) s fun t =>
           (t.sess j.fn).rotMoved = (s.sess j.fn).rotMoved + 1 ∧ (t.dirEntry u e).reclaim = true ∧ (t.dirEntry u e).refcnt = 0
             ∧ t = s.charged t)
       ∧ (∀ slot k, (s.sess f).swaps.find? (fun k => k.slot == slot && k.gen != (s.sess f).keyGen) = some k →
         ∀ key, s.key (s.slotOf f) = some key → ∀ area, (s.sess f).swap = some area → (s.sess f).rotating = true →
         (s.sess f).bulkDone = true → s.masters f = true →
         ((s.openImage f k).2 = true → Completes (.swapImageRekey f slot) s fun t =>
           (∀ q ∈ (t.sess f).swaps, q.slot = slot → q.gen = (s.sess f).keyGen)
           ∧ t.host = Memory.putN s.host (area.1 + slot * 64) (swapCrypt true key slot (sealImage (s.openImage f k).1))
           ∧ (∀ g, g ≠ f.val → t.sess g = s.sess g) ∧ t = { s with host := t.host, sessions := t.sessions })
         ∧ ((s.openImage f k).2 = false → k.live = true → s.mayLose k.flow = true → Completes (.swapImageRekey f slot) s fun t =>
           (∀ q ∈ (t.sess f).swaps, q.flow ≠ k.flow) ∧ (∀ g ∈ t.flows, g.handle = k.flow → g.live = false)
           ∧ t = { s.logged t with tiles := t.tiles, flows := t.flows, sessions := t.sessions })
         ∧ ((s.openImage f k).2 = false → k.live = true → s.mayLose k.flow = false → Completes (.swapImageRekey f slot) s fun t =>
           (∀ q ∈ (t.sess f).swaps, q.slot ≠ slot)
           ∧ (∀ g, s.flows.find? (fun q => q.live && q.handle == k.flow) = some g → .loseFlow f.val k.flow ∈ (t.tile g.tile).winActs)
           ∧ t = { s with tiles := t.tiles, sessions := t.sessions }))
       ∧ ((s.sess f).rotating = true → (s.sess f).bulkDone = true → s.oldCount f = 0 → Completes (.oldSlotErase f) s fun t =>
         t.keys = s.keys.del (s.oldSlotOf f) ∧ (t.sess f).rotating = false ∧ (t.sess f).keyGen = (s.sess f).keyGen
           ∧ t = { s with keys := t.keys, sessions := t.sessions, mboxes := t.mboxes, msix := t.msix, msixPend := t.msixPend })
       ∧ (s.oldCount f ≠ 0 → exec (.oldSlotErase f) s = .next s))

/-! ## Holds, faults, restarts and checkpoints (R205 to R235, R354, R371, R374, R444) -/

/-- A result enters its hold store or is discarded there; the oldest whose recorded operations have completed goes
onto the link with the next hold ID. One at or below the highest number that the channel had released before a restart
does not go: its credit returns, and one that differs from the released result of its number is reported (R221, R222,
R444). Every hold store learns the check horizon of a tile, but not while the tile is halted for a restart (R223). A
sent result whose checks have closed is released with a flit that names its hold ID, and one at the drover goes to its
ring; 20 µs after its last flit a result with open checks is retracted; a receiver drops a held message 100 µs after
its arrival (R222, R223, R225). -/
def Obligations.ResultsHeldAndReleased : Prop :=
  (∀ (e : Fin 9) (u : TileId) (s : State),
     (∀ h, e.val < 8 → (∀ m ∈ s.mesh, m.dst ≠ 0x400 + e.val) → (s.port e).holdStore.find? (fun h => s.opsDone h.msg) = some h →
       (s.tile h.msg.src).releasedBy h.msg.sch h.msg.seq = false → s.rdb WELT_PSTAT_CONFLICT e = false →
       Completes (.heldSend e) s fun t => t.rd WELT_HOLDID_NEXT e = (s.rd WELT_HOLDID_NEXT e + 1) % 2 ^ WELT_HOLDID_NEXT.w
         ∧ (t.port e).holdStore = (s.port e).holdStore.erase h
         ∧ (∃ k ∈ (t.port e).sentHeld, k.msg = h.msg ∧ k.id = s.rd WELT_HOLDID_NEXT e)
         ∧ t = { s with ports := t.ports, regs := t.regs })
     ∧ (∀ h, e.val < 8 → (∀ m ∈ s.mesh, m.dst ≠ 0x400 + e.val) → (s.port e).holdStore.find? (fun h => s.opsDone h.msg) = some h →
       (s.tile h.msg.src).releasedBy h.msg.sch h.msg.seq = true → Completes (.heldSend e) s fun t =>
         (t.port e).holdStore = (s.port e).holdStore.erase h ∧ (t.port e).sentHeld = (s.port e).sentHeld
         ∧ ((s.tile h.msg.src).txGenOf h.msg.sch = h.msg.gen → s.partnerOf h.msg.src ≠ some h.msg.src →
           t.rd TILE_TXC_CREDIT_CREDITS (chanOf h.msg.src h.msg.sch)
             = min 127 (s.rd TILE_TXC_CREDIT_CREDITS (chanOf h.msg.src h.msg.sch) + 1))
         ∧ ((s.tile h.msg.src).releasedDigest h.msg.sch h.msg.seq = none → t.events = s.events)
         ∧ ((s.tile h.msg.src).releasedDigest h.msg.sch h.msg.seq = some (sha256 h.msg.payload) → t.events = s.events)
         ∧ (∀ d, (s.tile h.msg.src).releasedDigest h.msg.sch h.msg.seq = some d → sha256 h.msg.payload ≠ d →
           s.reported t evReplayDivergence (tileUnit h.msg.src))
         ∧ t = { s.logged t with ports := t.ports })
     ∧ (∀ h, e.val = 8 → s.mesh = [] → s.ringHeld = [h] → s.opsDone h.msg = true →
       (s.tile h.msg.src).releasedBy h.msg.sch h.msg.seq = true → Completes (.heldSend e) s fun t =>
         t.ringHeld = [] ∧ t.ringQ = s.ringQ ∧ t = { s.logged t with ringHeld := [] })
     ∧ (∀ m, e.val < 8 → s.mesh = [m] → m.dst = 0x400 + e.val → s.outDenied e m = true → (s.port e).holdStore = [] →
       Completes (.heldSend e) s fun t => t.mesh = [] ∧ (t.port e).holdStore = []
         ∧ t.rd TILE_TXC_STAT_DENIED (chanOf m.src m.sch) = 1
         ∧ t.rd WELT_DISCARD_COUNT e = satAdd WELT_DISCARD_COUNT.w (s.rd WELT_DISCARD_COUNT e) 1
         ∧ t = { s with mesh := [], regs := t.regs, life := t.life })
     ∧ (∀ m, e.val < 8 → s.mesh = [m] → m.dst = 0x400 + e.val → s.outDenied e m = false → (s.port e).holdStore = [] →
       (s.port e).heldBytes + m.payload.length ≤ holdRoom → s.opsDone m = false → Completes (.heldSend e) s fun t =>
         t.mesh = [] ∧ (t.port e).holdStore = [⟨m, 0, none⟩] ∧ t = { s with mesh := [], ports := t.ports })
     ∧ (∀ m, e.val = 8 → s.mesh = [m] → m.dst = 0x410 → s.ringHeld = [] → (s.tile m.src).releasedBy m.sch m.seq = false →
       Completes (.heldSend e) s fun t => t = { s with mesh := [], ringHeld := [⟨m, 0, none⟩] })
     ∧ (((s.tile u).haltJob = false ∨ s.restartingAt u = false) → Completes (.horizonReport u) s fun t =>
       (∀ p : PortId, (t.port p).horizon.find u = some (s.horizon u)) ∧ t.drvHorizon = s.drvHorizon.set u (s.horizon u)
         ∧ t = { s with ports := t.ports, drvHorizon := t.drvHorizon })
     ∧ ((s.tile u).haltJob = true → s.restartingAt u = true → exec (.horizonReport u) s = .next s))
  ∧ (∀ (e : Fin 9) (p : PortId) (s : State),
       (∀ h q, e.val < 8 → (s.port e).sentHeld = h :: q → (s.port e).acked h.id = true →
         s.releasableMsg (s.port e).horizon h.msg = true → Completes (.heldRelease e) s fun t =>
           (t.port e).sentHeld.map (·.msg) = q.map (·.msg)
           ∧ (∃ f ∈ (t.port e).outQ ++ (t.port e).replay, f.type = 0x09 ∧ f.body = toLE 2 1 ++ toLE 2 0 ++ toLE 4 h.id)
           ∧ (t.tile h.msg.src).relSeq.find h.msg.sch
             = some ((h.msg.seq, sha256 h.msg.payload) :: ((s.tile h.msg.src).relSeq.find h.msg.sch).getD [])
           ∧ t = { s with ports := t.ports, tiles := t.tiles })
       ∧ (∀ h q j, e.val = 8 → s.ringHeld = h :: q → s.releasableMsg s.drvHorizon h.msg = true →
         (s.tile h.msg.src).releasedBy h.msg.sch h.msg.seq = false → s.jobByTag h.msg.job = some j →
         Completes (.heldRelease e) s fun t => t.ringHeld = q
           ∧ t.ringQ.find (ringOf j.fn h.msg.dch) = some ((s.ringQ.find (ringOf j.fn h.msg.dch)).getD [] ++ [⟨h.msg, s.now⟩])
           ∧ t = { s with ringHeld := t.ringHeld, ringQ := t.ringQ, tiles := t.tiles, regs := t.regs })
       ∧ (∀ h q x, (s.port p).sentHeld = h :: q → h.sent = some x → x + 20000 ≤ s.now →
         s.releasableMsg (s.port p).horizon h.msg = false → Completes (.holdRetractTimeout p) s fun t =>
           (t.port p).sentHeld.map (·.msg) = q.map (·.msg)
           ∧ (∃ f ∈ (t.port p).outQ ++ (t.port p).replay, f.type = 0x0A ∧ f.body = toLE 2 1 ++ toLE 2 0 ++ toLE 4 h.id)
           ∧ t = { s with ports := t.ports, regs := t.regs })
       ∧ (∀ q r, (s.port p).quarantine = q :: r → q.at' + 100000 ≤ s.now → Completes (.quarantineExpiry p) s fun t =>
         (t.port p).quarantine = r ∧ (t.port p).owed = ((s.owe p 0 (msgFlitCount q.msg.payload.length)).port p).owed
           ∧ t.rd WELT_HOLDEXP_COUNT p = satAdd WELT_HOLDEXP_COUNT.w (s.rd WELT_HOLDEXP_COUNT p) 1
           ∧ s.reported t evHoldExpired (portUnit p) ∧ t = { s.logged t with ports := t.ports, life := t.life }))

/-- A detection on a running job begins its restart: the job is RESTARTING, its tiles halted, its messages gone from
the mesh, JOB_RESTART reported (R205, R216, R217); a FAILED job's outbound messages that are not released are gone
(R27, R62). A Dual pair's signatures are compared, and a difference or 10 µs without the partner's is captured on both
tiles and detected on one (R208, R210). A taken detection is recomputed on the partner that the walk finds, or noted
as unexplained; a recompute that shows the shadow lane right charges the checker, and one of an ATTN waits for held
lines of its pages; the norms of a corrupt map come back pair by pair (R211 to R215, R238). -/
def Obligations.DetectionsAndRecomputes : Prop :=
  (∀ (u : TileId) (s : State),
     (∀ j d, s.jobOf u = some j → d ∈ (s.tile u).detections → d.taken = false → j.state = 3 →
       Completes (.jobFaultDetect u) s fun t => (∀ k ∈ t.jobs, k.tag = j.tag → k.state = 4)
         ∧ (∀ v ∈ j.all, (t.tile v).haltJob = true ∧ t.runs v = false) ∧ (∀ m ∈ t.mesh, m.job ≠ j.tag)
         ∧ (∀ d ∈ (t.tile u).detections, d.taken = true) ∧ s.reported t evJobRestart stratumUnit
         ∧ t = { s.charged t with dstate := s.dstate, drain := s.drain, drainUnits := s.drainUnits })
     ∧ (∀ j d, s.jobOf u = some j → d ∈ (s.tile u).detections → d.taken = false → j.state = 7 →
       Completes (.jobFaultDetect u) s fun t => (∀ m ∈ t.mesh, m.job = j.tag → m.dst < 0x400)
         ∧ (∀ k ∈ t.tiles, ∀ m ∈ k.2.sendBuf, m.job = j.tag → m.dst < 0x400)
         ∧ (∀ h ∈ t.ringHeld, h.msg.job ≠ j.tag) ∧ (∀ p : PortId, ∀ h ∈ (t.port p).holdStore, h.msg.job ≠ j.tag)
         ∧ (∀ p : PortId, ∀ h ∈ (t.port p).sentHeld, h.msg.job ≠ j.tag) ∧ (∀ d ∈ (t.tile u).detections, d.taken = true)
         ∧ t = { s with mesh := t.mesh, tiles := t.tiles, jobs := t.jobs, ringHeld := t.ringHeld, ports := t.ports, regs := t.regs })
     ∧ ((∀ d ∈ (s.tile u).detections, d.taken = true) → exec (.jobFaultDetect u) s = .next s)
     ∧ (∀ p q d e r x, s.pairTiles u = some (p, q) → p ≠ q → (s.tile p).dual = d :: r → (s.tile q).dual = e :: x →
       d.sameAs e = true →
       (d.sig = e.sig → Completes (.dualCompare u) s fun t => (t.tile p).dual = r ∧ (t.tile q).dual = x
         ∧ (t.tile p).detections.length = (s.tile p).detections.length ∧ t = { s with tiles := t.tiles })
       ∧ (d.sig ≠ e.sig → (s.jobOf p).isSome = true → Completes (.dualCompare u) s fun t =>
         (t.tile p).dual = r ∧ (t.tile q).dual = x ∧ t.rdb NBC_DUAL_MISMATCH p = true ∧ t.rdb NBC_DUAL_MISMATCH q = true
         ∧ (t.tile p).detections = (s.tile p).detections ++ [⟨2, d.op, e.sig + 1, s.now, false⟩]
         ∧ t = { s with tiles := t.tiles, regs := t.regs }))
     ∧ (∀ v d r, s.partnerOf u = some v → (s.tile u).dual = d :: r → d.at' + 10000 ≤ s.now →
       (s.tile v).dual.any d.sameAs = false → Completes (.dualLagTimeout u) s fun t => (t.tile u).dual = r
         ∧ t.rdb NBC_DUAL_MISMATCH u = true ∧ t.rdb NBC_DUAL_MISMATCH v = true
         ∧ (s.rdb NBC_DUAL_MISMATCH u = false → t.rd NBC_DUAL_LAG u = 1)
         ∧ t = { s with tiles := t.tiles, regs := t.regs }))
  ∧ (∀ (u : TileId) (fault : Option ArithFault) (s : State),
       (∀ d q, (s.tile u).boundWait = [] → (s.tile u).detections = d :: q → d.taken = true → d.trigger ≤ 2 → d.op.isSome = true →
         (d.trigger ≠ 0 ∨ s.boundMode u = true) → (∀ k ∈ s.tiles, ∀ r, k.2.recomp = some r → r.orig ≠ u.val) →
         (∀ p, s.partnerFor u = some p → Completes (.recomputeIssue u) s fun t =>
           (∃ r, (t.tile p).recomp = some r ∧ r.orig = u.val ∧ r.det = d ∧ r.issued = s.now)
           ∧ t = { s.charged t with reguls := t.reguls })
         ∧ (s.partnerFor u = none → Completes (.recomputeIssue u) s fun t => (t.tile u).detections = q
           ∧ s.reported t evCheckUnexplained (tileUnit u) ∧ t = { s.logged t with tiles := t.tiles }))
       ∧ (∀ r o, (s.tile u).recomp = some r → r.det.op = some o → s.redoHeld r.orig o = true →
         exec (.recomputeComplete u fault) s = .next s)
       ∧ (∀ r, (s.tile u).recomp = some r → (r.det.op.map (s.redoHeld r.orig)).getD false = false →
         (s.tile r.orig).detections.contains r.det = false →
         Completes (.recomputeComplete u fault) s fun t => (t.tile u).recomp = none ∧ t.events = s.events
           ∧ t = { s with tiles := t.tiles, regs := t.regs, reguls := t.reguls, life := t.life })
       ∧ (∀ r o c, (s.tile u).recomp = some r → (s.tile r.orig).detections.contains r.det = true → r.det.op = some o →
         s.redoHeld r.orig o = false → r.det.trigger = 1 → o.viol = some c → redoStep c fault = c.y →
           Completes (.recomputeComplete u fault) s fun t =>
           (t.tile u).recomp = none
           ∧ (∃ e ∈ t.events, e.code = evShadowMismatch ∧ e.unit = tileUnit r.orig ∧ e.cls = clsChecker)
           ∧ t = { s.charged t with reguls := t.reguls })
       ∧ (∀ j d i r, s.jobOf u = some j → (s.tile u).regen = (d, i) :: r → j.state = 3 →
         ((Matmul.of d).m ≤ i → Completes (.normRegen u) s fun t => (t.tile u).regen = r ∧ (t.tile u).winActs = (s.tile u).winActs
           ∧ s.otherTiles t u ∧ t = { s with tiles := t.tiles })
         ∧ (i < (Matmul.of d).m → (∀ p ∈ j.patches, p.1 = u.val → p.2.1 ≠ (Matmul.of d).norm + 8 * i) →
           Completes (.normRegen u) s fun t => (t.tile u).regen = (d, i + 1) :: r
             ∧ (t.tile u).winActs = (s.tile u).winActs ++ [.spad ((Matmul.of d).norm + 8 * i) ((Matmul.of d).pairBytes (s.tile u) i)]
             ∧ (∀ k ∈ t.jobs, k.tag = j.tag →
               (u.val, (Matmul.of d).norm + 8 * i, (Matmul.of d).pairBytes (s.tile u) i) ∈ k.patches)
             ∧ s.otherTiles t u ∧ t = { s with tiles := t.tiles, jobs := t.jobs })))

/-- A tile is restored from its checkpoint if the digest holds, else its job is FAILED and CHECKPOINT_CORRUPT
reported; with every tile restored the job runs again, or is PARKED (R216, R221). A self-test that passes shows its
time, one that fails makes the tile permanent-suspect (R234). A checkpoint that is due halts the tiles of its job;
each tile that is quiet writes its record and image into its other slot, once no line of that is held; with all of
them written the logs are empty and the job goes on, unless the images of a Dual pair differ (R208, R218 to R220,
R238). -/
def Obligations.RestoresSelfTestsAndCheckpoints : Prop :=
  (∀ (u : TileId) (s : State),
     (∀ j, s.jobs.find? (fun j => j.all.contains u.val) = some j → j.tag ≠ 0 → s.mayRestore j u = true →
       s.reloadWaits j u = false → (s.tile u).heldLines = [] →
       (∀ c, (s.tile u).ckpts.find (s.tile u).curSlot = some c → (s.slotOk u c).2 = true → Completes (.tileRestore u) s fun t =>
         (t.tile u).restored = true ∧ (t.tile u).x = c.x ∧ (t.tile u).pc = c.pc ∧ t.rd TILE_STATE_STATE u = 0
         ∧ (t.tile u).taCount = 0 ∧ t.keys = s.keys ∧ t.host = s.host ∧ t = { s.charged t with flows := t.flows })
       ∧ ((s.tile u).ckpts.find (s.tile u).curSlot = none → Completes (.tileRestore u) s fun t =>
         (∀ k ∈ t.jobs, k.tag = j.tag → k.state = 7) ∧ s.reported t evCheckpointCorrupt (tileUnit u)
         ∧ t = { s.charged t with flows := t.flows })
       ∧ (∀ c, (s.tile u).ckpts.find (s.tile u).curSlot = some c → (s.slotOk u c).2 = false → Completes (.tileRestore u) s fun t =>
         (∀ k ∈ t.jobs, k.tag = j.tag → k.state = 7)
         ∧ (∃ e ∈ t.events, e.code = evCheckpointCorrupt ∧ e.unit = tileUnit u)
         ∧ t = { s.charged t with flows := t.flows }))
     ∧ (∀ job j, s.jobByTag job = some j → s.mayResume j ((j.restart.map (·.park)).getD false) = true →
       Completes (.jobResume job) s fun t => (∀ k ∈ t.jobs, k.tag = job →
           k.state = (if (j.restart.map (·.park)).getD false then 5 else 3) ∧ k.restart = none ∧ k.first = none)
         ∧ ((j.restart.map (·.park)).getD false = false → ∀ v ∈ j.all, (t.tile v).haltJob = false)
         ∧ t = { s with jobs := t.jobs, tiles := t.tiles, regs := t.regs, mboxes := t.mboxes, msix := t.msix, msixPend := t.msixPend })
     ∧ ((s.phase = .open ∨ s.phase = .firmware) → s.penned (tileUnit u) = false → (s.tile u).off = false →
       Completes (.selftestSchedule u) s fun t => (t.tile u).selftest = true ∧ s.otherTiles t u ∧ t = { s with tiles := t.tiles })
     ∧ (s.penned (tileUnit u) = true → exec (.selftestSchedule u) s = .next s)
     ∧ ((s.tile u).selftest = true → s.testable u = true → (s.tile u).testOn = false →
       (s.tile u).selftestFor = none →
       (∀ k ∈ s.tiles, k.2.boundWait.contains u.val = false) → Completes (.selftestDone u true) s fun t =>
         (t.tile u).selftest = false ∧ t.rd NBC_SELFTEST_TIME u = s.now % 2 ^ NBC_SELFTEST_TIME.w ∧ t.events = s.events
         ∧ s.otherTiles t u ∧ t = { s with tiles := t.tiles, regs := t.regs, life := t.life })
     ∧ ((s.tile u).selftest = true → s.testable u = true → (s.tile u).testOn = false →
       s.penned (tileUnit u) = false →
       Completes (.selftestDone u false) s fun t => (t.hist (tileUnit u)).replace = true
         ∧ (∃ e ∈ t.events, e.code = evSelftestFail ∧ e.unit = tileUnit u) ∧ t = s.charged t))
  ∧ (∀ (u : TileId) (job : Nat) (s : State) (j : Job),
       (s.jobByTag job = some j → j.state = 3 → j.ckptOn = false → s.ckptDueNow j = true →
         Completes (.checkpointTimer job) s fun t =>
         (∀ k ∈ t.jobs, k.tag = job → k.ckptOn = true ∧ k.ckptDue = false)
           ∧ (∀ v ∈ j.all, (t.tile v).haltCkpt = true ∧ (t.tile v).ckptDone = false ∧ t.runs v = false)
           ∧ t = { s with jobs := t.jobs, tiles := t.tiles })
       ∧ (s.jobByTag job = some j → s.ckptDueNow j = false → exec (.checkpointTimer job) s = .next s)
       ∧ (s.rangeHeld u (ckptBase (1 - (s.tile u).curSlot) / 64) 0x20000 = true → exec (.checkpointWrite u) s = .next s)
       ∧ (s.jobOf u = some j → j.ckptOn = true → (s.tile u).ckptDone = false → (s.tile u).quiet = true →
         s.rangeHeld u (ckptBase (1 - (s.tile u).curSlot) / 64) 0x20000 = false →
         (j.all.any (fun v => (s.tile v).ckptDone) = true ∨ (j.all.all (fun v => (s.tile v).quiet) = true ∧ s.meshQuiet j = true)) →
         Completes (.checkpointWrite u) s fun t => (t.tile u).ckptDone = true ∧ (t.tile u).curSlot = (s.tile u).curSlot
           ∧ (∃ c, (t.tile u).ckpts.find (1 - (s.tile u).curSlot) = some c ∧ c.tag = j.tag ∧ c.seq = j.ckptSeq + 1
               ∧ c.at' = s.now ∧ c.spad = (s.tile u).spad ∧ c.x = (s.tile u).x ∧ c.pc = (s.tile u).pc)
           ∧ s.otherTiles t u ∧ t = { s with tiles := t.tiles, sessions := t.sessions })
       ∧ ((s.tile u).quiet = false → exec (.checkpointWrite u) s = .next s)
       ∧ (s.jobByTag job = some j → j.ckptOn = true → j.all.all (fun v => (s.tile v).ckptDone) = true →
         (s.imagesDiffer j = none → Completes (.checkpointComplete job) s fun t =>
           (∀ k ∈ t.jobs, k.tag = job → k.ckptOn = false ∧ k.lastCkpt = s.now ∧ k.poisonHit = [])
           ∧ (∀ v ∈ j.all, (t.tile v).undo = [] ∧ (t.tile v).ckptDone = false ∧ (t.tile v).haltCkpt = false)
           ∧ t = { s with jobs := t.jobs, tiles := t.tiles, regs := t.regs, mboxes := t.mboxes, msix := t.msix, msixPend := t.msixPend,
                          sessions := t.sessions })
         ∧ (∀ p, s.imagesDiffer j = some p → (s.jobOf p).isSome = true → Completes (.checkpointComplete job) s fun t =>
           (∀ k ∈ t.jobs, k.tag = job → k.ckptOn = false)
           ∧ (t.tile p).detections = (s.tile p).detections ++ [⟨2, none, 0, s.now, false⟩]
           ∧ t = { s with jobs := t.jobs, tiles := t.tiles, mboxes := t.mboxes, msix := t.msix, msixPend := t.msixPend })))

/-- At a digest point a member keeps its tile digests and adds its record, or waits for held lines and for the drover;
50 ms after a point's first record the point is decided (R227 to R229, R238, R378). The scheduler begins the next
period of a tile at its time, and what waits for a tile of no scoring job goes on (R28, R354). -/
def Obligations.FlocksAndPeriods : Prop :=
  ∀ (u : TileId) (job : Nat) (flock : BitVec 16) (point : W32) (s : State),
    (∀ j n, s.jobByTag job = some j → s.digestPoint j = some n →
      s.phase ≠ .drover → (j.tiles.any fun v => (j.weightLines v).any (s.lineHeld v)) = false →
      (∀ m, s.flockDone.find (j.policy.flock * 4 + j.policy.kind) = some m → m < n) → Completes (.digestPoint job) s fun t =>
      t.drecSeq = (s.drecSeq + 1) % 2 ^ 32 ∧ (∀ k ∈ t.jobs, k.tag = job → k.digestAt = n ∧ k.digestDue = none)
        ∧ (∃ r ∈ t.flocks, r.flock = j.policy.flock ∧ r.kind = j.policy.kind ∧ r.point = n ∧ r.origin = s.stackId
          ∧ r.recSeq = s.drecSeq)
        ∧ t = { s.charged t with drecSeq := t.drecSeq, flockAt := t.flockAt, flockDone := t.flockDone, flocks := t.flocks })
    ∧ (∀ j n, s.jobByTag job = some j → s.digestPoint j = some n →
      (s.phase = .drover ∨ (j.tiles.any fun v => (j.weightLines v).any (s.lineHeld v)) = true) →
      Completes (.digestPoint job) s fun t => (∀ k ∈ t.jobs, k.tag = job → k.digestDue = some n) ∧ t = { s with jobs := t.jobs })
    ∧ (∀ j, s.jobByTag job = some j → s.digestPoint j = none → exec (.digestPoint job) s = .next s)
    ∧ (∀ kind x, (kind = 0 ∨ kind = 1) → s.flockAt.find (flockKey flock.toNat kind point.toNat) = some x →
      s.phase ≠ .drover → x + 50000000 ≤ s.now → Completes (.flockDecisionTimeout flock point) s fun t =>
        t.flockAt.find (flockKey flock.toNat kind point.toNat) = none
        ∧ (∀ r ∈ t.flocks, r.flock = flock.toNat → r.kind = kind → point.toNat ≤ r.point)
        ∧ t.flockDone.find (flock.toNat * 4 + kind) = some point.toNat
        ∧ t = { s.charged t with flockAt := t.flockAt, flockDone := t.flockDone, flocks := t.flocks })
    ∧ ((∀ kind, kind < 2 → s.flockAt.find (flockKey flock.toNat kind point.toNat) = none) →
      exec (.flockDecisionTimeout flock point) s = .next s)
    ∧ (s.phase = .drover → exec (.flockDecisionTimeout flock point) s = .next s)
    ∧ (∀ j a, s.jobOf u = some j → (s.tile u).sched.nextAt = some a → j.state = 3 → j.policy.kind = 0 → s.meshStop = false →
      j.tiles.contains u.val = true → a ≤ s.now → Completes (.schedulerPeriod u) s fun t =>
        (t.tile u).sched.s = a ∧ (t.tile u).sched.begun = true ∧ (t.tile u).sched.done = 0
        ∧ (t.tile u).sched.k = (if (s.tile u).sched.begun then (s.tile u).sched.k + 1 else 0)
        ∧ t = { s.logged t with tiles := t.tiles, jobs := t.jobs, mesh := t.mesh, ports := t.ports })
    ∧ ((∀ j, s.jobOf u = some j → j.policy.kind ≠ 0) → Completes (.schedulerPeriod u) s fun t =>
      (s.linkTokens u = [] → t = s) ∧ t = { s with mesh := t.mesh, ports := t.ports })
    ∧ (∀ j, s.jobOf u = some j → j.policy.kind = 0 → (s.tile u).sched.nextAt = none → exec (.schedulerPeriod u) s = .next s)

/-! ## Vertical channels (R238 to R251, R258, R264, R265) -/

/-- A request reads a line: a failed check holds the line, poison is reported, an empty slot noted, a good line
passes. A refetch delivers and corrects the line, a first failure allows one more, and then the drover recomputes the
line or it is poisoned; one that an invalidation met is unwritten at the end, and an undo entry that found it held
takes it up then (R220, R238, R242, R244 to R249, R251, R258). A whole-line write leaves the line good under its
slot's key and, where the undo entry's reads find nothing amiss, every other line as it was; without a key it writes
nothing. A partial write merges its bytes into the line as it stands. An invalidated line is unwritten, a held one at
the end of its handling (R243, R250, R251, R258). -/
def Obligations.LinesReadAndWritten : Prop :=
  (∀ (u : TileId) (line : BitVec 22) (flip : Bytes) (s : State), flip.length ≤ 68 →
     (s.chanUp u = true → s.lineHeld u line.toNat = false →
       (classify ((s.arrayLine u line.toNat).flipped flip) line.toNat = .failed → Completes (.lineRead u line flip) s fun t =>
         (t.tile u).heldLines.find line.toNat = some ⟨0, s.now, false, none, (s.scrubsAt u line.toNat).isEmpty, false, false⟩
         ∧ t.rd VCH_ERR_LINE u = line.toNat
         ∧ t.rd VCH_ERR_OUTCOME u = 0 ∧ t.rd VCH_CRCERR_COUNT u = satAdd VCH_CRCERR_COUNT.w (s.rd VCH_CRCERR_COUNT u) 1
         ∧ (t.tile u).col = (s.tile u).col ∧ s.otherTiles t u ∧ t = { s with tiles := t.tiles, regs := t.regs, life := t.life })
       ∧ (classify ((s.arrayLine u line.toNat).flipped flip) line.toNat = .poisoned → Completes (.lineRead u line flip) s fun t =>
         s.reported t evPoisonRead (chanUnit u) ∧ t.rd VCH_ERR_OUTCOME u = 4 ∧ t = { s.logged t with life := t.life })
       ∧ (classify ((s.arrayLine u line.toNat).flipped flip) line.toNat = .good → s.key (s.slotFor u line.toNat) = none →
         Completes (.lineRead u line flip) s fun t => t.rd VCH_ERR_OUTCOME u = 5 ∧ t.rd VCH_ERR_LINE u = line.toNat
           ∧ t = { s with regs := t.regs })
       ∧ (classify ((s.arrayLine u line.toNat).flipped flip) line.toNat = .good → (s.key (s.slotFor u line.toNat)).isSome = true →
         exec (.lineRead u line flip) s = .next s)
       ∧ (classify ((s.arrayLine u line.toNat).flipped flip) line.toNat = .unwritten → exec (.lineRead u line flip) s = .next s))
     ∧ (∀ h, (s.tile u).heldLines.find line.toNat = some h → h.drover = false → h.mark = false → (s.tile u).poolQ = [] →
       (classify ((s.arrayLine u line.toNat).flipped flip) line.toNat = .good → h.merge = none →
         (h.undo = true → (s.key (s.slotFor u line.toNat)).isSome = true) →
         Completes (.refetchResult u line flip) s fun t => (t.tile u).heldLines.find line.toNat = none
           ∧ (∀ k, h.undo = true → s.key (s.slotFor u line.toNat) = some k → ∀ e ∈ (t.tile u).undo, e.1 = line.toNat / 64 →
             e.2.find line.toNat
               = some (some (xtsDecrypt k (lineTweak u line.toNat) ((s.arrayLine u line.toNat).flipped flip).ct)))
           ∧ (t.tile u).line line.toNat = (s.arrayLine u line.toNat).flipped flip ∧ t.rd VCH_ERR_OUTCOME u = 1
           ∧ t.rd VCH_CORR_COUNT u = satAdd VCH_CORR_COUNT.w (s.rd VCH_CORR_COUNT u) 1
           ∧ (h.own = true → t.mboxes = s.mboxes)
           ∧ (∀ w, w ≠ u.val → t.tile w = { s.tile w with wdogLeft := (t.tile w).wdogLeft, wdogFrom := (t.tile w).wdogFrom })
           ∧ t = { s with tiles := t.tiles, regs := t.regs, life := t.life, mboxes := t.mboxes })
       ∧ (classify ((s.arrayLine u line.toNat).flipped flip) line.toNat = .failed → h.tries = 0 →
         Completes (.refetchResult u line flip) s fun t =>
           (t.tile u).heldLines.find line.toNat = some { h with tries := 1 } ∧ (t.tile u).col = (s.tile u).col
           ∧ t.rd VCH_CRCERR_COUNT u = satAdd VCH_CRCERR_COUNT.w (s.rd VCH_CRCERR_COUNT u) 1
           ∧ t = { s with tiles := t.tiles, regs := t.regs, life := t.life })
       ∧ (classify ((s.arrayLine u line.toNat).flipped flip) line.toNat = .failed → h.tries ≠ 0 →
         (s.recompSource u line.toNat).isSome = true → Completes (.refetchResult u line flip) s fun t =>
           (t.tile u).heldLines.find line.toNat = some { h with tries := 2, drover := true }
           ∧ (h.own = true → (t.tile u).wdogFrom = none)
           ∧ t = { s with tiles := t.tiles, regs := t.regs, life := t.life })
       ∧ (classify ((s.arrayLine u line.toNat).flipped flip) line.toNat = .failed → h.tries ≠ 0 → h.merge = none →
         s.recompSource u line.toNat = none → Completes (.refetchResult u line flip) s fun t =>
           (t.tile u).line line.toNat = poisonLine line.toNat ∧ (t.tile u).heldLines.find line.toNat = none
           ∧ (∃ e ∈ t.events, e.code = evLinePoisoned ∧ e.unit = chanUnit u ∧ e.cls = clsChannel) ∧ t = s.charged t))
     ∧ (∀ h, (s.tile u).heldLines.find line.toNat = some h → h.drover = false → h.mark = true → (s.tile u).poolQ = [] →
       classify ((s.arrayLine u line.toNat).flipped flip) line.toNat = .good → h.merge = none →
       Completes (.refetchResult u line flip) s fun t => (t.tile u).heldLines.find line.toNat = none
         ∧ classify ((t.tile u).line line.toNat) line.toNat = .unwritten)
     ∧ (∀ h, (s.tile u).heldLines.find line.toNat = some h → h.drover = true → h.merge = none → h.mark = false →
       (s.tile u).poolQ = [] →
       (∀ j a k, s.now ≤ h.since + 250000 → s.recompSource u line.toNat = some (j, a) → s.masters j.fn = true →
         s.key (s.slotFor u line.toNat) = some k → s.undoFor u line.toNat = s → Completes (.lineRecompute u line true) s fun t =>
           (t.tile u).line line.toNat = goodLine k u line.toNat (s.rdHost a 64) ∧ (t.tile u).heldLines.find line.toNat = none
           ∧ t.rd VCH_RECOMP_COUNT u = satAdd VCH_RECOMP_COUNT.w (s.rd VCH_RECOMP_COUNT u) 1
           ∧ s.reported t evLineRecomputed (chanUnit u)
           ∧ t = { s.logged t with tiles := t.tiles, sessions := t.sessions, life := t.life, mboxes := t.mboxes })
       ∧ Completes (.lineRecompute u line false) s (fun t => (t.tile u).line line.toNat = poisonLine line.toNat
           ∧ (t.tile u).heldLines.find line.toNat = none ∧ t = s.charged t)))
  ∧ (∀ (u : TileId) (line : BitVec 22) (data : Bytes) (s : State),
       (data.length = 64 → s.chanUp u = true → s.lineHeld u line.toNat = false →
         (∀ k, s.key (s.slotFor u line.toNat) = some k → Completes (.lineWrite u line data) s fun t =>
           (t.tile u).line line.toNat = goodLine k u line.toNat data
           ∧ ((s.blockLines u (line.toNat / 64)).1 = s → (∀ l, l ≠ line.toNat → (t.tile u).line l = (s.tile u).line l)
             ∧ s.otherTiles t u ∧ t = { s with tiles := t.tiles, jobs := t.jobs, sessions := t.sessions })
           ∧ t = s.charged t)
         ∧ (s.key (s.slotFor u line.toNat) = none → exec (.lineWrite u line data) s = .next s))
       ∧ (∀ (off : BitVec 6), data ≠ [] → off.toNat + data.length ≤ 64 → s.chanUp u = true → s.lineHeld u line.toNat = false →
         (∀ k, classify (s.arrayLine u line.toNat) line.toNat = .good → s.key (s.slotFor u line.toNat) = some k →
           Completes (.partialLineWrite u line off data) s fun t =>
             (let old := xtsDecrypt k (lineTweak u line.toNat) (s.arrayLine u line.toNat).ct
              (t.tile u).line line.toNat
               = goodLine k u line.toNat (old.take off.toNat ++ data ++ old.drop (off.toNat + data.length)))
             ∧ ((s.blockLines u (line.toNat / 64)).1 = s → (∀ l, l ≠ line.toNat → (t.tile u).line l = (s.tile u).line l)
               ∧ s.otherTiles t u ∧ t = { s with tiles := t.tiles, jobs := t.jobs, sessions := t.sessions })
             ∧ t = s.charged t)
         ∧ (classify (s.arrayLine u line.toNat) line.toNat = .failed → Completes (.partialLineWrite u line off data) s fun t =>
             (t.tile u).heldLines.find line.toNat = some ⟨0, s.now, false, some (off.toNat, data), s.appending u, false, false⟩
             ∧ (t.tile u).col = (s.tile u).col ∧ t = { s with tiles := t.tiles, regs := t.regs, life := t.life })
         ∧ (classify (s.arrayLine u line.toNat) line.toNat = .poisoned → Completes (.partialLineWrite u line off data) s fun t =>
             (t.tile u).col = (s.tile u).col ∧ s.reported t evPoisonRead (chanUnit u)))
       ∧ (∀ n, s.foldOff (foldOf u) = false → Completes (.invalidateRange u line n) s fun t =>
         (∀ l, line.toNat ≤ l → l < line.toNat + n → l < colLines →
           (s.lineHeld u l = false → classify (t.arrayLine u l) l = .unwritten)
           ∧ (∀ h, (s.tile u).heldLines.find l = some h → (t.tile u).heldLines.find l = some { h with mark := true }))
         ∧ (∀ l v, (l < line.toNat ∨ line.toNat + n ≤ l ∨ s.lineHeld u l = true) → v ≠ ⟨zeros 64, markUnwritten⟩ →
             (s.tile u).col.find l = some v → (t.tile u).col.find l = some v)
         ∧ (∀ l, (l < line.toNat ∨ line.toNat + n ≤ l) → t.arrayLine u l = s.arrayLine u l)
         ∧ s.otherTiles t u ∧ t = { s with tiles := t.tiles })
       ∧ (∀ n, s.foldOff (foldOf u) = true → exec (.invalidateRange u line n) s = .next s))

/-- A training in which every layer passes brings the channel UP with its column unwritten; else the channel and its
tile are penned. Refresh and re-centring keep their periods; sixteen failed checks within 1 ms retrain a channel in
service (R239, R264, R265). -/
def Obligations.ChannelsTrain : Prop :=
  ∀ (u : TileId) (r : Training) (s : State),
    (trainingOk r = true → s.foldOff (foldOf u) = false → s.rd VCH_STATE_STATE u = 1 →
      (r.attempts.getLast? = some 15#4 → Completes (.channelTraining u r) s fun t => t.rd VCH_STATE_STATE u = 2
        ∧ t.rd VCH_TRAIN_LAYERS u = 15 ∧ t.rd VCH_TRAIN_EYE u = r.eye.toNat ∧ (t.tile u).ckpts = []
        ∧ (∀ l, l < colLines → classify ((t.tile u).line l) l = .unwritten) ∧ s.otherTiles t u
        ∧ t = { s with tiles := t.tiles, regs := t.regs, report := t.report })
      ∧ (r.attempts.getLast? ≠ some 15#4 → Completes (.channelTraining u r) s fun t => t.rd VCH_STATE_STATE u = 0
        ∧ t.penned (chanUnit u) = true ∧ t.penned (tileUnit u) = true
        ∧ t = { s.charged t with report := t.report, reguls := t.reguls }))
    ∧ (s.foldOff (foldOf u) = true → trainingOk r = true → exec (.channelTraining u r) s = .next s)
    ∧ (∀ n, trainingOk r = true → r.attempts.getLast? = some 15#4 → s.chanUp u = true → 16 ≤ (s.tile u).failTimes.length →
      (s.tile u).failTimes.headD 0 ≤ (s.tile u).failTimes.getLastD 0 + 1000000 → n = s.rd VCH_TRAIN_RETRAINS u →
      Completes (.channelRetrain u r) s fun t => t.rd VCH_STATE_STATE u = 2 ∧ (t.tile u).failTimes = []
        ∧ t.rd VCH_TRAIN_RETRAINS u = min 255 (n + 1) ∧ s.reported t evChannelRetrain (chanUnit u)
        ∧ s.otherTiles t u ∧ t = { s.logged t with tiles := t.tiles, life := t.life, report := t.report })
    ∧ (trainingOk r = true → (s.tile u).failTimes.length < 16 → exec (.channelRetrain u r) s = .next s)
    ∧ (s.chanUp u = true → (s.tile u).lastCentre + 250000000 ≤ s.now → Completes (.eyeRecentre u) s fun t =>
      (t.tile u).lastCentre = s.now ∧ s.otherTiles t u ∧ t = { s with tiles := t.tiles })
    ∧ (∀ (layer : BitVec 2) (bank : BitVec 4), s.foldOff (foldOf u) = false → s.regOn (cirOf (foldOf u)) = true →
      ((s.tile u).lastRefresh.find (16 * layer.toNat + bank.toNat)).getD 0
        + (if s.rdb VCH_STATE_REFRESH2X u then 16000000 else 32000000) ≤ s.now → Completes (.refresh u layer bank) s fun t =>
        (t.tile u).lastRefresh.find (16 * layer.toNat + bank.toNat) = some s.now
        ∧ s.otherTiles t u ∧ t = { s with tiles := t.tiles })
    ∧ (∀ layer bank, s.regOn (cirOf (foldOf u)) = false → exec (.refresh u layer bank) s = .next s)

/-! ## Regulators and the rein (R267 to R303, R326) -/

/-- A set-point is clamped to its family and stored; on a regulator that is enabled and on it takes the next SEQ,
waits as the command in force, and a NOTCH frame is due to a TLR's tile. Reached, it is acknowledged; a soft start
ends, and that of a source that an overload had stopped resumes the tiles it held. Nothing is enabled before the
firmware runs, in recovery mode, or while the stratum waits for PERST#. A regulator that is switched off takes along
what its rail supplied (R269, R270, R275, R291, R292, R294, R298, R299, R402, R414). -/
def Obligations.SetPoints : Prop :=
  ∀ (r : RegNo) (code : Byte) (notch : BitVec 4) (s : State),
    (s.rdb TLR_CFG_EN r = true → s.regOn r = true → Completes (.setPointCommand r code notch) s fun t =>
      t.rd TLR_SET_VSET r = clampN (famLo r) (famHi r) code.toNat
        ∧ t.rd TLR_SET_SEQ r = (s.rd TLR_SET_SEQ r + 1) % 16
        ∧ (t.regul r).cmd = some ⟨(s.rd TLR_SET_SEQ r + 1) % 16, clampN (famLo r) (famHi r) code.toNat,
            decide (clampN (famLo r) (famHi r) code.toNat ≠ code.toNat), notch.toNat, none⟩
        ∧ (r.val < 1024 → t.rd TLR_SET_NOTCH r = notch.toNat ∧ (t.tile r).notchDue
            = some (notch.toNat + 16 * ((s.rd TLR_SET_SEQ r + 1) % 16), s.noticePeriod))
        ∧ t = { s with regs := t.regs, reguls := t.reguls, tiles := t.tiles })
    ∧ ((s.rdb TLR_CFG_EN r = false ∨ s.regOn r = false) → Completes (.setPointCommand r code notch) s fun t =>
      t.rd TLR_SET_VSET r = clampN (famLo r) (famHi r) code.toNat ∧ t.rd TLR_SET_SEQ r = s.rd TLR_SET_SEQ r
        ∧ t = { s with regs := t.regs })
    ∧ (s.regOn r = true → s.arrived r = true → (s.regul (s.sourceOf r)).tripped = false → (s.regul r).again = false →
      (s.regul r).back = false → Completes (.setPointReached r) s fun t =>
      (t.regul r).cmd = none ∧ t.rd TLR_STAT_SLEW r = (if s.vref r = (s.regul r).refTo then 0 else 1)
        ∧ t.rd TLR_STAT_STATE r = (if s.rd TLR_STAT_STATE r = rsSoft ∧ s.vref r = (s.regul r).refTo then
            (if s.rdb TLR_TIE_SOURCE r then rsSource else rsRegulate) else s.rd TLR_STAT_STATE r)
        ∧ (∀ k, (s.regul r).cmd = some k → r.val < 1024 → ∃ f ∈ (t.tile r).toTile, f.type = rfAck
            ∧ f.payload % 256 = (if k.clamped then 0x08 else 0x00))
        ∧ t = { s with regs := t.regs, reguls := t.reguls, tiles := t.tiles })
    ∧ (s.regState r = rsSoft → s.vref r = (s.regul r).refTo → s.arrived r = true → (s.regul r).tripped = false →
      (s.regul r).again = true → (s.regul r).back = false → Completes (.setPointReached r) s fun t =>
        t.rd TLR_STAT_STATE r = (if s.rdb TLR_TIE_SOURCE r then rsSource else rsRegulate) ∧ (t.regul r).again = false
        ∧ (∀ v, (v = regTile r ∨ v = regTile (neighbourReg r)) → (s.tile v).haltRail = true →
          ∃ f ∈ (t.tile v).toTile, f.type = rfResume)
        ∧ t = { s with regs := t.regs, reguls := t.reguls, tiles := t.tiles })
    ∧ (s.arrived r = false → exec (.setPointReached r) s = .next s)
    ∧ (let q := s.sourceOf r
      s.regOn r = true → s.regOn q = true → (s.regul r).cmd.isSome = true → s.arrived r = true →
      (s.regul q).tripped = true → (s.regul q).arrival + 5000 ≤ s.now → Completes (.setPointTimeout r) s fun t =>
        s.regFaulted t q 4 ∧ t = s.railed t)
    ∧ ((s.regul r).cmd = none → exec (.setPointTimeout r) s = .next s)
    ∧ (∀ mv, s.rdb TLR_CFG_EN r = false → s.penned (regUnit r) = false → s.inService = true →
      (s.regState r ≠ rsTied → Completes (.regulatorEnable r mv) s fun t =>
        t.rdb TLR_CFG_EN r = true ∧ t.rd TLR_STAT_STATE r = rsSoft ∧ t.rd TLR_STAT_PHASES r = famPhases r
        ∧ (t.regul r).refFrom = (if 100 < mv then mv / 5 else 0)
        ∧ t = { s with regs := t.regs, reguls := t.reguls, loops := t.loops })
      ∧ (s.regState r = rsTied → Completes (.regulatorEnable r mv) s fun t =>
        t.rdb TLR_CFG_EN r = true ∧ t.rd TLR_STAT_STATE r = rsTied ∧ t = { s with regs := t.regs }))
    ∧ (∀ mv, (s.rdb TLR_CFG_EN r = true ∨ s.penned (regUnit r) = true ∨ s.inService = false) →
      exec (.regulatorEnable r mv) s = .next s)
    ∧ (s.rdb TLR_CFG_EN r = true →
      (s.regState r ≠ rsTied → Completes (.regulatorDisable r) s fun t => t.rdb TLR_CFG_EN r = false
        ∧ t.rd TLR_STAT_STATE r = rsOff ∧ t.rd TLR_STAT_PHASES r = 0
        ∧ (r.val < 2048 → (s.tile (regTile r)).off = false → (t.tile (regTile r)).lost = true) ∧ t = s.railed t)
      ∧ (s.regState r = rsTied → Completes (.regulatorDisable r) s fun t => t.rdb TLR_CFG_EN r = false
        ∧ t.rd TLR_STAT_STATE r = rsTied ∧ t = { s with regs := t.regs }))
    ∧ (s.rdb TLR_CFG_EN r = false → exec (.regulatorDisable r) s = .next s)

/-- A frame that arrives takes effect once: NOTCH sets TARGET and a lower notch at once, ACK a higher one, HOLD halts
the core, RESUME lets it go on where it stopped, RETUNED frees the slewer once every island on the rail has retuned,
HINT replaces the hint; a duplicate is discarded. A held tile answers HELD with its clock stopped, and a regulator of
its pair that returns to service starts softly once both are held (R107, R276 to R279, R295, R297, R430). A frame with
a bad CRC is answered with NAK, which is kept as the frame to send again for its SEQ (the model's choice, log 153);
its sender sends it again, up to three times, and a fourth failure is a fault of the tile's TLR with cause REIN; a
reserved frame is counted (R277, R278). -/
def Obligations.ReinLink : Prop :=
  (∀ (u : TileId) (s : State),
     (∀ c toTile ty, ((c = .notch u ∧ toTile = true ∧ ty = rfNotch) ∨ (c = .ack u ∧ toTile = true ∧ ty = rfAck)
         ∨ (c = .hold u ∧ toTile = true ∧ ty = rfHold) ∨ (c = .resume u ∧ toTile = true ∧ ty = rfResume)
         ∨ (c = .retuned u ∧ toTile = false ∧ ty = rfRetuned) ∨ (c = .hint u ∧ toTile = false ∧ ty = rfHint)) →
       ((s.tile u).reinTake toTile ty = none → exec c s = .next s)
       ∧ (∀ x, (s.tile u).reinTake toTile ty = some (x, none) → exec c s = .next (s.setTile u x)))
     ∧ (∀ x f, (s.tile u).reinTake true rfNotch = some (x, some f) → Completes (.notch u) s fun t =>
       t.rd TILE_NOTCH_TARGET u = f.payload % 16 ∧ (t.tile u).notchSeq = f.payload / 16 % 16
         ∧ t.rd TILE_NOTCH_CUR u = (if f.payload % 16 < s.rd TILE_NOTCH_CUR u
             ∨ (s.rd TILE_NOTCH_CUR u < f.payload % 16 ∧ (s.tile u).ackOk = some (f.payload / 16 % 16))
           then f.payload % 16 else s.rd TILE_NOTCH_CUR u)
         ∧ s.otherTiles t u ∧ t = { s with regs := t.regs, tiles := t.tiles, conns := t.conns })
     ∧ (∀ x f, (s.tile u).reinTake true rfAck = some (x, some f) →
       ((f.payload % 256 = 0 ∨ f.payload % 256 = 8) → f.payload / 256 % 16 = (s.tile u).notchSeq →
         s.rd TILE_NOTCH_CUR u < s.rd TILE_NOTCH_TARGET u → Completes (.ack u) s fun t =>
           t.rd TILE_NOTCH_CUR u = s.rd TILE_NOTCH_TARGET u % 16 ∧ s.otherTiles t u
           ∧ t = { s with regs := t.regs, tiles := t.tiles, conns := t.conns })
       ∧ ((f.payload % 256 = 0 ∨ f.payload % 256 = 8) → f.payload / 256 % 16 ≠ (s.tile u).notchSeq → Completes (.ack u) s fun t =>
           (t.tile u).ackOk = some (f.payload / 256 % 16) ∧ t.rd TILE_NOTCH_CUR u = s.rd TILE_NOTCH_CUR u
           ∧ s.otherTiles t u ∧ t = { s with tiles := t.tiles })
       ∧ (f.payload % 256 ≠ 0 → f.payload % 256 ≠ 8 → exec (.ack u) s = .next (s.setTile u x)))
     ∧ (∀ x f, (s.tile u).reinTake true rfHold = some (x, some f) → Completes (.hold u) s fun t =>
       (t.tile u).haltRail = true ∧ t.runs u = false ∧ (t.tile u).wdogFrom = none ∧ s.otherTiles t u
         ∧ t = { s with tiles := t.tiles })
     ∧ (∀ x f, (s.tile u).reinTake true rfResume = some (x, some f) → (s.tile u).haltRail = true → (s.tile u).lost = false →
       s.inService = true → s.rd TILE_STATE_STATE u = 5 → (s.tile u).heldState < 5 → Completes (.resume u) s fun t =>
         (t.tile u).haltRail = false ∧ t.rd TILE_STATE_STATE u = (s.tile u).heldState ∧ (t.tile u).clkStop = false
         ∧ (t.tile u).x = (s.tile u).x ∧ (t.tile u).pc = (s.tile u).pc ∧ s.otherTiles t u
         ∧ t = { s with regs := t.regs, tiles := t.tiles })
     ∧ ((s.tile u).haltRail = true → (s.tile u).lost = false → (s.tile u).taOpen = [] → s.rd TILE_STATE_STATE u ≠ 5 →
       Completes (.held u) s fun t => t.rd TILE_STATE_STATE u = 5 ∧ (t.tile u).clkStop = true
         ∧ (t.tile u).heldState = s.rd TILE_STATE_STATE u ∧ s.otherTiles t u
         ∧ (∀ q, (q = tlrOf u ∨ q = tarOf u) → (s.regul q).back = true → s.inService = true → s.tileStill (tieOf u) = true →
           t.regState q = rsSoft)
         ∧ t = { s with regs := t.regs, tiles := t.tiles, reguls := t.reguls, loops := t.loops })
     ∧ ((s.tile u).taOpen ≠ [] → exec (.held u) s = .next s)
     ∧ (∀ x f, (s.tile u).reinTake false rfRetuned = some (x, some f) →
       let q := s.sourceOf u
       let s1 := s.setTile u { x with fceNotch := f.payload % 16 }
       ((s.regul q).frozen = true → s1.mustRetune q = false → Completes (.retuned u) s fun t => (t.regul q).frozen = false
         ∧ (t.regul q).refTo = s.effSet q ∧ (t.regul q).cmd = (s.regul q).cmd ∧ t.tiles = s1.tiles
         ∧ t = { s with regs := t.regs, reguls := t.reguls, tiles := t.tiles })
       ∧ ((s.regul q).frozen = true → s1.mustRetune q = true → Completes (.retuned u) s fun t => (t.regul q).frozen = true
         ∧ t.tiles = s1.tiles ∧ t = { s with regs := t.regs, reguls := t.reguls, tiles := t.tiles })
       ∧ ((s.regul q).frozen = false → exec (.retuned u) s = .next s1))
     ∧ (∀ x f, (s.tile u).reinTake false rfHint = some (x, some f) → Completes (.hint u) s fun t =>
       (t.tile u).hint = some ⟨s.now, s.now + bf f.payload 0 20, s.now + bf f.payload 0 20 + bf f.payload 20 24,
           bf f.payload 44 4, false, s.raiseOf u⟩ ∧ s.otherTiles t u ∧ t = { s with tiles := t.tiles })
     ∧ (∀ h, (s.tile u).hint = some h → h.applied = true → h.stop ≤ s.now → s.now % 1000 = 800 →
       Completes (.hintExpiry u) s fun t =>
       (t.tile u).hint = none ∧ t.rd TLR_STAT_HINT (tlrOf u) = 0 ∧ t.rd TLR_STAT_HINT (tarOf u) = 0 ∧ s.otherTiles t u
         ∧ t = { s with regs := t.regs, reguls := t.reguls, tiles := t.tiles }))
  ∧ (∀ (u : TileId) (toTile : Bool) (seq : BitVec 4) (s : State),
       (∀ f r, (s.tile u).wire toTile = f :: r → f.seq = seq.toNat →
         let x := ((s.tile u).setWire toTile r).takeHeld
         Completes (.reinBadCrc u toTile seq) s fun t => (t.tile u).wire toTile = x.wire toTile
           ∧ (t.tile u).wire (!toTile) = x.wire (!toTile) ++ [reinFrame rfNak f.seq 0]
           ∧ (t.tile u).reinSent.head? = some (!toTile, 0, reinFrame rfNak f.seq 0)
           ∧ (toTile = false → t.rd TLR_REIN_NAKS u = satAdd TLR_REIN_NAKS.w (s.rd TLR_REIN_NAKS u) 1)
           ∧ s.otherTiles t u ∧ t = { s with regs := t.regs, tiles := t.tiles })
       ∧ (∀ f r k, (s.tile u).wire (!toTile) = f :: r → f.seq = seq.toNat → f.type = rfNak →
         (s.tile u).reinSent.find? (fun k => k.1 == toTile && k.2.2.seq == seq.toNat) = some k →
         let x := ((s.tile u).setWire (!toTile) r).takeHeld
         (k.2.1 < 3 → Completes (.reinNak u toTile seq) s fun t =>
           (t.tile u).wire toTile = x.wire toTile ++ [k.2.2] ∧ (t.tile u).wire (!toTile) = x.wire (!toTile)
           ∧ s.otherTiles t u ∧ t = { s with regs := t.regs, reguls := t.reguls, tiles := t.tiles })
         ∧ (3 ≤ k.2.1 → s.regOn (tlrOf u) = true → Completes (.reinNak u toTile seq) s fun t =>
           t.rd TLR_FAULT_CAUSE (tlrOf u) = 6 ∧ t.rd TLR_FAULT_VALID (tlrOf u) = 1
           ∧ (∃ e ∈ t.events, e.code = evRegFault ∧ e.unit = regUnit (tlrOf u)) ∧ t = s.railed t))
       ∧ (∀ (ty : BitVec 4) (p : W64), reinReserved ty.toNat p.toNat = true → Completes (.reinReservedFrame u toTile ty p) s fun t =>
         t.rd TLR_REIN_BADTYPE u = satAdd TLR_REIN_BADTYPE.w (s.rd TLR_REIN_BADTYPE u) 1 ∧ t = { s with regs := t.regs })
       ∧ (∀ (ty : BitVec 4) (p : W64), reinReserved ty.toNat p.toNat = false →
         exec (.reinReservedFrame u toTile ty p) s = .next s))

/-- The protections of a regulator: a dip restores the phases, a long burst ends burst mode, 32 limited cycles of one
phase, an over-voltage or an LKR's report are faults with their causes, and a rail that stays high makes its regulator
suspect (R284 to R290). A fault of the board's supplies stops every TLR, TAR and CIR and every island clock until
PERST#, and the columns are lost (R239, R271, R291, R292). -/
def Obligations.RegulatorAndSupplyProtections : Prop :=
  (∀ (r : RegNo) (s : State),
     (s.regOn r = true → s.regState r ≠ rsTied → Completes (.dipTrip r) s fun t => (t.regul r).tripped = true
         ∧ t.rd TLR_STAT_PHASES r = famPhases r
         ∧ (s.rd TLR_STAT_PHASES r < famPhases r → (t.regul r).shedBlock = 64 ∧ t.rd TLR_STAT_SHED_BLOCK r = 1)
         ∧ (famPhases r ≤ s.rd TLR_STAT_PHASES r → (t.regul r).shedBlock = (s.regul r).shedBlock)
         ∧ t = { s with regs := t.regs, reguls := t.reguls })
     ∧ (s.regState r = rsTied → exec (.dipTrip r) s = .next s)
     ∧ (∀ n, s.regState r = rsBurst → Completes (.burstPulse r n) s fun t =>
       t.rd TLR_STAT_STATE r = (if 64 < n then (if s.rdb TLR_TIE_SOURCE r then rsSource else rsRegulate) else rsBurst)
         ∧ (t.regul r).burstPhase = ((s.regul r).burstPhase + 1) % famPhases r ∧ t = { s with regs := t.regs, reguls := t.reguls })
     ∧ (∀ n, s.regState r ≠ rsBurst → exec (.burstPulse r n) s = .next s)
     ∧ (∀ (p : Fin 8), s.regOn r = true → p.val < famPhases r →
       (((s.regul r).limited.find p).getD 0 / 64 + famCycle r < s.now → Completes (.cycleLimit r p) s fun t =>
         t.rd TLR_SCEVT_COUNT r = satAdd 32 (s.rd TLR_SCEVT_COUNT r) 1
         ∧ (t.regul r).limited.find p = some (64 * s.now + 1)
         ∧ t = { s with regs := t.regs, reguls := t.reguls, life := t.life })
       ∧ (s.now ≤ ((s.regul r).limited.find p).getD 0 / 64 + famCycle r → ((s.regul r).limited.find p).getD 0 % 64 = 31 →
         Completes (.cycleLimit r p) s fun t => s.regFaulted t r 1
           ∧ t = { s.railed t with laneAt := t.laneAt, rootConflict := t.rootConflict }))
     ∧ (s.regOn r = true → r.val < 2112 → Completes (.overvoltageTrip r) s fun t => s.regFaulted t r 3
       ∧ (t.regul r).ovAt = some s.now
       ∧ (r.val < 2048 → (s.tile (regTile r)).off = false → (t.tile (regTile r)).lost = true) ∧ t = s.railed t)
     ∧ (∀ c, (c = .dipTrip r ∨ c = .overvoltageTrip r ∨ (∃ p, c = .cycleLimit r p)) → s.regOn r = false → exec c s = .next s)
     ∧ (∀ x, (s.regul r).ovAt = some x → x + 10000 ≤ s.now →
       Completes (.ovPersistCheck r true) s (fun t => (t.hist (regUnit r)).replace = true
         ∧ (∃ e ∈ t.events, e.code = evRailOvPersist ∧ e.unit = regUnit r) ∧ t = { s.charged t with reguls := t.reguls })
       ∧ Completes (.ovPersistCheck r false) s (fun t => (t.regul r).ovAt = none ∧ (t.regul r).suspect = false
         ∧ t = { s with reguls := t.reguls }))
     ∧ (∀ (l : LaneId) (cause : BitVec 4), s.regOn (lkrOf l) = true → cause ≠ 0#4 → cause.toNat ≤ 6 →
       Completes (.lkrFaultReport l cause) s fun t =>
       s.regFaulted t (lkrOf l) cause.toNat
         ∧ t = { s.railed t with laneAt := t.laneAt, rootConflict := t.rootConflict })
     ∧ (∀ (l : LaneId) (cause : BitVec 4), (s.regOn (lkrOf l) = false ∨ cause = 0#4 ∨ 6 < cause.toNat) →
       exec (.lkrFaultReport l cause) s = .next s))
  ∧ (∀ (mv : Nat) (s : State) (c : Instr), (c = .boardFaultAssert ∨ (c = .vspnFault mv ∧ (mv < 700 ∨ 900 < mv))) →
       Completes c s (fun t => t.phase = .stopped ∧ (∀ r, r < 2112 → t.rdb TLR_CFG_EN r = false)
           ∧ (∀ u : TileId, (t.tile u).clkStop = true ∧ t.runs u = false ∧ (t.tile u).col = [])
           ∧ s.reported t (if c = .boardFaultAssert then evVibOv else evVspnFault) stratumUnit
           ∧ (c = .boardFaultAssert → t.vibWritten = 0 ∧ t.vibOwed = false ∧ t.vibOff = true)
           ∧ (c ≠ .boardFaultAssert → t.vibWritten = s.vibWritten ∧ t.vibOwed = s.vibOwed ∧ t.vibOff = s.vibOff)
           ∧ t = { s.logged t with phase := .stopped, reguls := t.reguls, tiles := t.tiles, loops := t.loops
                                   vibWritten := t.vibWritten, vibOwed := t.vibOwed, vibOff := t.vibOff })
       ∧ (700 ≤ mv → mv ≤ 900 → exec (.vspnFault mv) s = .next s))

/-- Tiles and folds are switched on and off: the header closes in four stages, the last of which resets the tile; a
tile off has lost its scratchpad; a fold on trains its channels; a fold off has its tiles off. Both wait, with
injection stopped, for an empty mesh; a tile or fold comes on only while the drover runs, no thermal stop holds the
rails and the converter has not failed (R102, R233, R293, R294, R313, R351, R415). -/
def Obligations.TilesAndFoldsSwitch : Prop :=
  ∀ (u : TileId) (f : FoldId) (s : State),
    ((s.tile u).hdrStages = 0 → ((s.tile u).off = true ∨ (s.tile u).lost = true) → s.railsUp u = true →
      s.foldOff (foldOf u) = false → Completes (.headerStage u) s fun t => (t.tile u).hdrStages = 1
        ∧ (t.tile u).hdrAt = s.now ∧ (t.tile u).hdrSlow = decide (8 * 108800 < (s.fold (foldOf u)).hdrSum)
          ∧ s.otherTiles t u ∧ t = { s with tiles := t.tiles })
    ∧ ((s.tile u).hdrStages = 3 → ((s.tile u).off = true ∨ (s.tile u).lost = true) → s.railsUp u = true →
      s.foldOff (foldOf u) = false →
      (s.tile u).hdrAt + (if (s.tile u).hdrSlow then 10640 else 20 * (s.rd TLR_CFG_HDR_STAGE u + 1)) ≤ s.now →
      Completes (.headerStage u) s fun t =>
        (t.tile u).off = false ∧ (t.tile u).lost = false ∧ t.rd TILE_STATE_STATE u = 0 ∧ (t.tile u).taQ = []
        ∧ t.keys = s.keys ∧ t.host = s.host)
    ∧ (s.railsUp u = false → exec (.headerStage u) s = .next s)
    ∧ ((s.tile u).off = true → s.foldOff (foldOf u) = false → s.droverActs = true → s.turnOf u = true → s.railsBarred = false →
      Completes (.tileOn u) s fun t => (t.tile u).hdrStages = 0
      ∧ (t.tile u).off = true ∧ (s.penned (regUnit (tlrOf u)) = false → t.rdb TLR_CFG_EN (tlrOf u) = true)
      ∧ (s.penned (regUnit (tarOf u)) = false → t.rdb TLR_CFG_EN (tarOf u) = true)
      ∧ t = { s with regs := t.regs, reguls := t.reguls, tiles := t.tiles, loops := t.loops })
    ∧ (((s.tile u).off = false ∨ s.droverActs = false ∨ s.turnOf u = false ∨ s.railsBarred = true) →
      exec (.tileOn u) s = .next s)
    ∧ ((s.tile u).off = false → s.jobOf u = none → Completes (.tileOff u) s fun t => (t.tile u).off = true
      ∧ (t.tile u).spad = [] ∧ (t.tile u).poison = [] ∧ (t.tile u).counters = []
      ∧ (∀ r, (r = tlrOf u ∨ r = tarOf u) → s.regState r ≠ rsSource → t.rdb TLR_CFG_EN r = false) ∧ t.keys = s.keys
        ∧ t.host = s.host)
    ∧ ((s.jobOf u).isSome = true → exec (.tileOff u) s = .next s)
    ∧ (s.foldOff f = true → s.droverActs = true → s.railsBarred = false → s.fcvDown f = false →
      s.penned (regUnit (cirOf f)) = false → (s.phase = .firmware → ∀ g, g < f.val → s.foldUp g = true) →
      (s.meshEmpty = true → Completes (.foldOn f) s fun t => t.foldOff f = false ∧ t.rd FCE_CTRL_RUN f = 1
        ∧ (∀ v ∈ tilesOf f, s.penned (chanUnit v) = false → t.rd VCH_STATE_STATE v = 1)
        ∧ (t.fold f).bringUp = true ∧ t.creditQ = []
        ∧ t = { s with folds := t.folds, meshStop := false, creditQ := [], credits := t.credits, regs := t.regs
                       reguls := t.reguls, tiles := t.tiles, loops := t.loops })
      ∧ (s.meshEmpty = false → exec (.foldOn f) s = .next { s with meshStop := true }))
    ∧ ((s.foldOff f = false ∨ s.droverActs = false ∨ s.railsBarred = true ∨ s.fcvDown f = true) → exec (.foldOn f) s = .next s)
    ∧ (s.foldOff f = false → (∀ v ∈ tilesOf f, s.jobOf v = none) →
      (s.foldOffDenied f = true → exec (.foldOff f) s = .next { s with foldReply := 0x0007 })
      ∧ (s.foldOffDenied f = false → s.meshEmpty = false → exec (.foldOff f) s = .next { s with meshStop := true }))
    ∧ (s.foldOff f = false → s.foldOffDenied f = false → s.meshEmpty = true → (∀ v ∈ tilesOf f, s.jobOf v = none) →
      Completes (.foldOff f) s fun t => t.foldOff f = true ∧ t.mesh = []
        ∧ (∀ v ∈ tilesOf f, (t.tile v).off = true ∧ (t.tile v).col = []
          ∧ (s.penned (chanUnit v) = false → t.rd VCH_STATE_STATE v = 0))
        ∧ t.foldReply = 0 ∧ t.keys = s.keys ∧ t.host = s.host)
    ∧ (s.foldOff f = true → exec (.foldOff f) s = .next s)

/-- A failed regulator is tied to its neighbour's where R296 permits it and both tiles are held, else its tile is
penned; a source that an overload stopped starts again; a pair that draws too much opens again. VIB_SET is written
where a write is owed, the rate before it, and put off while a header or tie sequence runs. An AVSBus read gives its
figure, the fourth failure in a row is AVS_LOST, and no write goes out until a read succeeds (R296 to R301). -/
def Obligations.TiesAndAvsBus : Prop :=
  ∀ (r : RegNo) (s : State),
    (r.val < 2048 → s.inService = true → s.regState r = rsFault → (s.regul r).stopAt.isSome = true →
      s.tileStill (regTile r) = true →
      s.tileStill (regTile (neighbourReg r)) = true →
      ((s.regul r).again = true → Completes (.tieClose r) s fun t => t.regState r = rsSoft ∧ (t.regul r).stopAt = none
        ∧ t = { s with regs := t.regs, reguls := t.reguls, loops := t.loops })
      ∧ ((s.regul r).again = false → s.tieAllowed r = true → Completes (.tieClose r) s fun t => t.regState r = rsTied
        ∧ t.regState (neighbourReg r) = rsSource ∧ t.rd TLR_TIE_PARTNER r = neighbourReg r
        ∧ t.rd TLR_TIE_PARTNER (neighbourReg r) = r.val ∧ (t.hist (regUnit r)).viaTie = true
        ∧ ((s.tile (regTile r)).off = false → (t.regul r).tying = some (neighbourReg r, s.now) ∧ t.events = s.events)
        ∧ ((s.tile (regTile r)).off = true → s.reported t evRegTied (regUnit r))
        ∧ t = { s.logged t with reguls := t.reguls, tiles := t.tiles, loops := t.loops, life := t.life })
      ∧ ((s.regul r).again = false → s.tieAllowed r = false →
        Completes (.tieClose r) s fun t => t.penned (tileUnit (regTile r)) = true
        ∧ (t.regul r).stopAt = none ∧ t = { s.charged t with reguls := t.reguls }))
    ∧ ((s.regState r ≠ rsFault ∨ s.inService = false) → exec (.tieClose r) s = .next s)
    ∧ (∀ q a n, (s.regul r).tying = some (q, a) → a + 300000 ≤ s.now →
      (4 * n ≤ famMa q → Completes (.tieLoadCheck r n) s fun t => (t.regul r).tying = none
        ∧ s.reported t evRegTied (regUnit r) ∧ t = { s.logged t with reguls := t.reguls, tiles := t.tiles })
      ∧ (famMa q < 4 * n → Completes (.tieLoadCheck r n) s fun t => t.rdb TLR_TIE_CLOSED r = false
        ∧ t.penned (tileUnit (regTile r)) = true ∧ t = { s.charged t with reguls := t.reguls }))
    ∧ ((s.regul r).tying = none → ∀ n, exec (.tieLoadCheck r n) s = .next s)
    ∧ (∀ v, Completes (.avsTransaction .readVoltage true v) s fun t => t.avsMv = v ∧ t.lostAvs = false
      ∧ t.avsFails = 0 ∧ t = { s with avsMv := v, avsRead := true, lostAvs := false, avsFails := 0 })
    ∧ (∀ v, Completes (.avsTransaction .readCurrent true v) s fun t => t.avsMa = v * s.conf 0x020A
      ∧ t = { s with avsMa := t.avsMa, avsOk := true, lostAvs := false, avsFails := 0 })
    ∧ (∀ v, s.lostAvs = false → exec (.avsTransaction .writeRate true v) s = .next { s with avsFails := 0, avsRate := true })
    ∧ (∀ v, exec (.avsTransaction .readStatus true v) s = .next { s with avsFails := 0 })
    ∧ (∀ v, s.vibOwed = true → s.avsRate = true → s.lostAvs = false → s.phase ≠ .stopped → s.vibFrom ≤ s.now →
      (s.phase = .firmware → ∀ g, g < 64 → s.foldUp g = true) →
      (s.sequencing = false → exec (.avsTransaction .writeVoltage true v) s
        = .next { s with avsFails := 0, vibWritten := s.conf 0x0207, vibOwed := false, avsRate := false })
      ∧ (s.sequencing = true → exec (.avsTransaction .writeVoltage true v) s
        = .next { s with avsFails := 0, vibFrom := (s.now / 1000000 + 1) * 1000000 }))
    ∧ (∀ v, (s.vibOwed = false ∨ s.avsRate = false) →
      exec (.avsTransaction .writeVoltage true v) s = .next { s with avsFails := 0 })
    ∧ (∀ v, s.lostAvs = true → exec (.avsTransaction .writeVoltage true v) s = .next { s with avsFails := 0 })
    ∧ (∀ c v, s.avsFails ≠ 3 → exec (.avsTransaction c false v) s = .next { s with avsFails := s.avsFails + 1 })
    ∧ (∀ c v, s.avsFails = 3 → Completes (.avsTransaction c false v) s fun t => t.lostAvs = true ∧ t.avsOk = false
      ∧ s.reported t evAvsLost stratumUnit
      ∧ t = { s.logged t with lostAvs := true, avsOk := false, avsFails := 4 })

/-! ## The converters, power and heat (R306 to R353) -/

/-- A complete scan gives each of its channels the corrected code of the slice that sampled it, with the period's
start; a missing frame is counted and leaves no word; at the output phase every word that waits is written and every
NOTCH frame that is due goes out (R276, R306, R311, R312, R327, R329). An urgent conversion gives its corrected code
40 ns later, or DROPPED near a scan, or REJECTED for a channel that does not exist; a mask word waits while a scan
runs; SWAP is set; a window's end moves the sums to the ACC registers (R310, R314, R315, R324, R328). -/
def Obligations.Converters : Prop :=
  (∀ (f : FoldId) (sc : Scan) (s : State),
     (sc.raw.length = 144 → s.rdb FCE_CTRL_RUN f = true → s.now % 1000 = 200 → sc.complete = true →
       s.rdb FCV_STAT_FAULT f = false → Completes (.frameClose f sc) s fun t =>
         (∀ i c, (s.scanChans f)[i]? = some c → t.rd FCV_LAST_CODE (144 * f.val + c)
           = (s.correct f ((s.slices f).getD ((i + s.now / 1000 % 8) % max 1 (s.slices f).length) 0)
               (sc.raw.getD c 0#12).toNat).1)
         ∧ t.rd FCE_PERIOD_START f = (s.now - 200) % 2 ^ 64 ∧ (t.fold f).missRun = 0
         ∧ t = { s.railed t with phase := t.phase, vibWritten := t.vibWritten, vibOwed := t.vibOwed, vibOff := t.vibOff })
     ∧ (sc.raw.length = 144 → s.rdb FCE_CTRL_RUN f = true → s.now % 1000 = 200 → sc.complete = false → (s.fold f).missRun = 0 →
       Completes (.frameClose f sc) s fun t => (t.fold f).missRun = 1 ∧ t.rd FCE_STAT_FRAME_MISS f = 1
         ∧ t.rd FCE_STAT_MISSED f = satAdd 16 (s.rd FCE_STAT_MISSED f) 1
         ∧ (∀ n : Fin 36, (t.loop (36 * f.val + n.val)).word = none)
         ∧ t = { s with regs := t.regs, folds := t.folds, loops := t.loops })
     ∧ (sc.raw.length = 144 → s.now % 1000 ≠ 200 → exec (.frameClose f sc) s = .next s)
     ∧ (s.rdb FCE_CTRL_RUN f = true → s.now % 1000 = 800 → Completes (.outputPhase f) s fun t =>
       (∀ n : Fin 36, (t.loop (36 * f.val + n.val)).word = none ∧ (∀ w, (s.loop (36 * f.val + n.val)).word = some w →
         t.rd FCE_LOOP_U_WORD (36 * f.val + n.val) = w % 65536))
       ∧ (∀ v ∈ tilesOf f, ∀ p k, (s.tile v).notchDue = some (p, k) → k ≤ s.now / 1000 → (t.tile v).notchDue = none
         ∧ ∃ x ∈ (t.tile v).toTile, x.type = rfNotch ∧ x.payload = p)
       ∧ t = { s with regs := t.regs, loops := t.loops, reguls := t.reguls, tiles := t.tiles })
     ∧ (s.rdb FCE_CTRL_RUN f = false → exec (.outputPhase f) s = .next s))
  ∧ (∀ (f : FoldId) (ch : Byte) (raw : BitVec 12) (w : Fin 5) (v : W32) (s : State),
       (143 < ch.toNat → Completes (.fcvUrg f ch raw) s fun t => t.rd FCV_URG_RES_STATUS f = 3 ∧ t = { s with regs := t.regs })
       ∧ (ch.toNat ≤ 143 → (s.inScan f 40 = true ∨ s.now < (s.fold f).urgBusy) → Completes (.fcvUrg f ch raw) s fun t =>
         t.rd FCV_URG_RES_STATUS f = 2 ∧ t.rd FCV_URG_DROP_COUNT f = satAdd 32 (s.rd FCV_URG_DROP_COUNT f) 1
           ∧ t.rd FCV_URG_RES_CODE f = s.rd FCV_URG_RES_CODE f ∧ t = { s with regs := t.regs, life := t.life })
       ∧ (ch.toNat ≤ 143 → s.inScan f 40 = false → (s.fold f).urgBusy ≤ s.now → Completes (.fcvUrg f ch raw) s fun t =>
         (t.fold f).urgDue = some (s.correct f ((s.slices f).headD 0) raw.toNat).1 ∧ (t.fold f).urgBusy = s.now + 40
           ∧ (∀ g, g ≠ f.val → t.fold g = s.fold g) ∧ t = { s with folds := t.folds })
       ∧ (∀ k, (s.fold f).urgDue = some k → (s.fold f).urgBusy = s.now + 1 → s.pending = [] → s.phase ≠ .reset →
         (s.frac = 0 ∧ s.ppm = 0 ∧ s.now < 2 ^ 64 - 1) → ∃ t, step s = .next t ∧ t.rd FCV_URG_RES_STATUS f = 1
           ∧ t.rd FCV_URG_RES_CODE f = k % 4096 ∧ (t.fold f).urgDue = none)
       ∧ (let x := if w.val = 4 then bfSet v.toNat 12 4 (bf (s.maskSoon f 4) 12 4) else v.toNat
         (s.inScan f 0 = true → Completes (.fcvMaskWrite f w v) s fun t => (t.fold f).maskNext.find w = some x
           ∧ t = { s with folds := t.folds })
         ∧ (s.inScan f 0 = false → Completes (.fcvMaskWrite f w v) s fun t =>
           t.maskWord f w = s.forceMask f w x % 2 ^ (if w.val = 4 then 16 else 32)
             ∧ (∀ k : Fin 5, k ≠ w → t.maskWord f k = s.maskWord f k) ∧ t = { s with regs := t.regs }))
       ∧ (∀ n : Fin 36, Completes (.fceSwap f n) s fun t => t.rdb FCE_LOOP_CFG_SWAP (36 * f.val + n.val) = true
         ∧ t = { s with regs := t.regs })
       ∧ (s.now % 1000000 < 200 → (s.fold f).window ≠ s.now / 1000000 → Completes (.fceWindowEnd f) s fun t =>
         (t.fold f).window = s.now / 1000000
           ∧ (∀ n : Fin 36, t.rd FCE_LOOP_ACC_Y_SUMY (36 * f.val + n.val) = (s.loop (36 * f.val + n.val)).sumY % 2 ^ 64
               ∧ (t.loop (36 * f.val + n.val)).sumY = 0 ∧ (t.loop (36 * f.val + n.val)).n = 0)
           ∧ ((s.fold f).midOff = false → t.events = s.events)
           ∧ ((s.fold f).midOff = true → s.reported t evFcvLinearity (fcvUnit f))
           ∧ t = { s.logged t with folds := t.folds, loops := t.loops })
       ∧ ((s.fold f).window = s.now / 1000000 → exec (.fceWindowEnd f) s = .next s))

/-- A power window that ends gives its start, the estimate and the validity of VIB's current to the registers, a
record to the stratum's telemetry, and each serving lane its FEC counts, once, and takes up the operator's notch
limits; a thermal sample gives each tile's reading and the hottest valid one, and at 118 °C asks for the immediate
stop (R334, R335, R337, R344, R345, R347, R350, R357, R379, R410). The stops: an orderly one first halts every job for
its checkpoint, then takes the supplies off; an immediate one stops every regulator at once, latches THERMTRIP and
loses what the arrays held; a second below the limits brings the folds of an orderly stop back up, and once every tile
has come on, or will not, the return is recorded (R350 to R353; the two steps are the model's choice, log 130). -/
def Obligations.PowerWindowsAndHeat : Prop :=
  (∀ (i : WindowInput) (temps : TempCodes) (s : State),
     (let start := (s.now / 1000000 - 1) * 1000000
      (1000000 ≤ s.now → (((s.tele.find stratumUnit).getD []).head?.map (·.start)) ≠ some start →
       Completes (.powerWindowEnd i) s fun t => t.rd PWR_WIN_START 0 = start % 2 ^ 64
         ∧ t.rd PWR_EST_MW 0 = ((s.weighAll.estimates i).foldl (· + ·) 0 + i.spineMw) % 2 ^ 32
         ∧ t.rd PWR_STAT_AVS_VALID 0 = b2n s.avsOk ∧ t.limits = s.takeLimits.limits
         ∧ (∀ l : LaneId, s.rd WELT_LANE_ST_STATE l = 2 →
           t.rd WELT_LANE_FEC_SYM l = satAdd WELT_LANE_FEC_SYM.w (s.rd WELT_LANE_FEC_SYM l) (i.fec.getD l (0, 0)).1
             ∧ t.rd WELT_LANE_UNC_CW l = satAdd WELT_LANE_UNC_CW.w (s.rd WELT_LANE_UNC_CW l) (i.fec.getD l (0, 0)).2)
         ∧ ((t.tele.find stratumUnit).getD []).head?.map (·.start) = some start
         ∧ t.keys = s.keys ∧ t.host = s.host ∧ t.jobs = s.jobs ∧ t.mboxes = s.mboxes)
       ∧ ((((s.tele.find stratumUnit).getD []).head?.map (·.start)) = some start → exec (.powerWindowEnd i) s = .next s))
     ∧ (temps.length = 1024 → s.now % (if s.rdb THM_STAT_FAST 0 then 125000 else 1000000) = 0 → s.thmAt ≠ s.now →
       s.phase ≠ .stopped → s.phase ≠ .reset → Completes (.thermalSample temps) s fun t => t.thmAt = s.now
         ∧ (∀ u : TileId, t.rd TILE_TEMP_TEMP u = (temps.getD u.val 0#16).toNat)
         ∧ (let r := (({ s with thmAt := s.now } : State).readings temps).2
            t.rd THM_TMAX_TEMP 0 = twos 16 (hottestOf r.1).2.1 % 65536 ∧ t.rd THM_TMAX_TILE 0 = (hottestOf r.1).1 % 1024
              ∧ (944 ≤ (hottestOf r.2).2.1 → t.stopKind = 2))
         ∧ t.keys = s.keys ∧ t.host = s.host ∧ t.jobs = s.jobs ∧ t.mboxes = s.mboxes)
     ∧ (temps.length = 1024 → s.thmAt = s.now → exec (.thermalSample temps) s = .next s))
  ∧ (∀ (s : State),
       (s.stopKind = 1 → (s.phase = .open ∨ s.phase = .firmware) → s.rd THM_STAT_LEVEL 0 < 4 → Completes .orderlyStop s fun t =>
         t.rd THM_STAT_LEVEL 0 = 4 ∧ (∀ j ∈ t.jobs, j.state ≠ 4 ∧ (j.state = 3 → j.parkNext = true))
           ∧ t.phase = s.phase ∧ t.keys = s.keys ∧ t.host = s.host ∧ t.reguls = s.reguls)
       ∧ (s.stopKind = 1 → (s.phase = .open ∨ s.phase = .firmware) → s.rd THM_STAT_LEVEL 0 = 4 → (∀ j ∈ s.jobs, j.state ≠ 3
         ∧ j.state ≠ 4) →
         Completes .orderlyStop s fun t => t.rd THM_STAT_LEVEL 0 = 5 ∧ (∀ r, r < 2048 → t.rdb TLR_CFG_EN r = false)
           ∧ (∃ e ∈ t.events, e.code = evThermalStop ∧ e.unit = stratumUnit) ∧ t.keys = s.keys ∧ t.host = s.host)
       ∧ ((s.stopKind ≠ 1 ∨ s.rd THM_STAT_LEVEL 0 = 5) → exec .orderlyStop s = .next s)
       ∧ (s.stopKind = 2 → s.phase ≠ .stopped → s.phase ≠ .reset → Completes .immediateStop s fun t =>
         t.phase = .stopped ∧ t.trip = true ∧ t.rd THM_STAT_LEVEL 0 = 5 ∧ (∀ r, r < 2112 → t.rdb TLR_CFG_EN r = false)
           ∧ (∀ u : TileId, (t.tile u).spad = [] ∧ (t.tile u).col = []) ∧ s.reported t evThermalTrip stratumUnit
           ∧ t = { s.logged t with phase := .stopped, trip := true, life := t.life, reguls := t.reguls, tiles := t.tiles, loops := t.loops })
       ∧ (s.stopKind ≠ 2 → exec .immediateStop s = .next s)
       ∧ (∀ c, s.coolFrom = some c → s.stopKind = 1 → s.rd THM_STAT_LEVEL 0 = 5 → c + 1000000000 ≤ s.now →
         Completes .thermalResume s fun t => t.rd THM_STAT_LEVEL 0 = 5
           ∧ (∀ f, f < 64 → s.foldOff f = false → (t.fold f).bringUp = true)
           ∧ t = { s with stopKind := 3, regs := t.regs, reguls := t.reguls, folds := t.folds, loops := t.loops })
       ∧ (s.stopKind = 3 →
         ((∀ f, f < 64 → s.foldOff f = true ∨ ∀ v ∈ tilesOf f, s.settled v = true) → Completes .thermalResume s fun t =>
           t.stopKind = 0 ∧ t.rd THM_STAT_LEVEL 0 = 0 ∧ s.reported t evThermalResume stratumUnit
           ∧ t = { s.logged t with stopKind := 0 })
         ∧ (∀ f v, f < 64 → s.foldOff f = false → v ∈ tilesOf f → s.settled v = false → exec .thermalResume s = .next s))
       ∧ (s.stopKind ≠ 3 → s.coolFrom = none → exec .thermalResume s = .next s))

/-! ## Welt links (R359 to R378) -/

/-- A port takes flits in HELLO and UP only. A flit's header frees the replay room that its ACK covers and returns
credits; one of a sequenced type is taken only as the next expected: a gap is answered with NAK, a duplicate dropped.
After a NAK the unacknowledged flits go again, and one sent again eight times retrains the port. Flits go over the
lanes in service in turn, and a row of MARKERs before every 4,096th slot of a lane (R360 to R365; where a row of
MARKERs lies is the model's choice, log 141). What the next expected flit does on an UP port: a held message is
quarantined until RELEASE or RETRACT names it, another goes on, or waits in the ingest buffer; a message of a port
without a session is discarded, one for another stack or under a stack number conflict goes no further; grants wait or
are revoked; records of a flock are kept and relayed and a request for digests is answered, after a drover restart;
the source port's time steers the stack time (R28, R102, R368, R370 to R378). -/
def Obligations.WeltFlits : Prop :=
  (∀ (p : PortId) (h : FlitHdr) (s : State),
     (∀ c, (c = .idle p h ∨ (∃ a b, c = .marker p h a b) ∨ c = .nak p h ∨ c = .badFlit p
         ∨ (∃ a b d e, c = .time p h a b d e) ∨ (∃ b, c = .grant p h b) ∨ (∃ b, c = .dgetreq p h b)
         ∨ (∃ b, c = .hello p h b ∧ b.stamps.length ≤ 8) ∨ (∃ b, c = .msg p h b ∧ b.payload ≠ [] ∧ b.payload.length ≤ 4096)
         ∨ (∃ l, c = .release p h l ∧ l ≠ [] ∧ l.length ≤ 60) ∨ (∃ l, c = .retract p h l ∧ l ≠ [] ∧ l.length ≤ 60)
         ∨ (∃ b, c = .dput p h b ∧ b.digest.length = 32)) → s.portHears p = false → exec c s = .next s)
     ∧ (∀ c, (c = .idle p h ∨ (∃ a b, c = .marker p h a b)) → s.portUp p = true → (s.port p).outQ = [] →
       Completes c s fun t => (t.port p).replay = (s.port p).replay.filter (fun f => !seqUpTo f.seq h.ack.toNat)
         ∧ (t.port p).credits = (s.port p).credits.set h.cvc.toNat ((s.port p).credits.getD h.cvc.toNat 0 + h.ccnt.toNat)
         ∧ (t.port p).rxNext = (s.port p).rxNext ∧ (∀ q, q ≠ p.val → t.port q = s.port q) ∧ t = { s with ports := t.ports })
     ∧ (∀ c, ((∃ a b d e, c = .time p h a b d e) ∨ (∃ b, c = .grant p h b) ∨ (∃ b, c = .dgetreq p h b)
         ∨ (∃ b, c = .hello p h b ∧ b.stamps.length ≤ 8) ∨ (∃ b, c = .msg p h b ∧ b.payload ≠ [] ∧ b.payload.length ≤ 4096)
         ∨ (∃ l, c = .release p h l ∧ l ≠ [] ∧ l.length ≤ 60) ∨ (∃ b, c = .dput p h b ∧ b.digest.length = 32)) →
       s.portUp p = true → h.seq.toNat ≠ (s.port p).rxNext →
       Completes c s fun t => (t.port p).rxNext = (s.port p).rxNext ∧ (t.port p).quarantine = (s.port p).quarantine
         ∧ ((s.port p).outQ = [] → if seqUpTo h.seq.toNat (((s.port p).rxNext + 65535) % 65536) then
              (t.port p).flitsOut = (s.port p).flitsOut
            else ∃ f, f.type = 0x03 ∧ (t.port p).flitsOut = (s.port p).flitsOut ++ [f])
         ∧ t = { s with ports := t.ports })
     ∧ (s.portUp p = true → (s.port p).outQ = [] → (s.port p).replay ≠ [] →
       (∀ f ∈ (s.port p).replay, seqUpTo f.seq h.ack.toNat = false) →
       ((∀ f ∈ (s.port p).replay, f.tries < 7) → Completes (.nak p h) s fun t =>
         (t.port p).replay.map (fun f => (f.seq, f.type, f.tries))
           = (s.port p).replay.map (fun f => (f.seq, f.type, f.tries + 1))
         ∧ ((t.port p).flitsOut.drop (s.port p).flitsOut.length).map (·.seq)
           = ((s.port p).replay.filter (·.type != 4)).map (·.seq)
         ∧ t.portState p = psUp ∧ t.rd WELT_REPLAY_COUNT p = satAdd WELT_REPLAY_COUNT.w (s.rd WELT_REPLAY_COUNT p) 1
         ∧ t = { s with ports := t.ports, regs := t.regs, life := t.life })
       ∧ ((∃ f ∈ (s.port p).replay, 7 ≤ f.tries) → Completes (.nak p h) s fun t =>
         t.portState p = psRetrain ∧ (t.port p).replay = [] ∧ (t.port p).sentHeld = []
         ∧ t = { s.logged t with ports := t.ports, life := t.life, reguls := t.reguls, rootConflict := t.rootConflict }))
     ∧ (s.portHears p = true →
       let mask := s.rd WELT_PSTAT_LANES p
       let lanes := lanesOf mask
       Completes (.badFlit p) s fun t => (∃ f, f.type = 0x03 ∧ (t.port p).flitsOut = (s.port p).flitsOut ++ [f])
         ∧ ((s.port p).lineMask = mask → (s.port p).lineNo % (4096 * lanes.length) ≠ 0 →
           (t.port p).lineNo = (s.port p).lineNo + 1
           ∧ ((t.port p).line.drop (s.port p).line.length).map (fun f => (f.type, f.lane))
             = [(3, lanes.getD ((s.port p).lineNo % lanes.length) 0)])
         ∧ ((s.port p).lineMask = mask → (s.port p).lineNo % (4096 * lanes.length) = 0 → lanes ≠ [] →
           ((t.port p).line.drop (s.port p).line.length).map (fun f => (f.type, f.lane))
             = lanes.map (fun l => (4, l)) ++ [(3, lanes.headD 0)])
         ∧ t = { s with ports := t.ports })
     ∧ (∀ a b : Byte, s.portHears p = true → Completes (.marker p h a b) s fun t =>
       let seen := if (s.port p).rxMask = b.toNat % 16 then (s.port p).rxSeen else 0
       let now := if bit (b.toNat % 16) a.toNat then bfSet seen a.toNat 1 1 else seen
       ((s.portUp p = true ∨ (s.port p).helloRx = false) → (t.port p).rxMask = b.toNat % 16
         ∧ (t.port p).rxSeen = if now = b.toNat % 16 then 0 else now))
     ∧ (∀ (ty : Byte) vc, (5 ≤ ty.toNat ∧ ty.toNat ≤ 7 ∨ 0x0F ≤ ty.toNat) → s.portUp p = true →
       h.seq.toNat = (s.port p).rxNext → Completes (.reservedFlit p h ty vc) s fun t =>
         t.rd WELT_DISCARD_COUNT p = satAdd WELT_DISCARD_COUNT.w (s.rd WELT_DISCARD_COUNT p) 1
         ∧ (t.port p).rxNext = ((s.port p).rxNext + 1) % 65536 ∧ t = { s with ports := t.ports, regs := t.regs, life := t.life }))
  ∧ (∀ (p : PortId) (h : FlitHdr) (s : State), s.portUp p = true → h.seq.toNat = (s.port p).rxNext →
       (∀ b : MsgBody, b.payload ≠ [] → b.payload.length ≤ 4096 →
         (s.portCarries p = true → b.held = true → Completes (.msg p h b) s fun t =>
           (t.port p).quarantine = (s.port p).quarantine ++ [⟨b.holdId.toNat, peerMsg b p s.now, s.now⟩] ∧ t.mesh = s.mesh
           ∧ (t.port p).rxNext = ((s.port p).rxNext + msgFlitCount b.payload.length) % 65536 ∧ t = { s with ports := t.ports })
         ∧ (s.portCarries p = true → b.held = false → b.dstack.toNat = s.stackNo p → s.staysIn (peerMsg b p s.now) = false →
           Completes (.msg p h b) s fun t => t.mesh = s.mesh ++ s.copies (peerMsg b p s.now)
             ∧ (t.port p).quarantine = (s.port p).quarantine ∧ t = { s with ports := t.ports, mesh := t.mesh })
         ∧ (s.portCarries p = true → b.held = false → b.dstack.toNat = s.stackNo p → s.staysIn (peerMsg b p s.now) = true →
           Completes (.msg p h b) s fun t => (t.port p).ingest = (s.port p).ingest ++ [peerMsg b p s.now]
             ∧ t = { s with ports := t.ports })
         ∧ (s.portCarries p = true → b.held = false → b.dstack.toNat ≠ s.stackNo p → Completes (.msg p h b) s fun t =>
           t.mesh = s.mesh ∧ (t.port p).ingest = (s.port p).ingest
           ∧ t.rd TILE_RXC_STAT_DISCARD (chanOf b.dtile.toNat b.dch.toNat)
             = satAdd TILE_RXC_STAT_DISCARD.w (s.rd TILE_RXC_STAT_DISCARD (chanOf b.dtile.toNat b.dch.toNat)) 1)
         ∧ (s.sessOpen (s.portOwner p) = true → s.rdb WELT_PSTAT_CONFLICT p = true → Completes (.msg p h b) s fun t =>
           (t.port p).quarantine = (s.port p).quarantine ∧ (t.port p).ingest = (s.port p).ingest ∧ t = { s with ports := t.ports })
         ∧ (s.sessOpen (s.portOwner p) = false → Completes (.msg p h b) s fun t =>
           t.rd WELT_DISCARD_COUNT p = satAdd WELT_DISCARD_COUNT.w (s.rd WELT_DISCARD_COUNT p) 1 ∧ t.mesh = s.mesh
           ∧ (t.port p).quarantine = (s.port p).quarantine ∧ t = { s with ports := t.ports, regs := t.regs, life := t.life }))
       ∧ (∀ (i : W32) q r, (s.port p).quarantine = q :: r → q.id = i.toNat →
         (q.msg.rch = s.stackNo p → s.staysIn q.msg = false → Completes (.release p h [i]) s fun t =>
           (t.port p).quarantine = r ∧ t.mesh = s.mesh ++ s.copies q.msg ∧ t = { s with ports := t.ports, mesh := t.mesh })
         ∧ Completes (.retract p h [i]) s (fun t => (t.port p).quarantine = r ∧ t = { s with ports := t.ports }))
       ∧ (∀ (i : W32) c, (c = .release p h [i] ∨ c = .retract p h [i]) → (∀ q ∈ (s.port p).quarantine, q.id ≠ i.toNat) →
         Completes c s fun t => t.rd WELT_DISCARD_COUNT p = satAdd WELT_DISCARD_COUNT.w (s.rd WELT_DISCARD_COUNT p) 1
           ∧ (t.port p).quarantine = (s.port p).quarantine ∧ t = { s with ports := t.ports, regs := t.regs, life := t.life })
       ∧ (∀ b : GrantBody,
         ((b.op = 0#8 ∨ 3 < b.op.toNat) → s.portCarries p = true → Completes (.grant p h b) s fun t =>
           t.rd WELT_DISCARD_COUNT p = satAdd WELT_DISCARD_COUNT.w (s.rd WELT_DISCARD_COUNT p) 1
           ∧ (t.port p).grants = (s.port p).grants ∧ t = { s with ports := t.ports, regs := t.regs, life := t.life })
         ∧ (b.op = 1#8 → 1 ≤ b.credits.toNat → b.credits.toNat ≤ 64 → s.portCarries p = true → (s.port p).grants = [] →
           s.grantTile p ⟨b.tile.toNat, b.ch.toNat, b.sch.toNat, b.credits.toNat, b.maxlen.toNat, b.gen.toNat⟩ = none →
           Completes (.grant p h b) s fun t => (t.port p).grants
             = [⟨b.tile.toNat, b.ch.toNat, b.sch.toNat, b.credits.toNat, b.maxlen.toNat, b.gen.toNat⟩]
             ∧ t = { s with ports := t.ports })
         ∧ (∀ v, b.op = 2#8 → s.portCarries p = true →
           s.grantTile p ⟨b.tile.toNat, b.ch.toNat, b.sch.toNat, b.credits.toNat, b.maxlen.toNat, b.gen.toNat⟩ = some v →
           Completes (.grant p h b) s fun t => t.rd TILE_TXC_CREDIT_CREDITS (chanOf v b.sch.toNat) = 0
             ∧ t = { s with ports := t.ports, regs := t.regs })
         ∧ (s.portCarries p = false → Completes (.grant p h b) s fun t => (t.port p).grants = (s.port p).grants
           ∧ t = { s with ports := t.ports }))
       ∧ (∀ b : DputBody, b.digest.length = 32 → b.kind = 1#8 → s.portCarries p = true → s.phase ≠ .drover →
         (b.origin.toNat ≠ s.stackId → s.relayed.contains (b.origin.toNat, b.recSeq.toNat) = false →
           (s.flockDone.find (b.flock.toNat * 4 + b.jobKind.toNat) = none → Completes (.dput p h b) s fun t =>
             (b.origin.toNat, b.recSeq.toNat) ∈ t.relayed
             ∧ ((s.flockJobs b.flock.toNat b.jobKind.toNat).any (fun j => j.fn == s.portOwner p) = true →
               ∃ r ∈ t.flocks, r.origin = b.origin.toNat ∧ r.recSeq = b.recSeq.toNat ∧ r.digest = b.digest))
           ∧ (∀ n, s.flockDone.find (b.flock.toNat * 4 + b.jobKind.toNat) = some n → b.point.toNat ≤ n →
             s.flockAt.find (flockKey b.flock.toNat b.jobKind.toNat b.point.toNat) = none → Completes (.dput p h b) s fun t =>
               t.relayed = s.relayed ++ [(b.origin.toNat, b.recSeq.toNat)]
               ∧ t = { s with ports := t.ports, relayed := t.relayed }))
         ∧ ((b.origin.toNat = s.stackId ∨ s.relayed.contains (b.origin.toNat, b.recSeq.toNat) = true) →
           Completes (.dput p h b) s fun t => t = { s with ports := t.ports }))
       ∧ (∀ b : DputBody, b.digest.length = 32 → s.phase = .drover → Completes (.dput p h b) s fun t =>
         t.drvIn = s.drvIn ++ [.put p b] ∧ t = { s with ports := t.ports, drvIn := t.drvIn })
       ∧ (∀ b : DgetBody, s.phase = .drover → Completes (.dgetreq p h b) s fun t =>
         t.drvIn = s.drvIn ++ [.ask p b] ∧ t = { s with ports := t.ports, drvIn := t.drvIn })
       ∧ (∀ b : DgetBody, b.target.toNat = s.stackId → s.portCarries p = true → s.phase ≠ .drover →
         Completes (.dgetreq p h b) s fun t =>
         (∃ f ∈ (t.port p).outQ ++ (t.port p).replay, f.type = 0x0E
           ∧ f.body = dgetHead b (s.heldDigests p b).length ++ (s.heldDigests p b).flatten)
         ∧ t = { s with ports := t.ports })
       ∧ (∀ (b : DgetBody), s.portCarries p = false → s.phase ≠ .drover → Completes (.dgetrsp p h b []) s fun t =>
         t = { s with ports := t.ports })
       ∧ (∀ (b : DgetBody) j k l, s.jobs = [j] → j.policy.flock = b.flock.toNat → j.fn = s.portOwner p →
         s.portCarries p = true → s.phase ≠ .drover →
         j.expel = some (b.point.toNat, b.target.toNat, k, l) → k = b.first.toNat → Completes (.dgetrsp p h b []) s fun t =>
           (∀ i ∈ t.jobs, i.tag = j.tag → i.expel = none)
           ∧ (∃ e ∈ t.events, e.code = evFlockExpelled ∧ e.unit = stratumUnit) ∧ t = s.charged t)
       ∧ (∀ own echo peerAt at', (s.rdb WELT_TIME_SOURCE p = false ∨ echo = 0#64) →
         Completes (.time p h own echo peerAt at') s fun t =>
         (t.port p).timeSt = [(s.port p).timeSt.getD 0 0, own.toNat, at'.toNat, echo.toNat] ∧ t = { s with ports := t.ports })
       ∧ (∀ own echo peerAt at', s.rdb WELT_TIME_SOURCE p = true → echo ≠ 0#64 → s.timeLocked = false → s.jobEver = false →
         Completes (.time p h own echo peerAt at') s fun t => t.timeLocked = true
           ∧ t.now = (((s.now : Int) + timeOffset echo.toNat peerAt.toNat own.toNat at'.toNat) % 2 ^ 64).toNat
           ∧ t = { s.logged t with ports := t.ports, now := t.now, timeLocked := true, lockRun := t.lockRun
                                   minuteAt := t.minuteAt, laneAt := t.laneAt })
       ∧ (∀ own echo peerAt at', s.rdb WELT_TIME_SOURCE p = true → echo ≠ 0#64 → 15 ≤ s.lockRun →
         (timeOffset echo.toNat peerAt.toNat own.toNat at'.toNat).natAbs ≤ 20 → Completes (.time p h own echo peerAt at') s fun t =>
           t.rdb WELT_TIME_LOCKED p = true ∧ t.lockRun = 16))

/-- A port goes through its states: from DOWN it trains every 100 ms, a lane that locks brings it to HELLO, the HELLO
exchange to UP; without the exchange within 1 ms, or 100 µs without a HELLO, it is DOWN again and what it held is
lost; lanes leave and come back (R366 to R369). An own HELLO every 10 µs and TIME every 100 µs go out (R367, R377). -/
def Obligations.PortStates : Prop :=
  ∀ (p : PortId) (l : LaneId) (h : FlitHdr) (s : State),
    (s.portsMay = true → s.portState p = psDown → s.lanesOn p ≠ 0 →
      ((s.port p).since = 0 ∨ (s.port p).since + 100000000 ≤ s.now) →
      Completes (.linkTrainingAttempt p) s fun t => (t.port p).since = s.now
        ∧ t.portState p = (if (List.range 4).any (fun i => bit (s.lanesOn p) i && !s.penned (laneUnit (4 * p.val + i))
          && s.lkrOk (4 * p.val + i)) then psTraining else psDown)
        ∧ (∀ i, i < 4 → bit (s.lanesOn p) i = true → s.penned (laneUnit (4 * p.val + i)) = false →
            s.lkrOk (4 * p.val + i) = true → t.rd WELT_LANE_ST_STATE (4 * p.val + i) = 1
              ∧ (s.penned (regUnit (lkrOf (4 * p.val + i))) = false → t.rdb TLR_CFG_EN (lkrOf (4 * p.val + i)) = true))
        ∧ t = { s.logged t with ports := t.ports, life := t.life, reguls := t.reguls, rootConflict := t.rootConflict })
    ∧ ((s.portState p ≠ psDown ∨ s.portsMay = false) → exec (.linkTrainingAttempt p) s = .next s)
    ∧ (s.rd WELT_LANE_ST_STATE l = 1 → s.lkrOk l = true → Completes (.laneLock l true) s fun t => t.rd WELT_LANE_ST_STATE l = 2
      ∧ (s.portState (l.val / 4) = psTraining → t.portState (l.val / 4) = psHello)
      ∧ t = { s.logged t with ports := t.ports, life := t.life, reguls := t.reguls, rootConflict := t.rootConflict })
    ∧ (∀ ok, s.rd WELT_LANE_ST_STATE l = 1 → (ok = false ∨ s.lkrOk l = false) →
      Completes (.laneLock l ok) s fun t => t.rd WELT_LANE_ST_STATE l = 0
      ∧ (s.portState (l.val / 4) = psTraining → (∀ i, i < 4 → 4 * (l.val / 4) + i ≠ l.val →
          s.rd WELT_LANE_ST_STATE (4 * (l.val / 4) + i) ≠ 1 ∧ s.rd WELT_LANE_ST_STATE (4 * (l.val / 4) + i) ≠ 2) →
        t.portState (l.val / 4) = psDown)
      ∧ t = { s.logged t with ports := t.ports, life := t.life, rootConflict := t.rootConflict })
    ∧ (s.rd WELT_LANE_ST_STATE l ≠ 1 → ∀ ok, exec (.laneLock l ok) s = .next s)
    ∧ (∀ b : HelloBody, b.stamps = [] → s.portState p = psHello → h.seq.toNat = (s.port p).rxNext →
      (s.port p).helloRx = false → (s.port p).helloAcked = true → Completes (.hello p h b) s fun t =>
        t.portState p = psUp ∧ t.rd WELT_PEERID_ID p = b.stackId.toNat ∧ t.rd WELT_PSTAT_PEERNO p = b.stackNo.toNat
        ∧ ((s.port p).outQ = [] → (t.port p).txSeq = 0) ∧ (t.port p).rxNext = 0
        ∧ t = { s.logged t with ports := t.ports, life := t.life, rootConflict := t.rootConflict })
    ∧ (∀ b : HelloBody, b.stamps = [] → s.portState p = psHello → h.seq.toNat = (s.port p).rxNext →
      (s.port p).helloRx = false → (s.port p).helloAcked = false → (s.port p).replay = [] → (s.port p).outQ = [] →
      Completes (.hello p h b) s fun t => t.portState p = psHello ∧ (t.port p).helloRx = true
        ∧ (t.port p).credits = [b.buf0.toNat, b.buf1.toNat, b.buf2.toNat]
        ∧ t = { s.logged t with ports := t.ports, life := t.life, rootConflict := t.rootConflict })
    ∧ (s.portState p = psHello → (s.port p).since + 1000000 ≤ s.now → Completes (.helloTimeout p) s fun t =>
      t.portState p = psDown ∧ t.rd WELT_PSTAT_LANES p = 0
        ∧ t = { s.logged t with ports := t.ports, life := t.life, rootConflict := t.rootConflict })
    ∧ (s.portUp p = true → (s.port p).lastHello + 100000 ≤ s.now → Completes (.peerHelloLoss p) s fun t =>
      t.portState p = psDown ∧ t.rd WELT_PSTAT_LANES p = 0 ∧ (t.port p).sentHeld = [] ∧ (t.port p).holdStore = []
        ∧ (t.port p).quarantine = [] ∧ t = { s.logged t with ports := t.ports, life := t.life, rootConflict := t.rootConflict })
    ∧ (s.now < (s.port p).lastHello + 100000 → exec (.peerHelloLoss p) s = .next s)
    ∧ (∀ ok : BitVec 4, s.portState p = psRetrain → Completes (.portRetrain p ok) s fun t =>
      t.portState p = (if (List.range 4).any (fun i => bit (ok.toNat &&& s.lanesOn p) i && !s.penned (laneUnit (4 * p.val + i))
          && s.lkrOk (4 * p.val + i))
        then psHello else psDown) ∧ t = { s.logged t with ports := t.ports, life := t.life, reguls := t.reguls, rootConflict := t.rootConflict })
    ∧ (∀ c : LaneCause, s.rd WELT_LANE_ST_STATE l = 2 → Completes (.laneOut l c) s fun t => t.rd WELT_LANE_ST_STATE l = 0
      ∧ (∃ e ∈ t.events, e.code = evLaneOut ∧ e.unit = laneUnit l ∧ e.cls = (if c = .lkr then 0 else clsLane))
      ∧ ((s.portState (l.val / 4) = psUp ∨ s.portState (l.val / 4) = psHello) → (∀ i, i < 4 → 4 * (l.val / 4) + i ≠ l.val →
        s.rd WELT_LANE_ST_STATE (4 * (l.val / 4) + i) ≠ 2) → t.portState (l.val / 4) = psDown)
      ∧ (c = .lkr → t.rd WELT_PSTAT_LANES (l.val / 4) ≠ 0 →
        ((t.port (l.val / 4)).flitsOut.drop (s.port (l.val / 4)).flitsOut.length).map (·.seq)
          = ((s.port (l.val / 4)).replay.filter (fun f => f.lane == l.val % 4 && f.type != 4)).map (·.seq))
      ∧ (s.lkrOk l = true → s.regState (lkrOf l) ≠ rsTied → t.rdb TLR_CFG_EN (lkrOf l) = false)
      ∧ t = { s.charged t with reguls := t.reguls, laneAt := s.laneAt.set l s.now, rootConflict := t.rootConflict })
    ∧ (s.portUp (l.val / 4) = true → s.rd WELT_LANE_ST_STATE l = 0 → bit (s.lanesOn (l.val / 4)) (l.val % 4) = true →
      s.penned (laneUnit l) = false → s.lkrOk l = true → (∀ k, s.laneAt.find l = some k → k + 1000000000 ≤ s.now) →
      (Completes (.laneRetrain l true) s fun t => t.rd WELT_LANE_ST_STATE l = 2
        ∧ t = { s with regs := t.regs, reguls := t.reguls, laneAt := s.laneAt.set l s.now })
      ∧ exec (.laneRetrain l false) s = .next { s with laneAt := s.laneAt.set l s.now })
    ∧ (∀ ok k, (s.lkrOk l = false ∨ (s.laneAt.find l = some k ∧ s.now < k + 1000000000)) → exec (.laneRetrain l ok) s = .next s)
    ∧ (s.portHears p = true → ((s.port p).lastSent = 0 ∨ (s.port p).lastSent + 10000 ≤ s.now) →
      Completes (.helloTimer p) s fun t =>
      (∃ f ∈ (t.port p).outQ ++ (t.port p).replay, f.type = 0x01 ∧ f.body = s.helloBody p)
        ∧ (t.port p).lastSent = max 1 s.now ∧ (t.port p).ownNo = s.conf 0x0500
        ∧ (t.port p).stamps = (s.port p).stamps.drop 8 ∧ t = { s with ports := t.ports })
    ∧ Completes .timeTimer s (fun t =>
      (s.portUp p = true → (s.port p).outQ = [] → 0 < (s.port p).credits.getD 1 0 → (s.port p).replay.length < 2048 →
        (t.port p).timeSt = (s.port p).timeSt.set 0 s.now
        ∧ ∃ f ∈ (t.port p).replay, f.type = 0x02 ∧ f.body
          = toLE 8 s.now ++ toLE 8 ((s.port p).timeSt.getD 1 0) ++ toLE 8 ((s.port p).timeSt.getD 2 0))
      ∧ (s.portUp p = true → ∃ f ∈ (t.port p).outQ ++ (t.port p).replay, f.type = 0x02)
      ∧ (s.portUp p = false → t.port p = s.port p) ∧ t = { s with ports := t.ports })

/-! ## The host endpoint and the management endpoint (R382 to R396) -/

/-- A bad access of an enabled function is only counted. A failed read of host memory ends the running operation that
needs it with ST_HOST_FAULT, counted while the function is a bus master; that of a swap-in leaves its flow SWAPPED and
its frames free, that of a restart's reload ends the JOB_RESTORE that waits for the restart (both the model's choice,
log 77); bus mastering is a bit of the function (R384, R385). A function-level reset of a VF, and the removal of a VF,
end the function's session and its bus mastering and leave its MSI-X words clear; of the PF it removes every VF. A
function whose reset comes while the mailboxes are open is ready again at once where it is enabled. No flash and no
byte of host memory changes (R382, R386). -/
def Obligations.HostEndpoint : Prop :=
  (∀ (f : FnId) (m : MbxId) (k : Fin 8) (s : State),
     (∀ off len, s.pcieUp = true → bit (s.rd PCIE_VFEN_EN 0) f = true → off < 2 ^ 28 → bar0Bad off len = true →
       Completes (.bar0BadAccess ⟨f, off, len⟩) s fun t =>
         t.rd PCIE_BADACC_COUNT 0 = satAdd PCIE_BADACC_COUNT.w (s.rd PCIE_BADACC_COUNT 0) 1 ∧ t = { s with regs := t.regs })
     ∧ (∀ off len, bar0Bad off len = false → exec (.bar0BadAccess ⟨f, off, len⟩) s = .next s)
     ∧ ((s.pcieUp = false ∨ bit (s.rd PCIE_VFEN_EN 0) f = false) → (∀ off len, exec (.bar0BadAccess ⟨f, off, len⟩) s = .next s)
       ∧ ∀ en, exec (.busMasterEnable f en) s = .next s)
     ∧ (∀ en, s.pcieUp = true → bit (s.rd PCIE_VFEN_EN 0) f = true → Completes (.busMasterEnable f en) s fun t =>
       (∀ g, g < 16 → bit t.busMaster g = if g = f.val then en else bit s.busMaster g)
       ∧ ((en = false ∨ ∀ i, i < 8 → s.bgRuns f i 0x2005 = none) → t = { s with busMaster := t.busMaster }))
     ∧ (∀ b j, s.pcieUp = true → bit (s.rd PCIE_VFEN_EN 0) f = true → (∀ i, i < 8 → i ≠ k.val → s.bgRuns f i 0x2005 = none) →
       s.bgRuns f k 0x2005 = some b → s.jobByHandle b.object = some j → j.state = 2 →
       s.findExport f (b.args.getD 0 0) (b.args.getD 1 0 * 65536) = none → Completes (.busMasterEnable f true) s fun t =>
         (∀ c, t.bg f k = some c → c.opid = b.opid ∧ c.state = 2 ∧ c.status = stIntegrity))
     ∧ (∀ b, s.bg m k = some b → b.state = 1 → m.val < 16 → b.opcode = 0x4004 → s.needsHost m b = true →
       Completes (.hostReadFailure (.mbx m) k) s fun t =>
         (∀ c, t.bg m k = some c → c.opid = b.opid ∧ c.state = 2 ∧ c.status = stHostFault)
         ∧ t.rd PCIE_HOSTERR_COUNT 0 = (if s.masters m then satAdd PCIE_HOSTERR_COUNT.w (s.rd PCIE_HOSTERR_COUNT 0) 1
             else s.rd PCIE_HOSTERR_COUNT 0)
         ∧ t = { s with regs := t.regs, mboxes := t.mboxes, msix := t.msix, msixPend := t.msixPend })
     ∧ (s.bg m k = none → exec (.hostReadFailure (.mbx m) k) s = .next s)
     ∧ (∀ (u : TileId) e w j, (s.tile u).swaps.find? (fun w => w.entry == e && !w.out) = some w → s.jobOf u = some j →
       s.masters j.fn = true → (s.tile u).drained = true → Completes (.hostReadFailure (.swapIn u) e) s fun t =>
         (t.tile u).fteState e = 3 ∧ w ∉ (t.tile u).swaps
         ∧ t.rd PCIE_HOSTERR_COUNT 0 = satAdd PCIE_HOSTERR_COUNT.w (s.rd PCIE_HOSTERR_COUNT 0) 1
         ∧ s.otherTiles t u ∧ t = { s with tiles := t.tiles, regs := t.regs })
     ∧ (∀ (u : TileId) e, (s.tile u).swaps.find? (fun w => w.entry == e && !w.out) = none →
       exec (.hostReadFailure (.swapIn u) e) s = .next s)
     ∧ (∀ (u : TileId) j, s.jobOf u = some j → s.masters j.fn = true → s.mayRestore j u = true →
       (j.restart.map (·.reload)).getD false = true → j.recompOf u ≠ [] → Completes (.hostReadFailure (.reload u) k) s fun t =>
         t.rd PCIE_HOSTERR_COUNT 0 = satAdd PCIE_HOSTERR_COUNT.w (s.rd PCIE_HOSTERR_COUNT 0) 1
         ∧ (∀ i k b, j.ckptOp = some (i, k) → s.bg i k = some b → ∀ c, t.bg i k = some c → c.state = 2 ∧ c.status = stHostFault)
         ∧ t = { s with regs := t.regs, jobs := t.jobs, mboxes := t.mboxes, msix := t.msix, msixPend := t.msixPend }))
  ∧ (∀ (f : FnId) (s : State), s.pcieUp = true →
       (f.val ≠ 0 → bit (s.rd PCIE_VFEN_EN 0) f = true → s.phase = .open →
         Completes (.functionLevelReset f) s fun t => bit t.busMaster f = false ∧ (t.sess f).state ≠ 1
           ∧ t.mbxState f = mxIdle ∧ t.rd MBX_SP_INFO_READY f = 1 ∧ t.rd MBX_SP_FPRINT_FPRINT f = s.fprint
           ∧ (∀ w, w < 32 → t.msixTab.find (32 * f.val + w) = none) ∧ (∀ w, w < 8 → t.msixPend.find (8 * f.val + w) = none)
           ∧ (∀ w, w < 32 → t.ringIrq.find (4 * f.val + w % 4) = none) ∧ t.flash = s.flash ∧ t.host = s.host)
       ∧ (f.val = 0 → bit (s.rd PCIE_VFEN_EN 0) 0 = true → Completes (.functionLevelReset f) s fun t =>
         t.rd PCIE_VFEN_EN 0 = 1 ∧ t.flash = s.flash ∧ t.host = s.host)
       ∧ (∀ n : Fin 16, s.phase ≠ .recovery → Completes (.vfEnableClear n) s fun t =>
         t.rd PCIE_VFEN_EN 0 = 2 ^ (n.val + 1) - 1 ∧ t.flash = s.flash ∧ t.host = s.host)
       ∧ (s.phase = .recovery → ∀ n, exec (.vfEnableClear n) s = .next s)
       ∧ (bit (s.rd PCIE_VFEN_EN 0) f = false → exec (.functionLevelReset f) s = .next s))

/-- A client whose certificate is accepted is bound to the lowest free management mailbox and gets its first frame;
one whose certificate is not accepted, or that comes while all four are taken or from an address that is blocked, is
not bound: the refusal is counted, or answered with the alert bad_certificate and recorded (R388, R389; the alert's
number is the model's, log 163). A connection closes on its client's word, or after the idle time; its mailbox is free
again (R389). A REQUEST frame starts its command on an idle mailbox and waits behind others, at most four, else;
beyond those the connection is not read, and later frames wait. A read of the status page answers with a frame; a
frame of another type is counted (R185, R390). -/
def Obligations.ManagementEndpoint : Prop :=
  (∀ (c : Fin 4) (cert : ClientCert) (s : State),
     (s.mgtUp = false → exec (.mgtConnect cert) s = .next s)
     ∧ (s.mgtUp = true → s.freeConn = none → Completes (.mgtConnect cert) s fun t =>
       t.rd MGT_REFUSED_COUNT 0 = satAdd MGT_REFUSED_COUNT.w (s.rd MGT_REFUSED_COUNT 0) 1 ∧ t = { s with regs := t.regs })
     ∧ (s.mgtUp = true → s.freeConn = some c.val → s.addressBlocked cert.address = true → Completes (.mgtConnect cert) s fun t =>
       t.rd MGT_REFUSED_COUNT 0 = satAdd MGT_REFUSED_COUNT.w (s.rd MGT_REFUSED_COUNT 0) 1
       ∧ t.connOpen c = false ∧ t = { s with regs := t.regs })
     ∧ (s.mgtUp = true → s.freeConn = some c.val → s.addressBlocked cert.address = false → s.certOk cert = true →
       Completes (.mgtConnect cert) s fun t => t.connOpen c = true ∧ (t.conn c).mbx = 16 + c.val
         ∧ (∃ l, (t.conn c).frames = (1, toLE 2 s.fwLevel ++ toLE 2 (16 + c.val) ++ toLE 8 s.stackId) :: l)
         ∧ t.evKept = [] ∧ t = { s with regs := t.regs, conns := t.conns, evKept := [] })
     ∧ (s.mgtUp = true → s.freeConn = some c.val → s.addressBlocked cert.address = false → s.certOk cert = false →
       Completes (.mgtConnect cert) s fun t => t.connOpen c = false ∧ (cert.address, s.now) ∈ t.authFails
         ∧ t.alerts = s.alerts ++ [(cert.address, 42)] ∧ s.reported t evMgtAuthFail stratumUnit
         ∧ t = { s.logged t with authFails := t.authFails, alerts := t.alerts })
     ∧ (∀ w, (w = .mgtClose c ∨ (w = .mgtIdleTimeout c ∧ (s.conn c).lastFrame + s.conf 0x0514 * 1000000000 ≤ s.now)) →
       s.heard c = true →
       (s.mbxState (16 + c.val) ≠ mxBusy → Completes w s fun t => t.connOpen c = false ∧ t.conn c = Conn.reset
         ∧ (t.mbox (16 + c.val)).queue = [] ∧ t = { s with regs := t.regs, conns := t.conns, mboxes := t.mboxes })
       ∧ (s.mbxState (16 + c.val) = mxBusy → Completes w s fun t => (t.conn c).closing = true ∧ t.connOpen c = true
         ∧ t = { s with conns := t.conns }))
     ∧ (s.now < (s.conn c).lastFrame + s.conf 0x0514 * 1000000000 → exec (.mgtIdleTimeout c) s = .next s)
     ∧ (s.heard c = false → exec (.mgtClose c) s = .next s))
  ∧ (∀ (c : Fin 4) (body : Bytes) (s : State), s.heard c = true → 16 ≤ body.length → body.length ≤ 4096 →
       ((s.conn c).unread ≠ [] → ∀ k ∈ [(Instr.request c body, MgtFrame.request body), (.statusRead c, .status), (.mgtBadframe c 0#16, .bad)],
         Completes k.1 s fun t => (t.conn c).unread = (s.conn c).unread ++ [k.2] ∧ t = { s with conns := t.conns })
       ∧ ((s.conn c).unread = [] → (s.mbxState (16 + c.val) = mxIdle → (s.mbox (16 + c.val)).go = false →
         (s.mbox (16 + c.val)).queue = [] →
         Completes (.request c body) s fun t => (t.mbox (16 + c.val)).go = true ∧ (t.conn c).lastFrame = s.now
           ∧ (∀ i, i < body.length → Memory.get (t.mbox (16 + c.val)).request i = body.getD i 0#8)
           ∧ t = { s with conns := t.conns, mboxes := t.mboxes })
       ∧ (s.mbxState (16 + c.val) = mxBusy → (s.mbox (16 + c.val)).queue.length < 4 → Completes (.request c body) s fun t =>
         (t.mbox (16 + c.val)).queue = (s.mbox (16 + c.val)).queue ++ [body] ∧ t = { s with conns := t.conns, mboxes := t.mboxes })
       ∧ (s.mbxState (16 + c.val) = mxBusy → 4 ≤ (s.mbox (16 + c.val)).queue.length → Completes (.request c body) s fun t =>
         (t.conn c).unread = [.request body] ∧ t.mboxes = s.mboxes ∧ t = { s with conns := t.conns })
       ∧ Completes (.statusRead c) s (fun t =>
         (∃ l, (t.conn c).frames = l ++ [(8, s.statusPage (16 + c.val) ++ toLE 4 (s.rd MBX_ACCEPT_TAG (16 + c.val)))])
         ∧ (s.statusPage (16 + c.val)).length = 4096 ∧ t = { s with conns := t.conns })
       ∧ (∀ ty : BitVec 16, ty ≠ 2#16 → ty ≠ 6#16 → ty ≠ 7#16 → Completes (.mgtBadframe c ty) s fun t =>
         t.rd MGT_BADFRAME_COUNT 0 = satAdd MGT_BADFRAME_COUNT.w (s.rd MGT_BADFRAME_COUNT 0) 1
         ∧ t = { s with conns := t.conns, regs := t.regs })))

/-- A synchronisation sets the offset of the wall clock; sixteen within 1 µs of one another make it valid; 10 s
without one are recorded, and after 60 s it is no longer valid (R392). An attestation request is answered on the path
that it came by, and nowhere else: version 1.2, the capabilities, what is offered of ECDSA P-384 and SHA-384, the
digest and the certificate chain of slot 0, a signed challenge and signed measurements; any other is answered with
UnsupportedRequest (R395, R396). The layout of the responses is the model's (log 90). -/
def Obligations.WallClockAndAttestation : Prop :=
  (∀ (off : BitVec 64) (s : State),
     (s.mgtUp = true → Completes (.ptpSync off) s fun t =>
       t.rd MGT_WALL_OFFSET 0 = off.toNat ∧ t.rdb MGT_STAT_PTP 0 = true ∧ t.ptpAt = s.now
         ∧ (s.ptpRun = 0 → t.ptpRun = 1 ∧ t.rd MGT_STAT_WALLOK 0 = s.rd MGT_STAT_WALLOK 0)
         ∧ (15 ≤ s.ptpRun → s.ptpOff = off.toNat → t.ptpRun = 16 ∧ t.rdb MGT_STAT_WALLOK 0 = true)
         ∧ t = { s with regs := t.regs, ptpRun := t.ptpRun, ptpAt := t.ptpAt, ptpOff := t.ptpOff })
     ∧ (s.rdb MGT_STAT_PTP 0 = true → s.ptpAt + 10000000000 ≤ s.now → Completes .ptpLost s fun t =>
       t.rdb MGT_STAT_PTP 0 = false ∧ t.ptpRun = 0 ∧ s.reported t evPtpLost stratumUnit
       ∧ (s.rdb MGT_STAT_WALLOK 0 = true → t.rdb MGT_STAT_WALLOK 0 = decide (s.now < s.ptpAt + 60000000000))
       ∧ t = { s.logged t with ptpRun := t.ptpRun })
     ∧ (s.now < s.ptpAt + 10000000000 → exec .ptpLost s = .next s))
  ∧ (∀ (c : Fin 4) (f : FnId) (s : State),
       (∀ (n : Bytes) (i k : Byte) (o l : BitVec 16) (a h : W32), n.length = 32 → 8 ≤ i.toNat → i.toNat ≠ 255 →
         spdmKnown k.toNat = false → ∀ x ∈ ([(Instr.getVersion, [0x10, 0x04, 0, 0, 0, 1, 0x00, 0x12]),
           (Instr.getDigests, spdmHead 0x01 0 1 ++ sha384 s.stackRecord.chain),
           (fun p => .challenge p 1#4 n, spdmError 0x01 0), (fun p => .getMeasurements p i n, spdmError 0x01 0),
           (fun p => .getCertificate p 1#4 o l, spdmError 0x01 0),
           (fun p => .getCertificate p 0#4 o l, if s.stackRecord.chain.length ≤ o.toNat then spdmError 0x01 0
             else let q := (s.stackRecord.chain.drop o.toNat).take l.toNat
               spdmHead 0x02 0 0 ++ toLE 2 q.length ++ toLE 2 (s.stackRecord.chain.length - o.toNat - q.length) ++ q),
           (fun p => .negotiateAlgorithms p a h, spdmHead 0x63 0 0 ++ toLE 2 36 ++ toLE 1 1 ++ toLE 1 0 ++ toLE 4 4
             ++ toLE 4 (a.toNat &&& 0x80) ++ toLE 4 (h.toNat &&& 0x02) ++ zeros 16),
           (fun p => .spdmUnsupportedRequest p k, spdmError 0x07 k.toNat)] : List ((SpdmPath → Instr) × Bytes)),
         (s.heard c = true → (s.conn c).unread = [] →
           Completes (x.1 (.mgt c)) s fun t => (∃ l, (t.conn c).frames = l ++ [(6, x.2)]) ∧ t = { s with conns := t.conns })
         ∧ (s.doeUp f = true → exec (x.1 (.doe f)) s = .next { s with spdmOut := s.spdmOut ++ [(f.val, x.2)] })
         ∧ (s.doeUp f = false → exec (x.1 (.doe f)) s = .next s))
       ∧ (s.doeUp f = true → Completes (.getCapabilities (.doe f)) s fun t =>
         (∃ b : Bytes, t.spdmOut = s.spdmOut ++ [(f.val, b)] ∧ fld b 0 4 = 0x6112 ∧ fld b 8 4 = 0x16)
           ∧ t = { s with spdmOut := t.spdmOut })
       ∧ (∀ n : Bytes, n.length = 32 → s.doeUp f = true →
         (let r := spdmHead 0x03 0 1 ++ sha384 s.stackRecord.chain ++ toLE 32 (Config.nonce s.drawn).toNat ++ toLE 2 0
          exec (.challenge (.doe f) 0#4 n) s = .next { s with
            spdmOut := s.spdmOut ++ [(f.val, r ++ toBE 96 (Config.sign (n ++ r)).toNat)], drawn := s.drawn + 1 }))
       ∧ (∀ (n : Bytes) (i : Byte), n.length = 32 → 1 ≤ i.toNat → i.toNat ≤ 7 → s.doeUp f = true →
         Completes (.getMeasurements (.doe f) i n) s fun t =>
         (∃ b : Bytes, t.spdmOut = s.spdmOut ++ [(f.val, b)] ∧ fld b 0 2 = 0x6012 ∧ fld b 4 1 = 1
           ∧ sub b 8 (s.measureBlock i.toNat).length = s.measureBlock i.toNat
           ∧ b.drop (b.length - 96) = toBE 96 (Config.sign (n ++ b.take (b.length - 96))).toNat)
         ∧ t = { s with spdmOut := t.spdmOut, drawn := t.drawn })
       ∧ (∀ k : Byte, spdmKnown k.toNat = true → ∀ p, exec (.spdmUnsupportedRequest p k) s = .next s))

/-! ## Reset, start-up, standby (R397 to R403, R414 to R416, R431) -/

/-- PERST# asserted erases the keys and every job, flow, message, connection and session, and returns the fields of
class K2 and below to their Reset values; those of class K3 stay, and so do the flash, the journal and host memory,
but that flash work under way is abandoned: an entry that was being programmed at the head is not whole, and no block
of a half that was being erased verifies. Cold power-on returns class K3 too, and the buffered journal is lost;
powered minutes are then those that the flash holds (R397, R398, R415; what was torn is the model's choice, log 165).
At the release of PERST# stack time starts at 0 and the PCIe link is up at a rate that it has; with a factory part
whose key is readable and an image that verifies the boot ROM goes on, else it stays in recovery with mailbox 0 alone
ready. The firmware's start takes the chosen image, the operator identity and the committed configuration; the end of
the bring-up, or the boot bound, opens the mailboxes of the enabled functions and of the management network, in the
state recorded last, or in GUARDED over a suspect unit (R185, R401 to R407, R414, R431). -/
def Obligations.ResetAndStartUp : Prop :=
  (∀ (s : State),
     (s.phase ≠ .reset → Completes .perstAssert s fun t => t.phase = .reset ∧ t.keys = [] ∧ t.jobs = [] ∧ t.flows = []
       ∧ t.exports = [] ∧ t.mesh = [] ∧ t.conns = [] ∧ t.sessions = [] ∧ t.ringQ = [] ∧ t.busMaster = 0
       ∧ t.host = s.host ∧ t.buffer = s.buffer ∧ t.pending = s.pending ∧ t.flash.busy = none
       ∧ (s.flash.busy = none → (∀ m, m < 20 → s.command m 0x1005 = none) → t.flash = s.flash ∧ t.sectors = s.sectors)
       ∧ (∀ e l, s.flash.busy = some .flush → s.buffer = e :: l → (s.sector (s.rd LREC_STAT_HEAD 0)).ok = true →
         (s.sector (s.rd LREC_STAT_HEAD 0)).used + e.size ≤ 65536 →
         (t.sector (s.rd LREC_STAT_HEAD 0)).entries = (s.sector (s.rd LREC_STAT_HEAD 0)).entries ++ [e.cut])
       ∧ (s.flash.busy = some .half → ∀ b ∈ t.flash.other, b.ok = false)
       ∧ (∀ r, r < 2144 → t.rd TLR_FAULT_COUNT r = s.rd TLR_FAULT_COUNT r ∧ t.rd TLR_STAT_STATE r = 0)
       ∧ (∀ u, u < 1024 → t.rd TILE_STATE_STATE u = 0 ∧ t.rd NBC_SELFTEST_TIME u = s.rd NBC_SELFTEST_TIME u)
       ∧ t.rd LREC_POWERED_MIN 0 = s.rd LREC_POWERED_MIN 0)
     ∧ (s.phase = .reset → exec .perstAssert s = .next s)
     ∧ Completes .coldPowerOn s (fun t => t.phase = .reset ∧ t.keys = [] ∧ t.jobs = [] ∧ t.sessions = [] ∧ t.buffer = []
       ∧ t.pending = s.pending ∧ t.flash.busy = none
       ∧ (s.flash.busy = none → (∀ m, m < 20 → s.command m 0x1005 = none) → t.flash = s.flash ∧ t.sectors = s.sectors
         ∧ t.minutes = s.journalMinutes % 2 ^ 32)
       ∧ (∀ r, r < 2144 → t.rd TLR_FAULT_COUNT r = 0) ∧ (∀ u, u < 1024 → t.rd TILE_STATE_STATE u = 0)))
  ∧ (∀ (s : State),
       (s.phase = .reset → Completes .perstRelease s fun t => t.now = 0 ∧ t.frac = 0
         ∧ (1 ≤ t.rd PCIE_LINK_RATE 0 ∧ t.rd PCIE_LINK_RATE 0 ≤ 6 ∧ (t.rd PCIE_LINK_RATE 0 = 6 → t.rd PCIE_LINK_FLIT 0 = 1))
         ∧ (∀ x, s.readFactory = some x → t.stackRecord = x.1.stackRecord)
         ∧ (if (s.readFactory.any fun x => x.2 && x.1.chosenImage.isSome) = true then t.phase = .rom
            else t.phase = .recovery ∧ t.cfg = [] ∧ (bit (t.rd PCIE_VFEN_EN 0) 0 = true →
              t.mbxState 0 = mxIdle ∧ t.rd MBX_SP_INFO_READY 0 = 1 ∧ t.rd MBX_SP_INFO_LEVEL 0 = 3 ∧ t.rd MBX_SP_INFO_DSTATE 0 = 4))
         ∧ t = { s with cfg := t.cfg, drawn := t.drawn, frac := 0, fwLevel := t.fwLevel, lrecHeld := t.lrecHeld, msix := t.msix, msixPend := t.msixPend
                        now := 0, phase := t.phase, regs := t.regs, report := t.report, stackRecord := t.stackRecord, stopKind := 0, trip := false })
       ∧ (s.phase ≠ .reset → exec .perstRelease s = .next s)
       ∧ (∀ k i, s.phase = .rom → s.chosenImage = some k → s.flash.images[k]? = some i → Completes .firmwareStart s fun t =>
         t.phase = .firmware ∧ t.fwImage = k ∧ t.fwVersion = i.version ∧ t.fwLevel = i.level ∧ t.host = s.host ∧ t.flash = s.flash
           ∧ t.stackRecord = s.stackRecord ∧ t.operator = s.readOperator.operator ∧ t.cfg = s.readOperator.committed)
       ∧ (s.phase ≠ .rom → exec .firmwareStart s = .next s)
       ∧ (s.phase = .firmware → 1350000000 ≤ s.now → Completes .mailboxOpen s fun t => t.phase = .open ∧ t.drain = none
         ∧ t.dstate = s.openState ∧ (∀ m, m < 20 → (m < 16 → bit (s.rd PCIE_VFEN_EN 0) m = true) → t.mbxState m = mxIdle
           ∧ t.rd MBX_SP_INFO_READY m = 1
             ∧ t.rd MBX_SP_STIME_STIME m = s.now % 2 ^ 64)
         ∧ (∀ m, m < 20 → t.rd MBX_SP_FPRINT_FPRINT m = s.fprint % 2 ^ 64))
       ∧ ((s.phase ≠ .firmware ∨ (s.now < 1350000000 ∧ s.broughtUp = false)) → exec .mailboxOpen s = .next s))

/-- A drover restart forgets what waited in every mailbox, counts it on the status pages, and closes the management
connections; keys, host memory, flash and the exported images stay. It is over when the mailboxes open again. Before
they are open the start-up goes on after it, and in recovery mode mailbox 0 is ready again (the model's choice, log
101) (R179, R378, R415). Idle for the configured time, the stack goes to standby: its regulators that regulate, the
source of a tie among them, go into burst mode. The first command that admits work ends it (R416). -/
def Obligations.DroverRestartsAndStandby : Prop :=
  (∀ (s : State),
     ((s.phase = .open ∨ s.phase = .drover) → Completes .droverRestart s fun t => t.phase = .drover ∧ t.conns = [] ∧ t.ringIrq = []
       ∧ (∀ m, m < 20 → (t.mbox m).accepted = none ∧ (t.mbox m).go = false ∧ (t.mbox m).bg = [] ∧ (t.mbox m).queue = []
           ∧ t.rd MBX_SP_INFO_RESTARTS m = min 255 (s.rd MBX_SP_INFO_RESTARTS 0 + 1))
       ∧ (∀ m, m < 16 → s.rdb MBX_SP_INFO_READY m = true → ∃ n, t.msix.find (8 * m + 7) = some (n + 1))
       ∧ t.keys = s.keys ∧ t.host = s.host ∧ t.flash = s.flash ∧ t.exports = s.exports ∧ t.ringQ = s.ringQ)
     ∧ ((s.phase = .rom ∨ s.phase = .firmware ∨ s.phase = .recovery) → Completes .droverRestart s fun t =>
       t.phase = s.phase ∧ t.conns = [] ∧ t.ringIrq = []
       ∧ (∀ m, m < 20 → (t.mbox m).accepted = none ∧ (t.mbox m).go = false ∧ (t.mbox m).bg = [] ∧ (t.mbox m).queue = []
           ∧ t.rd MBX_SP_INFO_RESTARTS m = min 255 (s.rd MBX_SP_INFO_RESTARTS 0 + 1))
       ∧ (s.phase = .recovery → bit (s.rd PCIE_VFEN_EN 0) 0 = true → t.mbxState 0 = mxIdle ∧ t.rd MBX_SP_INFO_READY 0 = 1)
       ∧ t.keys = s.keys ∧ t.host = s.host ∧ t.flash = s.flash)
     ∧ ((s.phase = .reset ∨ s.phase = .stopped) → exec .droverRestart s = .next s)
     ∧ (s.phase = .drover → Completes .droverReady s fun t => t.phase = .open ∧ t.idleFrom = s.now
       ∧ (∀ m, m < 20 → (m < 16 → bit (s.rd PCIE_VFEN_EN 0) m = true) → t.mbxState m = mxIdle ∧ t.rd MBX_SP_INFO_READY m = 1)
       ∧ t.drvIn = []
       ∧ (s.drvIn = [] → t = { s with
           idleFrom := s.now, msix := t.msix, msixPend := t.msixPend, phase := .open, regs := t.regs, report := t.report,
           ports := t.ports }))
     ∧ (s.phase ≠ .drover → exec .droverReady s = .next s))
  ∧ (∀ (s : State),
       (s.phase = .open → s.standby = false → s.conf 0x0600 ≠ 0 → s.idleNow = true → s.heatStops = false →
         s.idleFrom + s.conf 0x0600 * 1000000000 ≤ s.now → Completes .standbyEnter s fun t => t.standby = true
           ∧ (∀ r ∈ s.liveRegs, (s.regState r = rsRegulate ∨ s.regState r = rsSource) → t.regState r = rsBurst
             ∧ t.rd TLR_STAT_PHASES r = 0)
           ∧ (∀ u, u < 1024 → (s.tile u).off = false → t.rd TILE_STATE_STATE u = 5)
           ∧ t = { s with regs := t.regs, reguls := t.reguls, loops := t.loops, standby := true, tiles := t.tiles })
       ∧ ((s.idleNow = false ∨ s.conf 0x0600 = 0 ∨ s.now < s.idleFrom + s.conf 0x0600 * 1000000000) →
         exec .standbyEnter s = .next s)
       ∧ (s.standby = true → s.workAsked = true → Completes .standbyExit s fun t => t.standby = false ∧ t.idleFrom = s.now
         ∧ (∀ r ∈ s.liveRegs, s.regState r = rsBurst →
           t.regState r = (if s.rdb TLR_TIE_SOURCE r then rsSource else rsRegulate))
         ∧ t = { s with regs := t.regs, reguls := t.reguls, loops := t.loops, standby := false, tiles := t.tiles, idleFrom := s.now })
       ∧ ((s.standby = false ∨ s.workAsked = false) → exec .standbyExit s = .next s))

/-! ## The Life Record (R419, R424, R432 to R439) -/

/-- Powered minutes are counted, every tenth with a POWERED entry; every 24 h of them the lifetime account is
journalled as a SNAPSHOT; histograms are appended at each whole hour, and after a charge or a change of state at most
once in 10 minutes, and start over (R419, R424, R433, R435). Flash work that is due and finds no other under way
begins, and its next call ends it with its effect (two calls are the model's choice, log 165). A flush appends the
buffered entries to the head sector and empties the buffer; for a page whose program fails the lowest free spare
sector takes the head's place, and without one the sector is lost. Once a month of powered operation old sectors are
written anew. A flash copy that is due is erased and rewritten from the other, which has to verify; a half of the
configuration log is erased once a newer block stands in the other (R398, R400, R411, R433 to R439). -/
def Obligations.LifeRecord : Prop :=
  (∀ (s : State),
     (s.alive = true → s.minuteAt + 60000000000 ≤ s.now → Completes .poweredMinute s fun t =>
       t.minutes = (s.minutes + 1) % 2 ^ 32 ∧ t.minuteAt = s.minuteAt + 60000000000
         ∧ ((s.minutes + 1) % 10 ≠ 0 → t.buffer = s.buffer)
         ∧ ((s.minutes + 1) % 10 = 0 → s.rdb LREC_STAT_LOWSPARE 0 = false → s.phase ≠ .recovery → s.buffer = [] →
             ∃ e, t.buffer = [e] ∧ e.type = 7 ∧ e.ok = true ∧ e.seq = s.rd LREC_SEQ_NEXT 0
               ∧ fld e.body 0 4 = (s.minutes + 1) % 2 ^ 32)
         ∧ t = { s with regs := t.regs, minuteAt := t.minuteAt, buffer := t.buffer, sectors := t.sectors, snapMin := t.snapMin })
     ∧ ((s.alive = false ∨ s.now < s.minuteAt + 60000000000) → exec .poweredMinute s = .next s)
     ∧ (s.writesFlash = true → s.snapMin + 1440 ≤ s.minutes → Completes .snapshotWrite s fun t => t.snapMin = s.minutes
       ∧ (s.buffer = [] → (s.account.parts.map fun b => 16 + (pad16 b).length).sum ≤ 65536 →
         t.buffer.map (fun e => (e.type, e.body)) = s.account.parts.map fun b => (6, pad16 b))
       ∧ t = { s with buffer := t.buffer, regs := t.regs, snapMin := t.snapMin, sectors := t.sectors })
     ∧ ((s.writesFlash = false ∨ s.minutes < s.snapMin + 1440) → exec .snapshotWrite s = .next s)
     ∧ (s.phase ≠ .reset → (s.histAt < s.now / 3600000000000 * 3600000000000
         ∨ (s.histOwed = true ∧ s.histAt + 600000000000 ≤ s.now)) → Completes .histAppend s fun t =>
       t.bins = [] ∧ t.histAt = s.now ∧ t.histOwed = false
       ∧ (s.rdb LREC_STAT_LOWSPARE 0 = false → s.phase ≠ .recovery → s.buffer = [] → ∃ e, t.buffer = [e] ∧ e.type = 5
         ∧ e.seq = s.rd LREC_SEQ_NEXT 0 ∧ fld e.body 0 8 = s.histAt % 2 ^ 64 ∧ fld e.body 8 8 = s.now % 2 ^ 64)
       ∧ t = { s with bins := [], buffer := t.buffer, histAt := s.now, histOwed := false, life := t.life, regs := t.regs
                      sectors := t.sectors, snapMin := t.snapMin })
     ∧ (s.now / 3600000000000 * 3600000000000 ≤ s.histAt → (s.histOwed = false ∨ s.now < s.histAt + 600000000000) →
       exec .histAppend s = .next s))
  ∧ (∀ (s : State) (ok : Bool) (region : Fin 3),
       (s.writesFlash = true → s.flash.busy = none →
         ∀ k ∈ [(Instr.journalFlush ok, FlashWork.flush, !s.buffer.isEmpty),
           (.retentionPass, .retention, decide (s.rd LREC_REWRITE_MIN 0 + monthMinutes ≤ s.minutes)),
           (.configHalfErase, .half, !s.flash.other.isEmpty && s.flash.newerHere)],
           (k.2.2 = true → Completes k.1 s fun t => t.flash = { s.flash with busy := some k.2.1 }
             ∧ t.rd LREC_STAT_FLUSHING 0 = 1 ∧ t = { s with flash := t.flash, regs := t.regs })
           ∧ (k.2.2 = false → exec k.1 s = .next s))
       ∧ (∀ c ∈ [Instr.journalFlush ok, .retentionPass, .configHalfErase, .flashRefresh region ok], s.writesFlash = false →
         exec c s = .next s)
       ∧ (∀ k ∈ [(Instr.journalFlush ok, FlashWork.flush), (.retentionPass, .retention), (.configHalfErase, .half)],
         s.flash.busy ≠ none → s.flash.busy ≠ some k.2 → exec k.1 s = .next s)
       ∧ (let h := s.rd LREC_STAT_HEAD 0
         s.writesFlash = true → s.flash.busy = some .flush →
         (s.goodSectors ≠ 0 → Completes (.journalFlush true) s fun t => t.buffer = []
           ∧ t.flash = { s.flash with busy := none } ∧ t.rd LREC_STAT_FLUSHING 0 = 0
           ∧ ((s.sector h).ok = true → (s.sector h).used + (s.buffer.map JEntry.size).sum ≤ 65536 →
             s.rdb LREC_STAT_LOWSPARE 0 = false → (∀ i, s.nextSector h = some i → i = h ∨ s.holdsSnap i = false) →
             (t.sector h).entries = (s.sector h).entries ++ s.buffer ∧ t.rd LREC_STAT_HEAD 0 = h)
           ∧ t = { s with buffer := [], flash := t.flash, regs := t.regs, sectors := t.sectors, snapMin := t.snapMin })
         ∧ (s.goodSectors ≠ 0 → s.flash.freeSpares ≠ [] → Completes (.journalFlush false) s fun t =>
           t.flash = { s.flash.mapSector (regionSector 9 + h) with busy := none } ∧ (t.sector h).bad = (s.sector h).bad
           ∧ ((s.flash.mapSector (regionSector 9 + h)).freeSpares = [] → ∃ e, t.events = s.events ++ [e] ∧ e.code = evFlashSparesOut)
           ∧ ((s.flash.mapSector (regionSector 9 + h)).freeSpares ≠ [] → t.events = s.events)
           ∧ t.buffer = [] ∧ t = { s.logged t with flash := t.flash })
         ∧ (2 ≤ s.goodSectors → (s.sector h).bad = false → s.flash.freeSpares = [] → Completes (.journalFlush false) s fun t =>
           (t.sector h).bad = true ∧ (t.sector h).entries = [] ∧ t.rd LREC_STAT_HEAD 0 ≠ h ∧ t.buffer = []
           ∧ t = { s with buffer := [], flash := t.flash, regs := t.regs, sectors := t.sectors, snapMin := t.snapMin }))
       ∧ (s.writesFlash = true → s.flash.busy = some .retention → Completes .retentionPass s fun t =>
         t.rd LREC_REWRITE_MIN 0 = s.minutes % 2 ^ 32 ∧ t.flash = { s.flash with busy := none }
         ∧ t = { s with flash := t.flash, regs := t.regs, sectors := t.sectors, snapMin := t.snapMin })
       ∧ (∀ c, s.writesFlash = true → s.flash.busy = none → s.refreshDue region = some c →
         Completes (.flashRefresh region ok) s fun t =>
           t.flash = { s.flash.setCopy region c none with busy := some (.refresh region c) } ∧ t.rd LREC_STAT_FLUSHING 0 = 1
           ∧ s.copyOk region (1 - c) = true ∧ t = { s with flash := t.flash, regs := t.regs })
       ∧ (s.flash.busy = none → s.refreshDue region = none → exec (.flashRefresh region ok) s = .next s)
       ∧ (∀ c, s.writesFlash = true → s.flash.busy = some (.refresh region c) → Completes (.flashRefresh region true) s fun t =>
         t.flash = { s.flash.setCopy region c (some (1 - c)) with
                     refreshed := s.flash.refreshed.set (2 * region.val + c) s.minutes, busy := none }
         ∧ t = { s with flash := t.flash, regs := t.regs })
       ∧ (s.writesFlash = true → s.flash.busy = some .half → Completes .configHalfErase s fun t =>
         t.flash = { s.flash with other := [], busy := none } ∧ t = { s with flash := t.flash, regs := t.regs }))

/-! ## The whole machine -/

/-- Every command, with every value of its operands, completes with a next state, from every state: none ends in a
fault or a refusal. -/
def Obligations.EveryCommandCompletes : Prop :=
  ∀ (c : Instr) (s : State), ∃ t, exec c s = .next t

/-- The register table and host memory are in their canonical forms. -/
def Obligations.CanonicalFormsAreKept : Prop :=
  ∀ (s t : State), s.regsCanonical = true → s.hostCanonical = true → step s = .next t →
    t.regsCanonical = true ∧ t.hostCanonical = true

/-- The state after reset has the canonical forms, an empty queue, and every register field at the Reset value of the
register catalogue (R12). -/
def Obligations.ResetState : Prop :=
  State.reset.regsCanonical = true ∧ State.reset.hostCanonical = true ∧ State.reset.pending = []
    ∧ State.reset.phase = .reset ∧ ∀ (f : Field) (u : Nat), State.reset.rd f u = f.resetAt u

/-- Only the commands named change the key slots: no tile's instruction, no message, no transfer and no mailbox
command but those that open, rotate and close a session (R256, R261). Host memory changes only where the drover writes
an export image, a copy, a ring entry or a swap image. The board flash, but for the sectors of the Life Record,
changes only at a commit, where an erase or program of its own begins and ends (a refresh, the erase of a half of the
configuration log, a flush and the retention pass of the journal), and where a reset abandons one. No command changes
the queue. -/
def Obligations.ProtectedStateChangesOnlyByItsCommands : Prop :=
  (∀ (c : Instr) (s t : State), exec c s = .next t → t.keys ≠ s.keys →
     (∃ m ok, c = .sessOpen m ok ∨ c = .sessRotateKey m ok ∨ c = .sessClose m) ∨ (∃ f, c = .oldSlotErase f)
       ∨ (∃ f, c = .functionLevelReset f) ∨ (∃ n, c = .vfEnableClear n) ∨ c = .perstAssert ∨ c = .coldPowerOn)
  ∧ (∀ (c : Instr) (s t : State), exec c s = .next t → t.pending = s.pending
       ∧ (t.host ≠ s.host → (∃ m k, c = .jobExportDone m k ∨ c = .memCopyDone m k) ∨ (∃ f r, c = .ringEntryWrite f r)
           ∨ (∃ u e, c = .swapOut u e) ∨ (∃ f k, c = .swapImageRekey f k))
       ∧ (t.flash ≠ s.flash → (∃ m a b, c = .devConfigCommit m a b) ∨ (∃ r ok, c = .flashRefresh r ok) ∨ c = .configHalfErase
           ∨ (∃ ok, c = .journalFlush ok) ∨ c = .retentionPass ∨ c = .perstAssert ∨ c = .coldPowerOn))

/-! ## Rules stated whole (R4, R22, R23, R121) -/

/-- A command code that is not defined at the running level completes with ST_UNSUPPORTED and does nothing else, one
that no table has at its acceptance; the mailbox then takes the next command, a function's after RELEASE (R4). -/
def Obligations.UndefinedCommandIsUnsupported : Prop :=
  ∀ (m : MbxId) (a b : Bool) (s : State),
    (s.nextMbx = some m.val → cmdSpec (fld (Memory.getN (s.mbox m).request 0 16) 0 2) = none →
      Completes (.mbxAccept m) s fun t => t.answered m 0x0010 [] ∧ (t.mbox m).go = false ∧ (t.mbox m).bg = (s.mbox m).bg
        ∧ t = { s with regs := t.regs, mboxes := t.mboxes, conns := t.conns, msix := t.msix, msixPend := t.msixPend, acceptSeq := s.acceptSeq + 1
                       acceptPos := t.acceptPos }
        ∧ (m.val < 16 → Completes (.mbxRelease m) t fun v => v.mbxState m = mxIdle
          ∧ Completes (.mbxGo m) v fun w => (w.mbox m).go = true ∧ w.mbxState m = mxIdle))
    ∧ (∀ k ∈ ([(0x1001, .devInfo m), (0x1002, .devFingerprint m), (0x1003, .devConfigRead m), (0x1004, .devConfigWrite m),
        (0x1005, .devConfigCommit m a b), (0x1006, .devConfigReport m), (0x1007, .devBgFree m), (0x2001, .jobLoad m),
        (0x2002, .jobStart m), (0x2003, .jobStatus m), (0x2004, .jobCheckpoint m), (0x2005, .jobRestore m),
        (0x2006, .jobExport m), (0x2007, .jobStop m), (0x3001, .flowOpen m), (0x3002, .flowSubmit m), (0x3003, .flowQuery m),
        (0x3004, .flowRetire m), (0x4001, .memPoolCreate m), (0x4002, .memSwapArea m), (0x4003, .memScrub m),
        (0x4004, .memCopy m), (0x5001, .sessOpen m a), (0x5002, .sessRotateKey m a), (0x5003, .sessClose m),
        (0x5004, .sessStatus m), (0x6001, .hlthState m), (0x6002, .hlthCounters m), (0x6003, .hlthTally m), (0x6004, .hlthUnit m),
        (0x6005, .hlthClearUnit m), (0x6006, .hlthDrain m), (0x6007, .hlthResume m), (0x6008, .hlthRetire m),
        (0x6009, .hlthSelftest m), (0x7001, .pwrCapSet m), (0x7002, .pwrPriority m), (0x7003, .pwrTelemetry m),
        (0x7004, .pwrNotchLimit m), (0x8001, .dbgAttach m), (0x8002, .dbgHalt m), (0x8003, .dbgRead m), (0x8004, .dbgWrite m),
        (0x8005, .dbgTrace m)] : List (Nat × Instr)),
      ∀ r x, s.command m k.1 = some (r, x) → s.fwLevel < x.lvl → Completes k.2 s fun t => t.answered m 0x0010 []
        ∧ (t.mbox m).bg = (s.mbox m).bg ∧ s.onlyReplies t
        ∧ (m.val < 16 → Completes (.mbxRelease m) t fun v => v.mbxState m = mxIdle
          ∧ Completes (.mbxGo m) v fun w => (w.mbox m).go = true ∧ w.mbxState m = mxIdle))

/-- The fold successor of a tile is the tile of its fold with the next local index, modulo 16; the pair-tie neighbour
is the tile at (x + 1, y), or (30, y) when x = 31 (R22, R23). -/
def Obligations.FoldSuccessorAndPairTie : Prop :=
  ∀ u : TileId, succOf u < 1024 ∧ foldOf (succOf u) = foldOf u ∧ localOf (succOf u) = (localOf u + 1) % 16
    ∧ tieOf u % 32 = (if u.val % 32 = 31 then 30 else u.val % 32 + 1) ∧ tieOf u / 32 = u.val / 32

/-- A MATMUL with a dimension of zero starts nothing, writes nothing and draws no random value: it consumes its number
and is complete at once, its checks passed, and KX.TAWAIT gives ST_OK for it (R121). -/
def Obligations.ZeroDimensionMatmulCompletes : Prop :=
  ∀ (u : TileId) (rd a : XReg) (s : State), s.runs u = true → (s.tile u).taQ = [] → (s.tile u).taRun = none →
    (s.tile u).seedTa = [] → (s.tile u).seedVec = [] → (s.tile u).xr a % 64 = 0 → (s.tile u).xr a + 64 ≤ spadSize →
    fld ((s.tile u).rdSpad ((s.tile u).xr a) 64) 0 1 = 1 → (Matmul.of ((s.tile u).rdSpad ((s.tile u).xr a) 64)).m = 0
      ∨ (Matmul.of ((s.tile u).rdSpad ((s.tile u).xr a) 64)).n = 0 ∨ (Matmul.of ((s.tile u).rdSpad ((s.tile u).xr a) 64)).k = 0 →
    taRefused (s.tile u) ((s.tile u).rdSpad ((s.tile u).xr a) 64) = false → Completes (.kxTaissue u rd a) s fun t =>
      s.retired t u rd ((s.tile u).taCount % 2 ^ 32) ∧ (t.tile u).taCount = (s.tile u).taCount + 1
        ∧ (t.tile u).taQ = [] ∧ (t.tile u).taRun = none ∧ (t.tile u).spad = (s.tile u).spad
        ∧ (t.tile u).taOpen = (s.tile u).taOpen ∧ (t.tile u).detections = (s.tile u).detections
        ∧ (∀ v, t.rd TA_SRNG_TA_STATE v = s.rd TA_SRNG_TA_STATE v ∧ t.rd NBC_VIOLATIONS_COUNT v = s.rd NBC_VIOLATIONS_COUNT v)
        ∧ s.onlyTileRegs t
        ∧ ∀ b d : XReg, (t.tile u).xr b % 2 ^ 32 = (s.tile u).taCount % 2 ^ 32 →
          Completes (.kxTawait u d b) t fun w => t.retired w u d (statusWord kxOk 0)
end

