-- ==== Sys2Proof/Laws/Fit.lean ====
section
/-! SUPPORT. Operands of a length that the spec does not give (log 118): what fitting one leaves of the state, and that the
fitted operand has a length within the limits. -/
set_option Elab.async false

namespace Sys2Proof.Laws
open Sys2Proof Sys2Proof.Machine

variable {α : Type} (s : State) (lo hi : Nat)

/-- An operand of a length within the limits stands as it is, and nothing is drawn. -/
theorem fit_of_length {l : List α} {mk : BitVec 64 → α} (h : lo ≤ l.length ∧ l.length ≤ hi) : s.fit lo hi l mk = (s, l) := by
  simp [State.fit, h]

/-- Fitting advances the counter of free values at most. -/
theorem fit_state (l : List α) (mk : BitVec 64 → α) : ∃ n, (s.fit lo hi l mk).1 = { s with drawn := n } := by
  unfold State.fit
  split
  · exact ⟨s.drawn, rfl⟩
  · exact ⟨_, rfl⟩

/-- The fitted operand has a length within the limits. -/
theorem fit_length (h : lo ≤ hi) (l : List α) (mk : BitVec 64 → α) :
    lo ≤ (s.fit lo hi l mk).2.length ∧ (s.fit lo hi l mk).2.length ≤ hi := by
  unfold State.fit
  split
  · assumption
  · have := Nat.mod_lt (Config.free s.drawn).toNat (show 0 < hi + 1 - lo by omega)
    simp only [List.length_take, List.length_append, List.length_map, List.length_range]
    omega

/-- A training that fits is one that the spec describes. -/
theorem fitTraining_of_ok {r : Training} (h : trainingOk r = true) : s.fitTraining r = (s, r) := by
  simp [State.fitTraining, h]

end Sys2Proof.Laws
end

