-- ==== Sys2Proof/Laws/Table.lean ====
section
/-! SUPPORT. What reading finds after a write or a deletion in a sparse table, and that both keep its keys
rising. -/
set_option Elab.async false

namespace Sys2Proof.Tbl

variable {α : Type}

@[simp] theorem find_set_same (t : Tbl α) (i : Nat) (v : α) : find (set t i v) i = some v := by
  induction t with
  | nil => simp [set, find]
  | cons kv r ih =>
    obtain ⟨k, w⟩ := kv
    simp only [set]
    split
    · simp [find]
    · split <;> simp_all [find]

theorem find_set_other (t : Tbl α) {i j : Nat} (v : α) (h : j ≠ i) : find (set t i v) j = find t j := by
  induction t with
  | nil => simp [set, find, h]
  | cons kv r ih =>
    obtain ⟨k, w⟩ := kv
    simp only [set]
    split
    · subst_vars; simp [find, h]
    · split <;> simp_all [find]

@[simp] theorem find_del_same (t : Tbl α) (i : Nat) : find (del t i) i = none := by
  induction t with
  | nil => rfl
  | cons kv r ih =>
    obtain ⟨k, w⟩ := kv
    simp only [del]
    split <;> simp_all [find]

theorem find_del_other (t : Tbl α) {i j : Nat} (h : j ≠ i) : find (del t i) j = find t j := by
  induction t with
  | nil => rfl
  | cons kv r ih =>
    obtain ⟨k, w⟩ := kv
    simp only [del]
    split
    · subst_vars; simp [find, h, ih]
    · simp [find, ih]

@[simp] theorem find_set (t : Tbl α) (i j : Nat) (v : α) :
    find (set t i v) j = if j = i then some v else find t j := by
  split
  · subst_vars; simp
  · exact find_set_other t v ‹_›

theorem find_del (t : Tbl α) (i j : Nat) : find (del t i) j = if j = i then none else find t j := by
  split
  · subst_vars; simp
  · exact find_del_other t ‹_›

theorem risingFrom_mono {lo lo' : Nat} (t : Tbl α) (h : lo' ≤ lo) (r : risingFrom lo t = true) :
    risingFrom lo' t = true := by
  cases t with
  | nil => rfl
  | cons kv r =>
    obtain ⟨k, w⟩ := kv
    simp only [risingFrom, Bool.and_eq_true, decide_eq_true_eq] at *
    exact ⟨by omega, r.2⟩

theorem risingFrom_set (t : Tbl α) (lo i : Nat) (v : α) (hi : lo ≤ i) (r : risingFrom lo t = true) :
    risingFrom lo (set t i v) = true := by
  induction t generalizing lo with
  | nil => simpa [set, risingFrom] using hi
  | cons kv t ih =>
    obtain ⟨k, w⟩ := kv
    simp only [risingFrom, Bool.and_eq_true, decide_eq_true_eq] at r
    simp only [set]
    split
    · subst_vars; simpa [risingFrom] using ⟨hi, r.2⟩
    · split
      · simp only [risingFrom, Bool.and_eq_true, decide_eq_true_eq]
        exact ⟨hi, by omega, r.2⟩
      · simp only [risingFrom, Bool.and_eq_true, decide_eq_true_eq]
        exact ⟨r.1, ih (k + 1) (by omega) r.2⟩

theorem risingFrom_del (t : Tbl α) (lo i : Nat) (r : risingFrom lo t = true) :
    risingFrom lo (del t i) = true := by
  induction t generalizing lo with
  | nil => rfl
  | cons kv t ih =>
    obtain ⟨k, w⟩ := kv
    simp only [risingFrom, Bool.and_eq_true, decide_eq_true_eq] at r
    simp only [del]
    split
    · exact risingFrom_mono _ (by omega) (ih (k + 1) r.2)
    · simp only [risingFrom, Bool.and_eq_true, decide_eq_true_eq]
      exact ⟨r.1, ih (k + 1) r.2⟩

theorem risingFrom_filter (t : Tbl α) (lo : Nat) (p : Nat × α → Bool) (r : risingFrom lo t = true) :
    risingFrom lo (t.filter p) = true := by
  induction t generalizing lo with
  | nil => rfl
  | cons kv t ih =>
    obtain ⟨k, w⟩ := kv
    simp only [risingFrom, Bool.and_eq_true, decide_eq_true_eq] at r
    simp only [List.filter_cons]
    split
    · simp only [risingFrom, Bool.and_eq_true, decide_eq_true_eq]
      exact ⟨r.1, ih (k + 1) r.2⟩
    · exact risingFrom_mono _ (by omega) (ih (k + 1) r.2)

/-- A write keeps the keys rising. -/
theorem rising_set (t : Tbl α) (i : Nat) (v : α) (r : rising t = true) : rising (set t i v) = true :=
  risingFrom_set t 0 i v (Nat.zero_le _) r

/-- A deletion keeps the keys rising. -/
theorem rising_del (t : Tbl α) (i : Nat) (r : rising t = true) : rising (del t i) = true :=
  risingFrom_del t 0 i r

/-- Dropping keys keeps the others rising. -/
theorem rising_drop (t : Tbl α) (p : Nat → Bool) (r : rising t = true) : rising (drop t p) = true :=
  risingFrom_filter t 0 _ r

theorem mem_set {t : Tbl α} {i : Nat} {v : α} {kv : Nat × α} (h : kv ∈ set t i v) :
    kv = (i, v) ∨ kv ∈ t := by
  induction t with
  | nil => left; simpa [set] using h
  | cons x r ih =>
    obtain ⟨k, w⟩ := x
    simp only [set] at h
    split at h
    · rcases List.mem_cons.mp h with h | h
      · exact .inl h
      · exact .inr (List.mem_cons_of_mem _ h)
    · split at h
      · rcases List.mem_cons.mp h with h | h
        · exact .inl h
        · exact .inr h
      · rcases List.mem_cons.mp h with h | h
        · exact .inr (h ▸ List.mem_cons_self ..)
        · rcases ih h with h | h
          · exact .inl h
          · exact .inr (List.mem_cons_of_mem _ h)

theorem mem_del {t : Tbl α} {i : Nat} {kv : Nat × α} (h : kv ∈ del t i) : kv ∈ t := by
  induction t with
  | nil => simp [del] at h
  | cons x r ih =>
    obtain ⟨k, w⟩ := x
    simp only [del] at h
    split at h
    · exact List.mem_cons_of_mem _ (ih h)
    · rcases List.mem_cons.mp h with h | h
      · exact h ▸ List.mem_cons_self ..
      · exact List.mem_cons_of_mem _ (ih h)

end Sys2Proof.Tbl
end

