-- ==== Sys2Proof/Laws/Memory.lean ====
section
/-! SUPPORT. Reading after a write in a byte memory, and that every memory operation keeps the canonical
form. -/
set_option Elab.async false

namespace Sys2Proof.Machine

/-- A write changes the byte at its address and no other. -/
theorem Memory.get_put (m : List Host.Cell) (a a' : Nat) (b : Byte) :
    Memory.get (Memory.put m a b) a' = if a' = a then b else Memory.get m a' := by
  unfold Memory.get Memory.put
  split <;> by_cases h : a' = a <;> simp_all [Tbl.find_del]

/-- A byte outside a run that is written reads as before. -/
theorem Memory.get_putN_other (m : List Host.Cell) (a a' : Nat) (b : Bytes)
    (h : a' < a ∨ a + b.length ≤ a') : Memory.get (Memory.putN m a b) a' = Memory.get m a' := by
  induction b generalizing m a with
  | nil => rfl
  | cons x r ih =>
    simp only [List.length_cons] at h
    rw [Memory.putN, ih _ _ (by omega), Memory.get_put, if_neg (by omega)]

/-- A byte of a run that is written reads as written. -/
theorem Memory.get_putN_in (m : List Host.Cell) (a i : Nat) (b : Bytes) (h : i < b.length) :
    Memory.get (Memory.putN m a b) (a + i) = b[i] := by
  induction b generalizing m a i with
  | nil => simp at h
  | cons x r ih =>
    rw [Memory.putN]
    cases i with
    | zero => rw [Memory.get_putN_other _ _ _ _ (by omega), Memory.get_put]; simp
    | succ i =>
      have := ih (Memory.put m a x) (a + 1) i (by simpa using h)
      rw [show a + (i + 1) = a + 1 + i by omega, this]; simp

/-- The run read where it was written is the run. -/
theorem Memory.getN_putN (m : List Host.Cell) (a : Nat) (b : Bytes) :
    Memory.getN (Memory.putN m a b) a b.length = b := by
  induction b generalizing m a with
  | nil => rfl
  | cons x r ih =>
    simp only [List.length_cons, Memory.getN, Memory.putN]
    rw [ih, Memory.get_putN_other _ _ _ _ (by omega), Memory.get_put]; simp

/-- A run that no written byte touches reads as before. -/
theorem Memory.getN_putN_other (m : List Host.Cell) (a a' n : Nat) (b : Bytes)
    (h : a' + n ≤ a ∨ a + b.length ≤ a') : Memory.getN (Memory.putN m a b) a' n = Memory.getN m a' n := by
  induction n generalizing a' with
  | zero => rfl
  | succ n ih =>
    simp only [Memory.getN]
    rw [Memory.get_putN_other _ _ _ _ (by omega), ih _ (by omega)]

theorem Memory.length_getN (m : List Host.Cell) (a n : Nat) : (Memory.getN m a n).length = n := by
  induction n generalizing a with
  | zero => rfl
  | succ n ih => simp [Memory.getN, ih]

/-- One byte written keeps the canonical form. -/
theorem Memory.wf_put (m : List Host.Cell) (a : Nat) (b : Byte) (h : Memory.wf m = true) :
    Memory.wf (Memory.put m a b) = true := by
  simp only [Memory.wf, Bool.and_eq_true, List.all_eq_true, decide_eq_true_eq] at *
  unfold Memory.put
  split
  · exact ⟨Tbl.rising_del _ _ h.1, fun c hc => h.2 c (Tbl.mem_del hc)⟩
  · refine ⟨Tbl.rising_set _ _ _ h.1, fun c hc => ?_⟩
    rcases Tbl.mem_set hc with rfl | hc
    · assumption
    · exact h.2 c hc

/-- A run written keeps the canonical form. -/
theorem Memory.wf_putN (m : List Host.Cell) (a : Nat) (b : Bytes) (h : Memory.wf m = true) :
    Memory.wf (Memory.putN m a b) = true := by
  induction b generalizing m a with
  | nil => exact h
  | cons x r ih => exact ih _ _ (Memory.wf_put m a x h)

end Sys2Proof.Machine
end

