-- ==== Sys2Proof/Laws/PerInstr.lean ====
section
/-! SUPPORT. The commands one by one: which of them have an operand whose length the spec limits, and that no other
command can be malformed. -/
set_option Elab.async false

namespace Sys2Proof.Laws

/-- The command has an operand that lists bytes, codes or IDs, whose length the spec limits. -/
def hasListOperand : Instr → Bool
  | .lineRead _ _ _ => true
  | .refetchResult _ _ _ => true
  | .lineWrite _ _ _ => true
  | .partialLineWrite _ _ _ _ => true
  | .channelTraining _ _ => true
  | .channelRetrain _ _ => true
  | .frameClose _ _ => true
  | .thermalSample _ => true
  | .hello _ _ _ => true
  | .msg _ _ _ => true
  | .release _ _ _ => true
  | .retract _ _ _ => true
  | .dput _ _ _ => true
  | .dgetrsp _ _ _ _ => true
  | .request _ _ => true
  | .challenge _ _ _ => true
  | .getMeasurements _ _ _ => true
  | _ => false

/-- A command is malformed only through an operand that is a list. -/
def ListOperand.Statement (c : Instr) : Prop := c.wellFormed = false → hasListOperand c = true

theorem ListOperand.mbxGo (m : MbxId) : Statement (.mbxGo m) := fun h => h.symm
theorem ListOperand.mbxAccept (m : MbxId) : Statement (.mbxAccept m) := fun h => h.symm
theorem ListOperand.mbxRelease (m : MbxId) : Statement (.mbxRelease m) := fun h => h.symm
theorem ListOperand.devInfo (m : MbxId) : Statement (.devInfo m) := fun h => h.symm
theorem ListOperand.devFingerprint (m : MbxId) : Statement (.devFingerprint m) := fun h => h.symm
theorem ListOperand.devConfigRead (m : MbxId) : Statement (.devConfigRead m) := fun h => h.symm
theorem ListOperand.devConfigWrite (m : MbxId) : Statement (.devConfigWrite m) := fun h => h.symm
theorem ListOperand.devConfigCommit (m : MbxId) (ok1 ok2 : Bool) : Statement (.devConfigCommit m ok1 ok2) := fun h => h.symm
theorem ListOperand.devConfigReport (m : MbxId) : Statement (.devConfigReport m) := fun h => h.symm
theorem ListOperand.devBgFree (m : MbxId) : Statement (.devBgFree m) := fun h => h.symm
theorem ListOperand.jobLoad (m : MbxId) : Statement (.jobLoad m) := fun h => h.symm
theorem ListOperand.jobLoadDone (m : MbxId) (slot : Fin 8) : Statement (.jobLoadDone m slot) := fun h => h.symm
theorem ListOperand.jobStart (m : MbxId) : Statement (.jobStart m) := fun h => h.symm
theorem ListOperand.jobStatus (m : MbxId) : Statement (.jobStatus m) := fun h => h.symm
theorem ListOperand.jobCheckpoint (m : MbxId) : Statement (.jobCheckpoint m) := fun h => h.symm
theorem ListOperand.jobRestore (m : MbxId) : Statement (.jobRestore m) := fun h => h.symm
theorem ListOperand.jobExport (m : MbxId) : Statement (.jobExport m) := fun h => h.symm
theorem ListOperand.jobExportDone (m : MbxId) (slot : Fin 8) : Statement (.jobExportDone m slot) := fun h => h.symm
theorem ListOperand.jobStop (m : MbxId) : Statement (.jobStop m) := fun h => h.symm
theorem ListOperand.jobFinish (job : Nat) : Statement (.jobFinish job) := fun h => h.symm
theorem ListOperand.flowOpen (m : MbxId) : Statement (.flowOpen m) := fun h => h.symm
theorem ListOperand.flowSubmit (m : MbxId) : Statement (.flowSubmit m) := fun h => h.symm
theorem ListOperand.batchTokenDeliver (m : MbxId) (slot : Fin 8) : Statement (.batchTokenDeliver m slot) := fun h => h.symm
theorem ListOperand.flowSubmitDelivered (m : MbxId) (slot : Fin 8) : Statement (.flowSubmitDelivered m slot) := fun h => h.symm
theorem ListOperand.flowQuery (m : MbxId) : Statement (.flowQuery m) := fun h => h.symm
theorem ListOperand.flowRetire (m : MbxId) : Statement (.flowRetire m) := fun h => h.symm
theorem ListOperand.memPoolCreate (m : MbxId) : Statement (.memPoolCreate m) := fun h => h.symm
theorem ListOperand.memSwapArea (m : MbxId) : Statement (.memSwapArea m) := fun h => h.symm
theorem ListOperand.memScrub (m : MbxId) : Statement (.memScrub m) := fun h => h.symm
theorem ListOperand.memScrubDone (m : MbxId) (slot : Fin 8) : Statement (.memScrubDone m slot) := fun h => h.symm
theorem ListOperand.memCopy (m : MbxId) : Statement (.memCopy m) := fun h => h.symm
theorem ListOperand.memCopyDone (m : MbxId) (slot : Fin 8) : Statement (.memCopyDone m slot) := fun h => h.symm
theorem ListOperand.sessOpen (m : MbxId) (trngOk : Bool) : Statement (.sessOpen m trngOk) := fun h => h.symm
theorem ListOperand.sessRotateKey (m : MbxId) (trngOk : Bool) : Statement (.sessRotateKey m trngOk) := fun h => h.symm
theorem ListOperand.sessClose (m : MbxId) : Statement (.sessClose m) := fun h => h.symm
theorem ListOperand.sessionScrubDone (f : FnId) : Statement (.sessionScrubDone f) := fun h => h.symm
theorem ListOperand.sessStatus (m : MbxId) : Statement (.sessStatus m) := fun h => h.symm
theorem ListOperand.hlthState (m : MbxId) : Statement (.hlthState m) := fun h => h.symm
theorem ListOperand.hlthCounters (m : MbxId) : Statement (.hlthCounters m) := fun h => h.symm
theorem ListOperand.hlthTally (m : MbxId) : Statement (.hlthTally m) := fun h => h.symm
theorem ListOperand.hlthUnit (m : MbxId) : Statement (.hlthUnit m) := fun h => h.symm
theorem ListOperand.hlthClearUnit (m : MbxId) : Statement (.hlthClearUnit m) := fun h => h.symm
theorem ListOperand.hlthDrain (m : MbxId) : Statement (.hlthDrain m) := fun h => h.symm
theorem ListOperand.hlthResume (m : MbxId) : Statement (.hlthResume m) := fun h => h.symm
theorem ListOperand.hlthRetire (m : MbxId) : Statement (.hlthRetire m) := fun h => h.symm
theorem ListOperand.hlthSelftest (m : MbxId) : Statement (.hlthSelftest m) := fun h => h.symm
theorem ListOperand.selftestDone (t : TileId) (pass : Bool) : Statement (.selftestDone t pass) := fun h => h.symm
theorem ListOperand.pwrCapSet (m : MbxId) : Statement (.pwrCapSet m) := fun h => h.symm
theorem ListOperand.pwrPriority (m : MbxId) : Statement (.pwrPriority m) := fun h => h.symm
theorem ListOperand.pwrTelemetry (m : MbxId) : Statement (.pwrTelemetry m) := fun h => h.symm
theorem ListOperand.pwrNotchLimit (m : MbxId) : Statement (.pwrNotchLimit m) := fun h => h.symm
theorem ListOperand.dbgAttach (m : MbxId) : Statement (.dbgAttach m) := fun h => h.symm
theorem ListOperand.dbgHalt (m : MbxId) : Statement (.dbgHalt m) := fun h => h.symm
theorem ListOperand.dbgRead (m : MbxId) : Statement (.dbgRead m) := fun h => h.symm
theorem ListOperand.dbgWrite (m : MbxId) : Statement (.dbgWrite m) := fun h => h.symm
theorem ListOperand.dbgTrace (m : MbxId) : Statement (.dbgTrace m) := fun h => h.symm
theorem ListOperand.eventRecordWrite : Statement (.eventRecordWrite) := fun h => h.symm
theorem ListOperand.ringEnable (f : FnId) (n : Fin 4) : Statement (.ringEnable f n) := fun h => h.symm
theorem ListOperand.ringDisable (f : FnId) (n : Fin 4) : Statement (.ringDisable f n) := fun h => h.symm
theorem ListOperand.ringConsWrite (f : FnId) (n : Fin 4) (cons : W32) : Statement (.ringConsWrite f n cons) := fun h => h.symm
theorem ListOperand.ringEntryWrite (f : FnId) (n : Fin 4) : Statement (.ringEntryWrite f n) := fun h => h.symm
theorem ListOperand.ringIrqHoldExpiry (f : FnId) (n : Fin 4) : Statement (.ringIrqHoldExpiry f n) := fun h => h.symm
theorem ListOperand.baseInstruction (t : TileId) : Statement (.baseInstruction t) := fun h => h.symm
theorem ListOperand.ecall (t : TileId) : Statement (.ecall t) := fun h => h.symm
theorem ListOperand.ebreak (t : TileId) : Statement (.ebreak t) := fun h => h.symm
theorem ListOperand.wfi (t : TileId) : Statement (.wfi t) := fun h => h.symm
theorem ListOperand.fenceI (t : TileId) : Statement (.fenceI t) := fun h => h.symm
theorem ListOperand.counterCsrAccess (t : TileId) (rd : XReg) (csr : BitVec 12) (write : Bool) : Statement (.counterCsrAccess t rd csr write) := fun h => h.symm
theorem ListOperand.codeWindowFetch (t : TileId) (line : BitVec 22) : Statement (.codeWindowFetch t line) := fun h => h.symm
theorem ListOperand.kxTaissue (t : TileId) (rd rs1 : XReg) : Statement (.kxTaissue t rd rs1) := fun h => h.symm
theorem ListOperand.taissueStallEnd (t : TileId) : Statement (.taissueStallEnd t) := fun h => h.symm
theorem ListOperand.kxVissue (t : TileId) (rd rs1 : XReg) : Statement (.kxVissue t rd rs1) := fun h => h.symm
theorem ListOperand.kxTawait (t : TileId) (rd rs1 : XReg) : Statement (.kxTawait t rd rs1) := fun h => h.symm
theorem ListOperand.kxVwait (t : TileId) (rd rs1 : XReg) : Statement (.kxVwait t rd rs1) := fun h => h.symm
theorem ListOperand.opWaitReturn (t : TileId) : Statement (.opWaitReturn t) := fun h => h.symm
theorem ListOperand.kxNbctol (t : TileId) (rd rs1 : XReg) : Statement (.kxNbctol t rd rs1) := fun h => h.symm
theorem ListOperand.kxHint (t : TileId) (rd rs1 rs2 : XReg) : Statement (.kxHint t rd rs1 rs2) := fun h => h.symm
theorem ListOperand.kxStime (t : TileId) (rd : XReg) : Statement (.kxStime t rd) := fun h => h.symm
theorem ListOperand.kxTally (t : TileId) (rd rs1 : XReg) : Statement (.kxTally t rd rs1) := fun h => h.symm
theorem ListOperand.kxCntr (t : TileId) (rd rs1 : XReg) : Statement (.kxCntr t rd rs1) := fun h => h.symm
theorem ListOperand.kxPet (t : TileId) : Statement (.kxPet t) := fun h => h.symm
theorem ListOperand.kxMsend (t : TileId) (rd rs1 rs2 : XReg) : Statement (.kxMsend t rd rs1 rs2) := fun h => h.symm
theorem ListOperand.msendWaitEnd (t : TileId) : Statement (.msendWaitEnd t) := fun h => h.symm
theorem ListOperand.kxMrecv (t : TileId) (rd rs1 : XReg) : Statement (.kxMrecv t rd rs1) := fun h => h.symm
theorem ListOperand.kxMfree (t : TileId) (rd rs1 : XReg) : Statement (.kxMfree t rd rs1) := fun h => h.symm
theorem ListOperand.kxMwait (t : TileId) (rd rs1 rs2 : XReg) : Statement (.kxMwait t rd rs1 rs2) := fun h => h.symm
theorem ListOperand.mwaitWake (t : TileId) : Statement (.mwaitWake t) := fun h => h.symm
theorem ListOperand.mwaitTimeout (t : TileId) : Statement (.mwaitTimeout t) := fun h => h.symm
theorem ListOperand.kxPut (t : TileId) (rd rs1 : XReg) : Statement (.kxPut t rd rs1) := fun h => h.symm
theorem ListOperand.kxGet (t : TileId) (rd rs1 : XReg) : Statement (.kxGet t rd rs1) := fun h => h.symm
theorem ListOperand.transferStallEnd (t : TileId) : Statement (.transferStallEnd t) := fun h => h.symm
theorem ListOperand.kxXwait (t : TileId) (rd rs1 : XReg) : Statement (.kxXwait t rd rs1) := fun h => h.symm
theorem ListOperand.xwaitReturn (t : TileId) : Statement (.xwaitReturn t) := fun h => h.symm
theorem ListOperand.transferComplete (t : TileId) (tag : BitVec 16) : Statement (.transferComplete t tag) := fun h => h.symm
theorem ListOperand.msgInject (t : TileId) : Statement (.msgInject t) := fun h => h.symm
theorem ListOperand.msgDeliver (t : TileId) (ch : ChId) : Statement (.msgDeliver t ch) := fun h => h.symm
theorem ListOperand.creditGrant (t : TileId) (ch : ChId) : Statement (.creditGrant t ch) := fun h => h.symm
theorem ListOperand.creditReturn (t : TileId) (ch : ChId) : Statement (.creditReturn t ch) := fun h => h.symm
theorem ListOperand.creditRevoke (t : TileId) (ch : ChId) : Statement (.creditRevoke t ch) := fun h => h.symm
theorem ListOperand.rxcOpen (t : TileId) (ch : ChId) : Statement (.rxcOpen t ch) := fun h => h.symm
theorem ListOperand.rxcClose (t : TileId) (ch : ChId) : Statement (.rxcClose t ch) := fun h => h.symm
theorem ListOperand.txcEnable (t : TileId) (ch : ChId) : Statement (.txcEnable t ch) := fun h => h.symm
theorem ListOperand.taOpStart (t : TileId) : Statement (.taOpStart t) := fun h => h.symm
theorem ListOperand.matmul (t : TileId) (fault : Option ArithFault) : Statement (.matmul t fault) := fun h => h.symm
theorem ListOperand.attn (t : TileId) (fault : Option ArithFault) : Statement (.attn t fault) := fun h => h.symm
theorem ListOperand.taOpComplete (t : TileId) : Statement (.taOpComplete t) := fun h => h.symm
theorem ListOperand.vectorOpStart (t : TileId) : Statement (.vectorOpStart t) := fun h => h.symm
theorem ListOperand.add (t : TileId) (fault : Option LaneFault) : Statement (.add t fault) := fun h => h.symm
theorem ListOperand.sub (t : TileId) (fault : Option LaneFault) : Statement (.sub t fault) := fun h => h.symm
theorem ListOperand.mul (t : TileId) (fault : Option LaneFault) : Statement (.mul t fault) := fun h => h.symm
theorem ListOperand.fma (t : TileId) (fault : Option LaneFault) : Statement (.fma t fault) := fun h => h.symm
theorem ListOperand.min (t : TileId) (fault : Option LaneFault) : Statement (.min t fault) := fun h => h.symm
theorem ListOperand.max (t : TileId) (fault : Option LaneFault) : Statement (.max t fault) := fun h => h.symm
theorem ListOperand.relu (t : TileId) (fault : Option LaneFault) : Statement (.relu t fault) := fun h => h.symm
theorem ListOperand.silu (t : TileId) (fault : Option LaneFault) : Statement (.silu t fault) := fun h => h.symm
theorem ListOperand.exp (t : TileId) (fault : Option LaneFault) : Statement (.exp t fault) := fun h => h.symm
theorem ListOperand.recip (t : TileId) (fault : Option LaneFault) : Statement (.recip t fault) := fun h => h.symm
theorem ListOperand.sqrt (t : TileId) (fault : Option LaneFault) : Statement (.sqrt t fault) := fun h => h.symm
theorem ListOperand.rsqrt (t : TileId) (fault : Option LaneFault) : Statement (.rsqrt t fault) := fun h => h.symm
theorem ListOperand.cvt (t : TileId) (fault : Option LaneFault) : Statement (.cvt t fault) := fun h => h.symm
theorem ListOperand.sum (t : TileId) (fault : Option LaneFault) : Statement (.sum t fault) := fun h => h.symm
theorem ListOperand.maxr (t : TileId) (fault : Option LaneFault) : Statement (.maxr t fault) := fun h => h.symm
theorem ListOperand.softmax (t : TileId) (fault : Option LaneFault) : Statement (.softmax t fault) := fun h => h.symm
theorem ListOperand.rmsnorm (t : TileId) (fault : Option LaneFault) : Statement (.rmsnorm t fault) := fun h => h.symm
theorem ListOperand.vectorOpComplete (t : TileId) : Statement (.vectorOpComplete t) := fun h => h.symm
theorem ListOperand.nbcCheckClose (t : TileId) : Statement (.nbcCheckClose t) := fun h => h.symm
theorem ListOperand.nbcOpenWaitEnd (t : TileId) : Statement (.nbcOpenWaitEnd t) := fun h => h.symm
theorem ListOperand.guardedWriteResume (t : TileId) : Statement (.guardedWriteResume t) := fun h => h.symm
theorem ListOperand.taSeedTaWrite (t : TileId) (v : W32) : Statement (.taSeedTaWrite t v) := fun h => h.symm
theorem ListOperand.taSeedVecWrite (t : TileId) (v : W32) : Statement (.taSeedVecWrite t v) := fun h => h.symm
theorem ListOperand.nbcTolWrite (t : TileId) (v : W32) : Statement (.nbcTolWrite t v) := fun h => h.symm
theorem ListOperand.tileWdogWrite (t : TileId) (v : W32) : Statement (.tileWdogWrite t v) := fun h => h.symm
theorem ListOperand.registerWrite (sp : RegSpace) (off : Nat) (v : RegData) : Statement (.registerWrite sp off v) := fun h => h.symm
theorem ListOperand.watchdogExpiry (t : TileId) : Statement (.watchdogExpiry t) := fun h => h.symm
theorem ListOperand.meshParityError (t : TileId) : Statement (.meshParityError t) := fun h => h.symm
theorem ListOperand.scratchpadParityError (t : TileId) : Statement (.scratchpadParityError t) := fun h => h.symm
theorem ListOperand.tileReset (t : TileId) : Statement (.tileReset t) := fun h => h.symm
theorem ListOperand.tileStart (t : TileId) : Statement (.tileStart t) := fun h => h.symm
theorem ListOperand.tileDoze (t : TileId) : Statement (.tileDoze t) := fun h => h.symm
theorem ListOperand.foldMapChange (f : FoldId) (off : Bool) : Statement (.foldMapChange f off) := fun h => h.symm
theorem ListOperand.alloc (t : TileId) (drover : Bool) (index : BitVec 16) (fmt : BitVec 2) : Statement (.alloc t drover index fmt) := fun h => h.symm
theorem ListOperand.ref (t : TileId) (drover : Bool) (index : BitVec 16) : Statement (.ref t drover index) := fun h => h.symm
theorem ListOperand.unref (t : TileId) (drover : Bool) (index : BitVec 16) : Statement (.unref t drover index) := fun h => h.symm
theorem ListOperand.cow (t : TileId) (drover : Bool) (index : BitVec 16) : Statement (.cow t drover index) := fun h => h.symm
theorem ListOperand.setcount (t : TileId) (drover : Bool) (index : BitVec 16) (count : BitVec 5) : Statement (.setcount t drover index count) := fun h => h.symm
theorem ListOperand.fetch (t : TileId) (drover : Bool) (index : BitVec 16) : Statement (.fetch t drover index) := fun h => h.symm
theorem ListOperand.retire (t : TileId) (drover : Bool) (index : BitVec 16) : Statement (.retire t drover index) := fun h => h.symm
theorem ListOperand.poolCmdDone (t : TileId) : Statement (.poolCmdDone t) := fun h => h.symm
theorem ListOperand.graceEpochClose (t : TileId) : Statement (.graceEpochClose t) := fun h => h.symm
theorem ListOperand.preempt (t : TileId) : Statement (.preempt t) := fun h => h.symm
theorem ListOperand.updateWindowHalt (t : TileId) : Statement (.updateWindowHalt t) := fun h => h.symm
theorem ListOperand.updateWindowWrite (t : TileId) : Statement (.updateWindowWrite t) := fun h => h.symm
theorem ListOperand.swapOut (t : TileId) (entry : Nat) : Statement (.swapOut t entry) := fun h => h.symm
theorem ListOperand.swapOutComplete (t : TileId) (entry : Nat) : Statement (.swapOutComplete t entry) := fun h => h.symm
theorem ListOperand.swapIn (t : TileId) (entry : Nat) : Statement (.swapIn t entry) := fun h => h.symm
theorem ListOperand.swapInComplete (t : TileId) (entry : Nat) : Statement (.swapInComplete t entry) := fun h => h.symm
theorem ListOperand.flowRepin (t : TileId) (entry : Nat) (dest : TileId) : Statement (.flowRepin t entry dest) := fun h => h.symm
theorem ListOperand.pageRekeyMove (t : TileId) (frame : Nat) : Statement (.pageRekeyMove t frame) := fun h => h.symm
theorem ListOperand.swapImageRekey (f : FnId) (slot : Nat) : Statement (.swapImageRekey f slot) := fun h => h.symm
theorem ListOperand.oldSlotErase (f : FnId) : Statement (.oldSlotErase f) := fun h => h.symm
theorem ListOperand.heldSend (e : Fin 9) : Statement (.heldSend e) := fun h => h.symm
theorem ListOperand.horizonReport (t : TileId) : Statement (.horizonReport t) := fun h => h.symm
theorem ListOperand.heldRelease (e : Fin 9) : Statement (.heldRelease e) := fun h => h.symm
theorem ListOperand.holdRetractTimeout (p : PortId) : Statement (.holdRetractTimeout p) := fun h => h.symm
theorem ListOperand.quarantineExpiry (p : PortId) : Statement (.quarantineExpiry p) := fun h => h.symm
theorem ListOperand.jobFaultDetect (t : TileId) : Statement (.jobFaultDetect t) := fun h => h.symm
theorem ListOperand.recomputeIssue (t : TileId) : Statement (.recomputeIssue t) := fun h => h.symm
theorem ListOperand.recomputeComplete (t : TileId) (fault : Option ArithFault) : Statement (.recomputeComplete t fault) := fun h => h.symm
theorem ListOperand.normRegen (t : TileId) : Statement (.normRegen t) := fun h => h.symm
theorem ListOperand.tileRestore (t : TileId) : Statement (.tileRestore t) := fun h => h.symm
theorem ListOperand.jobResume (job : Nat) : Statement (.jobResume job) := fun h => h.symm
theorem ListOperand.dualCompare (t : TileId) : Statement (.dualCompare t) := fun h => h.symm
theorem ListOperand.dualLagTimeout (t : TileId) : Statement (.dualLagTimeout t) := fun h => h.symm
theorem ListOperand.checkpointTimer (job : Nat) : Statement (.checkpointTimer job) := fun h => h.symm
theorem ListOperand.checkpointWrite (t : TileId) : Statement (.checkpointWrite t) := fun h => h.symm
theorem ListOperand.checkpointComplete (job : Nat) : Statement (.checkpointComplete job) := fun h => h.symm
theorem ListOperand.digestPoint (job : Nat) : Statement (.digestPoint job) := fun h => h.symm
theorem ListOperand.flockDecisionTimeout (flock : BitVec 16) (point : W32) : Statement (.flockDecisionTimeout flock point) := fun h => h.symm
theorem ListOperand.selftestSchedule (t : TileId) : Statement (.selftestSchedule t) := fun h => h.symm
theorem ListOperand.lineRead (t : TileId) (line : BitVec 22) (flip : Bytes) : Statement (.lineRead t line flip) := fun _ => rfl
theorem ListOperand.refetchResult (t : TileId) (line : BitVec 22) (flip : Bytes) : Statement (.refetchResult t line flip) := fun _ => rfl
theorem ListOperand.lineRecompute (t : TileId) (line : BitVec 22) (inTime : Bool) : Statement (.lineRecompute t line inTime) := fun h => h.symm
theorem ListOperand.lineWrite (t : TileId) (line : BitVec 22) (data : Bytes) : Statement (.lineWrite t line data) := fun _ => rfl
theorem ListOperand.partialLineWrite (t : TileId) (line : BitVec 22) (off : BitVec 6) (data : Bytes) : Statement (.partialLineWrite t line off data) := fun _ => rfl
theorem ListOperand.refresh (t : TileId) (layer : BitVec 2) (bank : BitVec 4) : Statement (.refresh t layer bank) := fun h => h.symm
theorem ListOperand.invalidateRange (t : TileId) (first : BitVec 22) (count : Nat) : Statement (.invalidateRange t first count) := fun h => h.symm
theorem ListOperand.frameZeroOverwrite (t : TileId) (frame : Nat) : Statement (.frameZeroOverwrite t frame) := fun h => h.symm
theorem ListOperand.channelTraining (t : TileId) (r : Training) : Statement (.channelTraining t r) := fun _ => rfl
theorem ListOperand.eyeRecentre (t : TileId) : Statement (.eyeRecentre t) := fun h => h.symm
theorem ListOperand.channelRetrain (t : TileId) (r : Training) : Statement (.channelRetrain t r) := fun _ => rfl
theorem ListOperand.rotationLineMove (t : TileId) : Statement (.rotationLineMove t) := fun h => h.symm
theorem ListOperand.rotationBulkPassEnd (t : TileId) : Statement (.rotationBulkPassEnd t) := fun h => h.symm
theorem ListOperand.sessionOverwritePass (f : FnId) (t : TileId) : Statement (.sessionOverwritePass f t) := fun h => h.symm
theorem ListOperand.setPointCommand (r : RegNo) (code : Byte) (notch : BitVec 4) : Statement (.setPointCommand r code notch) := fun h => h.symm
theorem ListOperand.setPointReached (r : RegNo) : Statement (.setPointReached r) := fun h => h.symm
theorem ListOperand.setPointTimeout (r : RegNo) : Statement (.setPointTimeout r) := fun h => h.symm
theorem ListOperand.regulatorEnable (r : RegNo) (sampledMv : Nat) : Statement (.regulatorEnable r sampledMv) := fun h => h.symm
theorem ListOperand.regulatorDisable (r : RegNo) : Statement (.regulatorDisable r) := fun h => h.symm
theorem ListOperand.hint (t : TileId) : Statement (.hint t) := fun h => h.symm
theorem ListOperand.hintExpiry (t : TileId) : Statement (.hintExpiry t) := fun h => h.symm
theorem ListOperand.retuned (t : TileId) : Statement (.retuned t) := fun h => h.symm
theorem ListOperand.held (t : TileId) : Statement (.held t) := fun h => h.symm
theorem ListOperand.notch (t : TileId) : Statement (.notch t) := fun h => h.symm
theorem ListOperand.ack (t : TileId) : Statement (.ack t) := fun h => h.symm
theorem ListOperand.hold (t : TileId) : Statement (.hold t) := fun h => h.symm
theorem ListOperand.resume (t : TileId) : Statement (.resume t) := fun h => h.symm
theorem ListOperand.reinNak (t : TileId) (toTile : Bool) (seq : BitVec 4) : Statement (.reinNak t toTile seq) := fun h => h.symm
theorem ListOperand.reinReservedFrame (t : TileId) (toTile : Bool) (type : BitVec 4) (payload : W64) : Statement (.reinReservedFrame t toTile type payload) := fun h => h.symm
theorem ListOperand.dipTrip (r : RegNo) : Statement (.dipTrip r) := fun h => h.symm
theorem ListOperand.burstPulse (r : RegNo) (cycles : Nat) : Statement (.burstPulse r cycles) := fun h => h.symm
theorem ListOperand.cycleLimit (r : RegNo) (phase : Fin 8) : Statement (.cycleLimit r phase) := fun h => h.symm
theorem ListOperand.overvoltageTrip (r : RegNo) : Statement (.overvoltageTrip r) := fun h => h.symm
theorem ListOperand.ovPersistCheck (r : RegNo) (above : Bool) : Statement (.ovPersistCheck r above) := fun h => h.symm
theorem ListOperand.lkrFaultReport (l : LaneId) (cause : BitVec 4) : Statement (.lkrFaultReport l cause) := fun h => h.symm
theorem ListOperand.boardFaultAssert : Statement (.boardFaultAssert) := fun h => h.symm
theorem ListOperand.vspnFault (mv : Nat) : Statement (.vspnFault mv) := fun h => h.symm
theorem ListOperand.headerStage (t : TileId) : Statement (.headerStage t) := fun h => h.symm
theorem ListOperand.tileOn (t : TileId) : Statement (.tileOn t) := fun h => h.symm
theorem ListOperand.tileOff (t : TileId) : Statement (.tileOff t) := fun h => h.symm
theorem ListOperand.foldOn (f : FoldId) : Statement (.foldOn f) := fun h => h.symm
theorem ListOperand.foldOff (f : FoldId) : Statement (.foldOff f) := fun h => h.symm
theorem ListOperand.tieClose (r : RegNo) : Statement (.tieClose r) := fun h => h.symm
theorem ListOperand.tieLoadCheck (r : RegNo) (meanMa : Nat) : Statement (.tieLoadCheck r meanMa) := fun h => h.symm
theorem ListOperand.avsTransaction (cmd : AvsCmd) (ok : Bool) (value : Nat) : Statement (.avsTransaction cmd ok value) := fun h => h.symm
theorem ListOperand.frameClose (f : FoldId) (sc : Scan) : Statement (.frameClose f sc) := fun _ => rfl
theorem ListOperand.outputPhase (f : FoldId) : Statement (.outputPhase f) := fun h => h.symm
theorem ListOperand.fcvUrg (f : FoldId) (ch : Byte) (raw : BitVec 12) : Statement (.fcvUrg f ch raw) := fun h => h.symm
theorem ListOperand.fcvMaskWrite (f : FoldId) (word : Fin 5) (v : W32) : Statement (.fcvMaskWrite f word v) := fun h => h.symm
theorem ListOperand.fceSwap (f : FoldId) (loop : Fin 36) : Statement (.fceSwap f loop) := fun h => h.symm
theorem ListOperand.fceWindowEnd (f : FoldId) : Statement (.fceWindowEnd f) := fun h => h.symm
theorem ListOperand.powerWindowEnd (inputs : WindowInput) : Statement (.powerWindowEnd inputs) := fun h => h.symm
theorem ListOperand.thermalSample (temps : TempCodes) : Statement (.thermalSample temps) := fun _ => rfl
theorem ListOperand.orderlyStop : Statement (.orderlyStop) := fun h => h.symm
theorem ListOperand.immediateStop : Statement (.immediateStop) := fun h => h.symm
theorem ListOperand.thermalResume : Statement (.thermalResume) := fun h => h.symm
theorem ListOperand.schedulerPeriod (t : TileId) : Statement (.schedulerPeriod t) := fun h => h.symm
theorem ListOperand.idle (p : PortId) (h : FlitHdr) : Statement (.idle p h) := fun h => h.symm
theorem ListOperand.hello (p : PortId) (h : FlitHdr) (b : HelloBody) : Statement (.hello p h b) := fun _ => rfl
theorem ListOperand.time (p : PortId) (h : FlitHdr) (own peerEcho peerArrival arrival : BitVec 64) : Statement (.time p h own peerEcho peerArrival arrival) := fun h => h.symm
theorem ListOperand.nak (p : PortId) (h : FlitHdr) : Statement (.nak p h) := fun h => h.symm
theorem ListOperand.marker (p : PortId) (h : FlitHdr) (lane lanes : Byte) : Statement (.marker p h lane lanes) := fun h => h.symm
theorem ListOperand.msg (p : PortId) (h : FlitHdr) (b : MsgBody) : Statement (.msg p h b) := fun _ => rfl
theorem ListOperand.release (p : PortId) (h : FlitHdr) (ids : List W32) : Statement (.release p h ids) := fun _ => rfl
theorem ListOperand.retract (p : PortId) (h : FlitHdr) (ids : List W32) : Statement (.retract p h ids) := fun _ => rfl
theorem ListOperand.grant (p : PortId) (h : FlitHdr) (b : GrantBody) : Statement (.grant p h b) := fun h => h.symm
theorem ListOperand.dput (p : PortId) (h : FlitHdr) (b : DputBody) : Statement (.dput p h b) := fun _ => rfl
theorem ListOperand.dgetreq (p : PortId) (h : FlitHdr) (b : DgetBody) : Statement (.dgetreq p h b) := fun h => h.symm
theorem ListOperand.dgetrsp (p : PortId) (h : FlitHdr) (b : DgetBody) (digests : List Bytes) : Statement (.dgetrsp p h b digests) := fun _ => rfl
theorem ListOperand.reservedFlit (p : PortId) (h : FlitHdr) (type : Byte) (vc : BitVec 2) : Statement (.reservedFlit p h type vc) := fun h => h.symm
theorem ListOperand.helloTimer (p : PortId) : Statement (.helloTimer p) := fun h => h.symm
theorem ListOperand.timeTimer : Statement (.timeTimer) := fun h => h.symm
theorem ListOperand.linkTrainingAttempt (p : PortId) : Statement (.linkTrainingAttempt p) := fun h => h.symm
theorem ListOperand.helloTimeout (p : PortId) : Statement (.helloTimeout p) := fun h => h.symm
theorem ListOperand.peerHelloLoss (p : PortId) : Statement (.peerHelloLoss p) := fun h => h.symm
theorem ListOperand.portRetrain (p : PortId) (lanesOk : BitVec 4) : Statement (.portRetrain p lanesOk) := fun h => h.symm
theorem ListOperand.laneOut (l : LaneId) (cause : LaneCause) : Statement (.laneOut l cause) := fun h => h.symm
theorem ListOperand.laneRetrain (l : LaneId) (ok : Bool) : Statement (.laneRetrain l ok) := fun h => h.symm
theorem ListOperand.bar0BadAccess (f : Bar0Access) : Statement (.bar0BadAccess f) := fun h => h.symm
theorem ListOperand.hostReadFailure (m : HostReader) (slot : Nat) : Statement (.hostReadFailure m slot) := fun h => h.symm
theorem ListOperand.functionLevelReset (f : FnId) : Statement (.functionLevelReset f) := fun h => h.symm
theorem ListOperand.vfEnableClear (numVfs : Fin 16) : Statement (.vfEnableClear numVfs) := fun h => h.symm
theorem ListOperand.mgtConnect (c : ClientCert) : Statement (.mgtConnect c) := fun h => h.symm
theorem ListOperand.mgtIdleTimeout (c : Fin 4) : Statement (.mgtIdleTimeout c) := fun h => h.symm
theorem ListOperand.mgtClose (c : Fin 4) : Statement (.mgtClose c) := fun h => h.symm
theorem ListOperand.request (c : Fin 4) (body : Bytes) : Statement (.request c body) := fun _ => rfl
theorem ListOperand.statusRead (c : Fin 4) : Statement (.statusRead c) := fun h => h.symm
theorem ListOperand.mgtBadframe (c : Fin 4) (type : BitVec 16) : Statement (.mgtBadframe c type) := fun h => h.symm
theorem ListOperand.getVersion (p : SpdmPath) : Statement (.getVersion p) := fun h => h.symm
theorem ListOperand.getCapabilities (p : SpdmPath) : Statement (.getCapabilities p) := fun h => h.symm
theorem ListOperand.negotiateAlgorithms (p : SpdmPath) (asym hash : W32) : Statement (.negotiateAlgorithms p asym hash) := fun h => h.symm
theorem ListOperand.getDigests (p : SpdmPath) : Statement (.getDigests p) := fun h => h.symm
theorem ListOperand.getCertificate (p : SpdmPath) (slot : BitVec 4) (off len : BitVec 16) : Statement (.getCertificate p slot off len) := fun h => h.symm
theorem ListOperand.challenge (p : SpdmPath) (slot : BitVec 4) (nonce : Bytes) : Statement (.challenge p slot nonce) := fun _ => rfl
theorem ListOperand.getMeasurements (p : SpdmPath) (index : Byte) (nonce : Bytes) : Statement (.getMeasurements p index nonce) := fun _ => rfl
theorem ListOperand.spdmUnsupportedRequest (p : SpdmPath) (code : Byte) : Statement (.spdmUnsupportedRequest p code) := fun h => h.symm
theorem ListOperand.ptpSync (offset : BitVec 64) : Statement (.ptpSync offset) := fun h => h.symm
theorem ListOperand.ptpLost : Statement (.ptpLost) := fun h => h.symm
theorem ListOperand.perstAssert : Statement (.perstAssert) := fun h => h.symm
theorem ListOperand.perstRelease : Statement (.perstRelease) := fun h => h.symm
theorem ListOperand.coldPowerOn : Statement (.coldPowerOn) := fun h => h.symm
theorem ListOperand.firmwareStart : Statement (.firmwareStart) := fun h => h.symm
theorem ListOperand.mailboxOpen : Statement (.mailboxOpen) := fun h => h.symm
theorem ListOperand.droverRestart : Statement (.droverRestart) := fun h => h.symm
theorem ListOperand.droverReady : Statement (.droverReady) := fun h => h.symm
theorem ListOperand.flashRefresh (region : Fin 3) (ok : Bool) : Statement (.flashRefresh region ok) := fun h => h.symm
theorem ListOperand.configHalfErase : Statement (.configHalfErase) := fun h => h.symm
theorem ListOperand.standbyEnter : Statement (.standbyEnter) := fun h => h.symm
theorem ListOperand.standbyExit : Statement (.standbyExit) := fun h => h.symm
theorem ListOperand.tallyEpoch : Statement (.tallyEpoch) := fun h => h.symm
theorem ListOperand.histAppend : Statement (.histAppend) := fun h => h.symm
theorem ListOperand.poweredMinute : Statement (.poweredMinute) := fun h => h.symm
theorem ListOperand.snapshotWrite : Statement (.snapshotWrite) := fun h => h.symm
theorem ListOperand.journalFlush (ok : Bool) : Statement (.journalFlush ok) := fun h => h.symm
theorem ListOperand.retentionPass : Statement (.retentionPass) := fun h => h.symm
theorem ListOperand.guardedEntry : Statement (.guardedEntry) := fun h => h.symm
theorem ListOperand.badFlit (p : PortId) : Statement (.badFlit p) := fun h => h.symm
theorem ListOperand.reinBadCrc (t : TileId) (toTile : Bool) (seq : BitVec 4) : Statement (.reinBadCrc t toTile seq) := fun h => h.symm
theorem ListOperand.laneLock (l : LaneId) (ok : Bool) : Statement (.laneLock l ok) := fun h => h.symm
theorem ListOperand.busMasterEnable (f : FnId) (en : Bool) : Statement (.busMasterEnable f en) := fun h => h.symm

end Sys2Proof.Laws
end

