-- ==== Sys2Proof/Laws/State.lean ====
section
/-! SUPPORT. Each elementary update of the state changes the one field it is about: one lemma per other field and
update, so that no later proof unfolds a record update. -/
set_option Elab.async false

namespace Sys2Proof.Machine
namespace State

section
variable (s : State) (f : Field) (u v : Nat)
@[simp] theorem wr_pending : (s.wr f u v).pending = s.pending := rfl
@[simp] theorem wr_now : (s.wr f u v).now = s.now := rfl
@[simp] theorem wr_frac : (s.wr f u v).frac = s.frac := rfl
@[simp] theorem wr_ppm : (s.wr f u v).ppm = s.ppm := rfl
@[simp] theorem wr_ppmUntil : (s.wr f u v).ppmUntil = s.ppmUntil := rfl
@[simp] theorem wr_timeLocked : (s.wr f u v).timeLocked = s.timeLocked := rfl
@[simp] theorem wr_lockRun : (s.wr f u v).lockRun = s.lockRun := rfl
@[simp] theorem wr_rootConflict : (s.wr f u v).rootConflict = s.rootConflict := rfl
@[simp] theorem wr_laneAt : (s.wr f u v).laneAt = s.laneAt := rfl
@[simp] theorem wr_drvIn : (s.wr f u v).drvIn = s.drvIn := rfl
@[simp] theorem wr_jobEver : (s.wr f u v).jobEver = s.jobEver := rfl
@[simp] theorem wr_phase : (s.wr f u v).phase = s.phase := rfl
@[simp] theorem wr_drawn : (s.wr f u v).drawn = s.drawn := rfl
@[simp] theorem wr_lrecHeld : (s.wr f u v).lrecHeld = s.lrecHeld := rfl
@[simp] theorem wr_tiles : (s.wr f u v).tiles = s.tiles := rfl
@[simp] theorem wr_folds : (s.wr f u v).folds = s.folds := rfl
@[simp] theorem wr_reguls : (s.wr f u v).reguls = s.reguls := rfl
@[simp] theorem wr_loops : (s.wr f u v).loops = s.loops := rfl
@[simp] theorem wr_mboxes : (s.wr f u v).mboxes = s.mboxes := rfl
@[simp] theorem wr_sessions : (s.wr f u v).sessions = s.sessions := rfl
@[simp] theorem wr_ports : (s.wr f u v).ports = s.ports := rfl
@[simp] theorem wr_conns : (s.wr f u v).conns = s.conns := rfl
@[simp] theorem wr_jobs : (s.wr f u v).jobs = s.jobs := rfl
@[simp] theorem wr_flows : (s.wr f u v).flows = s.flows := rfl
@[simp] theorem wr_exports : (s.wr f u v).exports = s.exports := rfl
@[simp] theorem wr_mesh : (s.wr f u v).mesh = s.mesh := rfl
@[simp] theorem wr_credits : (s.wr f u v).credits = s.credits := rfl
@[simp] theorem wr_meshStop : (s.wr f u v).meshStop = s.meshStop := rfl
@[simp] theorem wr_creditQ : (s.wr f u v).creditQ = s.creditQ := rfl
@[simp] theorem wr_foldReply : (s.wr f u v).foldReply = s.foldReply := rfl
@[simp] theorem wr_keys : (s.wr f u v).keys = s.keys := rfl
@[simp] theorem wr_ringHeld : (s.wr f u v).ringHeld = s.ringHeld := rfl
@[simp] theorem wr_ringQ : (s.wr f u v).ringQ = s.ringQ := rfl
@[simp] theorem wr_ringIrq : (s.wr f u v).ringIrq = s.ringIrq := rfl
@[simp] theorem wr_drvGrants : (s.wr f u v).drvGrants = s.drvGrants := rfl
@[simp] theorem wr_drvHorizon : (s.wr f u v).drvHorizon = s.drvHorizon := rfl
@[simp] theorem wr_host : (s.wr f u v).host = s.host := rfl
@[simp] theorem wr_busMaster : (s.wr f u v).busMaster = s.busMaster := rfl
@[simp] theorem wr_msix : (s.wr f u v).msix = s.msix := rfl
@[simp] theorem wr_msixTab : (s.wr f u v).msixTab = s.msixTab := rfl
@[simp] theorem wr_msixPend : (s.wr f u v).msixPend = s.msixPend := rfl
@[simp] theorem wr_events : (s.wr f u v).events = s.events := rfl
@[simp] theorem wr_evSeq : (s.wr f u v).evSeq = s.evSeq := rfl
@[simp] theorem wr_evKept : (s.wr f u v).evKept = s.evKept := rfl
@[simp] theorem wr_cfg : (s.wr f u v).cfg = s.cfg := rfl
@[simp] theorem wr_limits : (s.wr f u v).limits = s.limits := rfl
@[simp] theorem wr_report : (s.wr f u v).report = s.report := rfl
@[simp] theorem wr_flash : (s.wr f u v).flash = s.flash := rfl
@[simp] theorem wr_stackRecord : (s.wr f u v).stackRecord = s.stackRecord := rfl
@[simp] theorem wr_operator : (s.wr f u v).operator = s.operator := rfl
@[simp] theorem wr_fwVersion : (s.wr f u v).fwVersion = s.fwVersion := rfl
@[simp] theorem wr_fwLevel : (s.wr f u v).fwLevel = s.fwLevel := rfl
@[simp] theorem wr_fwImage : (s.wr f u v).fwImage = s.fwImage := rfl
@[simp] theorem wr_fwFails : (s.wr f u v).fwFails = s.fwFails := rfl
@[simp] theorem wr_acceptSeq : (s.wr f u v).acceptSeq = s.acceptSeq := rfl
@[simp] theorem wr_acceptPos : (s.wr f u v).acceptPos = s.acceptPos := rfl
@[simp] theorem wr_sessGen : (s.wr f u v).sessGen = s.sessGen := rfl
@[simp] theorem wr_jobTag : (s.wr f u v).jobTag = s.jobTag := rfl
@[simp] theorem wr_handles : (s.wr f u v).handles = s.handles := rfl
@[simp] theorem wr_dstate : (s.wr f u v).dstate = s.dstate := rfl
@[simp] theorem wr_drain : (s.wr f u v).drain = s.drain := rfl
@[simp] theorem wr_drainUnits : (s.wr f u v).drainUnits = s.drainUnits := rfl
@[simp] theorem wr_opDrain : (s.wr f u v).opDrain = s.opDrain := rfl
@[simp] theorem wr_histories : (s.wr f u v).histories = s.histories := rfl
@[simp] theorem wr_life : (s.wr f u v).life = s.life := rfl
@[simp] theorem wr_bins : (s.wr f u v).bins = s.bins := rfl
@[simp] theorem wr_histAt : (s.wr f u v).histAt = s.histAt := rfl
@[simp] theorem wr_histOwed : (s.wr f u v).histOwed = s.histOwed := rfl
@[simp] theorem wr_epoch : (s.wr f u v).epoch = s.epoch := rfl
@[simp] theorem wr_tallyAt : (s.wr f u v).tallyAt = s.tallyAt := rfl
@[simp] theorem wr_tallies : (s.wr f u v).tallies = s.tallies := rfl
@[simp] theorem wr_shadows : (s.wr f u v).shadows = s.shadows := rfl
@[simp] theorem wr_buffer : (s.wr f u v).buffer = s.buffer := rfl
@[simp] theorem wr_sectors : (s.wr f u v).sectors = s.sectors := rfl
@[simp] theorem wr_coalesced : (s.wr f u v).coalesced = s.coalesced := rfl
@[simp] theorem wr_snapMin : (s.wr f u v).snapMin = s.snapMin := rfl
@[simp] theorem wr_minuteAt : (s.wr f u v).minuteAt = s.minuteAt := rfl
@[simp] theorem wr_tele : (s.wr f u v).tele = s.tele := rfl
@[simp] theorem wr_discRun : (s.wr f u v).discRun = s.discRun := rfl
@[simp] theorem wr_discGap : (s.wr f u v).discGap = s.discGap := rfl
@[simp] theorem wr_avsFails : (s.wr f u v).avsFails = s.avsFails := rfl
@[simp] theorem wr_avsOk : (s.wr f u v).avsOk = s.avsOk := rfl
@[simp] theorem wr_avsMa : (s.wr f u v).avsMa = s.avsMa := rfl
@[simp] theorem wr_avsMv : (s.wr f u v).avsMv = s.avsMv := rfl
@[simp] theorem wr_vibWritten : (s.wr f u v).vibWritten = s.vibWritten := rfl
@[simp] theorem wr_vibOwed : (s.wr f u v).vibOwed = s.vibOwed := rfl
@[simp] theorem wr_vibFrom : (s.wr f u v).vibFrom = s.vibFrom := rfl
@[simp] theorem wr_avsRate : (s.wr f u v).avsRate = s.avsRate := rfl
@[simp] theorem wr_avsRead : (s.wr f u v).avsRead = s.avsRead := rfl
@[simp] theorem wr_vibOff : (s.wr f u v).vibOff = s.vibOff := rfl
@[simp] theorem wr_mismatchRun : (s.wr f u v).mismatchRun = s.mismatchRun := rfl
@[simp] theorem wr_lostAvs : (s.wr f u v).lostAvs = s.lostAvs := rfl
@[simp] theorem wr_energyUj : (s.wr f u v).energyUj = s.energyUj := rfl
@[simp] theorem wr_temps : (s.wr f u v).temps = s.temps := rfl
@[simp] theorem wr_stuck : (s.wr f u v).stuck = s.stuck := rfl
@[simp] theorem wr_cool : (s.wr f u v).cool = s.cool := rfl
@[simp] theorem wr_heatBy : (s.wr f u v).heatBy = s.heatBy := rfl
@[simp] theorem wr_diodeBad : (s.wr f u v).diodeBad = s.diodeBad := rfl
@[simp] theorem wr_thmAt : (s.wr f u v).thmAt = s.thmAt := rfl
@[simp] theorem wr_fastRun : (s.wr f u v).fastRun = s.fastRun := rfl
@[simp] theorem wr_warnAt : (s.wr f u v).warnAt = s.warnAt := rfl
@[simp] theorem wr_trimAt : (s.wr f u v).trimAt = s.trimAt := rfl
@[simp] theorem wr_coolFrom : (s.wr f u v).coolFrom = s.coolFrom := rfl
@[simp] theorem wr_stopKind : (s.wr f u v).stopKind = s.stopKind := rfl
@[simp] theorem wr_stopAt : (s.wr f u v).stopAt = s.stopAt := rfl
@[simp] theorem wr_trip : (s.wr f u v).trip = s.trip := rfl
@[simp] theorem wr_flocks : (s.wr f u v).flocks = s.flocks := rfl
@[simp] theorem wr_flockAt : (s.wr f u v).flockAt = s.flockAt := rfl
@[simp] theorem wr_flockDone : (s.wr f u v).flockDone = s.flockDone := rfl
@[simp] theorem wr_relayed : (s.wr f u v).relayed = s.relayed := rfl
@[simp] theorem wr_drecSeq : (s.wr f u v).drecSeq = s.drecSeq := rfl
@[simp] theorem wr_standby : (s.wr f u v).standby = s.standby := rfl
@[simp] theorem wr_idleFrom : (s.wr f u v).idleFrom = s.idleFrom := rfl
@[simp] theorem wr_ptpRun : (s.wr f u v).ptpRun = s.ptpRun := rfl
@[simp] theorem wr_ptpAt : (s.wr f u v).ptpAt = s.ptpAt := rfl
@[simp] theorem wr_ptpOff : (s.wr f u v).ptpOff = s.ptpOff := rfl
@[simp] theorem wr_authFails : (s.wr f u v).authFails = s.authFails := rfl
@[simp] theorem wr_alerts : (s.wr f u v).alerts = s.alerts := rfl
@[simp] theorem wr_spdmOut : (s.wr f u v).spdmOut = s.spdmOut := rfl
end

section
variable (s : State) (t : Nat) (x : Tile)
@[simp] theorem setTile_pending : (s.setTile t x).pending = s.pending := rfl
@[simp] theorem setTile_now : (s.setTile t x).now = s.now := rfl
@[simp] theorem setTile_frac : (s.setTile t x).frac = s.frac := rfl
@[simp] theorem setTile_ppm : (s.setTile t x).ppm = s.ppm := rfl
@[simp] theorem setTile_ppmUntil : (s.setTile t x).ppmUntil = s.ppmUntil := rfl
@[simp] theorem setTile_timeLocked : (s.setTile t x).timeLocked = s.timeLocked := rfl
@[simp] theorem setTile_lockRun : (s.setTile t x).lockRun = s.lockRun := rfl
@[simp] theorem setTile_rootConflict : (s.setTile t x).rootConflict = s.rootConflict := rfl
@[simp] theorem setTile_laneAt : (s.setTile t x).laneAt = s.laneAt := rfl
@[simp] theorem setTile_drvIn : (s.setTile t x).drvIn = s.drvIn := rfl
@[simp] theorem setTile_jobEver : (s.setTile t x).jobEver = s.jobEver := rfl
@[simp] theorem setTile_phase : (s.setTile t x).phase = s.phase := rfl
@[simp] theorem setTile_drawn : (s.setTile t x).drawn = s.drawn := rfl
@[simp] theorem setTile_regs : (s.setTile t x).regs = s.regs := rfl
@[simp] theorem setTile_lrecHeld : (s.setTile t x).lrecHeld = s.lrecHeld := rfl
@[simp] theorem setTile_folds : (s.setTile t x).folds = s.folds := rfl
@[simp] theorem setTile_reguls : (s.setTile t x).reguls = s.reguls := rfl
@[simp] theorem setTile_loops : (s.setTile t x).loops = s.loops := rfl
@[simp] theorem setTile_mboxes : (s.setTile t x).mboxes = s.mboxes := rfl
@[simp] theorem setTile_sessions : (s.setTile t x).sessions = s.sessions := rfl
@[simp] theorem setTile_ports : (s.setTile t x).ports = s.ports := rfl
@[simp] theorem setTile_conns : (s.setTile t x).conns = s.conns := rfl
@[simp] theorem setTile_jobs : (s.setTile t x).jobs = s.jobs := rfl
@[simp] theorem setTile_flows : (s.setTile t x).flows = s.flows := rfl
@[simp] theorem setTile_exports : (s.setTile t x).exports = s.exports := rfl
@[simp] theorem setTile_mesh : (s.setTile t x).mesh = s.mesh := rfl
@[simp] theorem setTile_credits : (s.setTile t x).credits = s.credits := rfl
@[simp] theorem setTile_meshStop : (s.setTile t x).meshStop = s.meshStop := rfl
@[simp] theorem setTile_creditQ : (s.setTile t x).creditQ = s.creditQ := rfl
@[simp] theorem setTile_foldReply : (s.setTile t x).foldReply = s.foldReply := rfl
@[simp] theorem setTile_keys : (s.setTile t x).keys = s.keys := rfl
@[simp] theorem setTile_ringHeld : (s.setTile t x).ringHeld = s.ringHeld := rfl
@[simp] theorem setTile_ringQ : (s.setTile t x).ringQ = s.ringQ := rfl
@[simp] theorem setTile_ringIrq : (s.setTile t x).ringIrq = s.ringIrq := rfl
@[simp] theorem setTile_drvGrants : (s.setTile t x).drvGrants = s.drvGrants := rfl
@[simp] theorem setTile_drvHorizon : (s.setTile t x).drvHorizon = s.drvHorizon := rfl
@[simp] theorem setTile_host : (s.setTile t x).host = s.host := rfl
@[simp] theorem setTile_busMaster : (s.setTile t x).busMaster = s.busMaster := rfl
@[simp] theorem setTile_msix : (s.setTile t x).msix = s.msix := rfl
@[simp] theorem setTile_msixTab : (s.setTile t x).msixTab = s.msixTab := rfl
@[simp] theorem setTile_msixPend : (s.setTile t x).msixPend = s.msixPend := rfl
@[simp] theorem setTile_events : (s.setTile t x).events = s.events := rfl
@[simp] theorem setTile_evSeq : (s.setTile t x).evSeq = s.evSeq := rfl
@[simp] theorem setTile_evKept : (s.setTile t x).evKept = s.evKept := rfl
@[simp] theorem setTile_cfg : (s.setTile t x).cfg = s.cfg := rfl
@[simp] theorem setTile_limits : (s.setTile t x).limits = s.limits := rfl
@[simp] theorem setTile_report : (s.setTile t x).report = s.report := rfl
@[simp] theorem setTile_flash : (s.setTile t x).flash = s.flash := rfl
@[simp] theorem setTile_stackRecord : (s.setTile t x).stackRecord = s.stackRecord := rfl
@[simp] theorem setTile_operator : (s.setTile t x).operator = s.operator := rfl
@[simp] theorem setTile_fwVersion : (s.setTile t x).fwVersion = s.fwVersion := rfl
@[simp] theorem setTile_fwLevel : (s.setTile t x).fwLevel = s.fwLevel := rfl
@[simp] theorem setTile_fwImage : (s.setTile t x).fwImage = s.fwImage := rfl
@[simp] theorem setTile_fwFails : (s.setTile t x).fwFails = s.fwFails := rfl
@[simp] theorem setTile_acceptSeq : (s.setTile t x).acceptSeq = s.acceptSeq := rfl
@[simp] theorem setTile_acceptPos : (s.setTile t x).acceptPos = s.acceptPos := rfl
@[simp] theorem setTile_sessGen : (s.setTile t x).sessGen = s.sessGen := rfl
@[simp] theorem setTile_jobTag : (s.setTile t x).jobTag = s.jobTag := rfl
@[simp] theorem setTile_handles : (s.setTile t x).handles = s.handles := rfl
@[simp] theorem setTile_dstate : (s.setTile t x).dstate = s.dstate := rfl
@[simp] theorem setTile_drain : (s.setTile t x).drain = s.drain := rfl
@[simp] theorem setTile_drainUnits : (s.setTile t x).drainUnits = s.drainUnits := rfl
@[simp] theorem setTile_opDrain : (s.setTile t x).opDrain = s.opDrain := rfl
@[simp] theorem setTile_histories : (s.setTile t x).histories = s.histories := rfl
@[simp] theorem setTile_life : (s.setTile t x).life = s.life := rfl
@[simp] theorem setTile_bins : (s.setTile t x).bins = s.bins := rfl
@[simp] theorem setTile_histAt : (s.setTile t x).histAt = s.histAt := rfl
@[simp] theorem setTile_histOwed : (s.setTile t x).histOwed = s.histOwed := rfl
@[simp] theorem setTile_epoch : (s.setTile t x).epoch = s.epoch := rfl
@[simp] theorem setTile_tallyAt : (s.setTile t x).tallyAt = s.tallyAt := rfl
@[simp] theorem setTile_tallies : (s.setTile t x).tallies = s.tallies := rfl
@[simp] theorem setTile_shadows : (s.setTile t x).shadows = s.shadows := rfl
@[simp] theorem setTile_buffer : (s.setTile t x).buffer = s.buffer := rfl
@[simp] theorem setTile_sectors : (s.setTile t x).sectors = s.sectors := rfl
@[simp] theorem setTile_coalesced : (s.setTile t x).coalesced = s.coalesced := rfl
@[simp] theorem setTile_snapMin : (s.setTile t x).snapMin = s.snapMin := rfl
@[simp] theorem setTile_minuteAt : (s.setTile t x).minuteAt = s.minuteAt := rfl
@[simp] theorem setTile_tele : (s.setTile t x).tele = s.tele := rfl
@[simp] theorem setTile_discRun : (s.setTile t x).discRun = s.discRun := rfl
@[simp] theorem setTile_discGap : (s.setTile t x).discGap = s.discGap := rfl
@[simp] theorem setTile_avsFails : (s.setTile t x).avsFails = s.avsFails := rfl
@[simp] theorem setTile_avsOk : (s.setTile t x).avsOk = s.avsOk := rfl
@[simp] theorem setTile_avsMa : (s.setTile t x).avsMa = s.avsMa := rfl
@[simp] theorem setTile_avsMv : (s.setTile t x).avsMv = s.avsMv := rfl
@[simp] theorem setTile_vibWritten : (s.setTile t x).vibWritten = s.vibWritten := rfl
@[simp] theorem setTile_vibOwed : (s.setTile t x).vibOwed = s.vibOwed := rfl
@[simp] theorem setTile_vibFrom : (s.setTile t x).vibFrom = s.vibFrom := rfl
@[simp] theorem setTile_avsRate : (s.setTile t x).avsRate = s.avsRate := rfl
@[simp] theorem setTile_avsRead : (s.setTile t x).avsRead = s.avsRead := rfl
@[simp] theorem setTile_vibOff : (s.setTile t x).vibOff = s.vibOff := rfl
@[simp] theorem setTile_mismatchRun : (s.setTile t x).mismatchRun = s.mismatchRun := rfl
@[simp] theorem setTile_lostAvs : (s.setTile t x).lostAvs = s.lostAvs := rfl
@[simp] theorem setTile_energyUj : (s.setTile t x).energyUj = s.energyUj := rfl
@[simp] theorem setTile_temps : (s.setTile t x).temps = s.temps := rfl
@[simp] theorem setTile_stuck : (s.setTile t x).stuck = s.stuck := rfl
@[simp] theorem setTile_cool : (s.setTile t x).cool = s.cool := rfl
@[simp] theorem setTile_heatBy : (s.setTile t x).heatBy = s.heatBy := rfl
@[simp] theorem setTile_diodeBad : (s.setTile t x).diodeBad = s.diodeBad := rfl
@[simp] theorem setTile_thmAt : (s.setTile t x).thmAt = s.thmAt := rfl
@[simp] theorem setTile_fastRun : (s.setTile t x).fastRun = s.fastRun := rfl
@[simp] theorem setTile_warnAt : (s.setTile t x).warnAt = s.warnAt := rfl
@[simp] theorem setTile_trimAt : (s.setTile t x).trimAt = s.trimAt := rfl
@[simp] theorem setTile_coolFrom : (s.setTile t x).coolFrom = s.coolFrom := rfl
@[simp] theorem setTile_stopKind : (s.setTile t x).stopKind = s.stopKind := rfl
@[simp] theorem setTile_stopAt : (s.setTile t x).stopAt = s.stopAt := rfl
@[simp] theorem setTile_trip : (s.setTile t x).trip = s.trip := rfl
@[simp] theorem setTile_flocks : (s.setTile t x).flocks = s.flocks := rfl
@[simp] theorem setTile_flockAt : (s.setTile t x).flockAt = s.flockAt := rfl
@[simp] theorem setTile_flockDone : (s.setTile t x).flockDone = s.flockDone := rfl
@[simp] theorem setTile_relayed : (s.setTile t x).relayed = s.relayed := rfl
@[simp] theorem setTile_drecSeq : (s.setTile t x).drecSeq = s.drecSeq := rfl
@[simp] theorem setTile_standby : (s.setTile t x).standby = s.standby := rfl
@[simp] theorem setTile_idleFrom : (s.setTile t x).idleFrom = s.idleFrom := rfl
@[simp] theorem setTile_ptpRun : (s.setTile t x).ptpRun = s.ptpRun := rfl
@[simp] theorem setTile_ptpAt : (s.setTile t x).ptpAt = s.ptpAt := rfl
@[simp] theorem setTile_ptpOff : (s.setTile t x).ptpOff = s.ptpOff := rfl
@[simp] theorem setTile_authFails : (s.setTile t x).authFails = s.authFails := rfl
@[simp] theorem setTile_alerts : (s.setTile t x).alerts = s.alerts := rfl
@[simp] theorem setTile_spdmOut : (s.setTile t x).spdmOut = s.spdmOut := rfl
end

section
variable (s : State) (t : Nat) (g : Tile → Tile)
@[simp] theorem modTile_pending : (s.modTile t g).pending = s.pending := rfl
@[simp] theorem modTile_now : (s.modTile t g).now = s.now := rfl
@[simp] theorem modTile_frac : (s.modTile t g).frac = s.frac := rfl
@[simp] theorem modTile_ppm : (s.modTile t g).ppm = s.ppm := rfl
@[simp] theorem modTile_ppmUntil : (s.modTile t g).ppmUntil = s.ppmUntil := rfl
@[simp] theorem modTile_timeLocked : (s.modTile t g).timeLocked = s.timeLocked := rfl
@[simp] theorem modTile_lockRun : (s.modTile t g).lockRun = s.lockRun := rfl
@[simp] theorem modTile_rootConflict : (s.modTile t g).rootConflict = s.rootConflict := rfl
@[simp] theorem modTile_laneAt : (s.modTile t g).laneAt = s.laneAt := rfl
@[simp] theorem modTile_drvIn : (s.modTile t g).drvIn = s.drvIn := rfl
@[simp] theorem modTile_jobEver : (s.modTile t g).jobEver = s.jobEver := rfl
@[simp] theorem modTile_phase : (s.modTile t g).phase = s.phase := rfl
@[simp] theorem modTile_drawn : (s.modTile t g).drawn = s.drawn := rfl
@[simp] theorem modTile_regs : (s.modTile t g).regs = s.regs := rfl
@[simp] theorem modTile_lrecHeld : (s.modTile t g).lrecHeld = s.lrecHeld := rfl
@[simp] theorem modTile_folds : (s.modTile t g).folds = s.folds := rfl
@[simp] theorem modTile_reguls : (s.modTile t g).reguls = s.reguls := rfl
@[simp] theorem modTile_loops : (s.modTile t g).loops = s.loops := rfl
@[simp] theorem modTile_mboxes : (s.modTile t g).mboxes = s.mboxes := rfl
@[simp] theorem modTile_sessions : (s.modTile t g).sessions = s.sessions := rfl
@[simp] theorem modTile_ports : (s.modTile t g).ports = s.ports := rfl
@[simp] theorem modTile_conns : (s.modTile t g).conns = s.conns := rfl
@[simp] theorem modTile_jobs : (s.modTile t g).jobs = s.jobs := rfl
@[simp] theorem modTile_flows : (s.modTile t g).flows = s.flows := rfl
@[simp] theorem modTile_exports : (s.modTile t g).exports = s.exports := rfl
@[simp] theorem modTile_mesh : (s.modTile t g).mesh = s.mesh := rfl
@[simp] theorem modTile_credits : (s.modTile t g).credits = s.credits := rfl
@[simp] theorem modTile_meshStop : (s.modTile t g).meshStop = s.meshStop := rfl
@[simp] theorem modTile_creditQ : (s.modTile t g).creditQ = s.creditQ := rfl
@[simp] theorem modTile_foldReply : (s.modTile t g).foldReply = s.foldReply := rfl
@[simp] theorem modTile_keys : (s.modTile t g).keys = s.keys := rfl
@[simp] theorem modTile_ringHeld : (s.modTile t g).ringHeld = s.ringHeld := rfl
@[simp] theorem modTile_ringQ : (s.modTile t g).ringQ = s.ringQ := rfl
@[simp] theorem modTile_ringIrq : (s.modTile t g).ringIrq = s.ringIrq := rfl
@[simp] theorem modTile_drvGrants : (s.modTile t g).drvGrants = s.drvGrants := rfl
@[simp] theorem modTile_drvHorizon : (s.modTile t g).drvHorizon = s.drvHorizon := rfl
@[simp] theorem modTile_host : (s.modTile t g).host = s.host := rfl
@[simp] theorem modTile_busMaster : (s.modTile t g).busMaster = s.busMaster := rfl
@[simp] theorem modTile_msix : (s.modTile t g).msix = s.msix := rfl
@[simp] theorem modTile_msixTab : (s.modTile t g).msixTab = s.msixTab := rfl
@[simp] theorem modTile_msixPend : (s.modTile t g).msixPend = s.msixPend := rfl
@[simp] theorem modTile_events : (s.modTile t g).events = s.events := rfl
@[simp] theorem modTile_evSeq : (s.modTile t g).evSeq = s.evSeq := rfl
@[simp] theorem modTile_evKept : (s.modTile t g).evKept = s.evKept := rfl
@[simp] theorem modTile_cfg : (s.modTile t g).cfg = s.cfg := rfl
@[simp] theorem modTile_limits : (s.modTile t g).limits = s.limits := rfl
@[simp] theorem modTile_report : (s.modTile t g).report = s.report := rfl
@[simp] theorem modTile_flash : (s.modTile t g).flash = s.flash := rfl
@[simp] theorem modTile_stackRecord : (s.modTile t g).stackRecord = s.stackRecord := rfl
@[simp] theorem modTile_operator : (s.modTile t g).operator = s.operator := rfl
@[simp] theorem modTile_fwVersion : (s.modTile t g).fwVersion = s.fwVersion := rfl
@[simp] theorem modTile_fwLevel : (s.modTile t g).fwLevel = s.fwLevel := rfl
@[simp] theorem modTile_fwImage : (s.modTile t g).fwImage = s.fwImage := rfl
@[simp] theorem modTile_fwFails : (s.modTile t g).fwFails = s.fwFails := rfl
@[simp] theorem modTile_acceptSeq : (s.modTile t g).acceptSeq = s.acceptSeq := rfl
@[simp] theorem modTile_acceptPos : (s.modTile t g).acceptPos = s.acceptPos := rfl
@[simp] theorem modTile_sessGen : (s.modTile t g).sessGen = s.sessGen := rfl
@[simp] theorem modTile_jobTag : (s.modTile t g).jobTag = s.jobTag := rfl
@[simp] theorem modTile_handles : (s.modTile t g).handles = s.handles := rfl
@[simp] theorem modTile_dstate : (s.modTile t g).dstate = s.dstate := rfl
@[simp] theorem modTile_drain : (s.modTile t g).drain = s.drain := rfl
@[simp] theorem modTile_drainUnits : (s.modTile t g).drainUnits = s.drainUnits := rfl
@[simp] theorem modTile_opDrain : (s.modTile t g).opDrain = s.opDrain := rfl
@[simp] theorem modTile_histories : (s.modTile t g).histories = s.histories := rfl
@[simp] theorem modTile_life : (s.modTile t g).life = s.life := rfl
@[simp] theorem modTile_bins : (s.modTile t g).bins = s.bins := rfl
@[simp] theorem modTile_histAt : (s.modTile t g).histAt = s.histAt := rfl
@[simp] theorem modTile_histOwed : (s.modTile t g).histOwed = s.histOwed := rfl
@[simp] theorem modTile_epoch : (s.modTile t g).epoch = s.epoch := rfl
@[simp] theorem modTile_tallyAt : (s.modTile t g).tallyAt = s.tallyAt := rfl
@[simp] theorem modTile_tallies : (s.modTile t g).tallies = s.tallies := rfl
@[simp] theorem modTile_shadows : (s.modTile t g).shadows = s.shadows := rfl
@[simp] theorem modTile_buffer : (s.modTile t g).buffer = s.buffer := rfl
@[simp] theorem modTile_sectors : (s.modTile t g).sectors = s.sectors := rfl
@[simp] theorem modTile_coalesced : (s.modTile t g).coalesced = s.coalesced := rfl
@[simp] theorem modTile_snapMin : (s.modTile t g).snapMin = s.snapMin := rfl
@[simp] theorem modTile_minuteAt : (s.modTile t g).minuteAt = s.minuteAt := rfl
@[simp] theorem modTile_tele : (s.modTile t g).tele = s.tele := rfl
@[simp] theorem modTile_discRun : (s.modTile t g).discRun = s.discRun := rfl
@[simp] theorem modTile_discGap : (s.modTile t g).discGap = s.discGap := rfl
@[simp] theorem modTile_avsFails : (s.modTile t g).avsFails = s.avsFails := rfl
@[simp] theorem modTile_avsOk : (s.modTile t g).avsOk = s.avsOk := rfl
@[simp] theorem modTile_avsMa : (s.modTile t g).avsMa = s.avsMa := rfl
@[simp] theorem modTile_avsMv : (s.modTile t g).avsMv = s.avsMv := rfl
@[simp] theorem modTile_vibWritten : (s.modTile t g).vibWritten = s.vibWritten := rfl
@[simp] theorem modTile_vibOwed : (s.modTile t g).vibOwed = s.vibOwed := rfl
@[simp] theorem modTile_vibFrom : (s.modTile t g).vibFrom = s.vibFrom := rfl
@[simp] theorem modTile_avsRate : (s.modTile t g).avsRate = s.avsRate := rfl
@[simp] theorem modTile_avsRead : (s.modTile t g).avsRead = s.avsRead := rfl
@[simp] theorem modTile_vibOff : (s.modTile t g).vibOff = s.vibOff := rfl
@[simp] theorem modTile_mismatchRun : (s.modTile t g).mismatchRun = s.mismatchRun := rfl
@[simp] theorem modTile_lostAvs : (s.modTile t g).lostAvs = s.lostAvs := rfl
@[simp] theorem modTile_energyUj : (s.modTile t g).energyUj = s.energyUj := rfl
@[simp] theorem modTile_temps : (s.modTile t g).temps = s.temps := rfl
@[simp] theorem modTile_stuck : (s.modTile t g).stuck = s.stuck := rfl
@[simp] theorem modTile_cool : (s.modTile t g).cool = s.cool := rfl
@[simp] theorem modTile_heatBy : (s.modTile t g).heatBy = s.heatBy := rfl
@[simp] theorem modTile_diodeBad : (s.modTile t g).diodeBad = s.diodeBad := rfl
@[simp] theorem modTile_thmAt : (s.modTile t g).thmAt = s.thmAt := rfl
@[simp] theorem modTile_fastRun : (s.modTile t g).fastRun = s.fastRun := rfl
@[simp] theorem modTile_warnAt : (s.modTile t g).warnAt = s.warnAt := rfl
@[simp] theorem modTile_trimAt : (s.modTile t g).trimAt = s.trimAt := rfl
@[simp] theorem modTile_coolFrom : (s.modTile t g).coolFrom = s.coolFrom := rfl
@[simp] theorem modTile_stopKind : (s.modTile t g).stopKind = s.stopKind := rfl
@[simp] theorem modTile_stopAt : (s.modTile t g).stopAt = s.stopAt := rfl
@[simp] theorem modTile_trip : (s.modTile t g).trip = s.trip := rfl
@[simp] theorem modTile_flocks : (s.modTile t g).flocks = s.flocks := rfl
@[simp] theorem modTile_flockAt : (s.modTile t g).flockAt = s.flockAt := rfl
@[simp] theorem modTile_flockDone : (s.modTile t g).flockDone = s.flockDone := rfl
@[simp] theorem modTile_relayed : (s.modTile t g).relayed = s.relayed := rfl
@[simp] theorem modTile_drecSeq : (s.modTile t g).drecSeq = s.drecSeq := rfl
@[simp] theorem modTile_standby : (s.modTile t g).standby = s.standby := rfl
@[simp] theorem modTile_idleFrom : (s.modTile t g).idleFrom = s.idleFrom := rfl
@[simp] theorem modTile_ptpRun : (s.modTile t g).ptpRun = s.ptpRun := rfl
@[simp] theorem modTile_ptpAt : (s.modTile t g).ptpAt = s.ptpAt := rfl
@[simp] theorem modTile_ptpOff : (s.modTile t g).ptpOff = s.ptpOff := rfl
@[simp] theorem modTile_authFails : (s.modTile t g).authFails = s.authFails := rfl
@[simp] theorem modTile_alerts : (s.modTile t g).alerts = s.alerts := rfl
@[simp] theorem modTile_spdmOut : (s.modTile t g).spdmOut = s.spdmOut := rfl
end

section
variable (s : State) (k : Nat) (x : Fold)
@[simp] theorem setFold_pending : (s.setFold k x).pending = s.pending := rfl
@[simp] theorem setFold_now : (s.setFold k x).now = s.now := rfl
@[simp] theorem setFold_frac : (s.setFold k x).frac = s.frac := rfl
@[simp] theorem setFold_ppm : (s.setFold k x).ppm = s.ppm := rfl
@[simp] theorem setFold_ppmUntil : (s.setFold k x).ppmUntil = s.ppmUntil := rfl
@[simp] theorem setFold_timeLocked : (s.setFold k x).timeLocked = s.timeLocked := rfl
@[simp] theorem setFold_lockRun : (s.setFold k x).lockRun = s.lockRun := rfl
@[simp] theorem setFold_rootConflict : (s.setFold k x).rootConflict = s.rootConflict := rfl
@[simp] theorem setFold_laneAt : (s.setFold k x).laneAt = s.laneAt := rfl
@[simp] theorem setFold_drvIn : (s.setFold k x).drvIn = s.drvIn := rfl
@[simp] theorem setFold_jobEver : (s.setFold k x).jobEver = s.jobEver := rfl
@[simp] theorem setFold_phase : (s.setFold k x).phase = s.phase := rfl
@[simp] theorem setFold_drawn : (s.setFold k x).drawn = s.drawn := rfl
@[simp] theorem setFold_regs : (s.setFold k x).regs = s.regs := rfl
@[simp] theorem setFold_lrecHeld : (s.setFold k x).lrecHeld = s.lrecHeld := rfl
@[simp] theorem setFold_tiles : (s.setFold k x).tiles = s.tiles := rfl
@[simp] theorem setFold_reguls : (s.setFold k x).reguls = s.reguls := rfl
@[simp] theorem setFold_loops : (s.setFold k x).loops = s.loops := rfl
@[simp] theorem setFold_mboxes : (s.setFold k x).mboxes = s.mboxes := rfl
@[simp] theorem setFold_sessions : (s.setFold k x).sessions = s.sessions := rfl
@[simp] theorem setFold_ports : (s.setFold k x).ports = s.ports := rfl
@[simp] theorem setFold_conns : (s.setFold k x).conns = s.conns := rfl
@[simp] theorem setFold_jobs : (s.setFold k x).jobs = s.jobs := rfl
@[simp] theorem setFold_flows : (s.setFold k x).flows = s.flows := rfl
@[simp] theorem setFold_exports : (s.setFold k x).exports = s.exports := rfl
@[simp] theorem setFold_mesh : (s.setFold k x).mesh = s.mesh := rfl
@[simp] theorem setFold_credits : (s.setFold k x).credits = s.credits := rfl
@[simp] theorem setFold_meshStop : (s.setFold k x).meshStop = s.meshStop := rfl
@[simp] theorem setFold_creditQ : (s.setFold k x).creditQ = s.creditQ := rfl
@[simp] theorem setFold_foldReply : (s.setFold k x).foldReply = s.foldReply := rfl
@[simp] theorem setFold_keys : (s.setFold k x).keys = s.keys := rfl
@[simp] theorem setFold_ringHeld : (s.setFold k x).ringHeld = s.ringHeld := rfl
@[simp] theorem setFold_ringQ : (s.setFold k x).ringQ = s.ringQ := rfl
@[simp] theorem setFold_ringIrq : (s.setFold k x).ringIrq = s.ringIrq := rfl
@[simp] theorem setFold_drvGrants : (s.setFold k x).drvGrants = s.drvGrants := rfl
@[simp] theorem setFold_drvHorizon : (s.setFold k x).drvHorizon = s.drvHorizon := rfl
@[simp] theorem setFold_host : (s.setFold k x).host = s.host := rfl
@[simp] theorem setFold_busMaster : (s.setFold k x).busMaster = s.busMaster := rfl
@[simp] theorem setFold_msix : (s.setFold k x).msix = s.msix := rfl
@[simp] theorem setFold_msixTab : (s.setFold k x).msixTab = s.msixTab := rfl
@[simp] theorem setFold_msixPend : (s.setFold k x).msixPend = s.msixPend := rfl
@[simp] theorem setFold_events : (s.setFold k x).events = s.events := rfl
@[simp] theorem setFold_evSeq : (s.setFold k x).evSeq = s.evSeq := rfl
@[simp] theorem setFold_evKept : (s.setFold k x).evKept = s.evKept := rfl
@[simp] theorem setFold_cfg : (s.setFold k x).cfg = s.cfg := rfl
@[simp] theorem setFold_limits : (s.setFold k x).limits = s.limits := rfl
@[simp] theorem setFold_report : (s.setFold k x).report = s.report := rfl
@[simp] theorem setFold_flash : (s.setFold k x).flash = s.flash := rfl
@[simp] theorem setFold_stackRecord : (s.setFold k x).stackRecord = s.stackRecord := rfl
@[simp] theorem setFold_operator : (s.setFold k x).operator = s.operator := rfl
@[simp] theorem setFold_fwVersion : (s.setFold k x).fwVersion = s.fwVersion := rfl
@[simp] theorem setFold_fwLevel : (s.setFold k x).fwLevel = s.fwLevel := rfl
@[simp] theorem setFold_fwImage : (s.setFold k x).fwImage = s.fwImage := rfl
@[simp] theorem setFold_fwFails : (s.setFold k x).fwFails = s.fwFails := rfl
@[simp] theorem setFold_acceptSeq : (s.setFold k x).acceptSeq = s.acceptSeq := rfl
@[simp] theorem setFold_acceptPos : (s.setFold k x).acceptPos = s.acceptPos := rfl
@[simp] theorem setFold_sessGen : (s.setFold k x).sessGen = s.sessGen := rfl
@[simp] theorem setFold_jobTag : (s.setFold k x).jobTag = s.jobTag := rfl
@[simp] theorem setFold_handles : (s.setFold k x).handles = s.handles := rfl
@[simp] theorem setFold_dstate : (s.setFold k x).dstate = s.dstate := rfl
@[simp] theorem setFold_drain : (s.setFold k x).drain = s.drain := rfl
@[simp] theorem setFold_drainUnits : (s.setFold k x).drainUnits = s.drainUnits := rfl
@[simp] theorem setFold_opDrain : (s.setFold k x).opDrain = s.opDrain := rfl
@[simp] theorem setFold_histories : (s.setFold k x).histories = s.histories := rfl
@[simp] theorem setFold_life : (s.setFold k x).life = s.life := rfl
@[simp] theorem setFold_bins : (s.setFold k x).bins = s.bins := rfl
@[simp] theorem setFold_histAt : (s.setFold k x).histAt = s.histAt := rfl
@[simp] theorem setFold_histOwed : (s.setFold k x).histOwed = s.histOwed := rfl
@[simp] theorem setFold_epoch : (s.setFold k x).epoch = s.epoch := rfl
@[simp] theorem setFold_tallyAt : (s.setFold k x).tallyAt = s.tallyAt := rfl
@[simp] theorem setFold_tallies : (s.setFold k x).tallies = s.tallies := rfl
@[simp] theorem setFold_shadows : (s.setFold k x).shadows = s.shadows := rfl
@[simp] theorem setFold_buffer : (s.setFold k x).buffer = s.buffer := rfl
@[simp] theorem setFold_sectors : (s.setFold k x).sectors = s.sectors := rfl
@[simp] theorem setFold_coalesced : (s.setFold k x).coalesced = s.coalesced := rfl
@[simp] theorem setFold_snapMin : (s.setFold k x).snapMin = s.snapMin := rfl
@[simp] theorem setFold_minuteAt : (s.setFold k x).minuteAt = s.minuteAt := rfl
@[simp] theorem setFold_tele : (s.setFold k x).tele = s.tele := rfl
@[simp] theorem setFold_discRun : (s.setFold k x).discRun = s.discRun := rfl
@[simp] theorem setFold_discGap : (s.setFold k x).discGap = s.discGap := rfl
@[simp] theorem setFold_avsFails : (s.setFold k x).avsFails = s.avsFails := rfl
@[simp] theorem setFold_avsOk : (s.setFold k x).avsOk = s.avsOk := rfl
@[simp] theorem setFold_avsMa : (s.setFold k x).avsMa = s.avsMa := rfl
@[simp] theorem setFold_avsMv : (s.setFold k x).avsMv = s.avsMv := rfl
@[simp] theorem setFold_vibWritten : (s.setFold k x).vibWritten = s.vibWritten := rfl
@[simp] theorem setFold_vibOwed : (s.setFold k x).vibOwed = s.vibOwed := rfl
@[simp] theorem setFold_vibFrom : (s.setFold k x).vibFrom = s.vibFrom := rfl
@[simp] theorem setFold_avsRate : (s.setFold k x).avsRate = s.avsRate := rfl
@[simp] theorem setFold_avsRead : (s.setFold k x).avsRead = s.avsRead := rfl
@[simp] theorem setFold_vibOff : (s.setFold k x).vibOff = s.vibOff := rfl
@[simp] theorem setFold_mismatchRun : (s.setFold k x).mismatchRun = s.mismatchRun := rfl
@[simp] theorem setFold_lostAvs : (s.setFold k x).lostAvs = s.lostAvs := rfl
@[simp] theorem setFold_energyUj : (s.setFold k x).energyUj = s.energyUj := rfl
@[simp] theorem setFold_temps : (s.setFold k x).temps = s.temps := rfl
@[simp] theorem setFold_stuck : (s.setFold k x).stuck = s.stuck := rfl
@[simp] theorem setFold_cool : (s.setFold k x).cool = s.cool := rfl
@[simp] theorem setFold_heatBy : (s.setFold k x).heatBy = s.heatBy := rfl
@[simp] theorem setFold_diodeBad : (s.setFold k x).diodeBad = s.diodeBad := rfl
@[simp] theorem setFold_thmAt : (s.setFold k x).thmAt = s.thmAt := rfl
@[simp] theorem setFold_fastRun : (s.setFold k x).fastRun = s.fastRun := rfl
@[simp] theorem setFold_warnAt : (s.setFold k x).warnAt = s.warnAt := rfl
@[simp] theorem setFold_trimAt : (s.setFold k x).trimAt = s.trimAt := rfl
@[simp] theorem setFold_coolFrom : (s.setFold k x).coolFrom = s.coolFrom := rfl
@[simp] theorem setFold_stopKind : (s.setFold k x).stopKind = s.stopKind := rfl
@[simp] theorem setFold_stopAt : (s.setFold k x).stopAt = s.stopAt := rfl
@[simp] theorem setFold_trip : (s.setFold k x).trip = s.trip := rfl
@[simp] theorem setFold_flocks : (s.setFold k x).flocks = s.flocks := rfl
@[simp] theorem setFold_flockAt : (s.setFold k x).flockAt = s.flockAt := rfl
@[simp] theorem setFold_flockDone : (s.setFold k x).flockDone = s.flockDone := rfl
@[simp] theorem setFold_relayed : (s.setFold k x).relayed = s.relayed := rfl
@[simp] theorem setFold_drecSeq : (s.setFold k x).drecSeq = s.drecSeq := rfl
@[simp] theorem setFold_standby : (s.setFold k x).standby = s.standby := rfl
@[simp] theorem setFold_idleFrom : (s.setFold k x).idleFrom = s.idleFrom := rfl
@[simp] theorem setFold_ptpRun : (s.setFold k x).ptpRun = s.ptpRun := rfl
@[simp] theorem setFold_ptpAt : (s.setFold k x).ptpAt = s.ptpAt := rfl
@[simp] theorem setFold_ptpOff : (s.setFold k x).ptpOff = s.ptpOff := rfl
@[simp] theorem setFold_authFails : (s.setFold k x).authFails = s.authFails := rfl
@[simp] theorem setFold_alerts : (s.setFold k x).alerts = s.alerts := rfl
@[simp] theorem setFold_spdmOut : (s.setFold k x).spdmOut = s.spdmOut := rfl
end

section
variable (s : State) (k : Nat) (g : Fold → Fold)
@[simp] theorem modFold_pending : (s.modFold k g).pending = s.pending := rfl
@[simp] theorem modFold_now : (s.modFold k g).now = s.now := rfl
@[simp] theorem modFold_frac : (s.modFold k g).frac = s.frac := rfl
@[simp] theorem modFold_ppm : (s.modFold k g).ppm = s.ppm := rfl
@[simp] theorem modFold_ppmUntil : (s.modFold k g).ppmUntil = s.ppmUntil := rfl
@[simp] theorem modFold_timeLocked : (s.modFold k g).timeLocked = s.timeLocked := rfl
@[simp] theorem modFold_lockRun : (s.modFold k g).lockRun = s.lockRun := rfl
@[simp] theorem modFold_rootConflict : (s.modFold k g).rootConflict = s.rootConflict := rfl
@[simp] theorem modFold_laneAt : (s.modFold k g).laneAt = s.laneAt := rfl
@[simp] theorem modFold_drvIn : (s.modFold k g).drvIn = s.drvIn := rfl
@[simp] theorem modFold_jobEver : (s.modFold k g).jobEver = s.jobEver := rfl
@[simp] theorem modFold_phase : (s.modFold k g).phase = s.phase := rfl
@[simp] theorem modFold_drawn : (s.modFold k g).drawn = s.drawn := rfl
@[simp] theorem modFold_regs : (s.modFold k g).regs = s.regs := rfl
@[simp] theorem modFold_lrecHeld : (s.modFold k g).lrecHeld = s.lrecHeld := rfl
@[simp] theorem modFold_tiles : (s.modFold k g).tiles = s.tiles := rfl
@[simp] theorem modFold_reguls : (s.modFold k g).reguls = s.reguls := rfl
@[simp] theorem modFold_loops : (s.modFold k g).loops = s.loops := rfl
@[simp] theorem modFold_mboxes : (s.modFold k g).mboxes = s.mboxes := rfl
@[simp] theorem modFold_sessions : (s.modFold k g).sessions = s.sessions := rfl
@[simp] theorem modFold_ports : (s.modFold k g).ports = s.ports := rfl
@[simp] theorem modFold_conns : (s.modFold k g).conns = s.conns := rfl
@[simp] theorem modFold_jobs : (s.modFold k g).jobs = s.jobs := rfl
@[simp] theorem modFold_flows : (s.modFold k g).flows = s.flows := rfl
@[simp] theorem modFold_exports : (s.modFold k g).exports = s.exports := rfl
@[simp] theorem modFold_mesh : (s.modFold k g).mesh = s.mesh := rfl
@[simp] theorem modFold_credits : (s.modFold k g).credits = s.credits := rfl
@[simp] theorem modFold_meshStop : (s.modFold k g).meshStop = s.meshStop := rfl
@[simp] theorem modFold_creditQ : (s.modFold k g).creditQ = s.creditQ := rfl
@[simp] theorem modFold_foldReply : (s.modFold k g).foldReply = s.foldReply := rfl
@[simp] theorem modFold_keys : (s.modFold k g).keys = s.keys := rfl
@[simp] theorem modFold_ringHeld : (s.modFold k g).ringHeld = s.ringHeld := rfl
@[simp] theorem modFold_ringQ : (s.modFold k g).ringQ = s.ringQ := rfl
@[simp] theorem modFold_ringIrq : (s.modFold k g).ringIrq = s.ringIrq := rfl
@[simp] theorem modFold_drvGrants : (s.modFold k g).drvGrants = s.drvGrants := rfl
@[simp] theorem modFold_drvHorizon : (s.modFold k g).drvHorizon = s.drvHorizon := rfl
@[simp] theorem modFold_host : (s.modFold k g).host = s.host := rfl
@[simp] theorem modFold_busMaster : (s.modFold k g).busMaster = s.busMaster := rfl
@[simp] theorem modFold_msix : (s.modFold k g).msix = s.msix := rfl
@[simp] theorem modFold_msixTab : (s.modFold k g).msixTab = s.msixTab := rfl
@[simp] theorem modFold_msixPend : (s.modFold k g).msixPend = s.msixPend := rfl
@[simp] theorem modFold_events : (s.modFold k g).events = s.events := rfl
@[simp] theorem modFold_evSeq : (s.modFold k g).evSeq = s.evSeq := rfl
@[simp] theorem modFold_evKept : (s.modFold k g).evKept = s.evKept := rfl
@[simp] theorem modFold_cfg : (s.modFold k g).cfg = s.cfg := rfl
@[simp] theorem modFold_limits : (s.modFold k g).limits = s.limits := rfl
@[simp] theorem modFold_report : (s.modFold k g).report = s.report := rfl
@[simp] theorem modFold_flash : (s.modFold k g).flash = s.flash := rfl
@[simp] theorem modFold_stackRecord : (s.modFold k g).stackRecord = s.stackRecord := rfl
@[simp] theorem modFold_operator : (s.modFold k g).operator = s.operator := rfl
@[simp] theorem modFold_fwVersion : (s.modFold k g).fwVersion = s.fwVersion := rfl
@[simp] theorem modFold_fwLevel : (s.modFold k g).fwLevel = s.fwLevel := rfl
@[simp] theorem modFold_fwImage : (s.modFold k g).fwImage = s.fwImage := rfl
@[simp] theorem modFold_fwFails : (s.modFold k g).fwFails = s.fwFails := rfl
@[simp] theorem modFold_acceptSeq : (s.modFold k g).acceptSeq = s.acceptSeq := rfl
@[simp] theorem modFold_acceptPos : (s.modFold k g).acceptPos = s.acceptPos := rfl
@[simp] theorem modFold_sessGen : (s.modFold k g).sessGen = s.sessGen := rfl
@[simp] theorem modFold_jobTag : (s.modFold k g).jobTag = s.jobTag := rfl
@[simp] theorem modFold_handles : (s.modFold k g).handles = s.handles := rfl
@[simp] theorem modFold_dstate : (s.modFold k g).dstate = s.dstate := rfl
@[simp] theorem modFold_drain : (s.modFold k g).drain = s.drain := rfl
@[simp] theorem modFold_drainUnits : (s.modFold k g).drainUnits = s.drainUnits := rfl
@[simp] theorem modFold_opDrain : (s.modFold k g).opDrain = s.opDrain := rfl
@[simp] theorem modFold_histories : (s.modFold k g).histories = s.histories := rfl
@[simp] theorem modFold_life : (s.modFold k g).life = s.life := rfl
@[simp] theorem modFold_bins : (s.modFold k g).bins = s.bins := rfl
@[simp] theorem modFold_histAt : (s.modFold k g).histAt = s.histAt := rfl
@[simp] theorem modFold_histOwed : (s.modFold k g).histOwed = s.histOwed := rfl
@[simp] theorem modFold_epoch : (s.modFold k g).epoch = s.epoch := rfl
@[simp] theorem modFold_tallyAt : (s.modFold k g).tallyAt = s.tallyAt := rfl
@[simp] theorem modFold_tallies : (s.modFold k g).tallies = s.tallies := rfl
@[simp] theorem modFold_shadows : (s.modFold k g).shadows = s.shadows := rfl
@[simp] theorem modFold_buffer : (s.modFold k g).buffer = s.buffer := rfl
@[simp] theorem modFold_sectors : (s.modFold k g).sectors = s.sectors := rfl
@[simp] theorem modFold_coalesced : (s.modFold k g).coalesced = s.coalesced := rfl
@[simp] theorem modFold_snapMin : (s.modFold k g).snapMin = s.snapMin := rfl
@[simp] theorem modFold_minuteAt : (s.modFold k g).minuteAt = s.minuteAt := rfl
@[simp] theorem modFold_tele : (s.modFold k g).tele = s.tele := rfl
@[simp] theorem modFold_discRun : (s.modFold k g).discRun = s.discRun := rfl
@[simp] theorem modFold_discGap : (s.modFold k g).discGap = s.discGap := rfl
@[simp] theorem modFold_avsFails : (s.modFold k g).avsFails = s.avsFails := rfl
@[simp] theorem modFold_avsOk : (s.modFold k g).avsOk = s.avsOk := rfl
@[simp] theorem modFold_avsMa : (s.modFold k g).avsMa = s.avsMa := rfl
@[simp] theorem modFold_avsMv : (s.modFold k g).avsMv = s.avsMv := rfl
@[simp] theorem modFold_vibWritten : (s.modFold k g).vibWritten = s.vibWritten := rfl
@[simp] theorem modFold_vibOwed : (s.modFold k g).vibOwed = s.vibOwed := rfl
@[simp] theorem modFold_vibFrom : (s.modFold k g).vibFrom = s.vibFrom := rfl
@[simp] theorem modFold_avsRate : (s.modFold k g).avsRate = s.avsRate := rfl
@[simp] theorem modFold_avsRead : (s.modFold k g).avsRead = s.avsRead := rfl
@[simp] theorem modFold_vibOff : (s.modFold k g).vibOff = s.vibOff := rfl
@[simp] theorem modFold_mismatchRun : (s.modFold k g).mismatchRun = s.mismatchRun := rfl
@[simp] theorem modFold_lostAvs : (s.modFold k g).lostAvs = s.lostAvs := rfl
@[simp] theorem modFold_energyUj : (s.modFold k g).energyUj = s.energyUj := rfl
@[simp] theorem modFold_temps : (s.modFold k g).temps = s.temps := rfl
@[simp] theorem modFold_stuck : (s.modFold k g).stuck = s.stuck := rfl
@[simp] theorem modFold_cool : (s.modFold k g).cool = s.cool := rfl
@[simp] theorem modFold_heatBy : (s.modFold k g).heatBy = s.heatBy := rfl
@[simp] theorem modFold_diodeBad : (s.modFold k g).diodeBad = s.diodeBad := rfl
@[simp] theorem modFold_thmAt : (s.modFold k g).thmAt = s.thmAt := rfl
@[simp] theorem modFold_fastRun : (s.modFold k g).fastRun = s.fastRun := rfl
@[simp] theorem modFold_warnAt : (s.modFold k g).warnAt = s.warnAt := rfl
@[simp] theorem modFold_trimAt : (s.modFold k g).trimAt = s.trimAt := rfl
@[simp] theorem modFold_coolFrom : (s.modFold k g).coolFrom = s.coolFrom := rfl
@[simp] theorem modFold_stopKind : (s.modFold k g).stopKind = s.stopKind := rfl
@[simp] theorem modFold_stopAt : (s.modFold k g).stopAt = s.stopAt := rfl
@[simp] theorem modFold_trip : (s.modFold k g).trip = s.trip := rfl
@[simp] theorem modFold_flocks : (s.modFold k g).flocks = s.flocks := rfl
@[simp] theorem modFold_flockAt : (s.modFold k g).flockAt = s.flockAt := rfl
@[simp] theorem modFold_flockDone : (s.modFold k g).flockDone = s.flockDone := rfl
@[simp] theorem modFold_relayed : (s.modFold k g).relayed = s.relayed := rfl
@[simp] theorem modFold_drecSeq : (s.modFold k g).drecSeq = s.drecSeq := rfl
@[simp] theorem modFold_standby : (s.modFold k g).standby = s.standby := rfl
@[simp] theorem modFold_idleFrom : (s.modFold k g).idleFrom = s.idleFrom := rfl
@[simp] theorem modFold_ptpRun : (s.modFold k g).ptpRun = s.ptpRun := rfl
@[simp] theorem modFold_ptpAt : (s.modFold k g).ptpAt = s.ptpAt := rfl
@[simp] theorem modFold_ptpOff : (s.modFold k g).ptpOff = s.ptpOff := rfl
@[simp] theorem modFold_authFails : (s.modFold k g).authFails = s.authFails := rfl
@[simp] theorem modFold_alerts : (s.modFold k g).alerts = s.alerts := rfl
@[simp] theorem modFold_spdmOut : (s.modFold k g).spdmOut = s.spdmOut := rfl
end

section
variable (s : State) (r : Nat) (x : Regul)
@[simp] theorem setRegul_pending : (s.setRegul r x).pending = s.pending := rfl
@[simp] theorem setRegul_now : (s.setRegul r x).now = s.now := rfl
@[simp] theorem setRegul_frac : (s.setRegul r x).frac = s.frac := rfl
@[simp] theorem setRegul_ppm : (s.setRegul r x).ppm = s.ppm := rfl
@[simp] theorem setRegul_ppmUntil : (s.setRegul r x).ppmUntil = s.ppmUntil := rfl
@[simp] theorem setRegul_timeLocked : (s.setRegul r x).timeLocked = s.timeLocked := rfl
@[simp] theorem setRegul_lockRun : (s.setRegul r x).lockRun = s.lockRun := rfl
@[simp] theorem setRegul_rootConflict : (s.setRegul r x).rootConflict = s.rootConflict := rfl
@[simp] theorem setRegul_laneAt : (s.setRegul r x).laneAt = s.laneAt := rfl
@[simp] theorem setRegul_drvIn : (s.setRegul r x).drvIn = s.drvIn := rfl
@[simp] theorem setRegul_jobEver : (s.setRegul r x).jobEver = s.jobEver := rfl
@[simp] theorem setRegul_phase : (s.setRegul r x).phase = s.phase := rfl
@[simp] theorem setRegul_drawn : (s.setRegul r x).drawn = s.drawn := rfl
@[simp] theorem setRegul_regs : (s.setRegul r x).regs = s.regs := rfl
@[simp] theorem setRegul_lrecHeld : (s.setRegul r x).lrecHeld = s.lrecHeld := rfl
@[simp] theorem setRegul_tiles : (s.setRegul r x).tiles = s.tiles := rfl
@[simp] theorem setRegul_folds : (s.setRegul r x).folds = s.folds := rfl
@[simp] theorem setRegul_loops : (s.setRegul r x).loops = s.loops := rfl
@[simp] theorem setRegul_mboxes : (s.setRegul r x).mboxes = s.mboxes := rfl
@[simp] theorem setRegul_sessions : (s.setRegul r x).sessions = s.sessions := rfl
@[simp] theorem setRegul_ports : (s.setRegul r x).ports = s.ports := rfl
@[simp] theorem setRegul_conns : (s.setRegul r x).conns = s.conns := rfl
@[simp] theorem setRegul_jobs : (s.setRegul r x).jobs = s.jobs := rfl
@[simp] theorem setRegul_flows : (s.setRegul r x).flows = s.flows := rfl
@[simp] theorem setRegul_exports : (s.setRegul r x).exports = s.exports := rfl
@[simp] theorem setRegul_mesh : (s.setRegul r x).mesh = s.mesh := rfl
@[simp] theorem setRegul_credits : (s.setRegul r x).credits = s.credits := rfl
@[simp] theorem setRegul_meshStop : (s.setRegul r x).meshStop = s.meshStop := rfl
@[simp] theorem setRegul_creditQ : (s.setRegul r x).creditQ = s.creditQ := rfl
@[simp] theorem setRegul_foldReply : (s.setRegul r x).foldReply = s.foldReply := rfl
@[simp] theorem setRegul_keys : (s.setRegul r x).keys = s.keys := rfl
@[simp] theorem setRegul_ringHeld : (s.setRegul r x).ringHeld = s.ringHeld := rfl
@[simp] theorem setRegul_ringQ : (s.setRegul r x).ringQ = s.ringQ := rfl
@[simp] theorem setRegul_ringIrq : (s.setRegul r x).ringIrq = s.ringIrq := rfl
@[simp] theorem setRegul_drvGrants : (s.setRegul r x).drvGrants = s.drvGrants := rfl
@[simp] theorem setRegul_drvHorizon : (s.setRegul r x).drvHorizon = s.drvHorizon := rfl
@[simp] theorem setRegul_host : (s.setRegul r x).host = s.host := rfl
@[simp] theorem setRegul_busMaster : (s.setRegul r x).busMaster = s.busMaster := rfl
@[simp] theorem setRegul_msix : (s.setRegul r x).msix = s.msix := rfl
@[simp] theorem setRegul_msixTab : (s.setRegul r x).msixTab = s.msixTab := rfl
@[simp] theorem setRegul_msixPend : (s.setRegul r x).msixPend = s.msixPend := rfl
@[simp] theorem setRegul_events : (s.setRegul r x).events = s.events := rfl
@[simp] theorem setRegul_evSeq : (s.setRegul r x).evSeq = s.evSeq := rfl
@[simp] theorem setRegul_evKept : (s.setRegul r x).evKept = s.evKept := rfl
@[simp] theorem setRegul_cfg : (s.setRegul r x).cfg = s.cfg := rfl
@[simp] theorem setRegul_limits : (s.setRegul r x).limits = s.limits := rfl
@[simp] theorem setRegul_report : (s.setRegul r x).report = s.report := rfl
@[simp] theorem setRegul_flash : (s.setRegul r x).flash = s.flash := rfl
@[simp] theorem setRegul_stackRecord : (s.setRegul r x).stackRecord = s.stackRecord := rfl
@[simp] theorem setRegul_operator : (s.setRegul r x).operator = s.operator := rfl
@[simp] theorem setRegul_fwVersion : (s.setRegul r x).fwVersion = s.fwVersion := rfl
@[simp] theorem setRegul_fwLevel : (s.setRegul r x).fwLevel = s.fwLevel := rfl
@[simp] theorem setRegul_fwImage : (s.setRegul r x).fwImage = s.fwImage := rfl
@[simp] theorem setRegul_fwFails : (s.setRegul r x).fwFails = s.fwFails := rfl
@[simp] theorem setRegul_acceptSeq : (s.setRegul r x).acceptSeq = s.acceptSeq := rfl
@[simp] theorem setRegul_acceptPos : (s.setRegul r x).acceptPos = s.acceptPos := rfl
@[simp] theorem setRegul_sessGen : (s.setRegul r x).sessGen = s.sessGen := rfl
@[simp] theorem setRegul_jobTag : (s.setRegul r x).jobTag = s.jobTag := rfl
@[simp] theorem setRegul_handles : (s.setRegul r x).handles = s.handles := rfl
@[simp] theorem setRegul_dstate : (s.setRegul r x).dstate = s.dstate := rfl
@[simp] theorem setRegul_drain : (s.setRegul r x).drain = s.drain := rfl
@[simp] theorem setRegul_drainUnits : (s.setRegul r x).drainUnits = s.drainUnits := rfl
@[simp] theorem setRegul_opDrain : (s.setRegul r x).opDrain = s.opDrain := rfl
@[simp] theorem setRegul_histories : (s.setRegul r x).histories = s.histories := rfl
@[simp] theorem setRegul_life : (s.setRegul r x).life = s.life := rfl
@[simp] theorem setRegul_bins : (s.setRegul r x).bins = s.bins := rfl
@[simp] theorem setRegul_histAt : (s.setRegul r x).histAt = s.histAt := rfl
@[simp] theorem setRegul_histOwed : (s.setRegul r x).histOwed = s.histOwed := rfl
@[simp] theorem setRegul_epoch : (s.setRegul r x).epoch = s.epoch := rfl
@[simp] theorem setRegul_tallyAt : (s.setRegul r x).tallyAt = s.tallyAt := rfl
@[simp] theorem setRegul_tallies : (s.setRegul r x).tallies = s.tallies := rfl
@[simp] theorem setRegul_shadows : (s.setRegul r x).shadows = s.shadows := rfl
@[simp] theorem setRegul_buffer : (s.setRegul r x).buffer = s.buffer := rfl
@[simp] theorem setRegul_sectors : (s.setRegul r x).sectors = s.sectors := rfl
@[simp] theorem setRegul_coalesced : (s.setRegul r x).coalesced = s.coalesced := rfl
@[simp] theorem setRegul_snapMin : (s.setRegul r x).snapMin = s.snapMin := rfl
@[simp] theorem setRegul_minuteAt : (s.setRegul r x).minuteAt = s.minuteAt := rfl
@[simp] theorem setRegul_tele : (s.setRegul r x).tele = s.tele := rfl
@[simp] theorem setRegul_discRun : (s.setRegul r x).discRun = s.discRun := rfl
@[simp] theorem setRegul_discGap : (s.setRegul r x).discGap = s.discGap := rfl
@[simp] theorem setRegul_avsFails : (s.setRegul r x).avsFails = s.avsFails := rfl
@[simp] theorem setRegul_avsOk : (s.setRegul r x).avsOk = s.avsOk := rfl
@[simp] theorem setRegul_avsMa : (s.setRegul r x).avsMa = s.avsMa := rfl
@[simp] theorem setRegul_avsMv : (s.setRegul r x).avsMv = s.avsMv := rfl
@[simp] theorem setRegul_vibWritten : (s.setRegul r x).vibWritten = s.vibWritten := rfl
@[simp] theorem setRegul_vibOwed : (s.setRegul r x).vibOwed = s.vibOwed := rfl
@[simp] theorem setRegul_vibFrom : (s.setRegul r x).vibFrom = s.vibFrom := rfl
@[simp] theorem setRegul_avsRate : (s.setRegul r x).avsRate = s.avsRate := rfl
@[simp] theorem setRegul_avsRead : (s.setRegul r x).avsRead = s.avsRead := rfl
@[simp] theorem setRegul_vibOff : (s.setRegul r x).vibOff = s.vibOff := rfl
@[simp] theorem setRegul_mismatchRun : (s.setRegul r x).mismatchRun = s.mismatchRun := rfl
@[simp] theorem setRegul_lostAvs : (s.setRegul r x).lostAvs = s.lostAvs := rfl
@[simp] theorem setRegul_energyUj : (s.setRegul r x).energyUj = s.energyUj := rfl
@[simp] theorem setRegul_temps : (s.setRegul r x).temps = s.temps := rfl
@[simp] theorem setRegul_stuck : (s.setRegul r x).stuck = s.stuck := rfl
@[simp] theorem setRegul_cool : (s.setRegul r x).cool = s.cool := rfl
@[simp] theorem setRegul_heatBy : (s.setRegul r x).heatBy = s.heatBy := rfl
@[simp] theorem setRegul_diodeBad : (s.setRegul r x).diodeBad = s.diodeBad := rfl
@[simp] theorem setRegul_thmAt : (s.setRegul r x).thmAt = s.thmAt := rfl
@[simp] theorem setRegul_fastRun : (s.setRegul r x).fastRun = s.fastRun := rfl
@[simp] theorem setRegul_warnAt : (s.setRegul r x).warnAt = s.warnAt := rfl
@[simp] theorem setRegul_trimAt : (s.setRegul r x).trimAt = s.trimAt := rfl
@[simp] theorem setRegul_coolFrom : (s.setRegul r x).coolFrom = s.coolFrom := rfl
@[simp] theorem setRegul_stopKind : (s.setRegul r x).stopKind = s.stopKind := rfl
@[simp] theorem setRegul_stopAt : (s.setRegul r x).stopAt = s.stopAt := rfl
@[simp] theorem setRegul_trip : (s.setRegul r x).trip = s.trip := rfl
@[simp] theorem setRegul_flocks : (s.setRegul r x).flocks = s.flocks := rfl
@[simp] theorem setRegul_flockAt : (s.setRegul r x).flockAt = s.flockAt := rfl
@[simp] theorem setRegul_flockDone : (s.setRegul r x).flockDone = s.flockDone := rfl
@[simp] theorem setRegul_relayed : (s.setRegul r x).relayed = s.relayed := rfl
@[simp] theorem setRegul_drecSeq : (s.setRegul r x).drecSeq = s.drecSeq := rfl
@[simp] theorem setRegul_standby : (s.setRegul r x).standby = s.standby := rfl
@[simp] theorem setRegul_idleFrom : (s.setRegul r x).idleFrom = s.idleFrom := rfl
@[simp] theorem setRegul_ptpRun : (s.setRegul r x).ptpRun = s.ptpRun := rfl
@[simp] theorem setRegul_ptpAt : (s.setRegul r x).ptpAt = s.ptpAt := rfl
@[simp] theorem setRegul_ptpOff : (s.setRegul r x).ptpOff = s.ptpOff := rfl
@[simp] theorem setRegul_authFails : (s.setRegul r x).authFails = s.authFails := rfl
@[simp] theorem setRegul_alerts : (s.setRegul r x).alerts = s.alerts := rfl
@[simp] theorem setRegul_spdmOut : (s.setRegul r x).spdmOut = s.spdmOut := rfl
end

section
variable (s : State) (r : Nat) (g : Regul → Regul)
@[simp] theorem modRegul_pending : (s.modRegul r g).pending = s.pending := rfl
@[simp] theorem modRegul_now : (s.modRegul r g).now = s.now := rfl
@[simp] theorem modRegul_frac : (s.modRegul r g).frac = s.frac := rfl
@[simp] theorem modRegul_ppm : (s.modRegul r g).ppm = s.ppm := rfl
@[simp] theorem modRegul_ppmUntil : (s.modRegul r g).ppmUntil = s.ppmUntil := rfl
@[simp] theorem modRegul_timeLocked : (s.modRegul r g).timeLocked = s.timeLocked := rfl
@[simp] theorem modRegul_lockRun : (s.modRegul r g).lockRun = s.lockRun := rfl
@[simp] theorem modRegul_rootConflict : (s.modRegul r g).rootConflict = s.rootConflict := rfl
@[simp] theorem modRegul_laneAt : (s.modRegul r g).laneAt = s.laneAt := rfl
@[simp] theorem modRegul_drvIn : (s.modRegul r g).drvIn = s.drvIn := rfl
@[simp] theorem modRegul_jobEver : (s.modRegul r g).jobEver = s.jobEver := rfl
@[simp] theorem modRegul_phase : (s.modRegul r g).phase = s.phase := rfl
@[simp] theorem modRegul_drawn : (s.modRegul r g).drawn = s.drawn := rfl
@[simp] theorem modRegul_regs : (s.modRegul r g).regs = s.regs := rfl
@[simp] theorem modRegul_lrecHeld : (s.modRegul r g).lrecHeld = s.lrecHeld := rfl
@[simp] theorem modRegul_tiles : (s.modRegul r g).tiles = s.tiles := rfl
@[simp] theorem modRegul_folds : (s.modRegul r g).folds = s.folds := rfl
@[simp] theorem modRegul_loops : (s.modRegul r g).loops = s.loops := rfl
@[simp] theorem modRegul_mboxes : (s.modRegul r g).mboxes = s.mboxes := rfl
@[simp] theorem modRegul_sessions : (s.modRegul r g).sessions = s.sessions := rfl
@[simp] theorem modRegul_ports : (s.modRegul r g).ports = s.ports := rfl
@[simp] theorem modRegul_conns : (s.modRegul r g).conns = s.conns := rfl
@[simp] theorem modRegul_jobs : (s.modRegul r g).jobs = s.jobs := rfl
@[simp] theorem modRegul_flows : (s.modRegul r g).flows = s.flows := rfl
@[simp] theorem modRegul_exports : (s.modRegul r g).exports = s.exports := rfl
@[simp] theorem modRegul_mesh : (s.modRegul r g).mesh = s.mesh := rfl
@[simp] theorem modRegul_credits : (s.modRegul r g).credits = s.credits := rfl
@[simp] theorem modRegul_meshStop : (s.modRegul r g).meshStop = s.meshStop := rfl
@[simp] theorem modRegul_creditQ : (s.modRegul r g).creditQ = s.creditQ := rfl
@[simp] theorem modRegul_foldReply : (s.modRegul r g).foldReply = s.foldReply := rfl
@[simp] theorem modRegul_keys : (s.modRegul r g).keys = s.keys := rfl
@[simp] theorem modRegul_ringHeld : (s.modRegul r g).ringHeld = s.ringHeld := rfl
@[simp] theorem modRegul_ringQ : (s.modRegul r g).ringQ = s.ringQ := rfl
@[simp] theorem modRegul_ringIrq : (s.modRegul r g).ringIrq = s.ringIrq := rfl
@[simp] theorem modRegul_drvGrants : (s.modRegul r g).drvGrants = s.drvGrants := rfl
@[simp] theorem modRegul_drvHorizon : (s.modRegul r g).drvHorizon = s.drvHorizon := rfl
@[simp] theorem modRegul_host : (s.modRegul r g).host = s.host := rfl
@[simp] theorem modRegul_busMaster : (s.modRegul r g).busMaster = s.busMaster := rfl
@[simp] theorem modRegul_msix : (s.modRegul r g).msix = s.msix := rfl
@[simp] theorem modRegul_msixTab : (s.modRegul r g).msixTab = s.msixTab := rfl
@[simp] theorem modRegul_msixPend : (s.modRegul r g).msixPend = s.msixPend := rfl
@[simp] theorem modRegul_events : (s.modRegul r g).events = s.events := rfl
@[simp] theorem modRegul_evSeq : (s.modRegul r g).evSeq = s.evSeq := rfl
@[simp] theorem modRegul_evKept : (s.modRegul r g).evKept = s.evKept := rfl
@[simp] theorem modRegul_cfg : (s.modRegul r g).cfg = s.cfg := rfl
@[simp] theorem modRegul_limits : (s.modRegul r g).limits = s.limits := rfl
@[simp] theorem modRegul_report : (s.modRegul r g).report = s.report := rfl
@[simp] theorem modRegul_flash : (s.modRegul r g).flash = s.flash := rfl
@[simp] theorem modRegul_stackRecord : (s.modRegul r g).stackRecord = s.stackRecord := rfl
@[simp] theorem modRegul_operator : (s.modRegul r g).operator = s.operator := rfl
@[simp] theorem modRegul_fwVersion : (s.modRegul r g).fwVersion = s.fwVersion := rfl
@[simp] theorem modRegul_fwLevel : (s.modRegul r g).fwLevel = s.fwLevel := rfl
@[simp] theorem modRegul_fwImage : (s.modRegul r g).fwImage = s.fwImage := rfl
@[simp] theorem modRegul_fwFails : (s.modRegul r g).fwFails = s.fwFails := rfl
@[simp] theorem modRegul_acceptSeq : (s.modRegul r g).acceptSeq = s.acceptSeq := rfl
@[simp] theorem modRegul_acceptPos : (s.modRegul r g).acceptPos = s.acceptPos := rfl
@[simp] theorem modRegul_sessGen : (s.modRegul r g).sessGen = s.sessGen := rfl
@[simp] theorem modRegul_jobTag : (s.modRegul r g).jobTag = s.jobTag := rfl
@[simp] theorem modRegul_handles : (s.modRegul r g).handles = s.handles := rfl
@[simp] theorem modRegul_dstate : (s.modRegul r g).dstate = s.dstate := rfl
@[simp] theorem modRegul_drain : (s.modRegul r g).drain = s.drain := rfl
@[simp] theorem modRegul_drainUnits : (s.modRegul r g).drainUnits = s.drainUnits := rfl
@[simp] theorem modRegul_opDrain : (s.modRegul r g).opDrain = s.opDrain := rfl
@[simp] theorem modRegul_histories : (s.modRegul r g).histories = s.histories := rfl
@[simp] theorem modRegul_life : (s.modRegul r g).life = s.life := rfl
@[simp] theorem modRegul_bins : (s.modRegul r g).bins = s.bins := rfl
@[simp] theorem modRegul_histAt : (s.modRegul r g).histAt = s.histAt := rfl
@[simp] theorem modRegul_histOwed : (s.modRegul r g).histOwed = s.histOwed := rfl
@[simp] theorem modRegul_epoch : (s.modRegul r g).epoch = s.epoch := rfl
@[simp] theorem modRegul_tallyAt : (s.modRegul r g).tallyAt = s.tallyAt := rfl
@[simp] theorem modRegul_tallies : (s.modRegul r g).tallies = s.tallies := rfl
@[simp] theorem modRegul_shadows : (s.modRegul r g).shadows = s.shadows := rfl
@[simp] theorem modRegul_buffer : (s.modRegul r g).buffer = s.buffer := rfl
@[simp] theorem modRegul_sectors : (s.modRegul r g).sectors = s.sectors := rfl
@[simp] theorem modRegul_coalesced : (s.modRegul r g).coalesced = s.coalesced := rfl
@[simp] theorem modRegul_snapMin : (s.modRegul r g).snapMin = s.snapMin := rfl
@[simp] theorem modRegul_minuteAt : (s.modRegul r g).minuteAt = s.minuteAt := rfl
@[simp] theorem modRegul_tele : (s.modRegul r g).tele = s.tele := rfl
@[simp] theorem modRegul_discRun : (s.modRegul r g).discRun = s.discRun := rfl
@[simp] theorem modRegul_discGap : (s.modRegul r g).discGap = s.discGap := rfl
@[simp] theorem modRegul_avsFails : (s.modRegul r g).avsFails = s.avsFails := rfl
@[simp] theorem modRegul_avsOk : (s.modRegul r g).avsOk = s.avsOk := rfl
@[simp] theorem modRegul_avsMa : (s.modRegul r g).avsMa = s.avsMa := rfl
@[simp] theorem modRegul_avsMv : (s.modRegul r g).avsMv = s.avsMv := rfl
@[simp] theorem modRegul_vibWritten : (s.modRegul r g).vibWritten = s.vibWritten := rfl
@[simp] theorem modRegul_vibOwed : (s.modRegul r g).vibOwed = s.vibOwed := rfl
@[simp] theorem modRegul_vibFrom : (s.modRegul r g).vibFrom = s.vibFrom := rfl
@[simp] theorem modRegul_avsRate : (s.modRegul r g).avsRate = s.avsRate := rfl
@[simp] theorem modRegul_avsRead : (s.modRegul r g).avsRead = s.avsRead := rfl
@[simp] theorem modRegul_vibOff : (s.modRegul r g).vibOff = s.vibOff := rfl
@[simp] theorem modRegul_mismatchRun : (s.modRegul r g).mismatchRun = s.mismatchRun := rfl
@[simp] theorem modRegul_lostAvs : (s.modRegul r g).lostAvs = s.lostAvs := rfl
@[simp] theorem modRegul_energyUj : (s.modRegul r g).energyUj = s.energyUj := rfl
@[simp] theorem modRegul_temps : (s.modRegul r g).temps = s.temps := rfl
@[simp] theorem modRegul_stuck : (s.modRegul r g).stuck = s.stuck := rfl
@[simp] theorem modRegul_cool : (s.modRegul r g).cool = s.cool := rfl
@[simp] theorem modRegul_heatBy : (s.modRegul r g).heatBy = s.heatBy := rfl
@[simp] theorem modRegul_diodeBad : (s.modRegul r g).diodeBad = s.diodeBad := rfl
@[simp] theorem modRegul_thmAt : (s.modRegul r g).thmAt = s.thmAt := rfl
@[simp] theorem modRegul_fastRun : (s.modRegul r g).fastRun = s.fastRun := rfl
@[simp] theorem modRegul_warnAt : (s.modRegul r g).warnAt = s.warnAt := rfl
@[simp] theorem modRegul_trimAt : (s.modRegul r g).trimAt = s.trimAt := rfl
@[simp] theorem modRegul_coolFrom : (s.modRegul r g).coolFrom = s.coolFrom := rfl
@[simp] theorem modRegul_stopKind : (s.modRegul r g).stopKind = s.stopKind := rfl
@[simp] theorem modRegul_stopAt : (s.modRegul r g).stopAt = s.stopAt := rfl
@[simp] theorem modRegul_trip : (s.modRegul r g).trip = s.trip := rfl
@[simp] theorem modRegul_flocks : (s.modRegul r g).flocks = s.flocks := rfl
@[simp] theorem modRegul_flockAt : (s.modRegul r g).flockAt = s.flockAt := rfl
@[simp] theorem modRegul_flockDone : (s.modRegul r g).flockDone = s.flockDone := rfl
@[simp] theorem modRegul_relayed : (s.modRegul r g).relayed = s.relayed := rfl
@[simp] theorem modRegul_drecSeq : (s.modRegul r g).drecSeq = s.drecSeq := rfl
@[simp] theorem modRegul_standby : (s.modRegul r g).standby = s.standby := rfl
@[simp] theorem modRegul_idleFrom : (s.modRegul r g).idleFrom = s.idleFrom := rfl
@[simp] theorem modRegul_ptpRun : (s.modRegul r g).ptpRun = s.ptpRun := rfl
@[simp] theorem modRegul_ptpAt : (s.modRegul r g).ptpAt = s.ptpAt := rfl
@[simp] theorem modRegul_ptpOff : (s.modRegul r g).ptpOff = s.ptpOff := rfl
@[simp] theorem modRegul_authFails : (s.modRegul r g).authFails = s.authFails := rfl
@[simp] theorem modRegul_alerts : (s.modRegul r g).alerts = s.alerts := rfl
@[simp] theorem modRegul_spdmOut : (s.modRegul r g).spdmOut = s.spdmOut := rfl
end

section
variable (s : State) (l : Nat) (x : Loop)
@[simp] theorem setLoop_pending : (s.setLoop l x).pending = s.pending := rfl
@[simp] theorem setLoop_now : (s.setLoop l x).now = s.now := rfl
@[simp] theorem setLoop_frac : (s.setLoop l x).frac = s.frac := rfl
@[simp] theorem setLoop_ppm : (s.setLoop l x).ppm = s.ppm := rfl
@[simp] theorem setLoop_ppmUntil : (s.setLoop l x).ppmUntil = s.ppmUntil := rfl
@[simp] theorem setLoop_timeLocked : (s.setLoop l x).timeLocked = s.timeLocked := rfl
@[simp] theorem setLoop_lockRun : (s.setLoop l x).lockRun = s.lockRun := rfl
@[simp] theorem setLoop_rootConflict : (s.setLoop l x).rootConflict = s.rootConflict := rfl
@[simp] theorem setLoop_laneAt : (s.setLoop l x).laneAt = s.laneAt := rfl
@[simp] theorem setLoop_drvIn : (s.setLoop l x).drvIn = s.drvIn := rfl
@[simp] theorem setLoop_jobEver : (s.setLoop l x).jobEver = s.jobEver := rfl
@[simp] theorem setLoop_phase : (s.setLoop l x).phase = s.phase := rfl
@[simp] theorem setLoop_drawn : (s.setLoop l x).drawn = s.drawn := rfl
@[simp] theorem setLoop_regs : (s.setLoop l x).regs = s.regs := rfl
@[simp] theorem setLoop_lrecHeld : (s.setLoop l x).lrecHeld = s.lrecHeld := rfl
@[simp] theorem setLoop_tiles : (s.setLoop l x).tiles = s.tiles := rfl
@[simp] theorem setLoop_folds : (s.setLoop l x).folds = s.folds := rfl
@[simp] theorem setLoop_reguls : (s.setLoop l x).reguls = s.reguls := rfl
@[simp] theorem setLoop_mboxes : (s.setLoop l x).mboxes = s.mboxes := rfl
@[simp] theorem setLoop_sessions : (s.setLoop l x).sessions = s.sessions := rfl
@[simp] theorem setLoop_ports : (s.setLoop l x).ports = s.ports := rfl
@[simp] theorem setLoop_conns : (s.setLoop l x).conns = s.conns := rfl
@[simp] theorem setLoop_jobs : (s.setLoop l x).jobs = s.jobs := rfl
@[simp] theorem setLoop_flows : (s.setLoop l x).flows = s.flows := rfl
@[simp] theorem setLoop_exports : (s.setLoop l x).exports = s.exports := rfl
@[simp] theorem setLoop_mesh : (s.setLoop l x).mesh = s.mesh := rfl
@[simp] theorem setLoop_credits : (s.setLoop l x).credits = s.credits := rfl
@[simp] theorem setLoop_meshStop : (s.setLoop l x).meshStop = s.meshStop := rfl
@[simp] theorem setLoop_creditQ : (s.setLoop l x).creditQ = s.creditQ := rfl
@[simp] theorem setLoop_foldReply : (s.setLoop l x).foldReply = s.foldReply := rfl
@[simp] theorem setLoop_keys : (s.setLoop l x).keys = s.keys := rfl
@[simp] theorem setLoop_ringHeld : (s.setLoop l x).ringHeld = s.ringHeld := rfl
@[simp] theorem setLoop_ringQ : (s.setLoop l x).ringQ = s.ringQ := rfl
@[simp] theorem setLoop_ringIrq : (s.setLoop l x).ringIrq = s.ringIrq := rfl
@[simp] theorem setLoop_drvGrants : (s.setLoop l x).drvGrants = s.drvGrants := rfl
@[simp] theorem setLoop_drvHorizon : (s.setLoop l x).drvHorizon = s.drvHorizon := rfl
@[simp] theorem setLoop_host : (s.setLoop l x).host = s.host := rfl
@[simp] theorem setLoop_busMaster : (s.setLoop l x).busMaster = s.busMaster := rfl
@[simp] theorem setLoop_msix : (s.setLoop l x).msix = s.msix := rfl
@[simp] theorem setLoop_msixTab : (s.setLoop l x).msixTab = s.msixTab := rfl
@[simp] theorem setLoop_msixPend : (s.setLoop l x).msixPend = s.msixPend := rfl
@[simp] theorem setLoop_events : (s.setLoop l x).events = s.events := rfl
@[simp] theorem setLoop_evSeq : (s.setLoop l x).evSeq = s.evSeq := rfl
@[simp] theorem setLoop_evKept : (s.setLoop l x).evKept = s.evKept := rfl
@[simp] theorem setLoop_cfg : (s.setLoop l x).cfg = s.cfg := rfl
@[simp] theorem setLoop_limits : (s.setLoop l x).limits = s.limits := rfl
@[simp] theorem setLoop_report : (s.setLoop l x).report = s.report := rfl
@[simp] theorem setLoop_flash : (s.setLoop l x).flash = s.flash := rfl
@[simp] theorem setLoop_stackRecord : (s.setLoop l x).stackRecord = s.stackRecord := rfl
@[simp] theorem setLoop_operator : (s.setLoop l x).operator = s.operator := rfl
@[simp] theorem setLoop_fwVersion : (s.setLoop l x).fwVersion = s.fwVersion := rfl
@[simp] theorem setLoop_fwLevel : (s.setLoop l x).fwLevel = s.fwLevel := rfl
@[simp] theorem setLoop_fwImage : (s.setLoop l x).fwImage = s.fwImage := rfl
@[simp] theorem setLoop_fwFails : (s.setLoop l x).fwFails = s.fwFails := rfl
@[simp] theorem setLoop_acceptSeq : (s.setLoop l x).acceptSeq = s.acceptSeq := rfl
@[simp] theorem setLoop_acceptPos : (s.setLoop l x).acceptPos = s.acceptPos := rfl
@[simp] theorem setLoop_sessGen : (s.setLoop l x).sessGen = s.sessGen := rfl
@[simp] theorem setLoop_jobTag : (s.setLoop l x).jobTag = s.jobTag := rfl
@[simp] theorem setLoop_handles : (s.setLoop l x).handles = s.handles := rfl
@[simp] theorem setLoop_dstate : (s.setLoop l x).dstate = s.dstate := rfl
@[simp] theorem setLoop_drain : (s.setLoop l x).drain = s.drain := rfl
@[simp] theorem setLoop_drainUnits : (s.setLoop l x).drainUnits = s.drainUnits := rfl
@[simp] theorem setLoop_opDrain : (s.setLoop l x).opDrain = s.opDrain := rfl
@[simp] theorem setLoop_histories : (s.setLoop l x).histories = s.histories := rfl
@[simp] theorem setLoop_life : (s.setLoop l x).life = s.life := rfl
@[simp] theorem setLoop_bins : (s.setLoop l x).bins = s.bins := rfl
@[simp] theorem setLoop_histAt : (s.setLoop l x).histAt = s.histAt := rfl
@[simp] theorem setLoop_histOwed : (s.setLoop l x).histOwed = s.histOwed := rfl
@[simp] theorem setLoop_epoch : (s.setLoop l x).epoch = s.epoch := rfl
@[simp] theorem setLoop_tallyAt : (s.setLoop l x).tallyAt = s.tallyAt := rfl
@[simp] theorem setLoop_tallies : (s.setLoop l x).tallies = s.tallies := rfl
@[simp] theorem setLoop_shadows : (s.setLoop l x).shadows = s.shadows := rfl
@[simp] theorem setLoop_buffer : (s.setLoop l x).buffer = s.buffer := rfl
@[simp] theorem setLoop_sectors : (s.setLoop l x).sectors = s.sectors := rfl
@[simp] theorem setLoop_coalesced : (s.setLoop l x).coalesced = s.coalesced := rfl
@[simp] theorem setLoop_snapMin : (s.setLoop l x).snapMin = s.snapMin := rfl
@[simp] theorem setLoop_minuteAt : (s.setLoop l x).minuteAt = s.minuteAt := rfl
@[simp] theorem setLoop_tele : (s.setLoop l x).tele = s.tele := rfl
@[simp] theorem setLoop_discRun : (s.setLoop l x).discRun = s.discRun := rfl
@[simp] theorem setLoop_discGap : (s.setLoop l x).discGap = s.discGap := rfl
@[simp] theorem setLoop_avsFails : (s.setLoop l x).avsFails = s.avsFails := rfl
@[simp] theorem setLoop_avsOk : (s.setLoop l x).avsOk = s.avsOk := rfl
@[simp] theorem setLoop_avsMa : (s.setLoop l x).avsMa = s.avsMa := rfl
@[simp] theorem setLoop_avsMv : (s.setLoop l x).avsMv = s.avsMv := rfl
@[simp] theorem setLoop_vibWritten : (s.setLoop l x).vibWritten = s.vibWritten := rfl
@[simp] theorem setLoop_vibOwed : (s.setLoop l x).vibOwed = s.vibOwed := rfl
@[simp] theorem setLoop_vibFrom : (s.setLoop l x).vibFrom = s.vibFrom := rfl
@[simp] theorem setLoop_avsRate : (s.setLoop l x).avsRate = s.avsRate := rfl
@[simp] theorem setLoop_avsRead : (s.setLoop l x).avsRead = s.avsRead := rfl
@[simp] theorem setLoop_vibOff : (s.setLoop l x).vibOff = s.vibOff := rfl
@[simp] theorem setLoop_mismatchRun : (s.setLoop l x).mismatchRun = s.mismatchRun := rfl
@[simp] theorem setLoop_lostAvs : (s.setLoop l x).lostAvs = s.lostAvs := rfl
@[simp] theorem setLoop_energyUj : (s.setLoop l x).energyUj = s.energyUj := rfl
@[simp] theorem setLoop_temps : (s.setLoop l x).temps = s.temps := rfl
@[simp] theorem setLoop_stuck : (s.setLoop l x).stuck = s.stuck := rfl
@[simp] theorem setLoop_cool : (s.setLoop l x).cool = s.cool := rfl
@[simp] theorem setLoop_heatBy : (s.setLoop l x).heatBy = s.heatBy := rfl
@[simp] theorem setLoop_diodeBad : (s.setLoop l x).diodeBad = s.diodeBad := rfl
@[simp] theorem setLoop_thmAt : (s.setLoop l x).thmAt = s.thmAt := rfl
@[simp] theorem setLoop_fastRun : (s.setLoop l x).fastRun = s.fastRun := rfl
@[simp] theorem setLoop_warnAt : (s.setLoop l x).warnAt = s.warnAt := rfl
@[simp] theorem setLoop_trimAt : (s.setLoop l x).trimAt = s.trimAt := rfl
@[simp] theorem setLoop_coolFrom : (s.setLoop l x).coolFrom = s.coolFrom := rfl
@[simp] theorem setLoop_stopKind : (s.setLoop l x).stopKind = s.stopKind := rfl
@[simp] theorem setLoop_stopAt : (s.setLoop l x).stopAt = s.stopAt := rfl
@[simp] theorem setLoop_trip : (s.setLoop l x).trip = s.trip := rfl
@[simp] theorem setLoop_flocks : (s.setLoop l x).flocks = s.flocks := rfl
@[simp] theorem setLoop_flockAt : (s.setLoop l x).flockAt = s.flockAt := rfl
@[simp] theorem setLoop_flockDone : (s.setLoop l x).flockDone = s.flockDone := rfl
@[simp] theorem setLoop_relayed : (s.setLoop l x).relayed = s.relayed := rfl
@[simp] theorem setLoop_drecSeq : (s.setLoop l x).drecSeq = s.drecSeq := rfl
@[simp] theorem setLoop_standby : (s.setLoop l x).standby = s.standby := rfl
@[simp] theorem setLoop_idleFrom : (s.setLoop l x).idleFrom = s.idleFrom := rfl
@[simp] theorem setLoop_ptpRun : (s.setLoop l x).ptpRun = s.ptpRun := rfl
@[simp] theorem setLoop_ptpAt : (s.setLoop l x).ptpAt = s.ptpAt := rfl
@[simp] theorem setLoop_ptpOff : (s.setLoop l x).ptpOff = s.ptpOff := rfl
@[simp] theorem setLoop_authFails : (s.setLoop l x).authFails = s.authFails := rfl
@[simp] theorem setLoop_alerts : (s.setLoop l x).alerts = s.alerts := rfl
@[simp] theorem setLoop_spdmOut : (s.setLoop l x).spdmOut = s.spdmOut := rfl
end

section
variable (s : State) (m : Nat) (x : Mailbox)
@[simp] theorem setMbox_pending : (s.setMbox m x).pending = s.pending := rfl
@[simp] theorem setMbox_now : (s.setMbox m x).now = s.now := rfl
@[simp] theorem setMbox_frac : (s.setMbox m x).frac = s.frac := rfl
@[simp] theorem setMbox_ppm : (s.setMbox m x).ppm = s.ppm := rfl
@[simp] theorem setMbox_ppmUntil : (s.setMbox m x).ppmUntil = s.ppmUntil := rfl
@[simp] theorem setMbox_timeLocked : (s.setMbox m x).timeLocked = s.timeLocked := rfl
@[simp] theorem setMbox_lockRun : (s.setMbox m x).lockRun = s.lockRun := rfl
@[simp] theorem setMbox_rootConflict : (s.setMbox m x).rootConflict = s.rootConflict := rfl
@[simp] theorem setMbox_laneAt : (s.setMbox m x).laneAt = s.laneAt := rfl
@[simp] theorem setMbox_drvIn : (s.setMbox m x).drvIn = s.drvIn := rfl
@[simp] theorem setMbox_jobEver : (s.setMbox m x).jobEver = s.jobEver := rfl
@[simp] theorem setMbox_phase : (s.setMbox m x).phase = s.phase := rfl
@[simp] theorem setMbox_drawn : (s.setMbox m x).drawn = s.drawn := rfl
@[simp] theorem setMbox_regs : (s.setMbox m x).regs = s.regs := rfl
@[simp] theorem setMbox_lrecHeld : (s.setMbox m x).lrecHeld = s.lrecHeld := rfl
@[simp] theorem setMbox_tiles : (s.setMbox m x).tiles = s.tiles := rfl
@[simp] theorem setMbox_folds : (s.setMbox m x).folds = s.folds := rfl
@[simp] theorem setMbox_reguls : (s.setMbox m x).reguls = s.reguls := rfl
@[simp] theorem setMbox_loops : (s.setMbox m x).loops = s.loops := rfl
@[simp] theorem setMbox_sessions : (s.setMbox m x).sessions = s.sessions := rfl
@[simp] theorem setMbox_ports : (s.setMbox m x).ports = s.ports := rfl
@[simp] theorem setMbox_conns : (s.setMbox m x).conns = s.conns := rfl
@[simp] theorem setMbox_jobs : (s.setMbox m x).jobs = s.jobs := rfl
@[simp] theorem setMbox_flows : (s.setMbox m x).flows = s.flows := rfl
@[simp] theorem setMbox_exports : (s.setMbox m x).exports = s.exports := rfl
@[simp] theorem setMbox_mesh : (s.setMbox m x).mesh = s.mesh := rfl
@[simp] theorem setMbox_credits : (s.setMbox m x).credits = s.credits := rfl
@[simp] theorem setMbox_meshStop : (s.setMbox m x).meshStop = s.meshStop := rfl
@[simp] theorem setMbox_creditQ : (s.setMbox m x).creditQ = s.creditQ := rfl
@[simp] theorem setMbox_foldReply : (s.setMbox m x).foldReply = s.foldReply := rfl
@[simp] theorem setMbox_keys : (s.setMbox m x).keys = s.keys := rfl
@[simp] theorem setMbox_ringHeld : (s.setMbox m x).ringHeld = s.ringHeld := rfl
@[simp] theorem setMbox_ringQ : (s.setMbox m x).ringQ = s.ringQ := rfl
@[simp] theorem setMbox_ringIrq : (s.setMbox m x).ringIrq = s.ringIrq := rfl
@[simp] theorem setMbox_drvGrants : (s.setMbox m x).drvGrants = s.drvGrants := rfl
@[simp] theorem setMbox_drvHorizon : (s.setMbox m x).drvHorizon = s.drvHorizon := rfl
@[simp] theorem setMbox_host : (s.setMbox m x).host = s.host := rfl
@[simp] theorem setMbox_busMaster : (s.setMbox m x).busMaster = s.busMaster := rfl
@[simp] theorem setMbox_msix : (s.setMbox m x).msix = s.msix := rfl
@[simp] theorem setMbox_msixTab : (s.setMbox m x).msixTab = s.msixTab := rfl
@[simp] theorem setMbox_msixPend : (s.setMbox m x).msixPend = s.msixPend := rfl
@[simp] theorem setMbox_events : (s.setMbox m x).events = s.events := rfl
@[simp] theorem setMbox_evSeq : (s.setMbox m x).evSeq = s.evSeq := rfl
@[simp] theorem setMbox_evKept : (s.setMbox m x).evKept = s.evKept := rfl
@[simp] theorem setMbox_cfg : (s.setMbox m x).cfg = s.cfg := rfl
@[simp] theorem setMbox_limits : (s.setMbox m x).limits = s.limits := rfl
@[simp] theorem setMbox_report : (s.setMbox m x).report = s.report := rfl
@[simp] theorem setMbox_flash : (s.setMbox m x).flash = s.flash := rfl
@[simp] theorem setMbox_stackRecord : (s.setMbox m x).stackRecord = s.stackRecord := rfl
@[simp] theorem setMbox_operator : (s.setMbox m x).operator = s.operator := rfl
@[simp] theorem setMbox_fwVersion : (s.setMbox m x).fwVersion = s.fwVersion := rfl
@[simp] theorem setMbox_fwLevel : (s.setMbox m x).fwLevel = s.fwLevel := rfl
@[simp] theorem setMbox_fwImage : (s.setMbox m x).fwImage = s.fwImage := rfl
@[simp] theorem setMbox_fwFails : (s.setMbox m x).fwFails = s.fwFails := rfl
@[simp] theorem setMbox_acceptSeq : (s.setMbox m x).acceptSeq = s.acceptSeq := rfl
@[simp] theorem setMbox_acceptPos : (s.setMbox m x).acceptPos = s.acceptPos := rfl
@[simp] theorem setMbox_sessGen : (s.setMbox m x).sessGen = s.sessGen := rfl
@[simp] theorem setMbox_jobTag : (s.setMbox m x).jobTag = s.jobTag := rfl
@[simp] theorem setMbox_handles : (s.setMbox m x).handles = s.handles := rfl
@[simp] theorem setMbox_dstate : (s.setMbox m x).dstate = s.dstate := rfl
@[simp] theorem setMbox_drain : (s.setMbox m x).drain = s.drain := rfl
@[simp] theorem setMbox_drainUnits : (s.setMbox m x).drainUnits = s.drainUnits := rfl
@[simp] theorem setMbox_opDrain : (s.setMbox m x).opDrain = s.opDrain := rfl
@[simp] theorem setMbox_histories : (s.setMbox m x).histories = s.histories := rfl
@[simp] theorem setMbox_life : (s.setMbox m x).life = s.life := rfl
@[simp] theorem setMbox_bins : (s.setMbox m x).bins = s.bins := rfl
@[simp] theorem setMbox_histAt : (s.setMbox m x).histAt = s.histAt := rfl
@[simp] theorem setMbox_histOwed : (s.setMbox m x).histOwed = s.histOwed := rfl
@[simp] theorem setMbox_epoch : (s.setMbox m x).epoch = s.epoch := rfl
@[simp] theorem setMbox_tallyAt : (s.setMbox m x).tallyAt = s.tallyAt := rfl
@[simp] theorem setMbox_tallies : (s.setMbox m x).tallies = s.tallies := rfl
@[simp] theorem setMbox_shadows : (s.setMbox m x).shadows = s.shadows := rfl
@[simp] theorem setMbox_buffer : (s.setMbox m x).buffer = s.buffer := rfl
@[simp] theorem setMbox_sectors : (s.setMbox m x).sectors = s.sectors := rfl
@[simp] theorem setMbox_coalesced : (s.setMbox m x).coalesced = s.coalesced := rfl
@[simp] theorem setMbox_snapMin : (s.setMbox m x).snapMin = s.snapMin := rfl
@[simp] theorem setMbox_minuteAt : (s.setMbox m x).minuteAt = s.minuteAt := rfl
@[simp] theorem setMbox_tele : (s.setMbox m x).tele = s.tele := rfl
@[simp] theorem setMbox_discRun : (s.setMbox m x).discRun = s.discRun := rfl
@[simp] theorem setMbox_discGap : (s.setMbox m x).discGap = s.discGap := rfl
@[simp] theorem setMbox_avsFails : (s.setMbox m x).avsFails = s.avsFails := rfl
@[simp] theorem setMbox_avsOk : (s.setMbox m x).avsOk = s.avsOk := rfl
@[simp] theorem setMbox_avsMa : (s.setMbox m x).avsMa = s.avsMa := rfl
@[simp] theorem setMbox_avsMv : (s.setMbox m x).avsMv = s.avsMv := rfl
@[simp] theorem setMbox_vibWritten : (s.setMbox m x).vibWritten = s.vibWritten := rfl
@[simp] theorem setMbox_vibOwed : (s.setMbox m x).vibOwed = s.vibOwed := rfl
@[simp] theorem setMbox_vibFrom : (s.setMbox m x).vibFrom = s.vibFrom := rfl
@[simp] theorem setMbox_avsRate : (s.setMbox m x).avsRate = s.avsRate := rfl
@[simp] theorem setMbox_avsRead : (s.setMbox m x).avsRead = s.avsRead := rfl
@[simp] theorem setMbox_vibOff : (s.setMbox m x).vibOff = s.vibOff := rfl
@[simp] theorem setMbox_mismatchRun : (s.setMbox m x).mismatchRun = s.mismatchRun := rfl
@[simp] theorem setMbox_lostAvs : (s.setMbox m x).lostAvs = s.lostAvs := rfl
@[simp] theorem setMbox_energyUj : (s.setMbox m x).energyUj = s.energyUj := rfl
@[simp] theorem setMbox_temps : (s.setMbox m x).temps = s.temps := rfl
@[simp] theorem setMbox_stuck : (s.setMbox m x).stuck = s.stuck := rfl
@[simp] theorem setMbox_cool : (s.setMbox m x).cool = s.cool := rfl
@[simp] theorem setMbox_heatBy : (s.setMbox m x).heatBy = s.heatBy := rfl
@[simp] theorem setMbox_diodeBad : (s.setMbox m x).diodeBad = s.diodeBad := rfl
@[simp] theorem setMbox_thmAt : (s.setMbox m x).thmAt = s.thmAt := rfl
@[simp] theorem setMbox_fastRun : (s.setMbox m x).fastRun = s.fastRun := rfl
@[simp] theorem setMbox_warnAt : (s.setMbox m x).warnAt = s.warnAt := rfl
@[simp] theorem setMbox_trimAt : (s.setMbox m x).trimAt = s.trimAt := rfl
@[simp] theorem setMbox_coolFrom : (s.setMbox m x).coolFrom = s.coolFrom := rfl
@[simp] theorem setMbox_stopKind : (s.setMbox m x).stopKind = s.stopKind := rfl
@[simp] theorem setMbox_stopAt : (s.setMbox m x).stopAt = s.stopAt := rfl
@[simp] theorem setMbox_trip : (s.setMbox m x).trip = s.trip := rfl
@[simp] theorem setMbox_flocks : (s.setMbox m x).flocks = s.flocks := rfl
@[simp] theorem setMbox_flockAt : (s.setMbox m x).flockAt = s.flockAt := rfl
@[simp] theorem setMbox_flockDone : (s.setMbox m x).flockDone = s.flockDone := rfl
@[simp] theorem setMbox_relayed : (s.setMbox m x).relayed = s.relayed := rfl
@[simp] theorem setMbox_drecSeq : (s.setMbox m x).drecSeq = s.drecSeq := rfl
@[simp] theorem setMbox_standby : (s.setMbox m x).standby = s.standby := rfl
@[simp] theorem setMbox_idleFrom : (s.setMbox m x).idleFrom = s.idleFrom := rfl
@[simp] theorem setMbox_ptpRun : (s.setMbox m x).ptpRun = s.ptpRun := rfl
@[simp] theorem setMbox_ptpAt : (s.setMbox m x).ptpAt = s.ptpAt := rfl
@[simp] theorem setMbox_ptpOff : (s.setMbox m x).ptpOff = s.ptpOff := rfl
@[simp] theorem setMbox_authFails : (s.setMbox m x).authFails = s.authFails := rfl
@[simp] theorem setMbox_alerts : (s.setMbox m x).alerts = s.alerts := rfl
@[simp] theorem setMbox_spdmOut : (s.setMbox m x).spdmOut = s.spdmOut := rfl
end

section
variable (s : State) (m : Nat) (g : Mailbox → Mailbox)
@[simp] theorem modMbox_pending : (s.modMbox m g).pending = s.pending := rfl
@[simp] theorem modMbox_now : (s.modMbox m g).now = s.now := rfl
@[simp] theorem modMbox_frac : (s.modMbox m g).frac = s.frac := rfl
@[simp] theorem modMbox_ppm : (s.modMbox m g).ppm = s.ppm := rfl
@[simp] theorem modMbox_ppmUntil : (s.modMbox m g).ppmUntil = s.ppmUntil := rfl
@[simp] theorem modMbox_timeLocked : (s.modMbox m g).timeLocked = s.timeLocked := rfl
@[simp] theorem modMbox_lockRun : (s.modMbox m g).lockRun = s.lockRun := rfl
@[simp] theorem modMbox_rootConflict : (s.modMbox m g).rootConflict = s.rootConflict := rfl
@[simp] theorem modMbox_laneAt : (s.modMbox m g).laneAt = s.laneAt := rfl
@[simp] theorem modMbox_drvIn : (s.modMbox m g).drvIn = s.drvIn := rfl
@[simp] theorem modMbox_jobEver : (s.modMbox m g).jobEver = s.jobEver := rfl
@[simp] theorem modMbox_phase : (s.modMbox m g).phase = s.phase := rfl
@[simp] theorem modMbox_drawn : (s.modMbox m g).drawn = s.drawn := rfl
@[simp] theorem modMbox_regs : (s.modMbox m g).regs = s.regs := rfl
@[simp] theorem modMbox_lrecHeld : (s.modMbox m g).lrecHeld = s.lrecHeld := rfl
@[simp] theorem modMbox_tiles : (s.modMbox m g).tiles = s.tiles := rfl
@[simp] theorem modMbox_folds : (s.modMbox m g).folds = s.folds := rfl
@[simp] theorem modMbox_reguls : (s.modMbox m g).reguls = s.reguls := rfl
@[simp] theorem modMbox_loops : (s.modMbox m g).loops = s.loops := rfl
@[simp] theorem modMbox_sessions : (s.modMbox m g).sessions = s.sessions := rfl
@[simp] theorem modMbox_ports : (s.modMbox m g).ports = s.ports := rfl
@[simp] theorem modMbox_conns : (s.modMbox m g).conns = s.conns := rfl
@[simp] theorem modMbox_jobs : (s.modMbox m g).jobs = s.jobs := rfl
@[simp] theorem modMbox_flows : (s.modMbox m g).flows = s.flows := rfl
@[simp] theorem modMbox_exports : (s.modMbox m g).exports = s.exports := rfl
@[simp] theorem modMbox_mesh : (s.modMbox m g).mesh = s.mesh := rfl
@[simp] theorem modMbox_credits : (s.modMbox m g).credits = s.credits := rfl
@[simp] theorem modMbox_meshStop : (s.modMbox m g).meshStop = s.meshStop := rfl
@[simp] theorem modMbox_creditQ : (s.modMbox m g).creditQ = s.creditQ := rfl
@[simp] theorem modMbox_foldReply : (s.modMbox m g).foldReply = s.foldReply := rfl
@[simp] theorem modMbox_keys : (s.modMbox m g).keys = s.keys := rfl
@[simp] theorem modMbox_ringHeld : (s.modMbox m g).ringHeld = s.ringHeld := rfl
@[simp] theorem modMbox_ringQ : (s.modMbox m g).ringQ = s.ringQ := rfl
@[simp] theorem modMbox_ringIrq : (s.modMbox m g).ringIrq = s.ringIrq := rfl
@[simp] theorem modMbox_drvGrants : (s.modMbox m g).drvGrants = s.drvGrants := rfl
@[simp] theorem modMbox_drvHorizon : (s.modMbox m g).drvHorizon = s.drvHorizon := rfl
@[simp] theorem modMbox_host : (s.modMbox m g).host = s.host := rfl
@[simp] theorem modMbox_busMaster : (s.modMbox m g).busMaster = s.busMaster := rfl
@[simp] theorem modMbox_msix : (s.modMbox m g).msix = s.msix := rfl
@[simp] theorem modMbox_msixTab : (s.modMbox m g).msixTab = s.msixTab := rfl
@[simp] theorem modMbox_msixPend : (s.modMbox m g).msixPend = s.msixPend := rfl
@[simp] theorem modMbox_events : (s.modMbox m g).events = s.events := rfl
@[simp] theorem modMbox_evSeq : (s.modMbox m g).evSeq = s.evSeq := rfl
@[simp] theorem modMbox_evKept : (s.modMbox m g).evKept = s.evKept := rfl
@[simp] theorem modMbox_cfg : (s.modMbox m g).cfg = s.cfg := rfl
@[simp] theorem modMbox_limits : (s.modMbox m g).limits = s.limits := rfl
@[simp] theorem modMbox_report : (s.modMbox m g).report = s.report := rfl
@[simp] theorem modMbox_flash : (s.modMbox m g).flash = s.flash := rfl
@[simp] theorem modMbox_stackRecord : (s.modMbox m g).stackRecord = s.stackRecord := rfl
@[simp] theorem modMbox_operator : (s.modMbox m g).operator = s.operator := rfl
@[simp] theorem modMbox_fwVersion : (s.modMbox m g).fwVersion = s.fwVersion := rfl
@[simp] theorem modMbox_fwLevel : (s.modMbox m g).fwLevel = s.fwLevel := rfl
@[simp] theorem modMbox_fwImage : (s.modMbox m g).fwImage = s.fwImage := rfl
@[simp] theorem modMbox_fwFails : (s.modMbox m g).fwFails = s.fwFails := rfl
@[simp] theorem modMbox_acceptSeq : (s.modMbox m g).acceptSeq = s.acceptSeq := rfl
@[simp] theorem modMbox_acceptPos : (s.modMbox m g).acceptPos = s.acceptPos := rfl
@[simp] theorem modMbox_sessGen : (s.modMbox m g).sessGen = s.sessGen := rfl
@[simp] theorem modMbox_jobTag : (s.modMbox m g).jobTag = s.jobTag := rfl
@[simp] theorem modMbox_handles : (s.modMbox m g).handles = s.handles := rfl
@[simp] theorem modMbox_dstate : (s.modMbox m g).dstate = s.dstate := rfl
@[simp] theorem modMbox_drain : (s.modMbox m g).drain = s.drain := rfl
@[simp] theorem modMbox_drainUnits : (s.modMbox m g).drainUnits = s.drainUnits := rfl
@[simp] theorem modMbox_opDrain : (s.modMbox m g).opDrain = s.opDrain := rfl
@[simp] theorem modMbox_histories : (s.modMbox m g).histories = s.histories := rfl
@[simp] theorem modMbox_life : (s.modMbox m g).life = s.life := rfl
@[simp] theorem modMbox_bins : (s.modMbox m g).bins = s.bins := rfl
@[simp] theorem modMbox_histAt : (s.modMbox m g).histAt = s.histAt := rfl
@[simp] theorem modMbox_histOwed : (s.modMbox m g).histOwed = s.histOwed := rfl
@[simp] theorem modMbox_epoch : (s.modMbox m g).epoch = s.epoch := rfl
@[simp] theorem modMbox_tallyAt : (s.modMbox m g).tallyAt = s.tallyAt := rfl
@[simp] theorem modMbox_tallies : (s.modMbox m g).tallies = s.tallies := rfl
@[simp] theorem modMbox_shadows : (s.modMbox m g).shadows = s.shadows := rfl
@[simp] theorem modMbox_buffer : (s.modMbox m g).buffer = s.buffer := rfl
@[simp] theorem modMbox_sectors : (s.modMbox m g).sectors = s.sectors := rfl
@[simp] theorem modMbox_coalesced : (s.modMbox m g).coalesced = s.coalesced := rfl
@[simp] theorem modMbox_snapMin : (s.modMbox m g).snapMin = s.snapMin := rfl
@[simp] theorem modMbox_minuteAt : (s.modMbox m g).minuteAt = s.minuteAt := rfl
@[simp] theorem modMbox_tele : (s.modMbox m g).tele = s.tele := rfl
@[simp] theorem modMbox_discRun : (s.modMbox m g).discRun = s.discRun := rfl
@[simp] theorem modMbox_discGap : (s.modMbox m g).discGap = s.discGap := rfl
@[simp] theorem modMbox_avsFails : (s.modMbox m g).avsFails = s.avsFails := rfl
@[simp] theorem modMbox_avsOk : (s.modMbox m g).avsOk = s.avsOk := rfl
@[simp] theorem modMbox_avsMa : (s.modMbox m g).avsMa = s.avsMa := rfl
@[simp] theorem modMbox_avsMv : (s.modMbox m g).avsMv = s.avsMv := rfl
@[simp] theorem modMbox_vibWritten : (s.modMbox m g).vibWritten = s.vibWritten := rfl
@[simp] theorem modMbox_vibOwed : (s.modMbox m g).vibOwed = s.vibOwed := rfl
@[simp] theorem modMbox_vibFrom : (s.modMbox m g).vibFrom = s.vibFrom := rfl
@[simp] theorem modMbox_avsRate : (s.modMbox m g).avsRate = s.avsRate := rfl
@[simp] theorem modMbox_avsRead : (s.modMbox m g).avsRead = s.avsRead := rfl
@[simp] theorem modMbox_vibOff : (s.modMbox m g).vibOff = s.vibOff := rfl
@[simp] theorem modMbox_mismatchRun : (s.modMbox m g).mismatchRun = s.mismatchRun := rfl
@[simp] theorem modMbox_lostAvs : (s.modMbox m g).lostAvs = s.lostAvs := rfl
@[simp] theorem modMbox_energyUj : (s.modMbox m g).energyUj = s.energyUj := rfl
@[simp] theorem modMbox_temps : (s.modMbox m g).temps = s.temps := rfl
@[simp] theorem modMbox_stuck : (s.modMbox m g).stuck = s.stuck := rfl
@[simp] theorem modMbox_cool : (s.modMbox m g).cool = s.cool := rfl
@[simp] theorem modMbox_heatBy : (s.modMbox m g).heatBy = s.heatBy := rfl
@[simp] theorem modMbox_diodeBad : (s.modMbox m g).diodeBad = s.diodeBad := rfl
@[simp] theorem modMbox_thmAt : (s.modMbox m g).thmAt = s.thmAt := rfl
@[simp] theorem modMbox_fastRun : (s.modMbox m g).fastRun = s.fastRun := rfl
@[simp] theorem modMbox_warnAt : (s.modMbox m g).warnAt = s.warnAt := rfl
@[simp] theorem modMbox_trimAt : (s.modMbox m g).trimAt = s.trimAt := rfl
@[simp] theorem modMbox_coolFrom : (s.modMbox m g).coolFrom = s.coolFrom := rfl
@[simp] theorem modMbox_stopKind : (s.modMbox m g).stopKind = s.stopKind := rfl
@[simp] theorem modMbox_stopAt : (s.modMbox m g).stopAt = s.stopAt := rfl
@[simp] theorem modMbox_trip : (s.modMbox m g).trip = s.trip := rfl
@[simp] theorem modMbox_flocks : (s.modMbox m g).flocks = s.flocks := rfl
@[simp] theorem modMbox_flockAt : (s.modMbox m g).flockAt = s.flockAt := rfl
@[simp] theorem modMbox_flockDone : (s.modMbox m g).flockDone = s.flockDone := rfl
@[simp] theorem modMbox_relayed : (s.modMbox m g).relayed = s.relayed := rfl
@[simp] theorem modMbox_drecSeq : (s.modMbox m g).drecSeq = s.drecSeq := rfl
@[simp] theorem modMbox_standby : (s.modMbox m g).standby = s.standby := rfl
@[simp] theorem modMbox_idleFrom : (s.modMbox m g).idleFrom = s.idleFrom := rfl
@[simp] theorem modMbox_ptpRun : (s.modMbox m g).ptpRun = s.ptpRun := rfl
@[simp] theorem modMbox_ptpAt : (s.modMbox m g).ptpAt = s.ptpAt := rfl
@[simp] theorem modMbox_ptpOff : (s.modMbox m g).ptpOff = s.ptpOff := rfl
@[simp] theorem modMbox_authFails : (s.modMbox m g).authFails = s.authFails := rfl
@[simp] theorem modMbox_alerts : (s.modMbox m g).alerts = s.alerts := rfl
@[simp] theorem modMbox_spdmOut : (s.modMbox m g).spdmOut = s.spdmOut := rfl
end

section
variable (s : State) (k : Nat) (x : Session)
@[simp] theorem setSess_pending : (s.setSess k x).pending = s.pending := rfl
@[simp] theorem setSess_now : (s.setSess k x).now = s.now := rfl
@[simp] theorem setSess_frac : (s.setSess k x).frac = s.frac := rfl
@[simp] theorem setSess_ppm : (s.setSess k x).ppm = s.ppm := rfl
@[simp] theorem setSess_ppmUntil : (s.setSess k x).ppmUntil = s.ppmUntil := rfl
@[simp] theorem setSess_timeLocked : (s.setSess k x).timeLocked = s.timeLocked := rfl
@[simp] theorem setSess_lockRun : (s.setSess k x).lockRun = s.lockRun := rfl
@[simp] theorem setSess_rootConflict : (s.setSess k x).rootConflict = s.rootConflict := rfl
@[simp] theorem setSess_laneAt : (s.setSess k x).laneAt = s.laneAt := rfl
@[simp] theorem setSess_drvIn : (s.setSess k x).drvIn = s.drvIn := rfl
@[simp] theorem setSess_jobEver : (s.setSess k x).jobEver = s.jobEver := rfl
@[simp] theorem setSess_phase : (s.setSess k x).phase = s.phase := rfl
@[simp] theorem setSess_drawn : (s.setSess k x).drawn = s.drawn := rfl
@[simp] theorem setSess_regs : (s.setSess k x).regs = s.regs := rfl
@[simp] theorem setSess_lrecHeld : (s.setSess k x).lrecHeld = s.lrecHeld := rfl
@[simp] theorem setSess_tiles : (s.setSess k x).tiles = s.tiles := rfl
@[simp] theorem setSess_folds : (s.setSess k x).folds = s.folds := rfl
@[simp] theorem setSess_reguls : (s.setSess k x).reguls = s.reguls := rfl
@[simp] theorem setSess_loops : (s.setSess k x).loops = s.loops := rfl
@[simp] theorem setSess_mboxes : (s.setSess k x).mboxes = s.mboxes := rfl
@[simp] theorem setSess_ports : (s.setSess k x).ports = s.ports := rfl
@[simp] theorem setSess_conns : (s.setSess k x).conns = s.conns := rfl
@[simp] theorem setSess_jobs : (s.setSess k x).jobs = s.jobs := rfl
@[simp] theorem setSess_flows : (s.setSess k x).flows = s.flows := rfl
@[simp] theorem setSess_exports : (s.setSess k x).exports = s.exports := rfl
@[simp] theorem setSess_mesh : (s.setSess k x).mesh = s.mesh := rfl
@[simp] theorem setSess_credits : (s.setSess k x).credits = s.credits := rfl
@[simp] theorem setSess_meshStop : (s.setSess k x).meshStop = s.meshStop := rfl
@[simp] theorem setSess_creditQ : (s.setSess k x).creditQ = s.creditQ := rfl
@[simp] theorem setSess_foldReply : (s.setSess k x).foldReply = s.foldReply := rfl
@[simp] theorem setSess_keys : (s.setSess k x).keys = s.keys := rfl
@[simp] theorem setSess_ringHeld : (s.setSess k x).ringHeld = s.ringHeld := rfl
@[simp] theorem setSess_ringQ : (s.setSess k x).ringQ = s.ringQ := rfl
@[simp] theorem setSess_ringIrq : (s.setSess k x).ringIrq = s.ringIrq := rfl
@[simp] theorem setSess_drvGrants : (s.setSess k x).drvGrants = s.drvGrants := rfl
@[simp] theorem setSess_drvHorizon : (s.setSess k x).drvHorizon = s.drvHorizon := rfl
@[simp] theorem setSess_host : (s.setSess k x).host = s.host := rfl
@[simp] theorem setSess_busMaster : (s.setSess k x).busMaster = s.busMaster := rfl
@[simp] theorem setSess_msix : (s.setSess k x).msix = s.msix := rfl
@[simp] theorem setSess_msixTab : (s.setSess k x).msixTab = s.msixTab := rfl
@[simp] theorem setSess_msixPend : (s.setSess k x).msixPend = s.msixPend := rfl
@[simp] theorem setSess_events : (s.setSess k x).events = s.events := rfl
@[simp] theorem setSess_evSeq : (s.setSess k x).evSeq = s.evSeq := rfl
@[simp] theorem setSess_evKept : (s.setSess k x).evKept = s.evKept := rfl
@[simp] theorem setSess_cfg : (s.setSess k x).cfg = s.cfg := rfl
@[simp] theorem setSess_limits : (s.setSess k x).limits = s.limits := rfl
@[simp] theorem setSess_report : (s.setSess k x).report = s.report := rfl
@[simp] theorem setSess_flash : (s.setSess k x).flash = s.flash := rfl
@[simp] theorem setSess_stackRecord : (s.setSess k x).stackRecord = s.stackRecord := rfl
@[simp] theorem setSess_operator : (s.setSess k x).operator = s.operator := rfl
@[simp] theorem setSess_fwVersion : (s.setSess k x).fwVersion = s.fwVersion := rfl
@[simp] theorem setSess_fwLevel : (s.setSess k x).fwLevel = s.fwLevel := rfl
@[simp] theorem setSess_fwImage : (s.setSess k x).fwImage = s.fwImage := rfl
@[simp] theorem setSess_fwFails : (s.setSess k x).fwFails = s.fwFails := rfl
@[simp] theorem setSess_acceptSeq : (s.setSess k x).acceptSeq = s.acceptSeq := rfl
@[simp] theorem setSess_acceptPos : (s.setSess k x).acceptPos = s.acceptPos := rfl
@[simp] theorem setSess_sessGen : (s.setSess k x).sessGen = s.sessGen := rfl
@[simp] theorem setSess_jobTag : (s.setSess k x).jobTag = s.jobTag := rfl
@[simp] theorem setSess_handles : (s.setSess k x).handles = s.handles := rfl
@[simp] theorem setSess_dstate : (s.setSess k x).dstate = s.dstate := rfl
@[simp] theorem setSess_drain : (s.setSess k x).drain = s.drain := rfl
@[simp] theorem setSess_drainUnits : (s.setSess k x).drainUnits = s.drainUnits := rfl
@[simp] theorem setSess_opDrain : (s.setSess k x).opDrain = s.opDrain := rfl
@[simp] theorem setSess_histories : (s.setSess k x).histories = s.histories := rfl
@[simp] theorem setSess_life : (s.setSess k x).life = s.life := rfl
@[simp] theorem setSess_bins : (s.setSess k x).bins = s.bins := rfl
@[simp] theorem setSess_histAt : (s.setSess k x).histAt = s.histAt := rfl
@[simp] theorem setSess_histOwed : (s.setSess k x).histOwed = s.histOwed := rfl
@[simp] theorem setSess_epoch : (s.setSess k x).epoch = s.epoch := rfl
@[simp] theorem setSess_tallyAt : (s.setSess k x).tallyAt = s.tallyAt := rfl
@[simp] theorem setSess_tallies : (s.setSess k x).tallies = s.tallies := rfl
@[simp] theorem setSess_shadows : (s.setSess k x).shadows = s.shadows := rfl
@[simp] theorem setSess_buffer : (s.setSess k x).buffer = s.buffer := rfl
@[simp] theorem setSess_sectors : (s.setSess k x).sectors = s.sectors := rfl
@[simp] theorem setSess_coalesced : (s.setSess k x).coalesced = s.coalesced := rfl
@[simp] theorem setSess_snapMin : (s.setSess k x).snapMin = s.snapMin := rfl
@[simp] theorem setSess_minuteAt : (s.setSess k x).minuteAt = s.minuteAt := rfl
@[simp] theorem setSess_tele : (s.setSess k x).tele = s.tele := rfl
@[simp] theorem setSess_discRun : (s.setSess k x).discRun = s.discRun := rfl
@[simp] theorem setSess_discGap : (s.setSess k x).discGap = s.discGap := rfl
@[simp] theorem setSess_avsFails : (s.setSess k x).avsFails = s.avsFails := rfl
@[simp] theorem setSess_avsOk : (s.setSess k x).avsOk = s.avsOk := rfl
@[simp] theorem setSess_avsMa : (s.setSess k x).avsMa = s.avsMa := rfl
@[simp] theorem setSess_avsMv : (s.setSess k x).avsMv = s.avsMv := rfl
@[simp] theorem setSess_vibWritten : (s.setSess k x).vibWritten = s.vibWritten := rfl
@[simp] theorem setSess_vibOwed : (s.setSess k x).vibOwed = s.vibOwed := rfl
@[simp] theorem setSess_vibFrom : (s.setSess k x).vibFrom = s.vibFrom := rfl
@[simp] theorem setSess_avsRate : (s.setSess k x).avsRate = s.avsRate := rfl
@[simp] theorem setSess_avsRead : (s.setSess k x).avsRead = s.avsRead := rfl
@[simp] theorem setSess_vibOff : (s.setSess k x).vibOff = s.vibOff := rfl
@[simp] theorem setSess_mismatchRun : (s.setSess k x).mismatchRun = s.mismatchRun := rfl
@[simp] theorem setSess_lostAvs : (s.setSess k x).lostAvs = s.lostAvs := rfl
@[simp] theorem setSess_energyUj : (s.setSess k x).energyUj = s.energyUj := rfl
@[simp] theorem setSess_temps : (s.setSess k x).temps = s.temps := rfl
@[simp] theorem setSess_stuck : (s.setSess k x).stuck = s.stuck := rfl
@[simp] theorem setSess_cool : (s.setSess k x).cool = s.cool := rfl
@[simp] theorem setSess_heatBy : (s.setSess k x).heatBy = s.heatBy := rfl
@[simp] theorem setSess_diodeBad : (s.setSess k x).diodeBad = s.diodeBad := rfl
@[simp] theorem setSess_thmAt : (s.setSess k x).thmAt = s.thmAt := rfl
@[simp] theorem setSess_fastRun : (s.setSess k x).fastRun = s.fastRun := rfl
@[simp] theorem setSess_warnAt : (s.setSess k x).warnAt = s.warnAt := rfl
@[simp] theorem setSess_trimAt : (s.setSess k x).trimAt = s.trimAt := rfl
@[simp] theorem setSess_coolFrom : (s.setSess k x).coolFrom = s.coolFrom := rfl
@[simp] theorem setSess_stopKind : (s.setSess k x).stopKind = s.stopKind := rfl
@[simp] theorem setSess_stopAt : (s.setSess k x).stopAt = s.stopAt := rfl
@[simp] theorem setSess_trip : (s.setSess k x).trip = s.trip := rfl
@[simp] theorem setSess_flocks : (s.setSess k x).flocks = s.flocks := rfl
@[simp] theorem setSess_flockAt : (s.setSess k x).flockAt = s.flockAt := rfl
@[simp] theorem setSess_flockDone : (s.setSess k x).flockDone = s.flockDone := rfl
@[simp] theorem setSess_relayed : (s.setSess k x).relayed = s.relayed := rfl
@[simp] theorem setSess_drecSeq : (s.setSess k x).drecSeq = s.drecSeq := rfl
@[simp] theorem setSess_standby : (s.setSess k x).standby = s.standby := rfl
@[simp] theorem setSess_idleFrom : (s.setSess k x).idleFrom = s.idleFrom := rfl
@[simp] theorem setSess_ptpRun : (s.setSess k x).ptpRun = s.ptpRun := rfl
@[simp] theorem setSess_ptpAt : (s.setSess k x).ptpAt = s.ptpAt := rfl
@[simp] theorem setSess_ptpOff : (s.setSess k x).ptpOff = s.ptpOff := rfl
@[simp] theorem setSess_authFails : (s.setSess k x).authFails = s.authFails := rfl
@[simp] theorem setSess_alerts : (s.setSess k x).alerts = s.alerts := rfl
@[simp] theorem setSess_spdmOut : (s.setSess k x).spdmOut = s.spdmOut := rfl
end

section
variable (s : State) (k : Nat) (g : Session → Session)
@[simp] theorem modSess_pending : (s.modSess k g).pending = s.pending := rfl
@[simp] theorem modSess_now : (s.modSess k g).now = s.now := rfl
@[simp] theorem modSess_frac : (s.modSess k g).frac = s.frac := rfl
@[simp] theorem modSess_ppm : (s.modSess k g).ppm = s.ppm := rfl
@[simp] theorem modSess_ppmUntil : (s.modSess k g).ppmUntil = s.ppmUntil := rfl
@[simp] theorem modSess_timeLocked : (s.modSess k g).timeLocked = s.timeLocked := rfl
@[simp] theorem modSess_lockRun : (s.modSess k g).lockRun = s.lockRun := rfl
@[simp] theorem modSess_rootConflict : (s.modSess k g).rootConflict = s.rootConflict := rfl
@[simp] theorem modSess_laneAt : (s.modSess k g).laneAt = s.laneAt := rfl
@[simp] theorem modSess_drvIn : (s.modSess k g).drvIn = s.drvIn := rfl
@[simp] theorem modSess_jobEver : (s.modSess k g).jobEver = s.jobEver := rfl
@[simp] theorem modSess_phase : (s.modSess k g).phase = s.phase := rfl
@[simp] theorem modSess_drawn : (s.modSess k g).drawn = s.drawn := rfl
@[simp] theorem modSess_regs : (s.modSess k g).regs = s.regs := rfl
@[simp] theorem modSess_lrecHeld : (s.modSess k g).lrecHeld = s.lrecHeld := rfl
@[simp] theorem modSess_tiles : (s.modSess k g).tiles = s.tiles := rfl
@[simp] theorem modSess_folds : (s.modSess k g).folds = s.folds := rfl
@[simp] theorem modSess_reguls : (s.modSess k g).reguls = s.reguls := rfl
@[simp] theorem modSess_loops : (s.modSess k g).loops = s.loops := rfl
@[simp] theorem modSess_mboxes : (s.modSess k g).mboxes = s.mboxes := rfl
@[simp] theorem modSess_ports : (s.modSess k g).ports = s.ports := rfl
@[simp] theorem modSess_conns : (s.modSess k g).conns = s.conns := rfl
@[simp] theorem modSess_jobs : (s.modSess k g).jobs = s.jobs := rfl
@[simp] theorem modSess_flows : (s.modSess k g).flows = s.flows := rfl
@[simp] theorem modSess_exports : (s.modSess k g).exports = s.exports := rfl
@[simp] theorem modSess_mesh : (s.modSess k g).mesh = s.mesh := rfl
@[simp] theorem modSess_credits : (s.modSess k g).credits = s.credits := rfl
@[simp] theorem modSess_meshStop : (s.modSess k g).meshStop = s.meshStop := rfl
@[simp] theorem modSess_creditQ : (s.modSess k g).creditQ = s.creditQ := rfl
@[simp] theorem modSess_foldReply : (s.modSess k g).foldReply = s.foldReply := rfl
@[simp] theorem modSess_keys : (s.modSess k g).keys = s.keys := rfl
@[simp] theorem modSess_ringHeld : (s.modSess k g).ringHeld = s.ringHeld := rfl
@[simp] theorem modSess_ringQ : (s.modSess k g).ringQ = s.ringQ := rfl
@[simp] theorem modSess_ringIrq : (s.modSess k g).ringIrq = s.ringIrq := rfl
@[simp] theorem modSess_drvGrants : (s.modSess k g).drvGrants = s.drvGrants := rfl
@[simp] theorem modSess_drvHorizon : (s.modSess k g).drvHorizon = s.drvHorizon := rfl
@[simp] theorem modSess_host : (s.modSess k g).host = s.host := rfl
@[simp] theorem modSess_busMaster : (s.modSess k g).busMaster = s.busMaster := rfl
@[simp] theorem modSess_msix : (s.modSess k g).msix = s.msix := rfl
@[simp] theorem modSess_msixTab : (s.modSess k g).msixTab = s.msixTab := rfl
@[simp] theorem modSess_msixPend : (s.modSess k g).msixPend = s.msixPend := rfl
@[simp] theorem modSess_events : (s.modSess k g).events = s.events := rfl
@[simp] theorem modSess_evSeq : (s.modSess k g).evSeq = s.evSeq := rfl
@[simp] theorem modSess_evKept : (s.modSess k g).evKept = s.evKept := rfl
@[simp] theorem modSess_cfg : (s.modSess k g).cfg = s.cfg := rfl
@[simp] theorem modSess_limits : (s.modSess k g).limits = s.limits := rfl
@[simp] theorem modSess_report : (s.modSess k g).report = s.report := rfl
@[simp] theorem modSess_flash : (s.modSess k g).flash = s.flash := rfl
@[simp] theorem modSess_stackRecord : (s.modSess k g).stackRecord = s.stackRecord := rfl
@[simp] theorem modSess_operator : (s.modSess k g).operator = s.operator := rfl
@[simp] theorem modSess_fwVersion : (s.modSess k g).fwVersion = s.fwVersion := rfl
@[simp] theorem modSess_fwLevel : (s.modSess k g).fwLevel = s.fwLevel := rfl
@[simp] theorem modSess_fwImage : (s.modSess k g).fwImage = s.fwImage := rfl
@[simp] theorem modSess_fwFails : (s.modSess k g).fwFails = s.fwFails := rfl
@[simp] theorem modSess_acceptSeq : (s.modSess k g).acceptSeq = s.acceptSeq := rfl
@[simp] theorem modSess_acceptPos : (s.modSess k g).acceptPos = s.acceptPos := rfl
@[simp] theorem modSess_sessGen : (s.modSess k g).sessGen = s.sessGen := rfl
@[simp] theorem modSess_jobTag : (s.modSess k g).jobTag = s.jobTag := rfl
@[simp] theorem modSess_handles : (s.modSess k g).handles = s.handles := rfl
@[simp] theorem modSess_dstate : (s.modSess k g).dstate = s.dstate := rfl
@[simp] theorem modSess_drain : (s.modSess k g).drain = s.drain := rfl
@[simp] theorem modSess_drainUnits : (s.modSess k g).drainUnits = s.drainUnits := rfl
@[simp] theorem modSess_opDrain : (s.modSess k g).opDrain = s.opDrain := rfl
@[simp] theorem modSess_histories : (s.modSess k g).histories = s.histories := rfl
@[simp] theorem modSess_life : (s.modSess k g).life = s.life := rfl
@[simp] theorem modSess_bins : (s.modSess k g).bins = s.bins := rfl
@[simp] theorem modSess_histAt : (s.modSess k g).histAt = s.histAt := rfl
@[simp] theorem modSess_histOwed : (s.modSess k g).histOwed = s.histOwed := rfl
@[simp] theorem modSess_epoch : (s.modSess k g).epoch = s.epoch := rfl
@[simp] theorem modSess_tallyAt : (s.modSess k g).tallyAt = s.tallyAt := rfl
@[simp] theorem modSess_tallies : (s.modSess k g).tallies = s.tallies := rfl
@[simp] theorem modSess_shadows : (s.modSess k g).shadows = s.shadows := rfl
@[simp] theorem modSess_buffer : (s.modSess k g).buffer = s.buffer := rfl
@[simp] theorem modSess_sectors : (s.modSess k g).sectors = s.sectors := rfl
@[simp] theorem modSess_coalesced : (s.modSess k g).coalesced = s.coalesced := rfl
@[simp] theorem modSess_snapMin : (s.modSess k g).snapMin = s.snapMin := rfl
@[simp] theorem modSess_minuteAt : (s.modSess k g).minuteAt = s.minuteAt := rfl
@[simp] theorem modSess_tele : (s.modSess k g).tele = s.tele := rfl
@[simp] theorem modSess_discRun : (s.modSess k g).discRun = s.discRun := rfl
@[simp] theorem modSess_discGap : (s.modSess k g).discGap = s.discGap := rfl
@[simp] theorem modSess_avsFails : (s.modSess k g).avsFails = s.avsFails := rfl
@[simp] theorem modSess_avsOk : (s.modSess k g).avsOk = s.avsOk := rfl
@[simp] theorem modSess_avsMa : (s.modSess k g).avsMa = s.avsMa := rfl
@[simp] theorem modSess_avsMv : (s.modSess k g).avsMv = s.avsMv := rfl
@[simp] theorem modSess_vibWritten : (s.modSess k g).vibWritten = s.vibWritten := rfl
@[simp] theorem modSess_vibOwed : (s.modSess k g).vibOwed = s.vibOwed := rfl
@[simp] theorem modSess_vibFrom : (s.modSess k g).vibFrom = s.vibFrom := rfl
@[simp] theorem modSess_avsRate : (s.modSess k g).avsRate = s.avsRate := rfl
@[simp] theorem modSess_avsRead : (s.modSess k g).avsRead = s.avsRead := rfl
@[simp] theorem modSess_vibOff : (s.modSess k g).vibOff = s.vibOff := rfl
@[simp] theorem modSess_mismatchRun : (s.modSess k g).mismatchRun = s.mismatchRun := rfl
@[simp] theorem modSess_lostAvs : (s.modSess k g).lostAvs = s.lostAvs := rfl
@[simp] theorem modSess_energyUj : (s.modSess k g).energyUj = s.energyUj := rfl
@[simp] theorem modSess_temps : (s.modSess k g).temps = s.temps := rfl
@[simp] theorem modSess_stuck : (s.modSess k g).stuck = s.stuck := rfl
@[simp] theorem modSess_cool : (s.modSess k g).cool = s.cool := rfl
@[simp] theorem modSess_heatBy : (s.modSess k g).heatBy = s.heatBy := rfl
@[simp] theorem modSess_diodeBad : (s.modSess k g).diodeBad = s.diodeBad := rfl
@[simp] theorem modSess_thmAt : (s.modSess k g).thmAt = s.thmAt := rfl
@[simp] theorem modSess_fastRun : (s.modSess k g).fastRun = s.fastRun := rfl
@[simp] theorem modSess_warnAt : (s.modSess k g).warnAt = s.warnAt := rfl
@[simp] theorem modSess_trimAt : (s.modSess k g).trimAt = s.trimAt := rfl
@[simp] theorem modSess_coolFrom : (s.modSess k g).coolFrom = s.coolFrom := rfl
@[simp] theorem modSess_stopKind : (s.modSess k g).stopKind = s.stopKind := rfl
@[simp] theorem modSess_stopAt : (s.modSess k g).stopAt = s.stopAt := rfl
@[simp] theorem modSess_trip : (s.modSess k g).trip = s.trip := rfl
@[simp] theorem modSess_flocks : (s.modSess k g).flocks = s.flocks := rfl
@[simp] theorem modSess_flockAt : (s.modSess k g).flockAt = s.flockAt := rfl
@[simp] theorem modSess_flockDone : (s.modSess k g).flockDone = s.flockDone := rfl
@[simp] theorem modSess_relayed : (s.modSess k g).relayed = s.relayed := rfl
@[simp] theorem modSess_drecSeq : (s.modSess k g).drecSeq = s.drecSeq := rfl
@[simp] theorem modSess_standby : (s.modSess k g).standby = s.standby := rfl
@[simp] theorem modSess_idleFrom : (s.modSess k g).idleFrom = s.idleFrom := rfl
@[simp] theorem modSess_ptpRun : (s.modSess k g).ptpRun = s.ptpRun := rfl
@[simp] theorem modSess_ptpAt : (s.modSess k g).ptpAt = s.ptpAt := rfl
@[simp] theorem modSess_ptpOff : (s.modSess k g).ptpOff = s.ptpOff := rfl
@[simp] theorem modSess_authFails : (s.modSess k g).authFails = s.authFails := rfl
@[simp] theorem modSess_alerts : (s.modSess k g).alerts = s.alerts := rfl
@[simp] theorem modSess_spdmOut : (s.modSess k g).spdmOut = s.spdmOut := rfl
end

section
variable (s : State) (p : Nat) (x : Port)
@[simp] theorem setPort_pending : (s.setPort p x).pending = s.pending := rfl
@[simp] theorem setPort_now : (s.setPort p x).now = s.now := rfl
@[simp] theorem setPort_frac : (s.setPort p x).frac = s.frac := rfl
@[simp] theorem setPort_ppm : (s.setPort p x).ppm = s.ppm := rfl
@[simp] theorem setPort_ppmUntil : (s.setPort p x).ppmUntil = s.ppmUntil := rfl
@[simp] theorem setPort_timeLocked : (s.setPort p x).timeLocked = s.timeLocked := rfl
@[simp] theorem setPort_lockRun : (s.setPort p x).lockRun = s.lockRun := rfl
@[simp] theorem setPort_rootConflict : (s.setPort p x).rootConflict = s.rootConflict := rfl
@[simp] theorem setPort_laneAt : (s.setPort p x).laneAt = s.laneAt := rfl
@[simp] theorem setPort_drvIn : (s.setPort p x).drvIn = s.drvIn := rfl
@[simp] theorem setPort_jobEver : (s.setPort p x).jobEver = s.jobEver := rfl
@[simp] theorem setPort_phase : (s.setPort p x).phase = s.phase := rfl
@[simp] theorem setPort_drawn : (s.setPort p x).drawn = s.drawn := rfl
@[simp] theorem setPort_regs : (s.setPort p x).regs = s.regs := rfl
@[simp] theorem setPort_lrecHeld : (s.setPort p x).lrecHeld = s.lrecHeld := rfl
@[simp] theorem setPort_tiles : (s.setPort p x).tiles = s.tiles := rfl
@[simp] theorem setPort_folds : (s.setPort p x).folds = s.folds := rfl
@[simp] theorem setPort_reguls : (s.setPort p x).reguls = s.reguls := rfl
@[simp] theorem setPort_loops : (s.setPort p x).loops = s.loops := rfl
@[simp] theorem setPort_mboxes : (s.setPort p x).mboxes = s.mboxes := rfl
@[simp] theorem setPort_sessions : (s.setPort p x).sessions = s.sessions := rfl
@[simp] theorem setPort_conns : (s.setPort p x).conns = s.conns := rfl
@[simp] theorem setPort_jobs : (s.setPort p x).jobs = s.jobs := rfl
@[simp] theorem setPort_flows : (s.setPort p x).flows = s.flows := rfl
@[simp] theorem setPort_exports : (s.setPort p x).exports = s.exports := rfl
@[simp] theorem setPort_mesh : (s.setPort p x).mesh = s.mesh := rfl
@[simp] theorem setPort_credits : (s.setPort p x).credits = s.credits := rfl
@[simp] theorem setPort_meshStop : (s.setPort p x).meshStop = s.meshStop := rfl
@[simp] theorem setPort_creditQ : (s.setPort p x).creditQ = s.creditQ := rfl
@[simp] theorem setPort_foldReply : (s.setPort p x).foldReply = s.foldReply := rfl
@[simp] theorem setPort_keys : (s.setPort p x).keys = s.keys := rfl
@[simp] theorem setPort_ringHeld : (s.setPort p x).ringHeld = s.ringHeld := rfl
@[simp] theorem setPort_ringQ : (s.setPort p x).ringQ = s.ringQ := rfl
@[simp] theorem setPort_ringIrq : (s.setPort p x).ringIrq = s.ringIrq := rfl
@[simp] theorem setPort_drvGrants : (s.setPort p x).drvGrants = s.drvGrants := rfl
@[simp] theorem setPort_drvHorizon : (s.setPort p x).drvHorizon = s.drvHorizon := rfl
@[simp] theorem setPort_host : (s.setPort p x).host = s.host := rfl
@[simp] theorem setPort_busMaster : (s.setPort p x).busMaster = s.busMaster := rfl
@[simp] theorem setPort_msix : (s.setPort p x).msix = s.msix := rfl
@[simp] theorem setPort_msixTab : (s.setPort p x).msixTab = s.msixTab := rfl
@[simp] theorem setPort_msixPend : (s.setPort p x).msixPend = s.msixPend := rfl
@[simp] theorem setPort_events : (s.setPort p x).events = s.events := rfl
@[simp] theorem setPort_evSeq : (s.setPort p x).evSeq = s.evSeq := rfl
@[simp] theorem setPort_evKept : (s.setPort p x).evKept = s.evKept := rfl
@[simp] theorem setPort_cfg : (s.setPort p x).cfg = s.cfg := rfl
@[simp] theorem setPort_limits : (s.setPort p x).limits = s.limits := rfl
@[simp] theorem setPort_report : (s.setPort p x).report = s.report := rfl
@[simp] theorem setPort_flash : (s.setPort p x).flash = s.flash := rfl
@[simp] theorem setPort_stackRecord : (s.setPort p x).stackRecord = s.stackRecord := rfl
@[simp] theorem setPort_operator : (s.setPort p x).operator = s.operator := rfl
@[simp] theorem setPort_fwVersion : (s.setPort p x).fwVersion = s.fwVersion := rfl
@[simp] theorem setPort_fwLevel : (s.setPort p x).fwLevel = s.fwLevel := rfl
@[simp] theorem setPort_fwImage : (s.setPort p x).fwImage = s.fwImage := rfl
@[simp] theorem setPort_fwFails : (s.setPort p x).fwFails = s.fwFails := rfl
@[simp] theorem setPort_acceptSeq : (s.setPort p x).acceptSeq = s.acceptSeq := rfl
@[simp] theorem setPort_acceptPos : (s.setPort p x).acceptPos = s.acceptPos := rfl
@[simp] theorem setPort_sessGen : (s.setPort p x).sessGen = s.sessGen := rfl
@[simp] theorem setPort_jobTag : (s.setPort p x).jobTag = s.jobTag := rfl
@[simp] theorem setPort_handles : (s.setPort p x).handles = s.handles := rfl
@[simp] theorem setPort_dstate : (s.setPort p x).dstate = s.dstate := rfl
@[simp] theorem setPort_drain : (s.setPort p x).drain = s.drain := rfl
@[simp] theorem setPort_drainUnits : (s.setPort p x).drainUnits = s.drainUnits := rfl
@[simp] theorem setPort_opDrain : (s.setPort p x).opDrain = s.opDrain := rfl
@[simp] theorem setPort_histories : (s.setPort p x).histories = s.histories := rfl
@[simp] theorem setPort_life : (s.setPort p x).life = s.life := rfl
@[simp] theorem setPort_bins : (s.setPort p x).bins = s.bins := rfl
@[simp] theorem setPort_histAt : (s.setPort p x).histAt = s.histAt := rfl
@[simp] theorem setPort_histOwed : (s.setPort p x).histOwed = s.histOwed := rfl
@[simp] theorem setPort_epoch : (s.setPort p x).epoch = s.epoch := rfl
@[simp] theorem setPort_tallyAt : (s.setPort p x).tallyAt = s.tallyAt := rfl
@[simp] theorem setPort_tallies : (s.setPort p x).tallies = s.tallies := rfl
@[simp] theorem setPort_shadows : (s.setPort p x).shadows = s.shadows := rfl
@[simp] theorem setPort_buffer : (s.setPort p x).buffer = s.buffer := rfl
@[simp] theorem setPort_sectors : (s.setPort p x).sectors = s.sectors := rfl
@[simp] theorem setPort_coalesced : (s.setPort p x).coalesced = s.coalesced := rfl
@[simp] theorem setPort_snapMin : (s.setPort p x).snapMin = s.snapMin := rfl
@[simp] theorem setPort_minuteAt : (s.setPort p x).minuteAt = s.minuteAt := rfl
@[simp] theorem setPort_tele : (s.setPort p x).tele = s.tele := rfl
@[simp] theorem setPort_discRun : (s.setPort p x).discRun = s.discRun := rfl
@[simp] theorem setPort_discGap : (s.setPort p x).discGap = s.discGap := rfl
@[simp] theorem setPort_avsFails : (s.setPort p x).avsFails = s.avsFails := rfl
@[simp] theorem setPort_avsOk : (s.setPort p x).avsOk = s.avsOk := rfl
@[simp] theorem setPort_avsMa : (s.setPort p x).avsMa = s.avsMa := rfl
@[simp] theorem setPort_avsMv : (s.setPort p x).avsMv = s.avsMv := rfl
@[simp] theorem setPort_vibWritten : (s.setPort p x).vibWritten = s.vibWritten := rfl
@[simp] theorem setPort_vibOwed : (s.setPort p x).vibOwed = s.vibOwed := rfl
@[simp] theorem setPort_vibFrom : (s.setPort p x).vibFrom = s.vibFrom := rfl
@[simp] theorem setPort_avsRate : (s.setPort p x).avsRate = s.avsRate := rfl
@[simp] theorem setPort_avsRead : (s.setPort p x).avsRead = s.avsRead := rfl
@[simp] theorem setPort_vibOff : (s.setPort p x).vibOff = s.vibOff := rfl
@[simp] theorem setPort_mismatchRun : (s.setPort p x).mismatchRun = s.mismatchRun := rfl
@[simp] theorem setPort_lostAvs : (s.setPort p x).lostAvs = s.lostAvs := rfl
@[simp] theorem setPort_energyUj : (s.setPort p x).energyUj = s.energyUj := rfl
@[simp] theorem setPort_temps : (s.setPort p x).temps = s.temps := rfl
@[simp] theorem setPort_stuck : (s.setPort p x).stuck = s.stuck := rfl
@[simp] theorem setPort_cool : (s.setPort p x).cool = s.cool := rfl
@[simp] theorem setPort_heatBy : (s.setPort p x).heatBy = s.heatBy := rfl
@[simp] theorem setPort_diodeBad : (s.setPort p x).diodeBad = s.diodeBad := rfl
@[simp] theorem setPort_thmAt : (s.setPort p x).thmAt = s.thmAt := rfl
@[simp] theorem setPort_fastRun : (s.setPort p x).fastRun = s.fastRun := rfl
@[simp] theorem setPort_warnAt : (s.setPort p x).warnAt = s.warnAt := rfl
@[simp] theorem setPort_trimAt : (s.setPort p x).trimAt = s.trimAt := rfl
@[simp] theorem setPort_coolFrom : (s.setPort p x).coolFrom = s.coolFrom := rfl
@[simp] theorem setPort_stopKind : (s.setPort p x).stopKind = s.stopKind := rfl
@[simp] theorem setPort_stopAt : (s.setPort p x).stopAt = s.stopAt := rfl
@[simp] theorem setPort_trip : (s.setPort p x).trip = s.trip := rfl
@[simp] theorem setPort_flocks : (s.setPort p x).flocks = s.flocks := rfl
@[simp] theorem setPort_flockAt : (s.setPort p x).flockAt = s.flockAt := rfl
@[simp] theorem setPort_flockDone : (s.setPort p x).flockDone = s.flockDone := rfl
@[simp] theorem setPort_relayed : (s.setPort p x).relayed = s.relayed := rfl
@[simp] theorem setPort_drecSeq : (s.setPort p x).drecSeq = s.drecSeq := rfl
@[simp] theorem setPort_standby : (s.setPort p x).standby = s.standby := rfl
@[simp] theorem setPort_idleFrom : (s.setPort p x).idleFrom = s.idleFrom := rfl
@[simp] theorem setPort_ptpRun : (s.setPort p x).ptpRun = s.ptpRun := rfl
@[simp] theorem setPort_ptpAt : (s.setPort p x).ptpAt = s.ptpAt := rfl
@[simp] theorem setPort_ptpOff : (s.setPort p x).ptpOff = s.ptpOff := rfl
@[simp] theorem setPort_authFails : (s.setPort p x).authFails = s.authFails := rfl
@[simp] theorem setPort_alerts : (s.setPort p x).alerts = s.alerts := rfl
@[simp] theorem setPort_spdmOut : (s.setPort p x).spdmOut = s.spdmOut := rfl
end

section
variable (s : State) (p : Nat) (g : Port → Port)
@[simp] theorem modPort_pending : (s.modPort p g).pending = s.pending := rfl
@[simp] theorem modPort_now : (s.modPort p g).now = s.now := rfl
@[simp] theorem modPort_frac : (s.modPort p g).frac = s.frac := rfl
@[simp] theorem modPort_ppm : (s.modPort p g).ppm = s.ppm := rfl
@[simp] theorem modPort_ppmUntil : (s.modPort p g).ppmUntil = s.ppmUntil := rfl
@[simp] theorem modPort_timeLocked : (s.modPort p g).timeLocked = s.timeLocked := rfl
@[simp] theorem modPort_lockRun : (s.modPort p g).lockRun = s.lockRun := rfl
@[simp] theorem modPort_rootConflict : (s.modPort p g).rootConflict = s.rootConflict := rfl
@[simp] theorem modPort_laneAt : (s.modPort p g).laneAt = s.laneAt := rfl
@[simp] theorem modPort_drvIn : (s.modPort p g).drvIn = s.drvIn := rfl
@[simp] theorem modPort_jobEver : (s.modPort p g).jobEver = s.jobEver := rfl
@[simp] theorem modPort_phase : (s.modPort p g).phase = s.phase := rfl
@[simp] theorem modPort_drawn : (s.modPort p g).drawn = s.drawn := rfl
@[simp] theorem modPort_regs : (s.modPort p g).regs = s.regs := rfl
@[simp] theorem modPort_lrecHeld : (s.modPort p g).lrecHeld = s.lrecHeld := rfl
@[simp] theorem modPort_tiles : (s.modPort p g).tiles = s.tiles := rfl
@[simp] theorem modPort_folds : (s.modPort p g).folds = s.folds := rfl
@[simp] theorem modPort_reguls : (s.modPort p g).reguls = s.reguls := rfl
@[simp] theorem modPort_loops : (s.modPort p g).loops = s.loops := rfl
@[simp] theorem modPort_mboxes : (s.modPort p g).mboxes = s.mboxes := rfl
@[simp] theorem modPort_sessions : (s.modPort p g).sessions = s.sessions := rfl
@[simp] theorem modPort_conns : (s.modPort p g).conns = s.conns := rfl
@[simp] theorem modPort_jobs : (s.modPort p g).jobs = s.jobs := rfl
@[simp] theorem modPort_flows : (s.modPort p g).flows = s.flows := rfl
@[simp] theorem modPort_exports : (s.modPort p g).exports = s.exports := rfl
@[simp] theorem modPort_mesh : (s.modPort p g).mesh = s.mesh := rfl
@[simp] theorem modPort_credits : (s.modPort p g).credits = s.credits := rfl
@[simp] theorem modPort_meshStop : (s.modPort p g).meshStop = s.meshStop := rfl
@[simp] theorem modPort_creditQ : (s.modPort p g).creditQ = s.creditQ := rfl
@[simp] theorem modPort_foldReply : (s.modPort p g).foldReply = s.foldReply := rfl
@[simp] theorem modPort_keys : (s.modPort p g).keys = s.keys := rfl
@[simp] theorem modPort_ringHeld : (s.modPort p g).ringHeld = s.ringHeld := rfl
@[simp] theorem modPort_ringQ : (s.modPort p g).ringQ = s.ringQ := rfl
@[simp] theorem modPort_ringIrq : (s.modPort p g).ringIrq = s.ringIrq := rfl
@[simp] theorem modPort_drvGrants : (s.modPort p g).drvGrants = s.drvGrants := rfl
@[simp] theorem modPort_drvHorizon : (s.modPort p g).drvHorizon = s.drvHorizon := rfl
@[simp] theorem modPort_host : (s.modPort p g).host = s.host := rfl
@[simp] theorem modPort_busMaster : (s.modPort p g).busMaster = s.busMaster := rfl
@[simp] theorem modPort_msix : (s.modPort p g).msix = s.msix := rfl
@[simp] theorem modPort_msixTab : (s.modPort p g).msixTab = s.msixTab := rfl
@[simp] theorem modPort_msixPend : (s.modPort p g).msixPend = s.msixPend := rfl
@[simp] theorem modPort_events : (s.modPort p g).events = s.events := rfl
@[simp] theorem modPort_evSeq : (s.modPort p g).evSeq = s.evSeq := rfl
@[simp] theorem modPort_evKept : (s.modPort p g).evKept = s.evKept := rfl
@[simp] theorem modPort_cfg : (s.modPort p g).cfg = s.cfg := rfl
@[simp] theorem modPort_limits : (s.modPort p g).limits = s.limits := rfl
@[simp] theorem modPort_report : (s.modPort p g).report = s.report := rfl
@[simp] theorem modPort_flash : (s.modPort p g).flash = s.flash := rfl
@[simp] theorem modPort_stackRecord : (s.modPort p g).stackRecord = s.stackRecord := rfl
@[simp] theorem modPort_operator : (s.modPort p g).operator = s.operator := rfl
@[simp] theorem modPort_fwVersion : (s.modPort p g).fwVersion = s.fwVersion := rfl
@[simp] theorem modPort_fwLevel : (s.modPort p g).fwLevel = s.fwLevel := rfl
@[simp] theorem modPort_fwImage : (s.modPort p g).fwImage = s.fwImage := rfl
@[simp] theorem modPort_fwFails : (s.modPort p g).fwFails = s.fwFails := rfl
@[simp] theorem modPort_acceptSeq : (s.modPort p g).acceptSeq = s.acceptSeq := rfl
@[simp] theorem modPort_acceptPos : (s.modPort p g).acceptPos = s.acceptPos := rfl
@[simp] theorem modPort_sessGen : (s.modPort p g).sessGen = s.sessGen := rfl
@[simp] theorem modPort_jobTag : (s.modPort p g).jobTag = s.jobTag := rfl
@[simp] theorem modPort_handles : (s.modPort p g).handles = s.handles := rfl
@[simp] theorem modPort_dstate : (s.modPort p g).dstate = s.dstate := rfl
@[simp] theorem modPort_drain : (s.modPort p g).drain = s.drain := rfl
@[simp] theorem modPort_drainUnits : (s.modPort p g).drainUnits = s.drainUnits := rfl
@[simp] theorem modPort_opDrain : (s.modPort p g).opDrain = s.opDrain := rfl
@[simp] theorem modPort_histories : (s.modPort p g).histories = s.histories := rfl
@[simp] theorem modPort_life : (s.modPort p g).life = s.life := rfl
@[simp] theorem modPort_bins : (s.modPort p g).bins = s.bins := rfl
@[simp] theorem modPort_histAt : (s.modPort p g).histAt = s.histAt := rfl
@[simp] theorem modPort_histOwed : (s.modPort p g).histOwed = s.histOwed := rfl
@[simp] theorem modPort_epoch : (s.modPort p g).epoch = s.epoch := rfl
@[simp] theorem modPort_tallyAt : (s.modPort p g).tallyAt = s.tallyAt := rfl
@[simp] theorem modPort_tallies : (s.modPort p g).tallies = s.tallies := rfl
@[simp] theorem modPort_shadows : (s.modPort p g).shadows = s.shadows := rfl
@[simp] theorem modPort_buffer : (s.modPort p g).buffer = s.buffer := rfl
@[simp] theorem modPort_sectors : (s.modPort p g).sectors = s.sectors := rfl
@[simp] theorem modPort_coalesced : (s.modPort p g).coalesced = s.coalesced := rfl
@[simp] theorem modPort_snapMin : (s.modPort p g).snapMin = s.snapMin := rfl
@[simp] theorem modPort_minuteAt : (s.modPort p g).minuteAt = s.minuteAt := rfl
@[simp] theorem modPort_tele : (s.modPort p g).tele = s.tele := rfl
@[simp] theorem modPort_discRun : (s.modPort p g).discRun = s.discRun := rfl
@[simp] theorem modPort_discGap : (s.modPort p g).discGap = s.discGap := rfl
@[simp] theorem modPort_avsFails : (s.modPort p g).avsFails = s.avsFails := rfl
@[simp] theorem modPort_avsOk : (s.modPort p g).avsOk = s.avsOk := rfl
@[simp] theorem modPort_avsMa : (s.modPort p g).avsMa = s.avsMa := rfl
@[simp] theorem modPort_avsMv : (s.modPort p g).avsMv = s.avsMv := rfl
@[simp] theorem modPort_vibWritten : (s.modPort p g).vibWritten = s.vibWritten := rfl
@[simp] theorem modPort_vibOwed : (s.modPort p g).vibOwed = s.vibOwed := rfl
@[simp] theorem modPort_vibFrom : (s.modPort p g).vibFrom = s.vibFrom := rfl
@[simp] theorem modPort_avsRate : (s.modPort p g).avsRate = s.avsRate := rfl
@[simp] theorem modPort_avsRead : (s.modPort p g).avsRead = s.avsRead := rfl
@[simp] theorem modPort_vibOff : (s.modPort p g).vibOff = s.vibOff := rfl
@[simp] theorem modPort_mismatchRun : (s.modPort p g).mismatchRun = s.mismatchRun := rfl
@[simp] theorem modPort_lostAvs : (s.modPort p g).lostAvs = s.lostAvs := rfl
@[simp] theorem modPort_energyUj : (s.modPort p g).energyUj = s.energyUj := rfl
@[simp] theorem modPort_temps : (s.modPort p g).temps = s.temps := rfl
@[simp] theorem modPort_stuck : (s.modPort p g).stuck = s.stuck := rfl
@[simp] theorem modPort_cool : (s.modPort p g).cool = s.cool := rfl
@[simp] theorem modPort_heatBy : (s.modPort p g).heatBy = s.heatBy := rfl
@[simp] theorem modPort_diodeBad : (s.modPort p g).diodeBad = s.diodeBad := rfl
@[simp] theorem modPort_thmAt : (s.modPort p g).thmAt = s.thmAt := rfl
@[simp] theorem modPort_fastRun : (s.modPort p g).fastRun = s.fastRun := rfl
@[simp] theorem modPort_warnAt : (s.modPort p g).warnAt = s.warnAt := rfl
@[simp] theorem modPort_trimAt : (s.modPort p g).trimAt = s.trimAt := rfl
@[simp] theorem modPort_coolFrom : (s.modPort p g).coolFrom = s.coolFrom := rfl
@[simp] theorem modPort_stopKind : (s.modPort p g).stopKind = s.stopKind := rfl
@[simp] theorem modPort_stopAt : (s.modPort p g).stopAt = s.stopAt := rfl
@[simp] theorem modPort_trip : (s.modPort p g).trip = s.trip := rfl
@[simp] theorem modPort_flocks : (s.modPort p g).flocks = s.flocks := rfl
@[simp] theorem modPort_flockAt : (s.modPort p g).flockAt = s.flockAt := rfl
@[simp] theorem modPort_flockDone : (s.modPort p g).flockDone = s.flockDone := rfl
@[simp] theorem modPort_relayed : (s.modPort p g).relayed = s.relayed := rfl
@[simp] theorem modPort_drecSeq : (s.modPort p g).drecSeq = s.drecSeq := rfl
@[simp] theorem modPort_standby : (s.modPort p g).standby = s.standby := rfl
@[simp] theorem modPort_idleFrom : (s.modPort p g).idleFrom = s.idleFrom := rfl
@[simp] theorem modPort_ptpRun : (s.modPort p g).ptpRun = s.ptpRun := rfl
@[simp] theorem modPort_ptpAt : (s.modPort p g).ptpAt = s.ptpAt := rfl
@[simp] theorem modPort_ptpOff : (s.modPort p g).ptpOff = s.ptpOff := rfl
@[simp] theorem modPort_authFails : (s.modPort p g).authFails = s.authFails := rfl
@[simp] theorem modPort_alerts : (s.modPort p g).alerts = s.alerts := rfl
@[simp] theorem modPort_spdmOut : (s.modPort p g).spdmOut = s.spdmOut := rfl
end

section
variable (s : State) (h : Nat) (x : History)
@[simp] theorem setHist_pending : (s.setHist h x).pending = s.pending := rfl
@[simp] theorem setHist_now : (s.setHist h x).now = s.now := rfl
@[simp] theorem setHist_frac : (s.setHist h x).frac = s.frac := rfl
@[simp] theorem setHist_ppm : (s.setHist h x).ppm = s.ppm := rfl
@[simp] theorem setHist_ppmUntil : (s.setHist h x).ppmUntil = s.ppmUntil := rfl
@[simp] theorem setHist_timeLocked : (s.setHist h x).timeLocked = s.timeLocked := rfl
@[simp] theorem setHist_lockRun : (s.setHist h x).lockRun = s.lockRun := rfl
@[simp] theorem setHist_rootConflict : (s.setHist h x).rootConflict = s.rootConflict := rfl
@[simp] theorem setHist_laneAt : (s.setHist h x).laneAt = s.laneAt := rfl
@[simp] theorem setHist_drvIn : (s.setHist h x).drvIn = s.drvIn := rfl
@[simp] theorem setHist_jobEver : (s.setHist h x).jobEver = s.jobEver := rfl
@[simp] theorem setHist_phase : (s.setHist h x).phase = s.phase := rfl
@[simp] theorem setHist_drawn : (s.setHist h x).drawn = s.drawn := rfl
@[simp] theorem setHist_regs : (s.setHist h x).regs = s.regs := rfl
@[simp] theorem setHist_lrecHeld : (s.setHist h x).lrecHeld = s.lrecHeld := rfl
@[simp] theorem setHist_tiles : (s.setHist h x).tiles = s.tiles := rfl
@[simp] theorem setHist_folds : (s.setHist h x).folds = s.folds := rfl
@[simp] theorem setHist_reguls : (s.setHist h x).reguls = s.reguls := rfl
@[simp] theorem setHist_loops : (s.setHist h x).loops = s.loops := rfl
@[simp] theorem setHist_mboxes : (s.setHist h x).mboxes = s.mboxes := rfl
@[simp] theorem setHist_sessions : (s.setHist h x).sessions = s.sessions := rfl
@[simp] theorem setHist_ports : (s.setHist h x).ports = s.ports := rfl
@[simp] theorem setHist_conns : (s.setHist h x).conns = s.conns := rfl
@[simp] theorem setHist_jobs : (s.setHist h x).jobs = s.jobs := rfl
@[simp] theorem setHist_flows : (s.setHist h x).flows = s.flows := rfl
@[simp] theorem setHist_exports : (s.setHist h x).exports = s.exports := rfl
@[simp] theorem setHist_mesh : (s.setHist h x).mesh = s.mesh := rfl
@[simp] theorem setHist_credits : (s.setHist h x).credits = s.credits := rfl
@[simp] theorem setHist_meshStop : (s.setHist h x).meshStop = s.meshStop := rfl
@[simp] theorem setHist_creditQ : (s.setHist h x).creditQ = s.creditQ := rfl
@[simp] theorem setHist_foldReply : (s.setHist h x).foldReply = s.foldReply := rfl
@[simp] theorem setHist_keys : (s.setHist h x).keys = s.keys := rfl
@[simp] theorem setHist_ringHeld : (s.setHist h x).ringHeld = s.ringHeld := rfl
@[simp] theorem setHist_ringQ : (s.setHist h x).ringQ = s.ringQ := rfl
@[simp] theorem setHist_ringIrq : (s.setHist h x).ringIrq = s.ringIrq := rfl
@[simp] theorem setHist_drvGrants : (s.setHist h x).drvGrants = s.drvGrants := rfl
@[simp] theorem setHist_drvHorizon : (s.setHist h x).drvHorizon = s.drvHorizon := rfl
@[simp] theorem setHist_host : (s.setHist h x).host = s.host := rfl
@[simp] theorem setHist_busMaster : (s.setHist h x).busMaster = s.busMaster := rfl
@[simp] theorem setHist_msix : (s.setHist h x).msix = s.msix := rfl
@[simp] theorem setHist_msixTab : (s.setHist h x).msixTab = s.msixTab := rfl
@[simp] theorem setHist_msixPend : (s.setHist h x).msixPend = s.msixPend := rfl
@[simp] theorem setHist_events : (s.setHist h x).events = s.events := rfl
@[simp] theorem setHist_evSeq : (s.setHist h x).evSeq = s.evSeq := rfl
@[simp] theorem setHist_evKept : (s.setHist h x).evKept = s.evKept := rfl
@[simp] theorem setHist_cfg : (s.setHist h x).cfg = s.cfg := rfl
@[simp] theorem setHist_limits : (s.setHist h x).limits = s.limits := rfl
@[simp] theorem setHist_report : (s.setHist h x).report = s.report := rfl
@[simp] theorem setHist_flash : (s.setHist h x).flash = s.flash := rfl
@[simp] theorem setHist_stackRecord : (s.setHist h x).stackRecord = s.stackRecord := rfl
@[simp] theorem setHist_operator : (s.setHist h x).operator = s.operator := rfl
@[simp] theorem setHist_fwVersion : (s.setHist h x).fwVersion = s.fwVersion := rfl
@[simp] theorem setHist_fwLevel : (s.setHist h x).fwLevel = s.fwLevel := rfl
@[simp] theorem setHist_fwImage : (s.setHist h x).fwImage = s.fwImage := rfl
@[simp] theorem setHist_fwFails : (s.setHist h x).fwFails = s.fwFails := rfl
@[simp] theorem setHist_acceptSeq : (s.setHist h x).acceptSeq = s.acceptSeq := rfl
@[simp] theorem setHist_acceptPos : (s.setHist h x).acceptPos = s.acceptPos := rfl
@[simp] theorem setHist_sessGen : (s.setHist h x).sessGen = s.sessGen := rfl
@[simp] theorem setHist_jobTag : (s.setHist h x).jobTag = s.jobTag := rfl
@[simp] theorem setHist_handles : (s.setHist h x).handles = s.handles := rfl
@[simp] theorem setHist_dstate : (s.setHist h x).dstate = s.dstate := rfl
@[simp] theorem setHist_drain : (s.setHist h x).drain = s.drain := rfl
@[simp] theorem setHist_drainUnits : (s.setHist h x).drainUnits = s.drainUnits := rfl
@[simp] theorem setHist_opDrain : (s.setHist h x).opDrain = s.opDrain := rfl
@[simp] theorem setHist_life : (s.setHist h x).life = s.life := rfl
@[simp] theorem setHist_bins : (s.setHist h x).bins = s.bins := rfl
@[simp] theorem setHist_histAt : (s.setHist h x).histAt = s.histAt := rfl
@[simp] theorem setHist_histOwed : (s.setHist h x).histOwed = s.histOwed := rfl
@[simp] theorem setHist_epoch : (s.setHist h x).epoch = s.epoch := rfl
@[simp] theorem setHist_tallyAt : (s.setHist h x).tallyAt = s.tallyAt := rfl
@[simp] theorem setHist_tallies : (s.setHist h x).tallies = s.tallies := rfl
@[simp] theorem setHist_shadows : (s.setHist h x).shadows = s.shadows := rfl
@[simp] theorem setHist_buffer : (s.setHist h x).buffer = s.buffer := rfl
@[simp] theorem setHist_sectors : (s.setHist h x).sectors = s.sectors := rfl
@[simp] theorem setHist_coalesced : (s.setHist h x).coalesced = s.coalesced := rfl
@[simp] theorem setHist_snapMin : (s.setHist h x).snapMin = s.snapMin := rfl
@[simp] theorem setHist_minuteAt : (s.setHist h x).minuteAt = s.minuteAt := rfl
@[simp] theorem setHist_tele : (s.setHist h x).tele = s.tele := rfl
@[simp] theorem setHist_discRun : (s.setHist h x).discRun = s.discRun := rfl
@[simp] theorem setHist_discGap : (s.setHist h x).discGap = s.discGap := rfl
@[simp] theorem setHist_avsFails : (s.setHist h x).avsFails = s.avsFails := rfl
@[simp] theorem setHist_avsOk : (s.setHist h x).avsOk = s.avsOk := rfl
@[simp] theorem setHist_avsMa : (s.setHist h x).avsMa = s.avsMa := rfl
@[simp] theorem setHist_avsMv : (s.setHist h x).avsMv = s.avsMv := rfl
@[simp] theorem setHist_vibWritten : (s.setHist h x).vibWritten = s.vibWritten := rfl
@[simp] theorem setHist_vibOwed : (s.setHist h x).vibOwed = s.vibOwed := rfl
@[simp] theorem setHist_vibFrom : (s.setHist h x).vibFrom = s.vibFrom := rfl
@[simp] theorem setHist_avsRate : (s.setHist h x).avsRate = s.avsRate := rfl
@[simp] theorem setHist_avsRead : (s.setHist h x).avsRead = s.avsRead := rfl
@[simp] theorem setHist_vibOff : (s.setHist h x).vibOff = s.vibOff := rfl
@[simp] theorem setHist_mismatchRun : (s.setHist h x).mismatchRun = s.mismatchRun := rfl
@[simp] theorem setHist_lostAvs : (s.setHist h x).lostAvs = s.lostAvs := rfl
@[simp] theorem setHist_energyUj : (s.setHist h x).energyUj = s.energyUj := rfl
@[simp] theorem setHist_temps : (s.setHist h x).temps = s.temps := rfl
@[simp] theorem setHist_stuck : (s.setHist h x).stuck = s.stuck := rfl
@[simp] theorem setHist_cool : (s.setHist h x).cool = s.cool := rfl
@[simp] theorem setHist_heatBy : (s.setHist h x).heatBy = s.heatBy := rfl
@[simp] theorem setHist_diodeBad : (s.setHist h x).diodeBad = s.diodeBad := rfl
@[simp] theorem setHist_thmAt : (s.setHist h x).thmAt = s.thmAt := rfl
@[simp] theorem setHist_fastRun : (s.setHist h x).fastRun = s.fastRun := rfl
@[simp] theorem setHist_warnAt : (s.setHist h x).warnAt = s.warnAt := rfl
@[simp] theorem setHist_trimAt : (s.setHist h x).trimAt = s.trimAt := rfl
@[simp] theorem setHist_coolFrom : (s.setHist h x).coolFrom = s.coolFrom := rfl
@[simp] theorem setHist_stopKind : (s.setHist h x).stopKind = s.stopKind := rfl
@[simp] theorem setHist_stopAt : (s.setHist h x).stopAt = s.stopAt := rfl
@[simp] theorem setHist_trip : (s.setHist h x).trip = s.trip := rfl
@[simp] theorem setHist_flocks : (s.setHist h x).flocks = s.flocks := rfl
@[simp] theorem setHist_flockAt : (s.setHist h x).flockAt = s.flockAt := rfl
@[simp] theorem setHist_flockDone : (s.setHist h x).flockDone = s.flockDone := rfl
@[simp] theorem setHist_relayed : (s.setHist h x).relayed = s.relayed := rfl
@[simp] theorem setHist_drecSeq : (s.setHist h x).drecSeq = s.drecSeq := rfl
@[simp] theorem setHist_standby : (s.setHist h x).standby = s.standby := rfl
@[simp] theorem setHist_idleFrom : (s.setHist h x).idleFrom = s.idleFrom := rfl
@[simp] theorem setHist_ptpRun : (s.setHist h x).ptpRun = s.ptpRun := rfl
@[simp] theorem setHist_ptpAt : (s.setHist h x).ptpAt = s.ptpAt := rfl
@[simp] theorem setHist_ptpOff : (s.setHist h x).ptpOff = s.ptpOff := rfl
@[simp] theorem setHist_authFails : (s.setHist h x).authFails = s.authFails := rfl
@[simp] theorem setHist_alerts : (s.setHist h x).alerts = s.alerts := rfl
@[simp] theorem setHist_spdmOut : (s.setHist h x).spdmOut = s.spdmOut := rfl
end

section
variable (s : State) (j : Job)
@[simp] theorem setJob_pending : (s.setJob j).pending = s.pending := rfl
@[simp] theorem setJob_now : (s.setJob j).now = s.now := rfl
@[simp] theorem setJob_frac : (s.setJob j).frac = s.frac := rfl
@[simp] theorem setJob_ppm : (s.setJob j).ppm = s.ppm := rfl
@[simp] theorem setJob_ppmUntil : (s.setJob j).ppmUntil = s.ppmUntil := rfl
@[simp] theorem setJob_timeLocked : (s.setJob j).timeLocked = s.timeLocked := rfl
@[simp] theorem setJob_lockRun : (s.setJob j).lockRun = s.lockRun := rfl
@[simp] theorem setJob_rootConflict : (s.setJob j).rootConflict = s.rootConflict := rfl
@[simp] theorem setJob_laneAt : (s.setJob j).laneAt = s.laneAt := rfl
@[simp] theorem setJob_drvIn : (s.setJob j).drvIn = s.drvIn := rfl
@[simp] theorem setJob_jobEver : (s.setJob j).jobEver = s.jobEver := rfl
@[simp] theorem setJob_phase : (s.setJob j).phase = s.phase := rfl
@[simp] theorem setJob_drawn : (s.setJob j).drawn = s.drawn := rfl
@[simp] theorem setJob_regs : (s.setJob j).regs = s.regs := rfl
@[simp] theorem setJob_lrecHeld : (s.setJob j).lrecHeld = s.lrecHeld := rfl
@[simp] theorem setJob_tiles : (s.setJob j).tiles = s.tiles := rfl
@[simp] theorem setJob_folds : (s.setJob j).folds = s.folds := rfl
@[simp] theorem setJob_reguls : (s.setJob j).reguls = s.reguls := rfl
@[simp] theorem setJob_loops : (s.setJob j).loops = s.loops := rfl
@[simp] theorem setJob_mboxes : (s.setJob j).mboxes = s.mboxes := rfl
@[simp] theorem setJob_sessions : (s.setJob j).sessions = s.sessions := rfl
@[simp] theorem setJob_ports : (s.setJob j).ports = s.ports := rfl
@[simp] theorem setJob_conns : (s.setJob j).conns = s.conns := rfl
@[simp] theorem setJob_flows : (s.setJob j).flows = s.flows := rfl
@[simp] theorem setJob_exports : (s.setJob j).exports = s.exports := rfl
@[simp] theorem setJob_mesh : (s.setJob j).mesh = s.mesh := rfl
@[simp] theorem setJob_credits : (s.setJob j).credits = s.credits := rfl
@[simp] theorem setJob_meshStop : (s.setJob j).meshStop = s.meshStop := rfl
@[simp] theorem setJob_creditQ : (s.setJob j).creditQ = s.creditQ := rfl
@[simp] theorem setJob_foldReply : (s.setJob j).foldReply = s.foldReply := rfl
@[simp] theorem setJob_keys : (s.setJob j).keys = s.keys := rfl
@[simp] theorem setJob_ringHeld : (s.setJob j).ringHeld = s.ringHeld := rfl
@[simp] theorem setJob_ringQ : (s.setJob j).ringQ = s.ringQ := rfl
@[simp] theorem setJob_ringIrq : (s.setJob j).ringIrq = s.ringIrq := rfl
@[simp] theorem setJob_drvGrants : (s.setJob j).drvGrants = s.drvGrants := rfl
@[simp] theorem setJob_drvHorizon : (s.setJob j).drvHorizon = s.drvHorizon := rfl
@[simp] theorem setJob_host : (s.setJob j).host = s.host := rfl
@[simp] theorem setJob_busMaster : (s.setJob j).busMaster = s.busMaster := rfl
@[simp] theorem setJob_msix : (s.setJob j).msix = s.msix := rfl
@[simp] theorem setJob_msixTab : (s.setJob j).msixTab = s.msixTab := rfl
@[simp] theorem setJob_msixPend : (s.setJob j).msixPend = s.msixPend := rfl
@[simp] theorem setJob_events : (s.setJob j).events = s.events := rfl
@[simp] theorem setJob_evSeq : (s.setJob j).evSeq = s.evSeq := rfl
@[simp] theorem setJob_evKept : (s.setJob j).evKept = s.evKept := rfl
@[simp] theorem setJob_cfg : (s.setJob j).cfg = s.cfg := rfl
@[simp] theorem setJob_limits : (s.setJob j).limits = s.limits := rfl
@[simp] theorem setJob_report : (s.setJob j).report = s.report := rfl
@[simp] theorem setJob_flash : (s.setJob j).flash = s.flash := rfl
@[simp] theorem setJob_stackRecord : (s.setJob j).stackRecord = s.stackRecord := rfl
@[simp] theorem setJob_operator : (s.setJob j).operator = s.operator := rfl
@[simp] theorem setJob_fwVersion : (s.setJob j).fwVersion = s.fwVersion := rfl
@[simp] theorem setJob_fwLevel : (s.setJob j).fwLevel = s.fwLevel := rfl
@[simp] theorem setJob_fwImage : (s.setJob j).fwImage = s.fwImage := rfl
@[simp] theorem setJob_fwFails : (s.setJob j).fwFails = s.fwFails := rfl
@[simp] theorem setJob_acceptSeq : (s.setJob j).acceptSeq = s.acceptSeq := rfl
@[simp] theorem setJob_acceptPos : (s.setJob j).acceptPos = s.acceptPos := rfl
@[simp] theorem setJob_sessGen : (s.setJob j).sessGen = s.sessGen := rfl
@[simp] theorem setJob_jobTag : (s.setJob j).jobTag = s.jobTag := rfl
@[simp] theorem setJob_handles : (s.setJob j).handles = s.handles := rfl
@[simp] theorem setJob_dstate : (s.setJob j).dstate = s.dstate := rfl
@[simp] theorem setJob_drain : (s.setJob j).drain = s.drain := rfl
@[simp] theorem setJob_drainUnits : (s.setJob j).drainUnits = s.drainUnits := rfl
@[simp] theorem setJob_opDrain : (s.setJob j).opDrain = s.opDrain := rfl
@[simp] theorem setJob_histories : (s.setJob j).histories = s.histories := rfl
@[simp] theorem setJob_life : (s.setJob j).life = s.life := rfl
@[simp] theorem setJob_bins : (s.setJob j).bins = s.bins := rfl
@[simp] theorem setJob_histAt : (s.setJob j).histAt = s.histAt := rfl
@[simp] theorem setJob_histOwed : (s.setJob j).histOwed = s.histOwed := rfl
@[simp] theorem setJob_epoch : (s.setJob j).epoch = s.epoch := rfl
@[simp] theorem setJob_tallyAt : (s.setJob j).tallyAt = s.tallyAt := rfl
@[simp] theorem setJob_tallies : (s.setJob j).tallies = s.tallies := rfl
@[simp] theorem setJob_shadows : (s.setJob j).shadows = s.shadows := rfl
@[simp] theorem setJob_buffer : (s.setJob j).buffer = s.buffer := rfl
@[simp] theorem setJob_sectors : (s.setJob j).sectors = s.sectors := rfl
@[simp] theorem setJob_coalesced : (s.setJob j).coalesced = s.coalesced := rfl
@[simp] theorem setJob_snapMin : (s.setJob j).snapMin = s.snapMin := rfl
@[simp] theorem setJob_minuteAt : (s.setJob j).minuteAt = s.minuteAt := rfl
@[simp] theorem setJob_tele : (s.setJob j).tele = s.tele := rfl
@[simp] theorem setJob_discRun : (s.setJob j).discRun = s.discRun := rfl
@[simp] theorem setJob_discGap : (s.setJob j).discGap = s.discGap := rfl
@[simp] theorem setJob_avsFails : (s.setJob j).avsFails = s.avsFails := rfl
@[simp] theorem setJob_avsOk : (s.setJob j).avsOk = s.avsOk := rfl
@[simp] theorem setJob_avsMa : (s.setJob j).avsMa = s.avsMa := rfl
@[simp] theorem setJob_avsMv : (s.setJob j).avsMv = s.avsMv := rfl
@[simp] theorem setJob_vibWritten : (s.setJob j).vibWritten = s.vibWritten := rfl
@[simp] theorem setJob_vibOwed : (s.setJob j).vibOwed = s.vibOwed := rfl
@[simp] theorem setJob_vibFrom : (s.setJob j).vibFrom = s.vibFrom := rfl
@[simp] theorem setJob_avsRate : (s.setJob j).avsRate = s.avsRate := rfl
@[simp] theorem setJob_avsRead : (s.setJob j).avsRead = s.avsRead := rfl
@[simp] theorem setJob_vibOff : (s.setJob j).vibOff = s.vibOff := rfl
@[simp] theorem setJob_mismatchRun : (s.setJob j).mismatchRun = s.mismatchRun := rfl
@[simp] theorem setJob_lostAvs : (s.setJob j).lostAvs = s.lostAvs := rfl
@[simp] theorem setJob_energyUj : (s.setJob j).energyUj = s.energyUj := rfl
@[simp] theorem setJob_temps : (s.setJob j).temps = s.temps := rfl
@[simp] theorem setJob_stuck : (s.setJob j).stuck = s.stuck := rfl
@[simp] theorem setJob_cool : (s.setJob j).cool = s.cool := rfl
@[simp] theorem setJob_heatBy : (s.setJob j).heatBy = s.heatBy := rfl
@[simp] theorem setJob_diodeBad : (s.setJob j).diodeBad = s.diodeBad := rfl
@[simp] theorem setJob_thmAt : (s.setJob j).thmAt = s.thmAt := rfl
@[simp] theorem setJob_fastRun : (s.setJob j).fastRun = s.fastRun := rfl
@[simp] theorem setJob_warnAt : (s.setJob j).warnAt = s.warnAt := rfl
@[simp] theorem setJob_trimAt : (s.setJob j).trimAt = s.trimAt := rfl
@[simp] theorem setJob_coolFrom : (s.setJob j).coolFrom = s.coolFrom := rfl
@[simp] theorem setJob_stopKind : (s.setJob j).stopKind = s.stopKind := rfl
@[simp] theorem setJob_stopAt : (s.setJob j).stopAt = s.stopAt := rfl
@[simp] theorem setJob_trip : (s.setJob j).trip = s.trip := rfl
@[simp] theorem setJob_flocks : (s.setJob j).flocks = s.flocks := rfl
@[simp] theorem setJob_flockAt : (s.setJob j).flockAt = s.flockAt := rfl
@[simp] theorem setJob_flockDone : (s.setJob j).flockDone = s.flockDone := rfl
@[simp] theorem setJob_relayed : (s.setJob j).relayed = s.relayed := rfl
@[simp] theorem setJob_drecSeq : (s.setJob j).drecSeq = s.drecSeq := rfl
@[simp] theorem setJob_standby : (s.setJob j).standby = s.standby := rfl
@[simp] theorem setJob_idleFrom : (s.setJob j).idleFrom = s.idleFrom := rfl
@[simp] theorem setJob_ptpRun : (s.setJob j).ptpRun = s.ptpRun := rfl
@[simp] theorem setJob_ptpAt : (s.setJob j).ptpAt = s.ptpAt := rfl
@[simp] theorem setJob_ptpOff : (s.setJob j).ptpOff = s.ptpOff := rfl
@[simp] theorem setJob_authFails : (s.setJob j).authFails = s.authFails := rfl
@[simp] theorem setJob_alerts : (s.setJob j).alerts = s.alerts := rfl
@[simp] theorem setJob_spdmOut : (s.setJob j).spdmOut = s.spdmOut := rfl
end

section
variable (s : State) (j : Nat) (g : Job → Job)
@[simp] theorem modJob_pending : (s.modJob j g).pending = s.pending := rfl
@[simp] theorem modJob_now : (s.modJob j g).now = s.now := rfl
@[simp] theorem modJob_frac : (s.modJob j g).frac = s.frac := rfl
@[simp] theorem modJob_ppm : (s.modJob j g).ppm = s.ppm := rfl
@[simp] theorem modJob_ppmUntil : (s.modJob j g).ppmUntil = s.ppmUntil := rfl
@[simp] theorem modJob_timeLocked : (s.modJob j g).timeLocked = s.timeLocked := rfl
@[simp] theorem modJob_lockRun : (s.modJob j g).lockRun = s.lockRun := rfl
@[simp] theorem modJob_rootConflict : (s.modJob j g).rootConflict = s.rootConflict := rfl
@[simp] theorem modJob_laneAt : (s.modJob j g).laneAt = s.laneAt := rfl
@[simp] theorem modJob_drvIn : (s.modJob j g).drvIn = s.drvIn := rfl
@[simp] theorem modJob_jobEver : (s.modJob j g).jobEver = s.jobEver := rfl
@[simp] theorem modJob_phase : (s.modJob j g).phase = s.phase := rfl
@[simp] theorem modJob_drawn : (s.modJob j g).drawn = s.drawn := rfl
@[simp] theorem modJob_regs : (s.modJob j g).regs = s.regs := rfl
@[simp] theorem modJob_lrecHeld : (s.modJob j g).lrecHeld = s.lrecHeld := rfl
@[simp] theorem modJob_tiles : (s.modJob j g).tiles = s.tiles := rfl
@[simp] theorem modJob_folds : (s.modJob j g).folds = s.folds := rfl
@[simp] theorem modJob_reguls : (s.modJob j g).reguls = s.reguls := rfl
@[simp] theorem modJob_loops : (s.modJob j g).loops = s.loops := rfl
@[simp] theorem modJob_mboxes : (s.modJob j g).mboxes = s.mboxes := rfl
@[simp] theorem modJob_sessions : (s.modJob j g).sessions = s.sessions := rfl
@[simp] theorem modJob_ports : (s.modJob j g).ports = s.ports := rfl
@[simp] theorem modJob_conns : (s.modJob j g).conns = s.conns := rfl
@[simp] theorem modJob_flows : (s.modJob j g).flows = s.flows := rfl
@[simp] theorem modJob_exports : (s.modJob j g).exports = s.exports := rfl
@[simp] theorem modJob_mesh : (s.modJob j g).mesh = s.mesh := rfl
@[simp] theorem modJob_credits : (s.modJob j g).credits = s.credits := rfl
@[simp] theorem modJob_meshStop : (s.modJob j g).meshStop = s.meshStop := rfl
@[simp] theorem modJob_creditQ : (s.modJob j g).creditQ = s.creditQ := rfl
@[simp] theorem modJob_foldReply : (s.modJob j g).foldReply = s.foldReply := rfl
@[simp] theorem modJob_keys : (s.modJob j g).keys = s.keys := rfl
@[simp] theorem modJob_ringHeld : (s.modJob j g).ringHeld = s.ringHeld := rfl
@[simp] theorem modJob_ringQ : (s.modJob j g).ringQ = s.ringQ := rfl
@[simp] theorem modJob_ringIrq : (s.modJob j g).ringIrq = s.ringIrq := rfl
@[simp] theorem modJob_drvGrants : (s.modJob j g).drvGrants = s.drvGrants := rfl
@[simp] theorem modJob_drvHorizon : (s.modJob j g).drvHorizon = s.drvHorizon := rfl
@[simp] theorem modJob_host : (s.modJob j g).host = s.host := rfl
@[simp] theorem modJob_busMaster : (s.modJob j g).busMaster = s.busMaster := rfl
@[simp] theorem modJob_msix : (s.modJob j g).msix = s.msix := rfl
@[simp] theorem modJob_msixTab : (s.modJob j g).msixTab = s.msixTab := rfl
@[simp] theorem modJob_msixPend : (s.modJob j g).msixPend = s.msixPend := rfl
@[simp] theorem modJob_events : (s.modJob j g).events = s.events := rfl
@[simp] theorem modJob_evSeq : (s.modJob j g).evSeq = s.evSeq := rfl
@[simp] theorem modJob_evKept : (s.modJob j g).evKept = s.evKept := rfl
@[simp] theorem modJob_cfg : (s.modJob j g).cfg = s.cfg := rfl
@[simp] theorem modJob_limits : (s.modJob j g).limits = s.limits := rfl
@[simp] theorem modJob_report : (s.modJob j g).report = s.report := rfl
@[simp] theorem modJob_flash : (s.modJob j g).flash = s.flash := rfl
@[simp] theorem modJob_stackRecord : (s.modJob j g).stackRecord = s.stackRecord := rfl
@[simp] theorem modJob_operator : (s.modJob j g).operator = s.operator := rfl
@[simp] theorem modJob_fwVersion : (s.modJob j g).fwVersion = s.fwVersion := rfl
@[simp] theorem modJob_fwLevel : (s.modJob j g).fwLevel = s.fwLevel := rfl
@[simp] theorem modJob_fwImage : (s.modJob j g).fwImage = s.fwImage := rfl
@[simp] theorem modJob_fwFails : (s.modJob j g).fwFails = s.fwFails := rfl
@[simp] theorem modJob_acceptSeq : (s.modJob j g).acceptSeq = s.acceptSeq := rfl
@[simp] theorem modJob_acceptPos : (s.modJob j g).acceptPos = s.acceptPos := rfl
@[simp] theorem modJob_sessGen : (s.modJob j g).sessGen = s.sessGen := rfl
@[simp] theorem modJob_jobTag : (s.modJob j g).jobTag = s.jobTag := rfl
@[simp] theorem modJob_handles : (s.modJob j g).handles = s.handles := rfl
@[simp] theorem modJob_dstate : (s.modJob j g).dstate = s.dstate := rfl
@[simp] theorem modJob_drain : (s.modJob j g).drain = s.drain := rfl
@[simp] theorem modJob_drainUnits : (s.modJob j g).drainUnits = s.drainUnits := rfl
@[simp] theorem modJob_opDrain : (s.modJob j g).opDrain = s.opDrain := rfl
@[simp] theorem modJob_histories : (s.modJob j g).histories = s.histories := rfl
@[simp] theorem modJob_life : (s.modJob j g).life = s.life := rfl
@[simp] theorem modJob_bins : (s.modJob j g).bins = s.bins := rfl
@[simp] theorem modJob_histAt : (s.modJob j g).histAt = s.histAt := rfl
@[simp] theorem modJob_histOwed : (s.modJob j g).histOwed = s.histOwed := rfl
@[simp] theorem modJob_epoch : (s.modJob j g).epoch = s.epoch := rfl
@[simp] theorem modJob_tallyAt : (s.modJob j g).tallyAt = s.tallyAt := rfl
@[simp] theorem modJob_tallies : (s.modJob j g).tallies = s.tallies := rfl
@[simp] theorem modJob_shadows : (s.modJob j g).shadows = s.shadows := rfl
@[simp] theorem modJob_buffer : (s.modJob j g).buffer = s.buffer := rfl
@[simp] theorem modJob_sectors : (s.modJob j g).sectors = s.sectors := rfl
@[simp] theorem modJob_coalesced : (s.modJob j g).coalesced = s.coalesced := rfl
@[simp] theorem modJob_snapMin : (s.modJob j g).snapMin = s.snapMin := rfl
@[simp] theorem modJob_minuteAt : (s.modJob j g).minuteAt = s.minuteAt := rfl
@[simp] theorem modJob_tele : (s.modJob j g).tele = s.tele := rfl
@[simp] theorem modJob_discRun : (s.modJob j g).discRun = s.discRun := rfl
@[simp] theorem modJob_discGap : (s.modJob j g).discGap = s.discGap := rfl
@[simp] theorem modJob_avsFails : (s.modJob j g).avsFails = s.avsFails := rfl
@[simp] theorem modJob_avsOk : (s.modJob j g).avsOk = s.avsOk := rfl
@[simp] theorem modJob_avsMa : (s.modJob j g).avsMa = s.avsMa := rfl
@[simp] theorem modJob_avsMv : (s.modJob j g).avsMv = s.avsMv := rfl
@[simp] theorem modJob_vibWritten : (s.modJob j g).vibWritten = s.vibWritten := rfl
@[simp] theorem modJob_vibOwed : (s.modJob j g).vibOwed = s.vibOwed := rfl
@[simp] theorem modJob_vibFrom : (s.modJob j g).vibFrom = s.vibFrom := rfl
@[simp] theorem modJob_avsRate : (s.modJob j g).avsRate = s.avsRate := rfl
@[simp] theorem modJob_avsRead : (s.modJob j g).avsRead = s.avsRead := rfl
@[simp] theorem modJob_vibOff : (s.modJob j g).vibOff = s.vibOff := rfl
@[simp] theorem modJob_mismatchRun : (s.modJob j g).mismatchRun = s.mismatchRun := rfl
@[simp] theorem modJob_lostAvs : (s.modJob j g).lostAvs = s.lostAvs := rfl
@[simp] theorem modJob_energyUj : (s.modJob j g).energyUj = s.energyUj := rfl
@[simp] theorem modJob_temps : (s.modJob j g).temps = s.temps := rfl
@[simp] theorem modJob_stuck : (s.modJob j g).stuck = s.stuck := rfl
@[simp] theorem modJob_cool : (s.modJob j g).cool = s.cool := rfl
@[simp] theorem modJob_heatBy : (s.modJob j g).heatBy = s.heatBy := rfl
@[simp] theorem modJob_diodeBad : (s.modJob j g).diodeBad = s.diodeBad := rfl
@[simp] theorem modJob_thmAt : (s.modJob j g).thmAt = s.thmAt := rfl
@[simp] theorem modJob_fastRun : (s.modJob j g).fastRun = s.fastRun := rfl
@[simp] theorem modJob_warnAt : (s.modJob j g).warnAt = s.warnAt := rfl
@[simp] theorem modJob_trimAt : (s.modJob j g).trimAt = s.trimAt := rfl
@[simp] theorem modJob_coolFrom : (s.modJob j g).coolFrom = s.coolFrom := rfl
@[simp] theorem modJob_stopKind : (s.modJob j g).stopKind = s.stopKind := rfl
@[simp] theorem modJob_stopAt : (s.modJob j g).stopAt = s.stopAt := rfl
@[simp] theorem modJob_trip : (s.modJob j g).trip = s.trip := rfl
@[simp] theorem modJob_flocks : (s.modJob j g).flocks = s.flocks := rfl
@[simp] theorem modJob_flockAt : (s.modJob j g).flockAt = s.flockAt := rfl
@[simp] theorem modJob_flockDone : (s.modJob j g).flockDone = s.flockDone := rfl
@[simp] theorem modJob_relayed : (s.modJob j g).relayed = s.relayed := rfl
@[simp] theorem modJob_drecSeq : (s.modJob j g).drecSeq = s.drecSeq := rfl
@[simp] theorem modJob_standby : (s.modJob j g).standby = s.standby := rfl
@[simp] theorem modJob_idleFrom : (s.modJob j g).idleFrom = s.idleFrom := rfl
@[simp] theorem modJob_ptpRun : (s.modJob j g).ptpRun = s.ptpRun := rfl
@[simp] theorem modJob_ptpAt : (s.modJob j g).ptpAt = s.ptpAt := rfl
@[simp] theorem modJob_ptpOff : (s.modJob j g).ptpOff = s.ptpOff := rfl
@[simp] theorem modJob_authFails : (s.modJob j g).authFails = s.authFails := rfl
@[simp] theorem modJob_alerts : (s.modJob j g).alerts = s.alerts := rfl
@[simp] theorem modJob_spdmOut : (s.modJob j g).spdmOut = s.spdmOut := rfl
end

section
variable (s : State) (a : Nat) (b : Bytes)
@[simp] theorem wrHost_pending : (s.wrHost a b).pending = s.pending := rfl
@[simp] theorem wrHost_now : (s.wrHost a b).now = s.now := rfl
@[simp] theorem wrHost_frac : (s.wrHost a b).frac = s.frac := rfl
@[simp] theorem wrHost_ppm : (s.wrHost a b).ppm = s.ppm := rfl
@[simp] theorem wrHost_ppmUntil : (s.wrHost a b).ppmUntil = s.ppmUntil := rfl
@[simp] theorem wrHost_timeLocked : (s.wrHost a b).timeLocked = s.timeLocked := rfl
@[simp] theorem wrHost_lockRun : (s.wrHost a b).lockRun = s.lockRun := rfl
@[simp] theorem wrHost_rootConflict : (s.wrHost a b).rootConflict = s.rootConflict := rfl
@[simp] theorem wrHost_laneAt : (s.wrHost a b).laneAt = s.laneAt := rfl
@[simp] theorem wrHost_drvIn : (s.wrHost a b).drvIn = s.drvIn := rfl
@[simp] theorem wrHost_jobEver : (s.wrHost a b).jobEver = s.jobEver := rfl
@[simp] theorem wrHost_phase : (s.wrHost a b).phase = s.phase := rfl
@[simp] theorem wrHost_drawn : (s.wrHost a b).drawn = s.drawn := rfl
@[simp] theorem wrHost_regs : (s.wrHost a b).regs = s.regs := rfl
@[simp] theorem wrHost_lrecHeld : (s.wrHost a b).lrecHeld = s.lrecHeld := rfl
@[simp] theorem wrHost_tiles : (s.wrHost a b).tiles = s.tiles := rfl
@[simp] theorem wrHost_folds : (s.wrHost a b).folds = s.folds := rfl
@[simp] theorem wrHost_reguls : (s.wrHost a b).reguls = s.reguls := rfl
@[simp] theorem wrHost_loops : (s.wrHost a b).loops = s.loops := rfl
@[simp] theorem wrHost_mboxes : (s.wrHost a b).mboxes = s.mboxes := rfl
@[simp] theorem wrHost_sessions : (s.wrHost a b).sessions = s.sessions := rfl
@[simp] theorem wrHost_ports : (s.wrHost a b).ports = s.ports := rfl
@[simp] theorem wrHost_conns : (s.wrHost a b).conns = s.conns := rfl
@[simp] theorem wrHost_jobs : (s.wrHost a b).jobs = s.jobs := rfl
@[simp] theorem wrHost_flows : (s.wrHost a b).flows = s.flows := rfl
@[simp] theorem wrHost_exports : (s.wrHost a b).exports = s.exports := rfl
@[simp] theorem wrHost_mesh : (s.wrHost a b).mesh = s.mesh := rfl
@[simp] theorem wrHost_credits : (s.wrHost a b).credits = s.credits := rfl
@[simp] theorem wrHost_meshStop : (s.wrHost a b).meshStop = s.meshStop := rfl
@[simp] theorem wrHost_creditQ : (s.wrHost a b).creditQ = s.creditQ := rfl
@[simp] theorem wrHost_foldReply : (s.wrHost a b).foldReply = s.foldReply := rfl
@[simp] theorem wrHost_keys : (s.wrHost a b).keys = s.keys := rfl
@[simp] theorem wrHost_ringHeld : (s.wrHost a b).ringHeld = s.ringHeld := rfl
@[simp] theorem wrHost_ringQ : (s.wrHost a b).ringQ = s.ringQ := rfl
@[simp] theorem wrHost_ringIrq : (s.wrHost a b).ringIrq = s.ringIrq := rfl
@[simp] theorem wrHost_drvGrants : (s.wrHost a b).drvGrants = s.drvGrants := rfl
@[simp] theorem wrHost_drvHorizon : (s.wrHost a b).drvHorizon = s.drvHorizon := rfl
@[simp] theorem wrHost_busMaster : (s.wrHost a b).busMaster = s.busMaster := rfl
@[simp] theorem wrHost_msix : (s.wrHost a b).msix = s.msix := rfl
@[simp] theorem wrHost_msixTab : (s.wrHost a b).msixTab = s.msixTab := rfl
@[simp] theorem wrHost_msixPend : (s.wrHost a b).msixPend = s.msixPend := rfl
@[simp] theorem wrHost_events : (s.wrHost a b).events = s.events := rfl
@[simp] theorem wrHost_evSeq : (s.wrHost a b).evSeq = s.evSeq := rfl
@[simp] theorem wrHost_evKept : (s.wrHost a b).evKept = s.evKept := rfl
@[simp] theorem wrHost_cfg : (s.wrHost a b).cfg = s.cfg := rfl
@[simp] theorem wrHost_limits : (s.wrHost a b).limits = s.limits := rfl
@[simp] theorem wrHost_report : (s.wrHost a b).report = s.report := rfl
@[simp] theorem wrHost_flash : (s.wrHost a b).flash = s.flash := rfl
@[simp] theorem wrHost_stackRecord : (s.wrHost a b).stackRecord = s.stackRecord := rfl
@[simp] theorem wrHost_operator : (s.wrHost a b).operator = s.operator := rfl
@[simp] theorem wrHost_fwVersion : (s.wrHost a b).fwVersion = s.fwVersion := rfl
@[simp] theorem wrHost_fwLevel : (s.wrHost a b).fwLevel = s.fwLevel := rfl
@[simp] theorem wrHost_fwImage : (s.wrHost a b).fwImage = s.fwImage := rfl
@[simp] theorem wrHost_fwFails : (s.wrHost a b).fwFails = s.fwFails := rfl
@[simp] theorem wrHost_acceptSeq : (s.wrHost a b).acceptSeq = s.acceptSeq := rfl
@[simp] theorem wrHost_acceptPos : (s.wrHost a b).acceptPos = s.acceptPos := rfl
@[simp] theorem wrHost_sessGen : (s.wrHost a b).sessGen = s.sessGen := rfl
@[simp] theorem wrHost_jobTag : (s.wrHost a b).jobTag = s.jobTag := rfl
@[simp] theorem wrHost_handles : (s.wrHost a b).handles = s.handles := rfl
@[simp] theorem wrHost_dstate : (s.wrHost a b).dstate = s.dstate := rfl
@[simp] theorem wrHost_drain : (s.wrHost a b).drain = s.drain := rfl
@[simp] theorem wrHost_drainUnits : (s.wrHost a b).drainUnits = s.drainUnits := rfl
@[simp] theorem wrHost_opDrain : (s.wrHost a b).opDrain = s.opDrain := rfl
@[simp] theorem wrHost_histories : (s.wrHost a b).histories = s.histories := rfl
@[simp] theorem wrHost_life : (s.wrHost a b).life = s.life := rfl
@[simp] theorem wrHost_bins : (s.wrHost a b).bins = s.bins := rfl
@[simp] theorem wrHost_histAt : (s.wrHost a b).histAt = s.histAt := rfl
@[simp] theorem wrHost_histOwed : (s.wrHost a b).histOwed = s.histOwed := rfl
@[simp] theorem wrHost_epoch : (s.wrHost a b).epoch = s.epoch := rfl
@[simp] theorem wrHost_tallyAt : (s.wrHost a b).tallyAt = s.tallyAt := rfl
@[simp] theorem wrHost_tallies : (s.wrHost a b).tallies = s.tallies := rfl
@[simp] theorem wrHost_shadows : (s.wrHost a b).shadows = s.shadows := rfl
@[simp] theorem wrHost_buffer : (s.wrHost a b).buffer = s.buffer := rfl
@[simp] theorem wrHost_sectors : (s.wrHost a b).sectors = s.sectors := rfl
@[simp] theorem wrHost_coalesced : (s.wrHost a b).coalesced = s.coalesced := rfl
@[simp] theorem wrHost_snapMin : (s.wrHost a b).snapMin = s.snapMin := rfl
@[simp] theorem wrHost_minuteAt : (s.wrHost a b).minuteAt = s.minuteAt := rfl
@[simp] theorem wrHost_tele : (s.wrHost a b).tele = s.tele := rfl
@[simp] theorem wrHost_discRun : (s.wrHost a b).discRun = s.discRun := rfl
@[simp] theorem wrHost_discGap : (s.wrHost a b).discGap = s.discGap := rfl
@[simp] theorem wrHost_avsFails : (s.wrHost a b).avsFails = s.avsFails := rfl
@[simp] theorem wrHost_avsOk : (s.wrHost a b).avsOk = s.avsOk := rfl
@[simp] theorem wrHost_avsMa : (s.wrHost a b).avsMa = s.avsMa := rfl
@[simp] theorem wrHost_avsMv : (s.wrHost a b).avsMv = s.avsMv := rfl
@[simp] theorem wrHost_vibWritten : (s.wrHost a b).vibWritten = s.vibWritten := rfl
@[simp] theorem wrHost_vibOwed : (s.wrHost a b).vibOwed = s.vibOwed := rfl
@[simp] theorem wrHost_vibFrom : (s.wrHost a b).vibFrom = s.vibFrom := rfl
@[simp] theorem wrHost_avsRate : (s.wrHost a b).avsRate = s.avsRate := rfl
@[simp] theorem wrHost_avsRead : (s.wrHost a b).avsRead = s.avsRead := rfl
@[simp] theorem wrHost_vibOff : (s.wrHost a b).vibOff = s.vibOff := rfl
@[simp] theorem wrHost_mismatchRun : (s.wrHost a b).mismatchRun = s.mismatchRun := rfl
@[simp] theorem wrHost_lostAvs : (s.wrHost a b).lostAvs = s.lostAvs := rfl
@[simp] theorem wrHost_energyUj : (s.wrHost a b).energyUj = s.energyUj := rfl
@[simp] theorem wrHost_temps : (s.wrHost a b).temps = s.temps := rfl
@[simp] theorem wrHost_stuck : (s.wrHost a b).stuck = s.stuck := rfl
@[simp] theorem wrHost_cool : (s.wrHost a b).cool = s.cool := rfl
@[simp] theorem wrHost_heatBy : (s.wrHost a b).heatBy = s.heatBy := rfl
@[simp] theorem wrHost_diodeBad : (s.wrHost a b).diodeBad = s.diodeBad := rfl
@[simp] theorem wrHost_thmAt : (s.wrHost a b).thmAt = s.thmAt := rfl
@[simp] theorem wrHost_fastRun : (s.wrHost a b).fastRun = s.fastRun := rfl
@[simp] theorem wrHost_warnAt : (s.wrHost a b).warnAt = s.warnAt := rfl
@[simp] theorem wrHost_trimAt : (s.wrHost a b).trimAt = s.trimAt := rfl
@[simp] theorem wrHost_coolFrom : (s.wrHost a b).coolFrom = s.coolFrom := rfl
@[simp] theorem wrHost_stopKind : (s.wrHost a b).stopKind = s.stopKind := rfl
@[simp] theorem wrHost_stopAt : (s.wrHost a b).stopAt = s.stopAt := rfl
@[simp] theorem wrHost_trip : (s.wrHost a b).trip = s.trip := rfl
@[simp] theorem wrHost_flocks : (s.wrHost a b).flocks = s.flocks := rfl
@[simp] theorem wrHost_flockAt : (s.wrHost a b).flockAt = s.flockAt := rfl
@[simp] theorem wrHost_flockDone : (s.wrHost a b).flockDone = s.flockDone := rfl
@[simp] theorem wrHost_relayed : (s.wrHost a b).relayed = s.relayed := rfl
@[simp] theorem wrHost_drecSeq : (s.wrHost a b).drecSeq = s.drecSeq := rfl
@[simp] theorem wrHost_standby : (s.wrHost a b).standby = s.standby := rfl
@[simp] theorem wrHost_idleFrom : (s.wrHost a b).idleFrom = s.idleFrom := rfl
@[simp] theorem wrHost_ptpRun : (s.wrHost a b).ptpRun = s.ptpRun := rfl
@[simp] theorem wrHost_ptpAt : (s.wrHost a b).ptpAt = s.ptpAt := rfl
@[simp] theorem wrHost_ptpOff : (s.wrHost a b).ptpOff = s.ptpOff := rfl
@[simp] theorem wrHost_authFails : (s.wrHost a b).authFails = s.authFails := rfl
@[simp] theorem wrHost_alerts : (s.wrHost a b).alerts = s.alerts := rfl
@[simp] theorem wrHost_spdmOut : (s.wrHost a b).spdmOut = s.spdmOut := rfl
end

section
variable (s : State)
@[simp] theorem draw_pending : (s.draw).pending = s.pending := rfl
@[simp] theorem draw_now : (s.draw).now = s.now := rfl
@[simp] theorem draw_frac : (s.draw).frac = s.frac := rfl
@[simp] theorem draw_ppm : (s.draw).ppm = s.ppm := rfl
@[simp] theorem draw_ppmUntil : (s.draw).ppmUntil = s.ppmUntil := rfl
@[simp] theorem draw_timeLocked : (s.draw).timeLocked = s.timeLocked := rfl
@[simp] theorem draw_lockRun : (s.draw).lockRun = s.lockRun := rfl
@[simp] theorem draw_rootConflict : (s.draw).rootConflict = s.rootConflict := rfl
@[simp] theorem draw_laneAt : (s.draw).laneAt = s.laneAt := rfl
@[simp] theorem draw_drvIn : (s.draw).drvIn = s.drvIn := rfl
@[simp] theorem draw_jobEver : (s.draw).jobEver = s.jobEver := rfl
@[simp] theorem draw_phase : (s.draw).phase = s.phase := rfl
@[simp] theorem draw_regs : (s.draw).regs = s.regs := rfl
@[simp] theorem draw_lrecHeld : (s.draw).lrecHeld = s.lrecHeld := rfl
@[simp] theorem draw_tiles : (s.draw).tiles = s.tiles := rfl
@[simp] theorem draw_folds : (s.draw).folds = s.folds := rfl
@[simp] theorem draw_reguls : (s.draw).reguls = s.reguls := rfl
@[simp] theorem draw_loops : (s.draw).loops = s.loops := rfl
@[simp] theorem draw_mboxes : (s.draw).mboxes = s.mboxes := rfl
@[simp] theorem draw_sessions : (s.draw).sessions = s.sessions := rfl
@[simp] theorem draw_ports : (s.draw).ports = s.ports := rfl
@[simp] theorem draw_conns : (s.draw).conns = s.conns := rfl
@[simp] theorem draw_jobs : (s.draw).jobs = s.jobs := rfl
@[simp] theorem draw_flows : (s.draw).flows = s.flows := rfl
@[simp] theorem draw_exports : (s.draw).exports = s.exports := rfl
@[simp] theorem draw_mesh : (s.draw).mesh = s.mesh := rfl
@[simp] theorem draw_credits : (s.draw).credits = s.credits := rfl
@[simp] theorem draw_meshStop : (s.draw).meshStop = s.meshStop := rfl
@[simp] theorem draw_creditQ : (s.draw).creditQ = s.creditQ := rfl
@[simp] theorem draw_foldReply : (s.draw).foldReply = s.foldReply := rfl
@[simp] theorem draw_keys : (s.draw).keys = s.keys := rfl
@[simp] theorem draw_ringHeld : (s.draw).ringHeld = s.ringHeld := rfl
@[simp] theorem draw_ringQ : (s.draw).ringQ = s.ringQ := rfl
@[simp] theorem draw_ringIrq : (s.draw).ringIrq = s.ringIrq := rfl
@[simp] theorem draw_drvGrants : (s.draw).drvGrants = s.drvGrants := rfl
@[simp] theorem draw_drvHorizon : (s.draw).drvHorizon = s.drvHorizon := rfl
@[simp] theorem draw_host : (s.draw).host = s.host := rfl
@[simp] theorem draw_busMaster : (s.draw).busMaster = s.busMaster := rfl
@[simp] theorem draw_msix : (s.draw).msix = s.msix := rfl
@[simp] theorem draw_msixTab : (s.draw).msixTab = s.msixTab := rfl
@[simp] theorem draw_msixPend : (s.draw).msixPend = s.msixPend := rfl
@[simp] theorem draw_events : (s.draw).events = s.events := rfl
@[simp] theorem draw_evSeq : (s.draw).evSeq = s.evSeq := rfl
@[simp] theorem draw_evKept : (s.draw).evKept = s.evKept := rfl
@[simp] theorem draw_cfg : (s.draw).cfg = s.cfg := rfl
@[simp] theorem draw_limits : (s.draw).limits = s.limits := rfl
@[simp] theorem draw_report : (s.draw).report = s.report := rfl
@[simp] theorem draw_flash : (s.draw).flash = s.flash := rfl
@[simp] theorem draw_stackRecord : (s.draw).stackRecord = s.stackRecord := rfl
@[simp] theorem draw_operator : (s.draw).operator = s.operator := rfl
@[simp] theorem draw_fwVersion : (s.draw).fwVersion = s.fwVersion := rfl
@[simp] theorem draw_fwLevel : (s.draw).fwLevel = s.fwLevel := rfl
@[simp] theorem draw_fwImage : (s.draw).fwImage = s.fwImage := rfl
@[simp] theorem draw_fwFails : (s.draw).fwFails = s.fwFails := rfl
@[simp] theorem draw_acceptSeq : (s.draw).acceptSeq = s.acceptSeq := rfl
@[simp] theorem draw_acceptPos : (s.draw).acceptPos = s.acceptPos := rfl
@[simp] theorem draw_sessGen : (s.draw).sessGen = s.sessGen := rfl
@[simp] theorem draw_jobTag : (s.draw).jobTag = s.jobTag := rfl
@[simp] theorem draw_handles : (s.draw).handles = s.handles := rfl
@[simp] theorem draw_dstate : (s.draw).dstate = s.dstate := rfl
@[simp] theorem draw_drain : (s.draw).drain = s.drain := rfl
@[simp] theorem draw_drainUnits : (s.draw).drainUnits = s.drainUnits := rfl
@[simp] theorem draw_opDrain : (s.draw).opDrain = s.opDrain := rfl
@[simp] theorem draw_histories : (s.draw).histories = s.histories := rfl
@[simp] theorem draw_life : (s.draw).life = s.life := rfl
@[simp] theorem draw_bins : (s.draw).bins = s.bins := rfl
@[simp] theorem draw_histAt : (s.draw).histAt = s.histAt := rfl
@[simp] theorem draw_histOwed : (s.draw).histOwed = s.histOwed := rfl
@[simp] theorem draw_epoch : (s.draw).epoch = s.epoch := rfl
@[simp] theorem draw_tallyAt : (s.draw).tallyAt = s.tallyAt := rfl
@[simp] theorem draw_tallies : (s.draw).tallies = s.tallies := rfl
@[simp] theorem draw_shadows : (s.draw).shadows = s.shadows := rfl
@[simp] theorem draw_buffer : (s.draw).buffer = s.buffer := rfl
@[simp] theorem draw_sectors : (s.draw).sectors = s.sectors := rfl
@[simp] theorem draw_coalesced : (s.draw).coalesced = s.coalesced := rfl
@[simp] theorem draw_snapMin : (s.draw).snapMin = s.snapMin := rfl
@[simp] theorem draw_minuteAt : (s.draw).minuteAt = s.minuteAt := rfl
@[simp] theorem draw_tele : (s.draw).tele = s.tele := rfl
@[simp] theorem draw_discRun : (s.draw).discRun = s.discRun := rfl
@[simp] theorem draw_discGap : (s.draw).discGap = s.discGap := rfl
@[simp] theorem draw_avsFails : (s.draw).avsFails = s.avsFails := rfl
@[simp] theorem draw_avsOk : (s.draw).avsOk = s.avsOk := rfl
@[simp] theorem draw_avsMa : (s.draw).avsMa = s.avsMa := rfl
@[simp] theorem draw_avsMv : (s.draw).avsMv = s.avsMv := rfl
@[simp] theorem draw_vibWritten : (s.draw).vibWritten = s.vibWritten := rfl
@[simp] theorem draw_vibOwed : (s.draw).vibOwed = s.vibOwed := rfl
@[simp] theorem draw_vibFrom : (s.draw).vibFrom = s.vibFrom := rfl
@[simp] theorem draw_avsRate : (s.draw).avsRate = s.avsRate := rfl
@[simp] theorem draw_avsRead : (s.draw).avsRead = s.avsRead := rfl
@[simp] theorem draw_vibOff : (s.draw).vibOff = s.vibOff := rfl
@[simp] theorem draw_mismatchRun : (s.draw).mismatchRun = s.mismatchRun := rfl
@[simp] theorem draw_lostAvs : (s.draw).lostAvs = s.lostAvs := rfl
@[simp] theorem draw_energyUj : (s.draw).energyUj = s.energyUj := rfl
@[simp] theorem draw_temps : (s.draw).temps = s.temps := rfl
@[simp] theorem draw_stuck : (s.draw).stuck = s.stuck := rfl
@[simp] theorem draw_cool : (s.draw).cool = s.cool := rfl
@[simp] theorem draw_heatBy : (s.draw).heatBy = s.heatBy := rfl
@[simp] theorem draw_diodeBad : (s.draw).diodeBad = s.diodeBad := rfl
@[simp] theorem draw_thmAt : (s.draw).thmAt = s.thmAt := rfl
@[simp] theorem draw_fastRun : (s.draw).fastRun = s.fastRun := rfl
@[simp] theorem draw_warnAt : (s.draw).warnAt = s.warnAt := rfl
@[simp] theorem draw_trimAt : (s.draw).trimAt = s.trimAt := rfl
@[simp] theorem draw_coolFrom : (s.draw).coolFrom = s.coolFrom := rfl
@[simp] theorem draw_stopKind : (s.draw).stopKind = s.stopKind := rfl
@[simp] theorem draw_stopAt : (s.draw).stopAt = s.stopAt := rfl
@[simp] theorem draw_trip : (s.draw).trip = s.trip := rfl
@[simp] theorem draw_flocks : (s.draw).flocks = s.flocks := rfl
@[simp] theorem draw_flockAt : (s.draw).flockAt = s.flockAt := rfl
@[simp] theorem draw_flockDone : (s.draw).flockDone = s.flockDone := rfl
@[simp] theorem draw_relayed : (s.draw).relayed = s.relayed := rfl
@[simp] theorem draw_drecSeq : (s.draw).drecSeq = s.drecSeq := rfl
@[simp] theorem draw_standby : (s.draw).standby = s.standby := rfl
@[simp] theorem draw_idleFrom : (s.draw).idleFrom = s.idleFrom := rfl
@[simp] theorem draw_ptpRun : (s.draw).ptpRun = s.ptpRun := rfl
@[simp] theorem draw_ptpAt : (s.draw).ptpAt = s.ptpAt := rfl
@[simp] theorem draw_ptpOff : (s.draw).ptpOff = s.ptpOff := rfl
@[simp] theorem draw_authFails : (s.draw).authFails = s.authFails := rfl
@[simp] theorem draw_alerts : (s.draw).alerts = s.alerts := rfl
@[simp] theorem draw_spdmOut : (s.draw).spdmOut = s.spdmOut := rfl
end

end State
end Sys2Proof.Machine
end

