-- ==== Sys2Proof/Laws/Units.lean ====
section
/-! SUPPORT. What the accessors of the state find after each elementary update: the written unit, field or run as
written, every other as before. -/
set_option Elab.async false

namespace Sys2Proof.Machine

/-! ## Register keys -/

/-- The position of a field in its block is inside the range that `regKey` gives it. -/
def Field.small (f : Field) : Bool := decide (f.blk.code < 32) && decide (f.off < 65536) && decide (f.lo < 64)

/-- Two fields whose keys differ in every unit. -/
def Field.apart (f g : Field) : Bool :=
  f.small && g.small && (f.blk.code != g.blk.code || f.off != g.off || f.lo != g.lo)

theorem regKey_ne_of_apart {f g : Field} {u v : Nat} (h : f.apart g = true) : regKey f u ≠ regKey g v := by
  simp only [Field.apart, Field.small, Bool.and_eq_true, decide_eq_true_eq, Bool.or_eq_true, bne_iff_ne] at h
  unfold regKey
  omega

theorem regKey_ne_of_unit {f : Field} {u v : Nat} (h : u ≠ v) : regKey f u ≠ regKey f v := by
  unfold regKey
  omega

namespace State

/-! ## A field after a write -/

/-- A field reads as it was written, cut to its width. -/
@[simp] theorem rd_wr_same (s : State) (f : Field) (u v : Nat) : (s.wr f u v).rd f u = v % 2 ^ f.w := by
  unfold wr rd
  simp only
  split <;> simp_all

/-- A field whose key differs reads as before. -/
theorem rd_wr_ne (s : State) (f g : Field) (u v w : Nat) (h : regKey g w ≠ regKey f u) :
    (s.wr f u v).rd g w = s.rd g w := by
  unfold wr rd
  simp only
  split
  · rw [Tbl.find_del_other _ h]
  · rw [Tbl.find_set_other _ _ h]

/-- Another field reads as before. -/
theorem rd_wr_apart (s : State) (f g : Field) (u v w : Nat) (h : g.apart f = true) :
    (s.wr f u v).rd g w = s.rd g w := rd_wr_ne s f g u v w (regKey_ne_of_apart h)

/-- The field of another unit reads as before. -/
theorem rd_wr_unit (s : State) (f : Field) (u v w : Nat) (h : w ≠ u) :
    (s.wr f u v).rd f w = s.rd f w := rd_wr_ne s f f u v w (regKey_ne_of_unit h)

@[simp] theorem rdb_wr_same (s : State) (f : Field) (u v : Nat) :
    (s.wr f u v).rdb f u = (v % 2 ^ f.w != 0) := by simp [rdb]

theorem rdb_wr_apart (s : State) (f g : Field) (u v w : Nat) (h : g.apart f = true) :
    (s.wr f u v).rdb g w = s.rdb g w := by simp [rdb, rd_wr_apart s f g u v w h]

/-- A write keeps the register table's keys rising. -/
theorem rising_wr (s : State) (f : Field) (u v : Nat) (h : Tbl.rising s.regs = true) :
    Tbl.rising (s.wr f u v).regs = true := by
  unfold wr
  simp only
  split
  · exact Tbl.rising_del _ _ h
  · exact Tbl.rising_set _ _ _ h

/-! ## A unit after an update -/

@[simp] theorem tile_modTile_same (s : State) (t : Nat) (g : Tile → Tile) :
    (s.modTile t g).tile t = g (s.tile t) := by simp [modTile, setTile, tile]
@[simp] theorem tile_setTile_same (s : State) (t : Nat) (x : Tile) : (s.setTile t x).tile t = x := by
  simp [setTile, tile]
theorem tile_modTile_other (s : State) (t u : Nat) (g : Tile → Tile) (h : u ≠ t) :
    (s.modTile t g).tile u = s.tile u := by simp [modTile, setTile, tile, h]
@[simp] theorem fold_modFold_same (s : State) (t : Nat) (g : Fold → Fold) :
    (s.modFold t g).fold t = g (s.fold t) := by simp [modFold, setFold, fold]
@[simp] theorem fold_setFold_same (s : State) (t : Nat) (x : Fold) : (s.setFold t x).fold t = x := by
  simp [setFold, fold]
theorem fold_modFold_other (s : State) (t u : Nat) (g : Fold → Fold) (h : u ≠ t) :
    (s.modFold t g).fold u = s.fold u := by simp [modFold, setFold, fold, h]
@[simp] theorem regul_modRegul_same (s : State) (t : Nat) (g : Regul → Regul) :
    (s.modRegul t g).regul t = g (s.regul t) := by simp [modRegul, setRegul, regul]
@[simp] theorem regul_setRegul_same (s : State) (t : Nat) (x : Regul) : (s.setRegul t x).regul t = x := by
  simp [setRegul, regul]
theorem regul_modRegul_other (s : State) (t u : Nat) (g : Regul → Regul) (h : u ≠ t) :
    (s.modRegul t g).regul u = s.regul u := by simp [modRegul, setRegul, regul, h]
@[simp] theorem loop_setLoop_same (s : State) (t : Nat) (x : Loop) : (s.setLoop t x).loop t = x := by
  simp [setLoop, loop]
theorem loop_setLoop_other (s : State) (t u : Nat) (x : Loop) (h : u ≠ t) :
    (s.setLoop t x).loop u = s.loop u := by simp [setLoop, loop, h]
@[simp] theorem mbox_modMbox_same (s : State) (t : Nat) (g : Mailbox → Mailbox) :
    (s.modMbox t g).mbox t = g (s.mbox t) := by simp [modMbox, setMbox, mbox]
@[simp] theorem mbox_setMbox_same (s : State) (t : Nat) (x : Mailbox) : (s.setMbox t x).mbox t = x := by
  simp [setMbox, mbox]
theorem mbox_modMbox_other (s : State) (t u : Nat) (g : Mailbox → Mailbox) (h : u ≠ t) :
    (s.modMbox t g).mbox u = s.mbox u := by simp [modMbox, setMbox, mbox, h]
@[simp] theorem sess_modSess_same (s : State) (t : Nat) (g : Session → Session) :
    (s.modSess t g).sess t = g (s.sess t) := by simp [modSess, setSess, sess]
@[simp] theorem sess_setSess_same (s : State) (t : Nat) (x : Session) : (s.setSess t x).sess t = x := by
  simp [setSess, sess]
theorem sess_modSess_other (s : State) (t u : Nat) (g : Session → Session) (h : u ≠ t) :
    (s.modSess t g).sess u = s.sess u := by simp [modSess, setSess, sess, h]
@[simp] theorem port_modPort_same (s : State) (t : Nat) (g : Port → Port) :
    (s.modPort t g).port t = g (s.port t) := by simp [modPort, setPort, port]
@[simp] theorem port_setPort_same (s : State) (t : Nat) (x : Port) : (s.setPort t x).port t = x := by
  simp [setPort, port]
theorem port_modPort_other (s : State) (t u : Nat) (g : Port → Port) (h : u ≠ t) :
    (s.modPort t g).port u = s.port u := by simp [modPort, setPort, port, h]
@[simp] theorem hist_setHist_same (s : State) (t : Nat) (x : History) : (s.setHist t x).hist t = x := by
  simp [setHist, hist]
theorem hist_setHist_other (s : State) (t u : Nat) (x : History) (h : u ≠ t) :
    (s.setHist t x).hist u = s.hist u := by simp [setHist, hist, h]

/-! ## The accessors of other fields -/

section
variable (s : State) (f : Field) (u v : Nat)
@[simp] theorem tile_wr (n : Nat) : (s.wr f u v).tile n = s.tile n := rfl
@[simp] theorem fold_wr (n : Nat) : (s.wr f u v).fold n = s.fold n := rfl
@[simp] theorem foldOff_wr (n : Nat) : (s.wr f u v).foldOff n = s.foldOff n := rfl
@[simp] theorem regul_wr (n : Nat) : (s.wr f u v).regul n = s.regul n := rfl
@[simp] theorem loop_wr (n : Nat) : (s.wr f u v).loop n = s.loop n := rfl
@[simp] theorem mbox_wr (n : Nat) : (s.wr f u v).mbox n = s.mbox n := rfl
@[simp] theorem sess_wr (n : Nat) : (s.wr f u v).sess n = s.sess n := rfl
@[simp] theorem port_wr (n : Nat) : (s.wr f u v).port n = s.port n := rfl
@[simp] theorem hist_wr (n : Nat) : (s.wr f u v).hist n = s.hist n := rfl
@[simp] theorem penned_wr (n : Nat) : (s.wr f u v).penned n = s.penned n := rfl
@[simp] theorem conf_wr (n : Nat) : (s.wr f u v).conf n = s.conf n := rfl
@[simp] theorem rdHost_wr (n k : Nat) : (s.wr f u v).rdHost n k = s.rdHost n k := rfl
@[simp] theorem masters_wr (n : Nat) : (s.wr f u v).masters n = s.masters n := rfl
@[simp] theorem jobByTag_wr (n : Nat) : (s.wr f u v).jobByTag n = s.jobByTag n := rfl
end

section
variable (s : State) (t : Nat) (x : Tile)
@[simp] theorem rd_setTile (f' : Field) (n : Nat) : (s.setTile t x).rd f' n = s.rd f' n := rfl
@[simp] theorem rdb_setTile (f' : Field) (n : Nat) : (s.setTile t x).rdb f' n = s.rdb f' n := rfl
@[simp] theorem fold_setTile (n : Nat) : (s.setTile t x).fold n = s.fold n := rfl
@[simp] theorem foldOff_setTile (n : Nat) : (s.setTile t x).foldOff n = s.foldOff n := rfl
@[simp] theorem regul_setTile (n : Nat) : (s.setTile t x).regul n = s.regul n := rfl
@[simp] theorem loop_setTile (n : Nat) : (s.setTile t x).loop n = s.loop n := rfl
@[simp] theorem mbox_setTile (n : Nat) : (s.setTile t x).mbox n = s.mbox n := rfl
@[simp] theorem sess_setTile (n : Nat) : (s.setTile t x).sess n = s.sess n := rfl
@[simp] theorem port_setTile (n : Nat) : (s.setTile t x).port n = s.port n := rfl
@[simp] theorem hist_setTile (n : Nat) : (s.setTile t x).hist n = s.hist n := rfl
@[simp] theorem penned_setTile (n : Nat) : (s.setTile t x).penned n = s.penned n := rfl
@[simp] theorem conf_setTile (n : Nat) : (s.setTile t x).conf n = s.conf n := rfl
@[simp] theorem rdHost_setTile (n k : Nat) : (s.setTile t x).rdHost n k = s.rdHost n k := rfl
@[simp] theorem masters_setTile (n : Nat) : (s.setTile t x).masters n = s.masters n := rfl
@[simp] theorem jobByTag_setTile (n : Nat) : (s.setTile t x).jobByTag n = s.jobByTag n := rfl
end

section
variable (s : State) (t : Nat) (g : Tile → Tile)
@[simp] theorem rd_modTile (f' : Field) (n : Nat) : (s.modTile t g).rd f' n = s.rd f' n := rfl
@[simp] theorem rdb_modTile (f' : Field) (n : Nat) : (s.modTile t g).rdb f' n = s.rdb f' n := rfl
@[simp] theorem fold_modTile (n : Nat) : (s.modTile t g).fold n = s.fold n := rfl
@[simp] theorem foldOff_modTile (n : Nat) : (s.modTile t g).foldOff n = s.foldOff n := rfl
@[simp] theorem regul_modTile (n : Nat) : (s.modTile t g).regul n = s.regul n := rfl
@[simp] theorem loop_modTile (n : Nat) : (s.modTile t g).loop n = s.loop n := rfl
@[simp] theorem mbox_modTile (n : Nat) : (s.modTile t g).mbox n = s.mbox n := rfl
@[simp] theorem sess_modTile (n : Nat) : (s.modTile t g).sess n = s.sess n := rfl
@[simp] theorem port_modTile (n : Nat) : (s.modTile t g).port n = s.port n := rfl
@[simp] theorem hist_modTile (n : Nat) : (s.modTile t g).hist n = s.hist n := rfl
@[simp] theorem penned_modTile (n : Nat) : (s.modTile t g).penned n = s.penned n := rfl
@[simp] theorem conf_modTile (n : Nat) : (s.modTile t g).conf n = s.conf n := rfl
@[simp] theorem rdHost_modTile (n k : Nat) : (s.modTile t g).rdHost n k = s.rdHost n k := rfl
@[simp] theorem masters_modTile (n : Nat) : (s.modTile t g).masters n = s.masters n := rfl
@[simp] theorem jobByTag_modTile (n : Nat) : (s.modTile t g).jobByTag n = s.jobByTag n := rfl
end

section
variable (s : State) (k : Nat) (x : Fold)
@[simp] theorem rd_setFold (f' : Field) (n : Nat) : (s.setFold k x).rd f' n = s.rd f' n := rfl
@[simp] theorem rdb_setFold (f' : Field) (n : Nat) : (s.setFold k x).rdb f' n = s.rdb f' n := rfl
@[simp] theorem tile_setFold (n : Nat) : (s.setFold k x).tile n = s.tile n := rfl
@[simp] theorem regul_setFold (n : Nat) : (s.setFold k x).regul n = s.regul n := rfl
@[simp] theorem loop_setFold (n : Nat) : (s.setFold k x).loop n = s.loop n := rfl
@[simp] theorem mbox_setFold (n : Nat) : (s.setFold k x).mbox n = s.mbox n := rfl
@[simp] theorem sess_setFold (n : Nat) : (s.setFold k x).sess n = s.sess n := rfl
@[simp] theorem port_setFold (n : Nat) : (s.setFold k x).port n = s.port n := rfl
@[simp] theorem hist_setFold (n : Nat) : (s.setFold k x).hist n = s.hist n := rfl
@[simp] theorem penned_setFold (n : Nat) : (s.setFold k x).penned n = s.penned n := rfl
@[simp] theorem conf_setFold (n : Nat) : (s.setFold k x).conf n = s.conf n := rfl
@[simp] theorem rdHost_setFold (n k : Nat) : (s.setFold k x).rdHost n k = s.rdHost n k := rfl
@[simp] theorem masters_setFold (n : Nat) : (s.setFold k x).masters n = s.masters n := rfl
@[simp] theorem jobByTag_setFold (n : Nat) : (s.setFold k x).jobByTag n = s.jobByTag n := rfl
end

section
variable (s : State) (k : Nat) (g : Fold → Fold)
@[simp] theorem rd_modFold (f' : Field) (n : Nat) : (s.modFold k g).rd f' n = s.rd f' n := rfl
@[simp] theorem rdb_modFold (f' : Field) (n : Nat) : (s.modFold k g).rdb f' n = s.rdb f' n := rfl
@[simp] theorem tile_modFold (n : Nat) : (s.modFold k g).tile n = s.tile n := rfl
@[simp] theorem regul_modFold (n : Nat) : (s.modFold k g).regul n = s.regul n := rfl
@[simp] theorem loop_modFold (n : Nat) : (s.modFold k g).loop n = s.loop n := rfl
@[simp] theorem mbox_modFold (n : Nat) : (s.modFold k g).mbox n = s.mbox n := rfl
@[simp] theorem sess_modFold (n : Nat) : (s.modFold k g).sess n = s.sess n := rfl
@[simp] theorem port_modFold (n : Nat) : (s.modFold k g).port n = s.port n := rfl
@[simp] theorem hist_modFold (n : Nat) : (s.modFold k g).hist n = s.hist n := rfl
@[simp] theorem penned_modFold (n : Nat) : (s.modFold k g).penned n = s.penned n := rfl
@[simp] theorem conf_modFold (n : Nat) : (s.modFold k g).conf n = s.conf n := rfl
@[simp] theorem rdHost_modFold (n k : Nat) : (s.modFold k g).rdHost n k = s.rdHost n k := rfl
@[simp] theorem masters_modFold (n : Nat) : (s.modFold k g).masters n = s.masters n := rfl
@[simp] theorem jobByTag_modFold (n : Nat) : (s.modFold k g).jobByTag n = s.jobByTag n := rfl
end

section
variable (s : State) (r : Nat) (x : Regul)
@[simp] theorem rd_setRegul (f' : Field) (n : Nat) : (s.setRegul r x).rd f' n = s.rd f' n := rfl
@[simp] theorem rdb_setRegul (f' : Field) (n : Nat) : (s.setRegul r x).rdb f' n = s.rdb f' n := rfl
@[simp] theorem tile_setRegul (n : Nat) : (s.setRegul r x).tile n = s.tile n := rfl
@[simp] theorem fold_setRegul (n : Nat) : (s.setRegul r x).fold n = s.fold n := rfl
@[simp] theorem foldOff_setRegul (n : Nat) : (s.setRegul r x).foldOff n = s.foldOff n := rfl
@[simp] theorem loop_setRegul (n : Nat) : (s.setRegul r x).loop n = s.loop n := rfl
@[simp] theorem mbox_setRegul (n : Nat) : (s.setRegul r x).mbox n = s.mbox n := rfl
@[simp] theorem sess_setRegul (n : Nat) : (s.setRegul r x).sess n = s.sess n := rfl
@[simp] theorem port_setRegul (n : Nat) : (s.setRegul r x).port n = s.port n := rfl
@[simp] theorem hist_setRegul (n : Nat) : (s.setRegul r x).hist n = s.hist n := rfl
@[simp] theorem penned_setRegul (n : Nat) : (s.setRegul r x).penned n = s.penned n := rfl
@[simp] theorem conf_setRegul (n : Nat) : (s.setRegul r x).conf n = s.conf n := rfl
@[simp] theorem rdHost_setRegul (n k : Nat) : (s.setRegul r x).rdHost n k = s.rdHost n k := rfl
@[simp] theorem masters_setRegul (n : Nat) : (s.setRegul r x).masters n = s.masters n := rfl
@[simp] theorem jobByTag_setRegul (n : Nat) : (s.setRegul r x).jobByTag n = s.jobByTag n := rfl
end

section
variable (s : State) (r : Nat) (g : Regul → Regul)
@[simp] theorem rd_modRegul (f' : Field) (n : Nat) : (s.modRegul r g).rd f' n = s.rd f' n := rfl
@[simp] theorem rdb_modRegul (f' : Field) (n : Nat) : (s.modRegul r g).rdb f' n = s.rdb f' n := rfl
@[simp] theorem tile_modRegul (n : Nat) : (s.modRegul r g).tile n = s.tile n := rfl
@[simp] theorem fold_modRegul (n : Nat) : (s.modRegul r g).fold n = s.fold n := rfl
@[simp] theorem foldOff_modRegul (n : Nat) : (s.modRegul r g).foldOff n = s.foldOff n := rfl
@[simp] theorem loop_modRegul (n : Nat) : (s.modRegul r g).loop n = s.loop n := rfl
@[simp] theorem mbox_modRegul (n : Nat) : (s.modRegul r g).mbox n = s.mbox n := rfl
@[simp] theorem sess_modRegul (n : Nat) : (s.modRegul r g).sess n = s.sess n := rfl
@[simp] theorem port_modRegul (n : Nat) : (s.modRegul r g).port n = s.port n := rfl
@[simp] theorem hist_modRegul (n : Nat) : (s.modRegul r g).hist n = s.hist n := rfl
@[simp] theorem penned_modRegul (n : Nat) : (s.modRegul r g).penned n = s.penned n := rfl
@[simp] theorem conf_modRegul (n : Nat) : (s.modRegul r g).conf n = s.conf n := rfl
@[simp] theorem rdHost_modRegul (n k : Nat) : (s.modRegul r g).rdHost n k = s.rdHost n k := rfl
@[simp] theorem masters_modRegul (n : Nat) : (s.modRegul r g).masters n = s.masters n := rfl
@[simp] theorem jobByTag_modRegul (n : Nat) : (s.modRegul r g).jobByTag n = s.jobByTag n := rfl
end

section
variable (s : State) (l : Nat) (x : Loop)
@[simp] theorem rd_setLoop (f' : Field) (n : Nat) : (s.setLoop l x).rd f' n = s.rd f' n := rfl
@[simp] theorem rdb_setLoop (f' : Field) (n : Nat) : (s.setLoop l x).rdb f' n = s.rdb f' n := rfl
@[simp] theorem tile_setLoop (n : Nat) : (s.setLoop l x).tile n = s.tile n := rfl
@[simp] theorem fold_setLoop (n : Nat) : (s.setLoop l x).fold n = s.fold n := rfl
@[simp] theorem foldOff_setLoop (n : Nat) : (s.setLoop l x).foldOff n = s.foldOff n := rfl
@[simp] theorem regul_setLoop (n : Nat) : (s.setLoop l x).regul n = s.regul n := rfl
@[simp] theorem mbox_setLoop (n : Nat) : (s.setLoop l x).mbox n = s.mbox n := rfl
@[simp] theorem sess_setLoop (n : Nat) : (s.setLoop l x).sess n = s.sess n := rfl
@[simp] theorem port_setLoop (n : Nat) : (s.setLoop l x).port n = s.port n := rfl
@[simp] theorem hist_setLoop (n : Nat) : (s.setLoop l x).hist n = s.hist n := rfl
@[simp] theorem penned_setLoop (n : Nat) : (s.setLoop l x).penned n = s.penned n := rfl
@[simp] theorem conf_setLoop (n : Nat) : (s.setLoop l x).conf n = s.conf n := rfl
@[simp] theorem rdHost_setLoop (n k : Nat) : (s.setLoop l x).rdHost n k = s.rdHost n k := rfl
@[simp] theorem masters_setLoop (n : Nat) : (s.setLoop l x).masters n = s.masters n := rfl
@[simp] theorem jobByTag_setLoop (n : Nat) : (s.setLoop l x).jobByTag n = s.jobByTag n := rfl
end

section
variable (s : State) (m : Nat) (x : Mailbox)
@[simp] theorem rd_setMbox (f' : Field) (n : Nat) : (s.setMbox m x).rd f' n = s.rd f' n := rfl
@[simp] theorem rdb_setMbox (f' : Field) (n : Nat) : (s.setMbox m x).rdb f' n = s.rdb f' n := rfl
@[simp] theorem tile_setMbox (n : Nat) : (s.setMbox m x).tile n = s.tile n := rfl
@[simp] theorem fold_setMbox (n : Nat) : (s.setMbox m x).fold n = s.fold n := rfl
@[simp] theorem foldOff_setMbox (n : Nat) : (s.setMbox m x).foldOff n = s.foldOff n := rfl
@[simp] theorem regul_setMbox (n : Nat) : (s.setMbox m x).regul n = s.regul n := rfl
@[simp] theorem loop_setMbox (n : Nat) : (s.setMbox m x).loop n = s.loop n := rfl
@[simp] theorem sess_setMbox (n : Nat) : (s.setMbox m x).sess n = s.sess n := rfl
@[simp] theorem port_setMbox (n : Nat) : (s.setMbox m x).port n = s.port n := rfl
@[simp] theorem hist_setMbox (n : Nat) : (s.setMbox m x).hist n = s.hist n := rfl
@[simp] theorem penned_setMbox (n : Nat) : (s.setMbox m x).penned n = s.penned n := rfl
@[simp] theorem conf_setMbox (n : Nat) : (s.setMbox m x).conf n = s.conf n := rfl
@[simp] theorem rdHost_setMbox (n k : Nat) : (s.setMbox m x).rdHost n k = s.rdHost n k := rfl
@[simp] theorem masters_setMbox (n : Nat) : (s.setMbox m x).masters n = s.masters n := rfl
@[simp] theorem jobByTag_setMbox (n : Nat) : (s.setMbox m x).jobByTag n = s.jobByTag n := rfl
end

section
variable (s : State) (m : Nat) (g : Mailbox → Mailbox)
@[simp] theorem rd_modMbox (f' : Field) (n : Nat) : (s.modMbox m g).rd f' n = s.rd f' n := rfl
@[simp] theorem rdb_modMbox (f' : Field) (n : Nat) : (s.modMbox m g).rdb f' n = s.rdb f' n := rfl
@[simp] theorem tile_modMbox (n : Nat) : (s.modMbox m g).tile n = s.tile n := rfl
@[simp] theorem fold_modMbox (n : Nat) : (s.modMbox m g).fold n = s.fold n := rfl
@[simp] theorem foldOff_modMbox (n : Nat) : (s.modMbox m g).foldOff n = s.foldOff n := rfl
@[simp] theorem regul_modMbox (n : Nat) : (s.modMbox m g).regul n = s.regul n := rfl
@[simp] theorem loop_modMbox (n : Nat) : (s.modMbox m g).loop n = s.loop n := rfl
@[simp] theorem sess_modMbox (n : Nat) : (s.modMbox m g).sess n = s.sess n := rfl
@[simp] theorem port_modMbox (n : Nat) : (s.modMbox m g).port n = s.port n := rfl
@[simp] theorem hist_modMbox (n : Nat) : (s.modMbox m g).hist n = s.hist n := rfl
@[simp] theorem penned_modMbox (n : Nat) : (s.modMbox m g).penned n = s.penned n := rfl
@[simp] theorem conf_modMbox (n : Nat) : (s.modMbox m g).conf n = s.conf n := rfl
@[simp] theorem rdHost_modMbox (n k : Nat) : (s.modMbox m g).rdHost n k = s.rdHost n k := rfl
@[simp] theorem masters_modMbox (n : Nat) : (s.modMbox m g).masters n = s.masters n := rfl
@[simp] theorem jobByTag_modMbox (n : Nat) : (s.modMbox m g).jobByTag n = s.jobByTag n := rfl
end

section
variable (s : State) (k : Nat) (x : Session)
@[simp] theorem rd_setSess (f' : Field) (n : Nat) : (s.setSess k x).rd f' n = s.rd f' n := rfl
@[simp] theorem rdb_setSess (f' : Field) (n : Nat) : (s.setSess k x).rdb f' n = s.rdb f' n := rfl
@[simp] theorem tile_setSess (n : Nat) : (s.setSess k x).tile n = s.tile n := rfl
@[simp] theorem fold_setSess (n : Nat) : (s.setSess k x).fold n = s.fold n := rfl
@[simp] theorem foldOff_setSess (n : Nat) : (s.setSess k x).foldOff n = s.foldOff n := rfl
@[simp] theorem regul_setSess (n : Nat) : (s.setSess k x).regul n = s.regul n := rfl
@[simp] theorem loop_setSess (n : Nat) : (s.setSess k x).loop n = s.loop n := rfl
@[simp] theorem mbox_setSess (n : Nat) : (s.setSess k x).mbox n = s.mbox n := rfl
@[simp] theorem port_setSess (n : Nat) : (s.setSess k x).port n = s.port n := rfl
@[simp] theorem hist_setSess (n : Nat) : (s.setSess k x).hist n = s.hist n := rfl
@[simp] theorem penned_setSess (n : Nat) : (s.setSess k x).penned n = s.penned n := rfl
@[simp] theorem conf_setSess (n : Nat) : (s.setSess k x).conf n = s.conf n := rfl
@[simp] theorem rdHost_setSess (n k : Nat) : (s.setSess k x).rdHost n k = s.rdHost n k := rfl
@[simp] theorem masters_setSess (n : Nat) : (s.setSess k x).masters n = s.masters n := rfl
@[simp] theorem jobByTag_setSess (n : Nat) : (s.setSess k x).jobByTag n = s.jobByTag n := rfl
end

section
variable (s : State) (k : Nat) (g : Session → Session)
@[simp] theorem rd_modSess (f' : Field) (n : Nat) : (s.modSess k g).rd f' n = s.rd f' n := rfl
@[simp] theorem rdb_modSess (f' : Field) (n : Nat) : (s.modSess k g).rdb f' n = s.rdb f' n := rfl
@[simp] theorem tile_modSess (n : Nat) : (s.modSess k g).tile n = s.tile n := rfl
@[simp] theorem fold_modSess (n : Nat) : (s.modSess k g).fold n = s.fold n := rfl
@[simp] theorem foldOff_modSess (n : Nat) : (s.modSess k g).foldOff n = s.foldOff n := rfl
@[simp] theorem regul_modSess (n : Nat) : (s.modSess k g).regul n = s.regul n := rfl
@[simp] theorem loop_modSess (n : Nat) : (s.modSess k g).loop n = s.loop n := rfl
@[simp] theorem mbox_modSess (n : Nat) : (s.modSess k g).mbox n = s.mbox n := rfl
@[simp] theorem port_modSess (n : Nat) : (s.modSess k g).port n = s.port n := rfl
@[simp] theorem hist_modSess (n : Nat) : (s.modSess k g).hist n = s.hist n := rfl
@[simp] theorem penned_modSess (n : Nat) : (s.modSess k g).penned n = s.penned n := rfl
@[simp] theorem conf_modSess (n : Nat) : (s.modSess k g).conf n = s.conf n := rfl
@[simp] theorem rdHost_modSess (n k : Nat) : (s.modSess k g).rdHost n k = s.rdHost n k := rfl
@[simp] theorem masters_modSess (n : Nat) : (s.modSess k g).masters n = s.masters n := rfl
@[simp] theorem jobByTag_modSess (n : Nat) : (s.modSess k g).jobByTag n = s.jobByTag n := rfl
end

section
variable (s : State) (p : Nat) (x : Port)
@[simp] theorem rd_setPort (f' : Field) (n : Nat) : (s.setPort p x).rd f' n = s.rd f' n := rfl
@[simp] theorem rdb_setPort (f' : Field) (n : Nat) : (s.setPort p x).rdb f' n = s.rdb f' n := rfl
@[simp] theorem tile_setPort (n : Nat) : (s.setPort p x).tile n = s.tile n := rfl
@[simp] theorem fold_setPort (n : Nat) : (s.setPort p x).fold n = s.fold n := rfl
@[simp] theorem foldOff_setPort (n : Nat) : (s.setPort p x).foldOff n = s.foldOff n := rfl
@[simp] theorem regul_setPort (n : Nat) : (s.setPort p x).regul n = s.regul n := rfl
@[simp] theorem loop_setPort (n : Nat) : (s.setPort p x).loop n = s.loop n := rfl
@[simp] theorem mbox_setPort (n : Nat) : (s.setPort p x).mbox n = s.mbox n := rfl
@[simp] theorem sess_setPort (n : Nat) : (s.setPort p x).sess n = s.sess n := rfl
@[simp] theorem hist_setPort (n : Nat) : (s.setPort p x).hist n = s.hist n := rfl
@[simp] theorem penned_setPort (n : Nat) : (s.setPort p x).penned n = s.penned n := rfl
@[simp] theorem conf_setPort (n : Nat) : (s.setPort p x).conf n = s.conf n := rfl
@[simp] theorem rdHost_setPort (n k : Nat) : (s.setPort p x).rdHost n k = s.rdHost n k := rfl
@[simp] theorem masters_setPort (n : Nat) : (s.setPort p x).masters n = s.masters n := rfl
@[simp] theorem jobByTag_setPort (n : Nat) : (s.setPort p x).jobByTag n = s.jobByTag n := rfl
end

section
variable (s : State) (p : Nat) (g : Port → Port)
@[simp] theorem rd_modPort (f' : Field) (n : Nat) : (s.modPort p g).rd f' n = s.rd f' n := rfl
@[simp] theorem rdb_modPort (f' : Field) (n : Nat) : (s.modPort p g).rdb f' n = s.rdb f' n := rfl
@[simp] theorem tile_modPort (n : Nat) : (s.modPort p g).tile n = s.tile n := rfl
@[simp] theorem fold_modPort (n : Nat) : (s.modPort p g).fold n = s.fold n := rfl
@[simp] theorem foldOff_modPort (n : Nat) : (s.modPort p g).foldOff n = s.foldOff n := rfl
@[simp] theorem regul_modPort (n : Nat) : (s.modPort p g).regul n = s.regul n := rfl
@[simp] theorem loop_modPort (n : Nat) : (s.modPort p g).loop n = s.loop n := rfl
@[simp] theorem mbox_modPort (n : Nat) : (s.modPort p g).mbox n = s.mbox n := rfl
@[simp] theorem sess_modPort (n : Nat) : (s.modPort p g).sess n = s.sess n := rfl
@[simp] theorem hist_modPort (n : Nat) : (s.modPort p g).hist n = s.hist n := rfl
@[simp] theorem penned_modPort (n : Nat) : (s.modPort p g).penned n = s.penned n := rfl
@[simp] theorem conf_modPort (n : Nat) : (s.modPort p g).conf n = s.conf n := rfl
@[simp] theorem rdHost_modPort (n k : Nat) : (s.modPort p g).rdHost n k = s.rdHost n k := rfl
@[simp] theorem masters_modPort (n : Nat) : (s.modPort p g).masters n = s.masters n := rfl
@[simp] theorem jobByTag_modPort (n : Nat) : (s.modPort p g).jobByTag n = s.jobByTag n := rfl
end

section
variable (s : State) (h : Nat) (x : History)
@[simp] theorem rd_setHist (f' : Field) (n : Nat) : (s.setHist h x).rd f' n = s.rd f' n := rfl
@[simp] theorem rdb_setHist (f' : Field) (n : Nat) : (s.setHist h x).rdb f' n = s.rdb f' n := rfl
@[simp] theorem tile_setHist (n : Nat) : (s.setHist h x).tile n = s.tile n := rfl
@[simp] theorem fold_setHist (n : Nat) : (s.setHist h x).fold n = s.fold n := rfl
@[simp] theorem foldOff_setHist (n : Nat) : (s.setHist h x).foldOff n = s.foldOff n := rfl
@[simp] theorem regul_setHist (n : Nat) : (s.setHist h x).regul n = s.regul n := rfl
@[simp] theorem loop_setHist (n : Nat) : (s.setHist h x).loop n = s.loop n := rfl
@[simp] theorem mbox_setHist (n : Nat) : (s.setHist h x).mbox n = s.mbox n := rfl
@[simp] theorem sess_setHist (n : Nat) : (s.setHist h x).sess n = s.sess n := rfl
@[simp] theorem port_setHist (n : Nat) : (s.setHist h x).port n = s.port n := rfl
@[simp] theorem conf_setHist (n : Nat) : (s.setHist h x).conf n = s.conf n := rfl
@[simp] theorem rdHost_setHist (n k : Nat) : (s.setHist h x).rdHost n k = s.rdHost n k := rfl
@[simp] theorem masters_setHist (n : Nat) : (s.setHist h x).masters n = s.masters n := rfl
@[simp] theorem jobByTag_setHist (n : Nat) : (s.setHist h x).jobByTag n = s.jobByTag n := rfl
end

section
variable (s : State) (j : Job)
@[simp] theorem rd_setJob (f' : Field) (n : Nat) : (s.setJob j).rd f' n = s.rd f' n := rfl
@[simp] theorem rdb_setJob (f' : Field) (n : Nat) : (s.setJob j).rdb f' n = s.rdb f' n := rfl
@[simp] theorem tile_setJob (n : Nat) : (s.setJob j).tile n = s.tile n := rfl
@[simp] theorem fold_setJob (n : Nat) : (s.setJob j).fold n = s.fold n := rfl
@[simp] theorem foldOff_setJob (n : Nat) : (s.setJob j).foldOff n = s.foldOff n := rfl
@[simp] theorem regul_setJob (n : Nat) : (s.setJob j).regul n = s.regul n := rfl
@[simp] theorem loop_setJob (n : Nat) : (s.setJob j).loop n = s.loop n := rfl
@[simp] theorem mbox_setJob (n : Nat) : (s.setJob j).mbox n = s.mbox n := rfl
@[simp] theorem sess_setJob (n : Nat) : (s.setJob j).sess n = s.sess n := rfl
@[simp] theorem port_setJob (n : Nat) : (s.setJob j).port n = s.port n := rfl
@[simp] theorem hist_setJob (n : Nat) : (s.setJob j).hist n = s.hist n := rfl
@[simp] theorem penned_setJob (n : Nat) : (s.setJob j).penned n = s.penned n := rfl
@[simp] theorem conf_setJob (n : Nat) : (s.setJob j).conf n = s.conf n := rfl
@[simp] theorem rdHost_setJob (n k : Nat) : (s.setJob j).rdHost n k = s.rdHost n k := rfl
@[simp] theorem masters_setJob (n : Nat) : (s.setJob j).masters n = s.masters n := rfl
end

section
variable (s : State) (j : Nat) (g : Job → Job)
@[simp] theorem rd_modJob (f' : Field) (n : Nat) : (s.modJob j g).rd f' n = s.rd f' n := rfl
@[simp] theorem rdb_modJob (f' : Field) (n : Nat) : (s.modJob j g).rdb f' n = s.rdb f' n := rfl
@[simp] theorem tile_modJob (n : Nat) : (s.modJob j g).tile n = s.tile n := rfl
@[simp] theorem fold_modJob (n : Nat) : (s.modJob j g).fold n = s.fold n := rfl
@[simp] theorem foldOff_modJob (n : Nat) : (s.modJob j g).foldOff n = s.foldOff n := rfl
@[simp] theorem regul_modJob (n : Nat) : (s.modJob j g).regul n = s.regul n := rfl
@[simp] theorem loop_modJob (n : Nat) : (s.modJob j g).loop n = s.loop n := rfl
@[simp] theorem mbox_modJob (n : Nat) : (s.modJob j g).mbox n = s.mbox n := rfl
@[simp] theorem sess_modJob (n : Nat) : (s.modJob j g).sess n = s.sess n := rfl
@[simp] theorem port_modJob (n : Nat) : (s.modJob j g).port n = s.port n := rfl
@[simp] theorem hist_modJob (n : Nat) : (s.modJob j g).hist n = s.hist n := rfl
@[simp] theorem penned_modJob (n : Nat) : (s.modJob j g).penned n = s.penned n := rfl
@[simp] theorem conf_modJob (n : Nat) : (s.modJob j g).conf n = s.conf n := rfl
@[simp] theorem rdHost_modJob (n k : Nat) : (s.modJob j g).rdHost n k = s.rdHost n k := rfl
@[simp] theorem masters_modJob (n : Nat) : (s.modJob j g).masters n = s.masters n := rfl
end

section
variable (s : State) (a : Nat) (b : Bytes)
@[simp] theorem rd_wrHost (f' : Field) (n : Nat) : (s.wrHost a b).rd f' n = s.rd f' n := rfl
@[simp] theorem rdb_wrHost (f' : Field) (n : Nat) : (s.wrHost a b).rdb f' n = s.rdb f' n := rfl
@[simp] theorem tile_wrHost (n : Nat) : (s.wrHost a b).tile n = s.tile n := rfl
@[simp] theorem fold_wrHost (n : Nat) : (s.wrHost a b).fold n = s.fold n := rfl
@[simp] theorem foldOff_wrHost (n : Nat) : (s.wrHost a b).foldOff n = s.foldOff n := rfl
@[simp] theorem regul_wrHost (n : Nat) : (s.wrHost a b).regul n = s.regul n := rfl
@[simp] theorem loop_wrHost (n : Nat) : (s.wrHost a b).loop n = s.loop n := rfl
@[simp] theorem mbox_wrHost (n : Nat) : (s.wrHost a b).mbox n = s.mbox n := rfl
@[simp] theorem sess_wrHost (n : Nat) : (s.wrHost a b).sess n = s.sess n := rfl
@[simp] theorem port_wrHost (n : Nat) : (s.wrHost a b).port n = s.port n := rfl
@[simp] theorem hist_wrHost (n : Nat) : (s.wrHost a b).hist n = s.hist n := rfl
@[simp] theorem penned_wrHost (n : Nat) : (s.wrHost a b).penned n = s.penned n := rfl
@[simp] theorem conf_wrHost (n : Nat) : (s.wrHost a b).conf n = s.conf n := rfl
@[simp] theorem masters_wrHost (n : Nat) : (s.wrHost a b).masters n = s.masters n := rfl
@[simp] theorem jobByTag_wrHost (n : Nat) : (s.wrHost a b).jobByTag n = s.jobByTag n := rfl
end

section
variable (s : State)
@[simp] theorem rd_draw (f' : Field) (n : Nat) : (s.draw).rd f' n = s.rd f' n := rfl
@[simp] theorem rdb_draw (f' : Field) (n : Nat) : (s.draw).rdb f' n = s.rdb f' n := rfl
@[simp] theorem tile_draw (n : Nat) : (s.draw).tile n = s.tile n := rfl
@[simp] theorem fold_draw (n : Nat) : (s.draw).fold n = s.fold n := rfl
@[simp] theorem foldOff_draw (n : Nat) : (s.draw).foldOff n = s.foldOff n := rfl
@[simp] theorem regul_draw (n : Nat) : (s.draw).regul n = s.regul n := rfl
@[simp] theorem loop_draw (n : Nat) : (s.draw).loop n = s.loop n := rfl
@[simp] theorem mbox_draw (n : Nat) : (s.draw).mbox n = s.mbox n := rfl
@[simp] theorem sess_draw (n : Nat) : (s.draw).sess n = s.sess n := rfl
@[simp] theorem port_draw (n : Nat) : (s.draw).port n = s.port n := rfl
@[simp] theorem hist_draw (n : Nat) : (s.draw).hist n = s.hist n := rfl
@[simp] theorem penned_draw (n : Nat) : (s.draw).penned n = s.penned n := rfl
@[simp] theorem conf_draw (n : Nat) : (s.draw).conf n = s.conf n := rfl
@[simp] theorem rdHost_draw (n k : Nat) : (s.draw).rdHost n k = s.rdHost n k := rfl
@[simp] theorem masters_draw (n : Nat) : (s.draw).masters n = s.masters n := rfl
@[simp] theorem jobByTag_draw (n : Nat) : (s.draw).jobByTag n = s.jobByTag n := rfl
end

end State
end Sys2Proof.Machine
end

