-- ==== Sys2Proof/Tests/Slice0.lean ====
section
/-! SUPPORT. Small tests: a malformed command for each check of `Instr.wellFormed`, results worked out by hand from the spec's
rules, and for each statement states that meet its hypotheses. -/
namespace Sys2Proof.Tests
open Sys2Proof Sys2Proof.Machine

/-! ## Malformed commands -/

def hdr0 : FlitHdr := ⟨0, 0, 0, 0⟩
def msgBody (n : Nat) : MsgBody := ⟨false, 0, 0, 0, 0, 0, 0, 0, 0, 0, 0, List.replicate n 0#8⟩
def helloBody (n : Nat) : HelloBody := ⟨0, 0, 0, 0, 0, 0, 0, 0, 0, 0, 0, List.replicate n ⟨0, 0, 0⟩⟩
def dputBody (n : Nat) : DputBody := ⟨1, 0, 0, 0, 0, 0, 0, 0, List.replicate n 0#8, 0⟩
def dgetBody : DgetBody := ⟨0, 0, 0, 0, 0⟩

theorem test_lineRead_flip_too_long : (Instr.lineRead 0 0 (zeros 69)).wellFormed = false
    ∧ (Instr.refetchResult 0 0 (zeros 69)).wellFormed = false := by decide +kernel
theorem test_lineWrite_not_a_line : (Instr.lineWrite 0 0 (zeros 63)).wellFormed = false
    ∧ (Instr.lineWrite 0 0 (zeros 65)).wellFormed = false ∧ (Instr.lineWrite 0 0 (zeros 64)).wellFormed = true := by decide +kernel
theorem test_partialLineWrite_outside_the_line : (Instr.partialLineWrite 0 0 63 (zeros 2)).wellFormed = false
    ∧ (Instr.partialLineWrite 0 0 0 []).wellFormed = false ∧ (Instr.partialLineWrite 0 0 63 (zeros 1)).wellFormed = true := by decide +kernel
theorem test_training_attempts : (Instr.channelTraining 0 ⟨[], 0, []⟩).wellFormed = false
    ∧ (Instr.channelRetrain 0 ⟨[15, 15], 0, []⟩).wellFormed = false
    ∧ (Instr.channelTraining 0 ⟨[7], 0, []⟩).wellFormed = false ∧ (Instr.channelTraining 0 ⟨[7, 15], 0, []⟩).wellFormed = true := by decide +kernel
theorem test_frameClose_channels : (Instr.frameClose 0 ⟨List.replicate 143 0, true⟩).wellFormed = false := by decide +kernel
theorem test_thermalSample_tiles : (Instr.thermalSample [0]).wellFormed = false := by decide +kernel
theorem test_hello_stamps : (Instr.hello 0 hdr0 (helloBody 9)).wellFormed = false
    ∧ (Instr.hello 0 hdr0 (helloBody 8)).wellFormed = true := by decide +kernel
theorem test_msg_empty : (Instr.msg 0 hdr0 (msgBody 0)).wellFormed = false ∧ (Instr.msg 0 hdr0 (msgBody 1)).wellFormed = true := by decide +kernel
theorem test_msg_too_long : (Instr.msg 0 hdr0 (msgBody 4097)).wellFormed = false := by decide +kernel
theorem test_release_ids : (Instr.release 0 hdr0 []).wellFormed = false
    ∧ (Instr.release 0 hdr0 (List.replicate 61 0)).wellFormed = false := by decide +kernel
theorem test_retract_ids : (Instr.retract 0 hdr0 []).wellFormed = false
    ∧ (Instr.retract 0 hdr0 (List.replicate 61 0)).wellFormed = false := by decide +kernel
theorem test_dput_digest : (Instr.dput 0 hdr0 (dputBody 31)).wellFormed = false := by decide +kernel
theorem test_dgetrsp_digests : (Instr.dgetrsp 0 hdr0 dgetBody (List.replicate 8 (zeros 32))).wellFormed = false
    ∧ (Instr.dgetrsp 0 hdr0 dgetBody [zeros 31]).wellFormed = false := by decide +kernel
theorem test_request_length : (Instr.request 0 (zeros 15)).wellFormed = false := by decide +kernel
theorem test_request_too_long : (Instr.request 0 (zeros 4097)).wellFormed = false := by decide +kernel
theorem test_spdm_nonce : (Instr.challenge (.doe 0) 0 (zeros 31)).wellFormed = false
    ∧ (Instr.getMeasurements (.doe 0) 1 (zeros 33)).wellFormed = false := by decide +kernel

/-! ## The spec's worked examples -/

-- The example of R21 to R23: tile (21, 6), and tile (23, 6).
theorem test_tile_numbers : foldOf 213 = 13 ∧ localOf 213 = 9 ∧ succOf 213 = 214 ∧ tieOf 213 = 214
    ∧ localOf 215 = 11 ∧ succOf 215 = 7 * 32 + 20 ∧ foldOf (tieOf 215) = 14 := by decide +kernel

-- The example of R51 and R52: 0x3E99_999A to E4M3, nearest and with the first draw from 0x0000_0001.
theorem test_narrowing_nearest : cvtElem 2 false none (fp32Val 0x3E99999A) = (0x2A, 0) := by decide +kernel
theorem test_narrowing_stochastic : xorshift 1 = 0x00042021
    ∧ cvtElem 2 false (some 0x00042021) (fp32Val 0x3E99999A) = (0x29, 0) := by decide +kernel

-- The example of R58 to R61: K2-2L by INT4-2L with K = 16; with y = 20.0 in its place the check is violated.
def example2L : Tile :=
  [(64, [0xD3, 0xAA, 0xAA, 0xAA]), (128, [0xE3, 0x87]), (192, [0x7E, 0x3C]), (256, [0x7D, 0x38]),
    (320, toLE 4 0x3F400000 ++ toLE 4 0x41300000)].foldl (fun x k => x.wrSpad k.1 k.2) Tile.reset
def matmul2L : Matmul := ⟨12, 9, 0, false, 0, false, 1, 1, 16, 64, 4, 128, 8, 512, 4, 192, 256, 0, 320, 0⟩
theorem test_matmul_two_level : matmulRun example2L matmul2L false 0 0 0 none = ⟨[(512, toLE 4 0xBFC00000)], 0, false, none, 0⟩ := by
  decide +kernel
theorem test_matmul_violation :
    ((matmulRun example2L matmul2L false 0 0 0 (some ⟨0, 0, 0xBFC00000#32 ^^^ 0x41A00000#32⟩)).viol.map fun c => (c.row, c.col, c.y, c.b))
      = some (0, 0, 0x41A00000, 0x41840003) := by decide +kernel

-- The example of R125: a decode projection takes 8,488 cycles.
theorem test_matmul_cycles : ({ matmul2L with xf := 8, m := 1024, n := 64, k := 1024 } : Matmul).cycles = 8488 := by decide +kernel

-- The examples of R237 and R263: the place of a column address, and a row repair entry of tile 213.
theorem test_column_place : placeOf 0x01234540 = ⟨1, 5, 0x091, 0x14, 0⟩ ∧ rowRepairs [0x1AA6A891] 213 = ([0x1AA6A891], []) := by
  decide +kernel

-- The example of R411: three fields written together.
theorem test_config_clamps : cfgClamp 0x0100 2500 = some 2400 ∧ cfgClamp 0x0201 275 = some 250 ∧ cfgClamp 0x0300 3 = some 2 := by
  decide +kernel

/-! ## Witnesses of the statements about every step -/

theorem witness_CanonicalFormsAreKept : State.reset.regsCanonical = true ∧ State.reset.hostCanonical = true
    ∧ ∃ t, step State.reset = .next t := ⟨by decide +kernel, by decide +kernel, _, rfl⟩

/-! ## States that meet the hypotheses of the statements

Each theorem names its statement and shows, clause by clause, a state and operands that meet the clause's hypotheses together. -/

set_option Elab.async false

namespace W
/-- open machine at 2 s, mailboxes idle, sessions of 0 and 2 open, connection 1 of management -/
def policy : Policy := { kind := 0, mode := 0, priority := 0, ingestCh := 0, ntiles := 1, wdog := 50, flockK := 0, period := 0, ckpt := 0, digest := 0, flock := 0 }
def job (st : Nat) : Job := { handle := 1, tag := 7, fn := 0, state := st, tiles := [3], twins := [], policy := policy, imgAddr := 4096, imgLen := 64, entry := 0, sections := [], norms := [], restarts := 0, lastCkpt := 0, first := none, startAt := 0, restart := none, ckptOp := none, ckptOn := false, ckptSeq := 0, ckptCount := 0, ckptDue := false, patches := [], wdogHit := false, poisonHit := [], digestAt := 0, parkNext := false, expel := none, grid := [], drainOwed := false, digestDue := none }
def tl : Tile := { Tile.reset with off := false, clkStop := false }
def o : State := (([0, 2, 17].foldl (fun (s : State) m => s.wr MBX_STAT_STATE m 0) { State.reset with
  phase := .open, fwLevel := 3, now := 2000000000, busMaster := 1
  sessions := [(0, { Session.reset with state := 1, gen := 1, keyGen := 1 }), (2, { Session.reset with state := 1, gen := 2, keyGen := 2 })], keys := [(0, 99), (1, 98), (4, 77)]
  conns := [(1, { Conn.reset with mbx := 17, lastFrame := 1999999999 })]
  tiles := [(3, tl), (4, tl)], folds := [(foldOf 3, { Fold.reset with off := false }), (foldOf 4, { Fold.reset with off := false }), (foldOf 1023, { Fold.reset with off := false })] }).wr MGT_STAT_CONN 0 2).wr PCIE_VFEN_EN 0 5 |>.wr VCH_STATE_STATE 3 2 |>.wr VCH_STATE_STATE 4 2
def acc (m op obj : Nat) (b : Bytes) (s : State) : State :=
  (s.setMbox m { s.mbox m with accepted := some ⟨op, b.length, 77, obj, 0, b, s.acceptSeq, s.now, none⟩ }).wr MBX_STAT_STATE m 1
def bg (m k : Nat) (b : BgSlot) (s : State) : State := s.setMbox m { s.mbox m with bg := (s.mbox m).bg.set k b }
def slot (op obj : Nat) (args : List Nat) (st := 1) : BgSlot := { opid := 9, opcode := op, state := st, progress := 0, status := 0, result := [], object := obj, args := args, orphan := false }
def withJob (j : Job) (s : State) : State := { s with jobs := [j] }
def tick (n : Nat) (s : State) : State := { s with now := n }
def run (c : Instr) (s : State) : State := match exec c s with | .next t => t | _ => s
def withPool (s : State) : State := (s.createPool ⟨0, 0, 8, 4, 0x10000, 0x8000, 0x9000, 1⟩ 0 3)
/-- a flow with handle 9 in entry 0 of tile 3 -/
def withFlow (s : State) : State :=
  { (withPool s).modTile 3 fun x => x.wrSpad 0x9000 (toLE 4 9 ++ toLE 4 0xA000 ++ toLE 2 0 ++ toLE 2 4 ++ zeros 12 ++ toLE 1 1 ++ zeros 7) with flows := [⟨9, 1, 0, 3, 0, 0, true⟩] }
/-- the core of tile 3 runs, with an instruction word in the instruction cache at its pc -/
def running (s : State := o) : State := (s.wr TILE_STATE_STATE 3 1).modTile 3 fun x => { x with pc := BitVec.ofNat 64 winBase }
def code (w : Nat) (x1 x2 : W64) (s : State := o) : State := (running s).modTile 3 fun x =>
  { x with icache := [(winBase / 64, toLE 4 w ++ zeros 60)], x := (x.x.set 1 x1).set 2 x2 }
def regs2 (x1 x2 : W64) (s : State := o) : State := (running s).modTile 3 fun x => { x with x := (x.x.set 1 x1).set 2 x2 }
def jobOn (st : Nat) (s : State := o) : State := withJob (job st) ((s.wr TILE_JOB_JOB 3 7).wr NBC_CTRL_MODE 3 0)
def tp (f : Tile → Tile) (s : State := o) : State := s.modTile 3 f
def idle (s : State) : State := tp (fun x => { x with poolRun := none, poolQ := [] }) s
/-- the pool, one flow, and frame 0 allocated -/
def pool0 : State := jobOn 3 (withFlow o)
def pool1 : State := idle (run (.alloc 3 true 0 1) pool0)
def pool2 : State := idle (run (.ref 3 true 0) pool1)
def poolFull : State := (List.range 7).foldl (fun s _ => idle (run (.alloc 3 true 0 1) s)) pool2
/-- the flow's list names frame 0 -/
def paged : State := tp (fun x => (x.wrSpad 0xA000 (pool1.dirEntry 3 0).bytes).wrSpad (0x9000 + 8) [1, 0]) pool1
/-- The requests accepted in the mailboxes; their background slots; the operations that stand in the units of the tiles. -/
def requests (s : State) : List Req := s.mboxes.filterMap (·.2.accepted)
def slots (s : State) : List BgSlot := s.mboxes.flatMap fun m => m.2.bg.map (·.2)
def unitOps (s : State) : List UnitOp :=
  s.tiles.flatMap fun k => k.2.taQ ++ k.2.vecQ ++ k.2.taOpen ++ k.2.taRun.toList ++ k.2.vecRun.toList
end W
open W

namespace WallClockAndAttestationCases
def att_0 : State := o
def att_1 : State := { o with phase := .reset }
def att_3 : State := tick 20000000000 ((o.wr MGT_STAT_PTP 0 1).wr MGT_STAT_WALLOK 0 1)

theorem witness_WallClockAndAttestation :
    (List.length (zeros 32) = 32 ∧ 8 ≤ (8#8).toNat ∧ (8#8).toNat ≠ 255 ∧ spdmKnown (5#8).toNat = false ∧ att_0.heard 1 = true ∧
      (att_0.conn 1).unread = []) ∧
    (List.length (zeros 32) = 32 ∧ 8 ≤ (8#8).toNat ∧ (8#8).toNat ≠ 255 ∧ spdmKnown (5#8).toNat = false ∧ att_0.doeUp 0 = true) ∧
    (List.length (zeros 32) = 32 ∧ 8 ≤ (8#8).toNat ∧ (8#8).toNat ≠ 255 ∧ spdmKnown (5#8).toNat = false ∧ att_1.doeUp 0 = false) ∧
    (att_0.doeUp 0 = true) ∧
    (List.length (zeros 32) = 32 ∧ att_0.doeUp 0 = true) ∧
    (List.length (zeros 32) = 32 ∧ 1 ≤ (5#8).toNat ∧ (5#8).toNat ≤ 7 ∧ att_0.doeUp 0 = true) ∧
    (spdmKnown (132#8).toNat = true) ∧
    (att_0.mgtUp = true) ∧
    (att_3.rdb MGT_STAT_PTP 0 = true ∧ att_3.ptpAt + 10000000000 ≤ att_3.now) ∧
    (att_0.now < att_0.ptpAt + 10000000000) := by
  refine ⟨?_, ?_, ?_, ?_, ?_, ?_, ?_, ?_, ?_, ?_⟩ <;> decide +kernel
end WallClockAndAttestationCases

namespace ResetAndStartUpCases
def jb (st : Nat) (s : State := o) : State := withJob (job st) ((s.wr TILE_JOB_JOB 3 7).wr NBC_CTRL_MODE 3 0)
def vf (s : State) : State := s.wr PCIE_VFEN_EN 0 7
def boot_0 : State := (jb 3).wr TLR_FAULT_COUNT 3 9
def boot_1 : State := { o with phase := .reset }
def boot_4 : State := { vf o with phase := .rom }
def boot_5 : State := { vf o with phase := .firmware }

theorem witness_ResetAndStartUp :
    (boot_0.phase ≠ Phase.reset) ∧
    (boot_1.phase = Phase.reset) ∧
    (boot_4.phase = Phase.rom ∧ boot_4.chosenImage = some 0 ∧ boot_4.flash.images[0]? = some Image.reset) ∧
    (boot_0.phase ≠ Phase.rom) ∧
    (boot_5.phase = Phase.firmware ∧ 1350000000 ≤ boot_5.now) ∧
    (boot_0.phase ≠ Phase.firmware ∨ boot_0.now < 1350000000 ∧ boot_0.broughtUp = false) := by
  refine ⟨?_, ?_, ?_, ?_, ?_, ?_⟩ <;> decide +kernel
end ResetAndStartUpCases

namespace ChannelsTrainCases
def chan_0 : State := o.wr VCH_STATE_STATE 3 1
def chan_1 : State := { o with folds := [] }
def chan_2 : State := tp fun x => { x with failTimes := List.replicate 16 5 }
def chan_4 : State := o.wr TLR_STAT_STATE (cirOf (foldOf 3)) 2

theorem witness_ChannelsTrain :
    (trainingOk (⟨[15#4], 5#6, []⟩ : Training) = true ∧ chan_0.foldOff (foldOf 3) = false ∧ chan_0.rd VCH_STATE_STATE 3 = 1 ∧
      (⟨[15#4], 5#6, []⟩ : Training).attempts.getLast? = some 15#4) ∧
    (trainingOk (⟨[3#4, 7#4, 3#4], 5#6, []⟩ : Training) = true ∧ chan_0.foldOff (foldOf 3) = false ∧ chan_0.rd VCH_STATE_STATE 3 = 1
      ∧ (⟨[3#4, 7#4, 3#4], 5#6, []⟩ : Training).attempts.getLast? ≠ some 15#4) ∧
    (chan_1.foldOff (foldOf 3) = true ∧ trainingOk (⟨[15#4], 5#6, []⟩ : Training) = true) ∧
    (trainingOk (⟨[15#4], 5#6, []⟩ : Training) = true ∧ (⟨[15#4], 5#6, []⟩ : Training).attempts.getLast? = some 15#4 ∧ chan_2.chanUp
      3 = true ∧ 16 ≤ (chan_2.tile 3).failTimes.length ∧ (chan_2.tile 3).failTimes.headD 0 ≤ (chan_2.tile 3).failTimes.getLastD
      0 + 1000000 ∧ 0 = chan_2.rd VCH_TRAIN_RETRAINS 3) ∧
    (trainingOk (⟨[15#4], 5#6, []⟩ : Training) = true ∧ (chan_0.tile 3).failTimes.length < 16) ∧
    (chan_2.chanUp 3 = true ∧ (chan_2.tile 3).lastCentre + 250000000 ≤ chan_2.now) ∧
    (chan_4.foldOff (foldOf 3) = false ∧ chan_4.regOn (cirOf (foldOf 3)) = true ∧ (((chan_4.tile 3).lastRefresh.find (16 *
      (0#2).toNat + (0#4).toNat)).getD 0 + if chan_4.rdb VCH_STATE_REFRESH2X 3 = true then 16000000 else 32000000) ≤ chan_4.now) ∧
    (chan_0.regOn (cirOf (foldOf 3)) = false) := by
  refine ⟨?_, ?_, ?_, ?_, ?_, ?_, ?_, ?_⟩ <;> decide +kernel
end ChannelsTrainCases

namespace ChecksAndGuardedStoresCases
def op (v : Option Capture) (ex : Bool) : UnitOp := { newOp false 5 0 0 0 (zeros 64) with viol := v, exempt := ex, done := some 5 }
def cp : Capture := ⟨3, 4, 77, 88, 99, 0, []⟩
def chk_0 : State := tp fun x => { x with taOpen := [op none false, op none true] }
def chk_2 : State := tp fun x => { x with taOpen := [op (some cp) false] }
def chk_5 : State := tp (fun x => { x with wait := some (.store 100 [1,2,3,4] 0 0 4), guarded := [(1999000000, .store)] }) running

theorem witness_ChecksAndGuardedStores :
    (∃ op, op ∈ (chk_0.tile 3).taOpen.head? ∧ (chk_0.tile 3).taOpen = op :: (chk_0.tile 3).taOpen.tail ∧ op.viol = none) ∧
    (∃ op, op ∈ (chk_2.tile 3).taOpen.head? ∧ (chk_2.tile 3).taOpen = op :: (chk_2.tile 3).taOpen.tail ∧ op.viol.isSome = true) ∧
    (0 < 32 ∧ (chk_5.tile 3).wait = some (CoreWait.store 100 [1#8, 2#8, 3#8, 4#8] 0 0 4) ∧ (chk_5.tile 3).guarded = (1999000000,
      GuardedWrite.store) :: (chk_5.tile 3).guarded.tail ∧ (chk_5.tile 3).guards { addr := 100, len := [1#8, 2#8, 3#8,
      4#8].length } = false) := by
  refine ⟨?_, ?_, ?_⟩ <;> decide +kernel
end ChecksAndGuardedStoresCases

namespace RegisterWritesTakeEffectCases
def op (v : Option Capture) (ex : Bool) : UnitOp := { newOp false 5 0 0 0 (zeros 64) with viol := v, exempt := ex, done := some 5 }
def chk_7 : State := o
def chk_8 : State := tp fun x => { x with taCount := 1, taRun := some (op none false), vecRun := some (op none false) }
def chk_19 : State := { o with msixPend := [(0, 1)] }

theorem witness_RegisterWritesTakeEffect :
    ((chk_7.tile 3).taQ = [] ∧ (chk_7.tile 3).taRun = none) ∧
    ((chk_8.tile 3).taRun.isSome = true ∧ (chk_8.tile 3).taDone < (chk_8.tile 3).taCount ∧ (chk_8.tile 3).seedTa = [] ∧ (chk_8.tile
      3).seedVec = []) ∧
    ((chk_7.tile 3).vecQ = [] ∧ (chk_7.tile 3).vecRun = none) ∧
    (16384 ≤ 16384) ∧
    ((∀ (g : FnId), RegSpace.tile 3 ≠ RegSpace.bar0 g) ∧ 0 % 8 = 0) ∧
    (bit (chk_7.rd PCIE_VFEN_EN 0) 0 = true ∧ bar0Bad 1 (if (none : Option W32).isSome = true then 8 else 4) = true) ∧
    (bit (chk_7.rd PCIE_VFEN_EN 0) 1 = false) ∧
    (bit (chk_7.rd PCIE_VFEN_EN 0) 0 = true ∧ 4096 ≤ 4232 ∧ 4232 + 8 ≤ 8192 ∧ 4232 % 4 = 0) ∧
    (bit (chk_19.rd PCIE_VFEN_EN 0) 0 = true ∧ 0 % 2 = 0 ∧ (chk_19.msixPend.find (8 * 0 + 0)).isSome = true) := by
  refine ⟨?_, ?_, ?_, ?_, ?_, ?_, ?_, ?_, ?_⟩ <;> decide +kernel
/-- The first word of an access of eight bytes. -/
theorem witness_RegisterWritesTakeEffect_pair : exec (.registerWrite (.tile 3) 0 ⟨0, none⟩) chk_7 = .next chk_7 := rfl
end RegisterWritesTakeEffectCases

namespace TileControlCases
def fon : Fold := { Fold.reset with off := false }
def jb (st : Nat) (s : State := o) : State := withJob (job st) ((s.wr TILE_JOB_JOB 3 7).wr NBC_CTRL_MODE 3 0)
def mg : Msg := { src := 4, sch := 1, dst := 3, dch := 2, gen := 0, seq := 0, job := 7, payload := [1,2,3,4,5], poison := [], rstack := 0, rtile := 4, rch := 1, ta := 0, vec := 0, tSend := 5 }
def chk_7 : State := o
def chk_10 : State := tp (fun x => { x with wdogFrom := some 1000, wdogLeft := 5000 }) running
def chk_12 : State := jb 3
def chk_14 : State := {jb 5 with mesh := [mg]}
def chk_18 : State := { o with folds := [(0, fon), (1, fon), (8, fon)], tiles := [((tilesOf 1).headD 0, tl), ((tilesOf 8).headD 0, tl)] }
def chk_19 : State := { o with phase := .stopped }

theorem witness_TileControl :
    (chk_10.running 3 = true ∧ (chk_10.tile 3).wdogFrom.isSome = true ∧ chk_10.wdogRemain 3 = 0) ∧
    (chk_10.running 3 = true) ∧
    ((Instr.watchdogExpiry 3 = Instr.watchdogExpiry 3 ∨ Instr.watchdogExpiry 3 = Instr.meshParityError 3 ∨ Instr.watchdogExpiry 3 =
      Instr.scratchpadParityError 3) ∧ chk_7.running 3 = false) ∧
    (∀ (j : Job), chk_7.jobOf 3 = some j → j.state ≠ 3 ∧ j.state ≠ 4) ∧
    (∃ j, j ∈ chk_12.jobOf 3 ∧ (j.state = 3 ∨ j.state = 4)) ∧
    (chk_19.inService = false) ∧
    (chk_7.rd TILE_STATE_STATE 3 = 0 ∧ (chk_7.tile 3).off = false ∧ chk_7.inService = true) ∧
    ((chk_7.rd TILE_STATE_STATE 3 = 0 ∨ chk_7.jobOf 3 = none) ∧ (chk_7.tile 3).off = false) ∧
    ((true = false ∨ chk_7.foldOffDenied 0 = false) ∧ chk_7.mesh = [] ∧ chk_7.credits = []) ∧
    ((true = false ∨ chk_14.foldOffDenied 0 = false) ∧ (chk_14.mesh ≠ [] ∨ chk_14.credits ≠ [])) ∧
    (true = true ∧ chk_18.foldOffDenied 0 = true) := by
  refine ⟨?_, ?_, ?_, ?_, ?_, ?_, ?_, ?_, ?_, ?_, ?_⟩ <;> decide +kernel
end TileControlCases

namespace RestoresSelfTestsAndCheckpointsCases
def jb (st : Nat) (s : State := o) : State := withJob (job st) ((s.wr TILE_JOB_JOB 3 7).wr NBC_CTRL_MODE 3 0)
def dj (st : Nat) (s : State := o) : State := withJob { job st with twins := [4], policy := { policy with mode := 1 } } ((s.wr TILE_JOB_JOB 3 7).wr TILE_JOB_JOB 4 7)
def ck0 : Ckpt := (jb 3).record 7 3 1
def dj3 : State := { (dj 3) with jobs := (dj 3).jobs.map fun j => { j with ckptOn := true } }
def ckpt_0 : State := (tp (fun x => { x with ckpts := [(0, ck0)], x := x.x.set 5 77 }) (jb 4))
def ckpt_1 : State := tp (fun x => { x with ckpts := [] }) (jb 4)
def ckpt_2 : State := tp (fun x => { x with ckpts := [(0, ck0)], col := [(ckptBase 0 / 64 + 256, ⟨zeros 64, 5⟩)] }) (jb 4)
def ckpt_3 : State := tp (fun x => { x with restored := true, haltJob := true, ckpts := [(0, ck0)] }) (jb 4)
def ckpt_6 : State := { o with histories := [(tileUnit 3, { History.reset with penned := true })] }
def ckpt_7 : State := tp (fun x => { x with selftest := true }) o
def ckpt_9 : State := { (jb 3).wr TILE_STATE_STATE 3 1 with jobs := [{ job 3 with ckptDue := true }] }
def ckpt_11 : State := { jb 3 with jobs := [{ job 3 with ckptOn := true }] }
def ckpt_12 : State := tp (fun x => { x with ckptDone := true, curSlot := 1, ckpts := [(0, ck0), (1, ck0)], undo := [(0, [])] }) { jb 3 with jobs := [{ job 3 with ckptOn := true }] }
def ckpt_13 : State := tp (fun x => { x with poolQ := [⟨false, 2, 0, 0, 0, false, 5, 3, 4⟩] }) (jb 3)
def ckpt_14 : State := (dj3.modTile 3 fun x => { x with ckptDone := true, ckpts := [(1, { ck0 with spad := [(5, 5#8)] })] }).modTile 4 fun x => { x with ckptDone := true, ckpts := [(1, ck0)] }
def ckpt_15 : State := tp (fun x => { x with heldLines := [(ckptBase 1 / 64, ⟨0, 5, false, none, false, false, false⟩)] }) { jb 3 with jobs := [{ job 3 with ckptOn := true }] }

theorem witness_RestoresSelfTestsAndCheckpoints :
    (∃ j, j ∈ ckpt_0.jobs.find? (fun j ↦ j.all.contains 3) ∧ j.tag ≠ 0 ∧ ckpt_0.mayRestore j 3 = true ∧ ckpt_0.reloadWaits j 3 =
      false ∧ (ckpt_0.tile 3).heldLines = [] ∧ ∃ c, c ∈ (ckpt_0.tile 3).ckpts.find (ckpt_0.tile 3).curSlot ∧ (ckpt_0.slotOk 3
      c).snd = true) ∧
    (∃ j, j ∈ ckpt_1.jobs.find? (fun j ↦ j.all.contains 3) ∧ j.tag ≠ 0 ∧ ckpt_1.mayRestore j 3 = true ∧ ckpt_1.reloadWaits j 3 =
      false ∧ (ckpt_1.tile 3).heldLines = [] ∧ (ckpt_1.tile 3).ckpts.find (ckpt_1.tile 3).curSlot = none) ∧
    (∃ j, j ∈ ckpt_2.jobs.find? (fun j ↦ j.all.contains 3) ∧ j.tag ≠ 0 ∧ ckpt_2.mayRestore j 3 = true ∧ ckpt_2.reloadWaits j 3 =
      false ∧ (ckpt_2.tile 3).heldLines = [] ∧ ∃ c, c ∈ (ckpt_2.tile 3).ckpts.find (ckpt_2.tile 3).curSlot ∧ (ckpt_2.slotOk 3
      c).snd = false) ∧
    (∃ j, j ∈ ckpt_3.jobByTag 7 ∧ ckpt_3.mayResume j ((Option.map (fun x ↦ x.park) j.restart).getD false) = true) ∧
    ((ckpt_0.phase = Phase.open ∨ ckpt_0.phase = Phase.firmware) ∧ ckpt_0.penned (tileUnit 3) = false ∧ (ckpt_0.tile 3).off = false) ∧
    (ckpt_6.penned (tileUnit 3) = true) ∧
    ((ckpt_7.tile 3).selftest = true ∧ ckpt_7.testable 3 = true ∧ (ckpt_7.tile 3).testOn = false ∧ (ckpt_7.tile 3).selftestFor =
      none ∧ ∀ (k : Nat × Tile), k ∈ ckpt_7.tiles → k.snd.boundWait.contains 3 = false) ∧
    ((ckpt_7.tile 3).selftest = true ∧ ckpt_7.testable 3 = true ∧ (ckpt_7.tile 3).testOn = false ∧ ckpt_7.penned (tileUnit 3) =
      false) ∧
    (∃ j, j ∈ ckpt_9.jobByTag 7 ∧ j.state = 3 ∧ j.ckptOn = false ∧ ckpt_9.ckptDueNow j = true) ∧
    (∃ j, j ∈ ckpt_0.jobByTag 7 ∧ ckpt_0.ckptDueNow j = false) ∧
    (∃ j, j ∈ ckpt_0.jobs ∧ ckpt_15.rangeHeld 3 (ckptBase (1 - (ckpt_15.tile 3).curSlot) / 64) 131072 = true) ∧
    (∃ j, j ∈ ckpt_11.jobOf 3 ∧ j.ckptOn = true ∧ (ckpt_11.tile 3).ckptDone = false ∧ (ckpt_11.tile 3).quiet = true ∧
      ckpt_11.rangeHeld 3 (ckptBase (1 - (ckpt_11.tile 3).curSlot) / 64) 131072 = false ∧ ((j.all.any fun v ↦ (ckpt_11.tile
      v).ckptDone) = true ∨ (j.all.all fun v ↦ (ckpt_11.tile v).quiet) = true ∧ ckpt_11.meshQuiet j = true)) ∧
    (∃ j, j ∈ ckpt_0.jobs ∧ (ckpt_13.tile 3).quiet = false) ∧
    (∃ j, j ∈ ckpt_12.jobByTag 7 ∧ j.ckptOn = true ∧ (j.all.all fun v ↦ (ckpt_12.tile v).ckptDone) = true ∧ ckpt_12.imagesDiffer j =
      none) ∧
    (∃ j, j ∈ ckpt_14.jobByTag 7 ∧ j.ckptOn = true ∧ (j.all.all fun v ↦ (ckpt_14.tile v).ckptDone) = true ∧ ∃ p, p ∈
      ckpt_14.imagesDiffer j ∧ (ckpt_14.jobOf p).isSome = true) := by
  refine ⟨?_, ?_, ?_, ?_, ?_, ?_, ?_, ?_, ?_, ?_, ?_, ?_, ?_, ?_, ?_⟩ <;> decide +kernel
end RestoresSelfTestsAndCheckpointsCases

namespace ConvertersCases
def scan1 (c : Bool) : Scan := ⟨List.replicate 144 1000#12, c⟩
def fold0 (s : State) : State := s.wr FCE_CTRL_RUN 0 1
def conv_0 : State := tick 2000000200 (fold0 o)
def conv_1 : State := o
def conv_2 : State := tick 2000000800 ((fold0 o).setLoop 5 { (fold0 o).loop 5 with word := some 7 })
def conv_5 : State := o.modFold 0 fun x => { x with window := 2000 }
def conv_9 : State := o.modFold 0 fun x => { x with urgDue := some 5, urgBusy := 2000000001 }

theorem witness_Converters :
    ((scan1 true).raw.length = 144 ∧ conv_0.rdb FCE_CTRL_RUN 0 = true ∧ conv_0.now % 1000 = 200 ∧ (scan1 true).complete = true ∧
      conv_0.rdb FCV_STAT_FAULT 0 = false) ∧
    ((scan1 false).raw.length = 144 ∧ conv_0.rdb FCE_CTRL_RUN 0 = true ∧ conv_0.now % 1000 = 200 ∧ (scan1 false).complete = false ∧
      (conv_0.fold 0).missRun = 0) ∧
    ((scan1 true).raw.length = 144 ∧ conv_1.now % 1000 ≠ 200) ∧
    (conv_2.rdb FCE_CTRL_RUN 0 = true ∧ conv_2.now % 1000 = 800) ∧
    (conv_1.rdb FCE_CTRL_RUN 0 = false) ∧
    (143 < 144) ∧
    (0 ≤ 143 ∧ (conv_2.inScan 0 40 = true ∨ conv_2.now < (conv_2.fold 0).urgBusy)) ∧
    (0 ≤ 143 ∧ conv_0.inScan 0 40 = false ∧ (conv_0.fold 0).urgBusy ≤ conv_0.now) ∧
    (∃ k, k ∈ (conv_9.fold 0).urgDue ∧ (conv_9.fold 0).urgBusy = conv_9.now + 1 ∧ conv_9.pending = [] ∧ conv_9.phase ≠ Phase.reset ∧
      conv_9.frac = 0 ∧ conv_9.ppm = 0 ∧ conv_9.now < 2 ^ 64 - 1) ∧
    (conv_2.inScan 0 0 = true) ∧
    (conv_0.inScan 0 0 = false) ∧
    (conv_1.now % 1000000 < 200 ∧ (conv_1.fold 0).window ≠ conv_1.now / 1000000) ∧
    ((conv_5.fold 0).window = conv_5.now / 1000000) := by
  refine ⟨?_, ?_, ?_, ?_, ?_, ?_, ?_, ?_, ?_, ?_, ?_, ?_, ?_⟩ <;> decide +kernel
end ConvertersCases

namespace BaseInstructionsCases
def r3 (op f3 f7 rd a b : Nat) : Nat := op + rd * 128 + f3 * 4096 + a * 2^15 + b * 2^20 + f7 * 2^25
def core_0 : State := code (r3 0x33 0 0 1 1 2) 5 (-3)
def core_2 : State := code (r3 0x33 0 1 2 1 2) 0xFFFFFFFFFFFF 0xFFFFFFFFFF
def core_3 : State := code (r3 0x13 0 3 2 1 7) (-5) 0
def core_4 : State := (code (r3 0x03 3 0 2 1 7) 100 0).modTile 3 fun x => x.wrSpad 105 [1,2,3,4,5,6,7,8,9]
def core_6 : State := code (r3 0x23 3 1 4 1 2) 100 0x123456789abcdef
def core_8 : State := code (r3 0x63 0 0 8 1 2) 100 100

def fetches (s : State) (w : Nat) : Bool :=
  s.runs 3 && (match s.fetchInstr 3 with | .got _ p => p == (w, 4) | _ => false)

theorem fetched_of_fetches {s : State} {w : Nat} (h : fetches s w = true) : ∃ s', s.fetched 3 w s' := by
  simp only [fetches, Bool.and_eq_true] at h
  obtain ⟨hr, h⟩ := h
  split at h
  · next t p ht => exact ⟨t, hr, by rw [ht, eq_of_beq h]⟩
  · cases h

/-- ADD, MUL, ADDI, LD, SD and BEQ, each fetched and with the operands of its clause. -/
theorem witness_BaseInstructions :
    ((∃ s', core_0.fetched 3 (r3 0x33 0 0 1 1 2) s') ∧ r3 0x33 0 0 1 1 2 % 128 = 0x33 ∧ bf (r3 0x33 0 0 1 1 2) 12 3 = 0
      ∧ bf (r3 0x33 0 0 1 1 2) 25 7 = 0)
    ∧ ((∃ s', core_2.fetched 3 (r3 0x33 0 1 2 1 2) s') ∧ r3 0x33 0 1 2 1 2 % 128 = 0x33 ∧ bf (r3 0x33 0 1 2 1 2) 12 3 = 0
      ∧ bf (r3 0x33 0 1 2 1 2) 25 7 = 1)
    ∧ ((∃ s', core_3.fetched 3 (r3 0x13 0 3 2 1 7) s') ∧ r3 0x13 0 3 2 1 7 % 128 = 0x13 ∧ bf (r3 0x13 0 3 2 1 7) 12 3 = 0
      ∧ bf (r3 0x13 0 3 2 1 7) 31 1 = 0)
    ∧ ((∃ s', core_4.fetched 3 (r3 0x03 3 0 2 1 7) s') ∧ r3 0x03 3 0 2 1 7 % 128 = 0x03 ∧ bf (r3 0x03 3 0 2 1 7) 12 3 = 3
      ∧ 107 = ((core_4.tile 3).xr (bf (r3 0x03 3 0 2 1 7) 15 5) + 0 + bf (r3 0x03 3 0 2 1 7) 20 12) % 2 ^ 64
      ∧ 107 + 8 ≤ spadSize ∧ (core_4.tile 3).poisonedIn 107 8 = false)
    ∧ ((∃ s', core_6.fetched 3 (r3 0x23 3 1 4 1 2) s') ∧ r3 0x23 3 1 4 1 2 % 128 = 0x23 ∧ bf (r3 0x23 3 1 4 1 2) 12 3 = 3
      ∧ bf (r3 0x23 3 1 4 1 2) 31 1 = 0
      ∧ 136 = ((core_6.tile 3).xr (bf (r3 0x23 3 1 4 1 2) 15 5) + bf (r3 0x23 3 1 4 1 2) 7 5
        + bf (r3 0x23 3 1 4 1 2) 25 7 * 32) % 2 ^ 64
      ∧ 136 + 8 ≤ spadSize ∧ (core_6.tile 3).guards ⟨136, 8⟩ = false)
    ∧ ((∃ s', core_8.fetched 3 (r3 0x63 0 0 8 1 2) s') ∧ r3 0x63 0 0 8 1 2 % 128 = 0x63 ∧ bf (r3 0x63 0 0 8 1 2) 12 3 = 0) := by
  refine ⟨⟨fetched_of_fetches ?_, ?_⟩, ⟨fetched_of_fetches ?_, ?_⟩, ⟨fetched_of_fetches ?_, ?_⟩, ⟨fetched_of_fetches ?_, ?_⟩,
    ⟨fetched_of_fetches ?_, ?_⟩, fetched_of_fetches ?_, ?_⟩ <;> decide +kernel
end BaseInstructionsCases

namespace PetReloadsTheWatchdogCases
def r3 (op f3 f7 rd a b : Nat) : Nat := op + rd * 128 + f3 * 4096 + a * 2^15 + b * 2^20 + f7 * 2^25
def core_0 : State := code (r3 0x33 0 0 1 1 2) 5 (-3)

theorem witness_PetReloadsTheWatchdog :
    core_0.runs 3 = true := by
  decide +kernel
end PetReloadsTheWatchdogCases

namespace SystemInstructionsAndCountersCases
def r3 (op f3 f7 rd a b : Nat) : Nat := op + rd * 128 + f3 * 4096 + a * 2^15 + b * 2^20 + f7 * 2^25
def core_0 : State := code (r3 0x33 0 0 1 1 2) 5 (-3)
def core_12 : State := (running).modTile 3 fun x => { x with x := x.x.set 10 5, dbg := true }
def core_19 : State := (running.modTile 3 fun x => { x with col := [(0, poisonLine 0)] })

theorem witness_SystemInstructionsAndCounters :
    (core_0.runs 3 = true ∧ (core_0.tile 3).xr 10 % 65536 = 0) ∧
    (core_12.runs 3 = true ∧ (core_12.tile 3).xr 10 % 65536 ≠ 0) ∧
    (core_12.runs 3 = true ∧ (core_12.tile 3).dbg = true) ∧
    (core_0.runs 3 = true ∧ (core_0.tile 3).dbg = false) ∧
    (core_0.runs 3 = true) ∧
    (core_0.runs 3 = true ∧ (3072#12 = 3072#12 ∨ 3072#12 = 3073#12 ∨ 3072#12 = 3074#12)) ∧
    (core_12.runs 3 = true ∧ (core_12.tile 3).icache.find (winBase / 64 + (0#22).toNat) = none ∧ BitVec.toNat (core_12.tile 3).pc /
      64 = winBase / 64 + (0#22).toNat ∧ core_12.lineHeld 3 (0#22).toNat = false ∧ (core_12.readLine 3 (0#22).toNat
      (core_12.slotFor 3 (0#22).toNat)).snd.poison = false) ∧
    (core_19.runs 3 = true ∧ (core_19.tile 3).icache.find (winBase / 64 + (0#22).toNat) = none ∧ BitVec.toNat (core_19.tile 3).pc /
      64 = winBase / 64 + (0#22).toNat ∧ core_19.lineHeld 3 (0#22).toNat = false ∧ (core_19.readLine 3 (0#22).toNat
      (core_19.slotFor 3 (0#22).toNat)).snd.poison = true) := by
  refine ⟨?_, ?_, ?_, ?_, ?_, ?_, ?_, ?_⟩ <;> decide +kernel
end SystemInstructionsAndCountersCases

namespace XkraxaSimpleInstructionsCases
def r3 (op f3 f7 rd a b : Nat) : Nat := op + rd * 128 + f3 * 4096 + a * 2^15 + b * 2^20 + f7 * 2^25
def core_0 : State := code (r3 0x33 0 0 1 1 2) 5 (-3)

theorem witness_XkraxaSimpleInstructions :
    (core_0.runs 3 = true) ∧
    (core_0.runs 3 = true ∧ bf ((core_0.tile 3).xr 0) 0 24 = 0) ∧
    (core_0.runs 3 = true ∧ bf ((core_0.tile 3).xr 1) 0 24 ≠ 0) := by
  refine ⟨?_, ?_, ?_⟩ <;> decide +kernel
end XkraxaSimpleInstructionsCases

namespace DetectionsAndRecomputesCases
def op (v : Option Capture) (ex : Bool) : UnitOp := { newOp false 5 0 0 0 (zeros 64) with viol := v, exempt := ex, done := some 5 }
def cp : Capture := ⟨3, 4, 77, 88, 99, 0, []⟩
def jb (st : Nat) (s : State := o) : State := withJob (job st) ((s.wr TILE_JOB_JOB 3 7).wr NBC_CTRL_MODE 3 0)
def dj (st : Nat) (s : State := o) : State := withJob { job st with twins := [4], policy := { policy with mode := 1 } } ((s.wr TILE_JOB_JOB 3 7).wr TILE_JOB_JOB 4 7)
def mg : Msg := { src := 3, sch := 1, dst := 0x401, dch := 2, gen := 0, seq := 6, job := 7, payload := [1,2,3,4,5], poison := [], rstack := 1, rtile := 4, rch := 1, ta := 0, vec := 0, tSend := 5 }
def up (s : State) : State := (s.wr WELT_PSTAT_STATE 1 4).modPort 1 fun x => { x with credits := [40,40,40] }
def hs (m : Msg) (s : State) : State := s.modPort 1 fun x => { x with holdStore := [⟨m,0,none⟩] }
def mm (m n k : Nat) : Bytes := [1, 1, 1, 0] ++ zeros 4 ++ toLE 2 m ++ toLE 2 n ++ toLE 4 k ++ zeros 48
def det_0 : State := tp (fun x => { x with detections := [⟨3,none,5,100,false⟩] }) { (jb 3) with mesh := [{mg with dst := 4}] }
def det_1 : State := o
def det_2 : State := ((dj 3).modTile 3 fun x => { x with dual := [⟨0,5,77,100,none⟩] }).modTile 4 fun x => { x with dual := [⟨0,5,77,100,none⟩] }
def det_3 : State := ((dj 3).modTile 3 fun x => { x with dual := [⟨0,5,77,100,none⟩] }).modTile 4 fun x => { x with dual := [⟨0,5,78,100,none⟩] }
def det_4 : State := (dj 3).modTile 3 fun x => { x with dual := [⟨0,5,77,100,none⟩] }
def det_5 : State := tp (fun x => { x with detections := [⟨0,some (op (some cp) false),5,100,true⟩] }) (jb 4)
def det_6 : State := tp (fun x => { x with detections := [⟨1,some (op (some cp) false),5,100,true⟩] }) { jb 4 with folds := [] }
def det_7 : State := o.modTile 4 fun x => { x with recomp := some ⟨3, ⟨1,some (op (some cp) false),5,100,true⟩, 100, 5⟩ }
def det_8 : State := (o.modTile 4 fun x => { x with recomp := some ⟨3, ⟨1,some (op (some {cp with y := 0}) false),5,100,true⟩, 100, 5⟩ }).modTile 3 fun x => { x with detections := [⟨1,some (op (some {cp with y := 0}) false),5,100,true⟩] }
def det_10 : State := tp (fun x => { x with regen := [(zeros 64, 0)] }) (jb 3)
def det_11 : State := tp (fun x => { x with regen := [(mm 2 4 4, 0)] }) (jb 3)
def hop : UnitOp := { op (some cp) false with desc := toLE 1 2 ++ zeros 19 ++ [1, 0] ++ zeros 42 }
def det_12 : State := { tp (fun x => { x with detections := [⟨3,none,5,100,false⟩], sendBuf := some { mg with dst := 0x402 } }) (up (hs mg (jb 7))) with mesh := [mg, { mg with dst := 4 }], ringHeld := [⟨{ mg with dst := 0x410 }, 0, none⟩] }
def det_13 : State := (tp (fun x => { x with heldLines := [(0, ⟨0, 5, false, none, false, false, false⟩)] }) o).modTile 4 fun x => { x with recomp := some ⟨3, ⟨1, some hop, 5, 100, true⟩, 100, 5⟩ }

theorem witness_DetectionsAndRecomputes :
    (∃ j, j ∈ det_0.jobOf 3 ∧ ∃ d, d ∈ (det_0.tile 3).detections ∧ d.taken = false ∧ j.state = 3) ∧
    (∃ j, j ∈ det_12.jobOf 3 ∧ ∃ d, d ∈ (det_12.tile 3).detections ∧ d.taken = false ∧ j.state = 7) ∧
    (∀ (d : Detection), d ∈ (det_1.tile 3).detections → d.taken = true) ∧
    (∃ d, d ∈ (det_2.tile 3).dual.head? ∧ ∃ e, e ∈ (det_2.tile 4).dual.head? ∧ det_2.pairTiles 3 = some (3, 4) ∧ 3 ≠ 4 ∧ (det_2.tile
      3).dual = [d] ∧ (det_2.tile 4).dual = [e] ∧ d.sameAs e = true ∧ d.sig = e.sig) ∧
    (∃ d, d ∈ (det_3.tile 3).dual.head? ∧ ∃ e, e ∈ (det_3.tile 4).dual.head? ∧ det_3.pairTiles 3 = some (3, 4) ∧ 3 ≠ 4 ∧ (det_3.tile
      3).dual = [d] ∧ (det_3.tile 4).dual = [e] ∧ d.sameAs e = true ∧ d.sig ≠ e.sig ∧ (det_3.jobOf 3).isSome = true) ∧
    (∃ d, d ∈ (det_4.tile 3).dual.head? ∧ det_4.partnerOf 3 = some 4 ∧ (det_4.tile 3).dual = [d] ∧ d.at' + 10000 ≤ det_4.now ∧
      (det_4.tile 4).dual.any d.sameAs = false) ∧
    (∃ d, d ∈ (det_5.tile 3).detections.head? ∧ (det_5.tile 3).boundWait = [] ∧ (det_5.tile 3).detections = d :: (det_5.tile
      3).detections.tail ∧ d.taken = true ∧ d.trigger ≤ 2 ∧ d.op.isSome = true ∧ (d.trigger ≠ 0 ∨ det_5.boundMode 3 = true) ∧ (∀
      (k : Nat × Tile), k ∈ det_5.tiles → ∀ (r : Recompute), k.snd.recomp = some r → r.orig ≠ 3) ∧ (det_5.partnerFor 3).isSome =
      true) ∧
    (∃ d, d ∈ (det_6.tile 3).detections.head? ∧ (det_6.tile 3).boundWait = [] ∧ (det_6.tile 3).detections = d :: (det_6.tile
      3).detections.tail ∧ d.taken = true ∧ d.trigger ≤ 2 ∧ d.op.isSome = true ∧ (d.trigger ≠ 0 ∨ det_6.boundMode 3 = true) ∧ (∀
      (k : Nat × Tile), k ∈ det_6.tiles → ∀ (r : Recompute), k.snd.recomp = some r → r.orig ≠ 3) ∧ det_6.partnerFor 3 = none) ∧
    (∃ r, r ∈ (det_13.tile 4).recomp ∧ r.det.op = some hop ∧ det_13.redoHeld r.orig hop = true) ∧
    (∃ r, r ∈ (det_7.tile 4).recomp ∧ (Option.map (det_7.redoHeld r.orig) r.det.op).getD false = false ∧ (det_7.tile
      r.orig).detections.contains r.det = false) ∧
    (∃ r, r ∈ (det_8.tile 4).recomp ∧ (det_8.tile r.orig).detections.contains r.det = true ∧ r.det.op = some (op (some { cp with y
      := 0 }) false) ∧ det_8.redoHeld r.orig (op (some { cp with y := 0 }) false) = false ∧ r.det.trigger = 1 ∧ (op (some { cp
      with y := 0 }) false).viol = some { cp with y := 0 } ∧ redoStep { cp with y := 0 } none = { cp with y := 0 }.y) ∧
    (∃ j, j ∈ det_10.jobOf 3 ∧ (det_10.tile 3).regen = [(zeros 64, 0)] ∧ j.state = 3 ∧ (Matmul.of (zeros 64)).m ≤ 0) ∧
    (∃ j, j ∈ det_11.jobOf 3 ∧ (det_11.tile 3).regen = [(mm 2 4 4, 0)] ∧ j.state = 3 ∧ 0 < (Matmul.of (mm 2 4 4)).m ∧ ∀ (p : Nat ×
      Nat × Bytes), p ∈ j.patches → p.fst = 3 → p.snd.fst ≠ (Matmul.of (mm 2 4 4)).norm + 8 * 0) := by
  refine ⟨?_, ?_, ?_, ?_, ?_, ?_, ?_, ?_, ?_, ?_, ?_, ?_, ?_⟩ <;> decide +kernel
end DetectionsAndRecomputesCases

namespace FlocksAndPeriodsCases
def jb (st : Nat) (s : State := o) : State := withJob (job st) ((s.wr TILE_JOB_JOB 3 7).wr NBC_CTRL_MODE 3 0)
def flock_0 : State := { (tick 3000000000 (jb 3)) with jobs := [{ job 3 with policy := { policy with flock := 9, digest := 1000 } }] }
def flock_1 : State := jb 3
def flock_2 : State := { o with flockAt := [(flockKey 9 0 2, 5)], flocks := [⟨9, 0, 2, 1, 0, zeros 32, 1⟩, ⟨9, 0, 1, 1, 0, zeros 32, 1⟩] }
def flock_5 : State := tp (fun x => { x with sched := { x.sched with begun := true, done := 1, admitted := 2 } }) (jb 3)
def flock_8 : State := { flock_0 with phase := .drover }

theorem witness_FlocksAndPeriods :
    (∃ j, j ∈ flock_0.jobByTag 7 ∧ flock_0.digestPoint j = some 3 ∧ flock_0.phase ≠ Phase.drover ∧ (j.tiles.any fun v ↦
      (j.weightLines v).any (flock_0.lineHeld v)) = false ∧ ∀ (m : Nat), flock_0.flockDone.find (j.policy.flock * 4 +
      j.policy.kind) = some m → m < 3) ∧
    (∃ j, j ∈ flock_8.jobByTag 7 ∧ flock_8.digestPoint j = some 3 ∧ (flock_8.phase = Phase.drover ∨ (j.tiles.any fun v ↦
      (j.weightLines v).any (flock_8.lineHeld v)) = true)) ∧
    (∃ j, j ∈ flock_1.jobByTag 7 ∧ flock_1.digestPoint j = none) ∧
    ((0 = 0 ∨ 0 = 1) ∧ flock_2.flockAt.find (flockKey (9#16).toNat 0 (2)) = some 5 ∧ flock_2.phase ≠ Phase.drover ∧ 5 + 50000000 ≤
      flock_2.now) ∧
    (∀ (kind : Nat), kind < 2 → flock_0.flockAt.find (flockKey (9#16).toNat kind (2)) = none) ∧
    (flock_8.phase = Phase.drover) ∧
    (∃ j, j ∈ flock_0.jobOf 3 ∧ (flock_0.tile 3).sched.nextAt = some 0 ∧ j.state = 3 ∧ j.policy.kind = 0 ∧ flock_0.meshStop = false
      ∧ j.tiles.contains 3 = true ∧ 0 ≤ flock_0.now) ∧
    (∀ (j : Job), flock_2.jobOf 3 = some j → j.policy.kind ≠ 0) ∧
    (∃ j, j ∈ flock_5.jobOf 3 ∧ j.policy.kind = 0 ∧ (flock_5.tile 3).sched.nextAt = none) := by
  refine ⟨?_, ?_, ?_, ?_, ?_, ?_, ?_, ?_, ?_⟩ <;> decide +kernel
end FlocksAndPeriodsCases

namespace FlowsAndBatchesCases
def jb (st : Nat) (s : State := o) : State := withJob (job st) ((s.wr TILE_JOB_JOB 3 7).wr NBC_CTRL_MODE 3 0)
def fo : Bytes := toLE 2 3 ++ [0,0] ++ toLE 4 0xA000 ++ toLE 2 4 ++ zeros 6
def jw : State := (jb 3 (withFlow o)).modTile 3 fun x => { x with inWin := true, haltWin := true }
def rec (h n : Nat) : Bytes := toLE 4 h ++ toLE 2 n ++ toLE 2 0 ++ zeros n ++ zeros ((8 - n % 8) % 8)
def batch : Bytes := rec 8 4 ++ rec 9 5
def bt (args : List Nat) (st : Nat := 3) (bst := 1) : State := bg 0 7 (slot 0x3002 1 args bst) { (jb st (withFlow o)).wrHost 8192 batch with drvGrants := [⟨.grant, 3, 7, 0x410, 0, 2, 100, 1⟩] }
def flow_0 : State := acc 0 0x3001 1 fo (withPool (jb 2))
def flow_2 : State := acc 0 0x3001 1 fo (jb 3 (withPool o))
def flow_4 : State := acc 0 0x3003 9 [] (jb 3 (withFlow o))
def flow_5 : State := { acc 0 0x3001 1 fo (withPool (jb 2)) with histories := [(tileUnit 3, { History.reset with penned := true })] }
def flow_6 : State := acc 0 0x3004 9 [] jw
def flow_8 : State := acc 0 0x3002 1 (toLE 8 8192 ++ toLE 4 64 ++ toLE 4 2) (jb 3)
def flow_9 : State := bt [8192, 32, 2, 0, 0, 0, 0, 0, 0]
def flow_11 : State := bt [8192, 32, 2, 0, 0, 1, 1, 1, 2]
def flow_14 : State := (bt [8192, 32, 2, 0, 0, 0, 1, 1, 0]).modTile 3 (fun x => { x with sched := { x.sched with host := 1 } })

theorem witness_FlowsAndBatches :
    (∃ r, r ∈ requests flow_0 ∧ ∃ j, j ∈ flow_0.jobByHandle r.object ∧ flow_0.mayRun 0 12289 r = true ∧ r.f 2 1 ≤ 1 ∧ r.f 3 1 = 0 ∧
      r.f 10 6 = 0 ∧ (r.f 0 2 = 65535 ∨ j.tiles.contains (r.f 0 2) = true) ∧ (j.state = 2 ∨ j.state = 3 ∨ j.state = 5) ∧
      flow_0.flowTile j (r.f 0 2) = 3 ∧ flow_0.nframes 3 ≠ 0 ∧ (j.pair 3).any flow_0.lost = false ∧ flow_0.emptyEntry 3 = some 0
      ∧ flow_0.inWindow' j 3 = true) ∧
    (∃ r, r ∈ requests flow_0 ∧ ∃ j, j ∈ flow_2.jobByHandle r.object ∧ flow_2.mayRun 0 12289 r = true ∧ r.f 2 1 ≤ 1 ∧ r.f 3 1 = 0 ∧
      r.f 10 6 = 0 ∧ (r.f 0 2 = 65535 ∨ j.tiles.contains (r.f 0 2) = true) ∧ j.state = 3 ∧ flow_2.flowTile j (r.f 0 2) = 3 ∧
      flow_2.nframes 3 ≠ 0 ∧ (j.pair 3).any flow_2.lost = false ∧ flow_2.emptyEntry 3 = some 0 ∧ flow_2.inWindow' j 3 = false) ∧
    (∃ r, r ∈ requests flow_0 ∧ ∃ j, j ∈ flow_5.jobByHandle r.object ∧ flow_5.mayRun 0 12289 r = true ∧ r.f 2 1 ≤ 1 ∧ r.f 3 1 = 0 ∧
      r.f 10 6 = 0 ∧ r.f 0 2 = 3 ∧ j.tiles.contains 3 = true ∧ 3 ≠ 65535 ∧ flow_5.lost 3 = true) ∧
    (∃ r, r ∈ requests flow_4 ∧ ∃ j, j ∈ flow_0.jobs ∧ ∃ f, f ∈ flow_4.flowByHandle r.object ∧ flow_4.mayRun 0 12291 r = true ∧
      flow_4.flowSwaps f = false) ∧
    (∃ r, r ∈ requests flow_6 ∧ ∃ j, j ∈ flow_2.jobs ∧ ∃ f, f ∈ flow_6.flowByHandle r.object ∧ flow_6.jobByHandle f.job = some j ∧
      flow_6.mayRun 0 12292 r = true ∧ flow_6.flowSwaps f = false ∧ j.state ≠ 4 ∧ flow_6.inWindow' j f.tile = true) ∧
    (∃ j, j ∈ flow_2.jobs ∧ ∃ r, r ∈ requests flow_8 ∧ flow_8.jobByHandle r.object = some j ∧ flow_8.mayRun 0 12290 r = true ∧ r.f
      12 4 ≠ 0 ∧ j.state ≠ 1 ∧ flow_8.bgFree 0 = some 0) ∧
    (∃ j, j ∈ flow_2.jobs ∧ ∃ b, b ∈ flow_9.bg 0 7 ∧ flow_9.jobByHandle b.object = some j ∧ b.opcode = 12290 ∧ (b.state = 1 ∨
      b.state = 3) ∧ 7 + b.a 2 ≤ b.args.length ∧ j.state = 3 ∧ flow_9.masters 0 = true ∧ flow_9.heatStops = false ∧
      flow_9.meshStop = false ∧ flow_9.nextRecord j b = some (0, ⟨0, 8, 4⟩) ∧ flow_9.recSkips j b ⟨0, 8, 4⟩ = true) ∧
    (flow_14.masters 0 = true ∧ flow_14.heatStops = false ∧ ∃ j, j ∈ flow_14.jobs ∧ j.state = 3 ∧ ∃ b, b ∈ flow_14.bg 0 7 ∧
      flow_14.jobByHandle b.object = some j ∧ b.opcode = 0x3002 ∧ (b.state = 1 ∨ b.state = 3) ∧ 7 + b.a 2 ≤ b.args.length ∧
      flow_14.nextRecord j b = some (1, ⟨16, 9, 5⟩) ∧ flow_14.recSkips j b ⟨16, 9, 5⟩ = false ∧ ((flow_14.recFlow j ⟨16, 9,
      5⟩).bind fun f => flow_14.drvGrant f.tile j.policy.ingestCh).isSome = true) ∧
    (∃ j, j ∈ flow_2.jobs ∧ ∃ b, b ∈ flow_11.bgRuns 0 7 12290 ∧ b.a 2 ≤ b.a 5 + b.a 6 ∧ flow_11.jobByHandle b.object = some j) := by
  refine ⟨?_, ?_, ?_, ?_, ?_, ?_, ?_, ?_, ?_⟩ <;> decide +kernel
end FlowsAndBatchesCases

namespace PowerWindowsAndHeatCases
def hot : TempCodes := List.replicate 1024 950#16
def heat_0 : State := o
def heat_1 : State := { o with tele := [(stratumUnit, [⟨1999000000, 0, 0, 0, 0, 0, 0, 0, 0, 0⟩])] }
def heat_2 : State := { o with thmAt := 2000000000 }
def heat_3 : State := { o with stopKind := 1 }
def heat_5 : State := { (o.wr THM_STAT_LEVEL 0 4) with stopKind := 1 }
def heat_6 : State := { (running.modTile 3 fun x => x.wrSpad 5 [1]) with stopKind := 2 }
def heat_7 : State := { (o.wr THM_STAT_LEVEL 0 5) with stopKind := 1, coolFrom := some 5 }
def heat_8 : State := { o with stopKind := 3, folds := [] }
def heat_9 : State := { o with stopKind := 3 }

theorem witness_PowerWindowsAndHeat :
    (1000000 ≤ heat_0.now ∧ Option.map (fun x ↦ x.start) ((heat_0.tele.find stratumUnit).getD []).head? ≠ some ((heat_0.now /
      1000000 - 1) * 1000000)) ∧
    (Option.map (fun x ↦ x.start) ((heat_1.tele.find stratumUnit).getD []).head? = some ((heat_1.now / 1000000 - 1) * 1000000)) ∧
    (List.length hot = 1024 ∧ (heat_0.now % if heat_0.rdb THM_STAT_FAST 0 = true then 125000 else 1000000) = 0 ∧ heat_0.thmAt ≠
      heat_0.now ∧ heat_0.phase ≠ Phase.stopped ∧ heat_0.phase ≠ Phase.reset) ∧
    (List.length hot = 1024 ∧ heat_2.thmAt = heat_2.now) ∧
    (heat_3.stopKind = 1 ∧ (heat_3.phase = Phase.open ∨ heat_3.phase = Phase.firmware) ∧ heat_3.rd THM_STAT_LEVEL 0 < 4) ∧
    (heat_5.stopKind = 1 ∧ (heat_5.phase = Phase.open ∨ heat_5.phase = Phase.firmware) ∧ heat_5.rd THM_STAT_LEVEL 0 = 4 ∧ ∀ (j :
      Job), j ∈ heat_5.jobs → j.state ≠ 3 ∧ j.state ≠ 4) ∧
    (heat_0.stopKind ≠ 1 ∨ heat_0.rd THM_STAT_LEVEL 0 = 5) ∧
    (heat_6.stopKind = 2 ∧ heat_6.phase ≠ Phase.stopped ∧ heat_6.phase ≠ Phase.reset) ∧
    (heat_0.stopKind ≠ 2) ∧
    (∃ c, c ∈ heat_7.coolFrom ∧ heat_7.stopKind = 1 ∧ heat_7.rd THM_STAT_LEVEL 0 = 5 ∧ c + 1000000000 ≤ heat_7.now) ∧
    (heat_8.stopKind = 3 ∧ ∀ (f : Nat), f < 64 → heat_8.foldOff f = true ∨ ∀ (v : Nat), v ∈ tilesOf f → heat_8.settled v = true) ∧
    (heat_9.stopKind = 3 ∧ 0 < 64 ∧ heat_9.foldOff 0 = false ∧ 0 ∈ tilesOf 0 ∧ heat_9.settled 0 = false) ∧
    (heat_0.stopKind ≠ 3 ∧ heat_0.coolFrom = none) := by
  refine ⟨?_, ?_, ?_, ?_, ?_, ?_, ?_, ?_, ?_, ?_, ?_, ?_, ?_⟩ <;> decide +kernel
end PowerWindowsAndHeatCases

namespace HealthReadsAndEpochsCases
def u4 (n : Nat) : Bytes := toLE 4 n
def withTally : State := { o with tallies := [(3, 1000000, [(tallyKey (tileUnit 3) 5, 77)])] }
def hlth_0 : State := acc 0 0x6001 0 [] o
def hlth_2 : State := acc 17 0x6002 0 (u4 0 ++ u4 (tileUnit 3) ++ toLE 2 4 ++ toLE 2 3) withTally
def hlth_3 : State := acc 17 0x6002 0 (u4 3 ++ u4 (tileUnit 3) ++ toLE 2 0 ++ toLE 2 2) {withTally with tallies := [(3, 1000000, [(tallyKey (tileUnit 3) 2047, 1)])]}
def hlth_4 : State := acc 17 0x6004 0 (u4 (tileUnit 3)) o
def hlth_6 : State := (acc 17 0x6003 0 [] withTally).modMbox 17 (fun x => { x with accepted := x.accepted.map fun r => { r with latch := some 1000000 } })
def hlth_7 : State := { o with tallyAt := some 1999999990 }
def hlth_24 : State := (match execRequest 1 (toLE 2 0x6003 ++ zeros 14) o with | .next t => t | _ => o)
def hlth_25 : State := { (match execRequest 1 (toLE 2 0x6003 ++ zeros 14) o with | .next t => t | _ => o) with tallyAt := some 2000020000 }
def hlth_26 : State := { (acc 17 0x6003 0 [] withTally).modMbox 17 (fun x => { x with accepted := x.accepted.map fun r => { r with latch := some 2000020000 } }) with tallyAt := some 2000020000 }

theorem witness_HealthReadsAndEpochs :
    (∃ r, r ∈ requests hlth_0 ∧ hlth_0.mayRun 0 24577 r = true) ∧
    (∃ r, r ∈ requests hlth_2 ∧ ∃ k, k ∈ hlth_2.epochFor (r.f 0 4) ∧ hlth_2.mayRun 17 24578 r (hlth_2.countersDenied 17 r) = true ∧
      r.f 10 2 ≠ 0 ∧ hlth_2.countersBad r = false ∧ k.snd.snd.find (tallyKey (r.f 4 4) 2047) = none) ∧
    (∃ r, r ∈ requests hlth_3 ∧ ∃ k, k ∈ hlth_3.epochFor (r.f 0 4) ∧ hlth_3.mayRun 17 24578 r (hlth_3.countersDenied 17 r) = true ∧
      r.f 10 2 ≠ 0 ∧ hlth_3.countersBad r = false ∧ (k.snd.snd.find (tallyKey (r.f 4 4) 2047)).isSome = true) ∧
    (∃ r, r ∈ requests hlth_4 ∧ hlth_4.mayRun 17 24580 r = true ∧ unitOk (r.f 0 4) = true) ∧
    (∃ r, r ∈ requests hlth_0 ∧ hlth_24.nextMbx = some 17 ∧ hlth_24.tallyAsked 17 (hlth_24.waiting 17) = true ∧ hlth_24.pendingT =
      none) ∧
    (∃ r, r ∈ requests hlth_0 ∧ hlth_25.nextMbx = some 17 ∧ hlth_25.tallyAsked 17 (hlth_25.waiting 17) = true ∧ hlth_25.pendingT =
      some 2000020000) ∧
    (∃ r, r ∈ requests hlth_26 ∧ hlth_26.mayRun 17 24579 r = true ∧ r.latch = some 2000020000 ∧ hlth_26.pendingT = some 2000020000 ∧
      ∀ (k : Nat × Nat × Tbl Nat), k ∈ hlth_26.tallies → k.snd.fst ≠ 2000020000) ∧
    (∃ r, r ∈ requests hlth_6 ∧ ∃ k, k ∈ hlth_6.tallies.find? (fun x ↦ x.snd.fst == 1000000) ∧ hlth_6.mayRun 17 24579 r = true ∧
      r.latch = some 1000000) ∧
    (∃ r, r ∈ requests hlth_0 ∧ ∃ T, T ∈ hlth_7.tallyAt ∧ T ≤ hlth_7.now ∧ hlth_7.now ≤ T + 20) := by
  refine ⟨?_, ?_, ?_, ?_, ?_, ?_, ?_, ?_, ?_⟩ <;> decide +kernel
end HealthReadsAndEpochsCases

namespace OperatorStatesAndPensCases
def jb (st : Nat) (s : State := o) : State := withJob (job st) ((s.wr TILE_JOB_JOB 3 7).wr NBC_CTRL_MODE 3 0)
def u4 (n : Nat) : Bytes := toLE 4 n
def drec (m : Nat) : State := { (bg 0 0 (slot 0x2001 1 []) o) with drain := some 1800000000, dstate := m, drainUnits := [tileUnit 3, chanUnit 4] }
def hlth_0 : State := acc 0 0x6001 0 [] o
def hlth_8 : State := acc 17 0x6006 0 [] (jb 3)
def hlth_9 : State := acc 17 0x6006 0 [] { o with dstate := 3 }
def hlth_11 : State := acc 17 0x6007 0 [] { o with dstate := 3 }
def hlth_14 : State := acc 17 0x6008 0 [] (jb 3)
def hlth_15 : State := acc 17 0x6005 0 (u4 (tileUnit 3)) { o with drainUnits := [tileUnit 3], histories := [(tileUnit 3, { History.reset with penned := true, charges := [(0,1,false,1,1)] })] }
def hlth_20 : State := acc 17 0x6009 0 (u4 (tileUnit 3)) o
def hlth_21 : State := drec 1

theorem witness_OperatorStatesAndPens :
    (∃ r, r ∈ requests hlth_8 ∧ hlth_8.mayRun 17 24582 r = true ∧ (hlth_8.dstate = 0 ∨ hlth_8.dstate = 2)) ∧
    (∃ r, r ∈ requests hlth_8 ∧ hlth_9.mayRun 17 24582 r = true ∧ hlth_9.dstate ≠ 0 ∧ hlth_9.dstate ≠ 2) ∧
    (∃ r, r ∈ requests hlth_11 ∧ hlth_11.mayRun 17 24583 r = true ∧ (hlth_11.dstate = 3 ∨ hlth_11.dstate = 1 ∧ (hlth_11.opDrain =
      true ∨ hlth_11.drain = none))) ∧
    (∃ r, r ∈ requests hlth_14 ∧ hlth_14.mayRun 17 24584 r = true) ∧
    (∃ r, r ∈ requests hlth_15 ∧ hlth_15.mayRun 17 24581 r = true ∧ unitOk (r.f 0 4) = true) ∧
    (∃ r, r ∈ requests hlth_20 ∧ hlth_20.mayRun 17 24585 r = true ∧ (r.f 0 4 = 4294967295 ∨ unitOk (r.f 0 4) = true ∧ r.f 0 4 / 2 ^
      24 = 1) ∧ hlth_20.bgFree 17 = some 0 ∧ hlth_20.testTiles (r.f 0 4) ≠ [] ∧ ∀ (u : Nat), u ∈ hlth_20.testTiles (r.f 0 4) →
      (hlth_20.tile u).selftestFor = none) ∧
    (∃ r, r ∈ requests hlth_0 ∧ ∃ t0, t0 ∈ hlth_21.drain ∧ (hlth_21.drainDone = true ∨ t0 + 100000000 ≤ hlth_21.now) ∧
      hlth_21.dstate ≠ 3 ∧ (hlth_21.dstate ≠ 1 ∨ hlth_21.opDrain = false)) := by
  refine ⟨?_, ?_, ?_, ?_, ?_, ?_, ?_⟩ <;> decide +kernel
end OperatorStatesAndPensCases

namespace ResultsHeldAndReleasedCases
def op (v : Option Capture) (ex : Bool) : UnitOp := { newOp false 5 0 0 0 (zeros 64) with viol := v, exempt := ex, done := some 5 }
def jb (st : Nat) (s : State := o) : State := withJob (job st) ((s.wr TILE_JOB_JOB 3 7).wr NBC_CTRL_MODE 3 0)
def mg : Msg := { src := 3, sch := 1, dst := 0x401, dch := 2, gen := 0, seq := 6, job := 7, payload := [1,2,3,4,5], poison := [], rstack := 1, rtile := 4, rch := 1, ta := 0, vec := 0, tSend := 5 }
def up (s : State) : State := (s.wr WELT_PSTAT_STATE 1 4).modPort 1 fun x => { x with credits := [40,40,40] }
def hs (m : Msg) (s : State) : State := s.modPort 1 fun x => { x with holdStore := [⟨m,0,none⟩] }
def sh (m : Msg) (s : State) : State := s.modPort 1 fun x => { x with sentHeld := [⟨m,9,some 5⟩], horizon := [(4, 99999999999)] }
def rel (d : Bytes) (s : State) : State := s.modTile 3 fun x => { x with relSeq := [(1,[(6,d)])] }
def hold_0 : State := up (hs mg (jb 3))
def hold_1 : State := rel (sha256 [1,2,3,4,5]) (hs mg (jb 3))
def hold_3 : State := { o with mesh := [mg] }
def hold_4 : State := {(tp (fun x => { x with taRun := some (op none false) }) (up (jb 3))) with mesh := [{mg with ta := 7}], cfg := (jb 3).cfg.set 0x0502 0}
def hold_5 : State := {(jb 3) with mesh := [{mg with dst := 0x410}]}
def hold_6 : State := tp (fun x => { x with haltJob := true }) (jb 4)
def hold_8 : State := up (sh mg (jb 3))
def hold_9 : State := { (jb 3) with ringHeld := [⟨{mg with dst := 0x410},0,none⟩] }
def hold_10 : State := tp (fun x => { x with taRun := some (op none false) }) (up (sh { mg with ta := 7 } (jb 3)))
def hold_11 : State := o.modPort 1 fun x => { x with quarantine := [⟨9, mg, 1999000000⟩] }
def hold_12 : State := { rel (zeros 32) (jb 3) with ringHeld := [⟨{mg with dst := 0x410},0,none⟩] }

theorem witness_ResultsHeldAndReleased :
    (∃ h, h ∈ (hold_0.port 1).holdStore.find? (fun h ↦ hold_0.opsDone h.msg) ∧ 1 < 8 ∧ (∀ (m : Msg), m ∈ hold_0.mesh → m.dst ≠ 1024
      + 1) ∧ (hold_0.tile h.msg.src).releasedBy h.msg.sch h.msg.seq = false ∧ hold_0.rdb WELT_PSTAT_CONFLICT 1 = false) ∧
    (∃ h, h ∈ (hold_1.port 1).holdStore.find? (fun h ↦ hold_1.opsDone h.msg) ∧ 1 < 8 ∧ (∀ (m : Msg), m ∈ hold_1.mesh → m.dst ≠ 1024
      + 1) ∧ (hold_1.tile h.msg.src).releasedBy h.msg.sch h.msg.seq = true) ∧
    (∃ h, h ∈ hold_12.ringHeld.head? ∧ 8 = 8 ∧ hold_12.mesh = [] ∧ hold_12.ringHeld = [h] ∧ hold_12.opsDone h.msg = true ∧
      (hold_12.tile h.msg.src).releasedBy h.msg.sch h.msg.seq = true) ∧
    (∃ m, m ∈ hold_3.mesh.head? ∧ 1 < 8 ∧ hold_3.mesh = [m] ∧ m.dst = 1024 + 1 ∧ hold_3.outDenied 1 m = true ∧ (hold_3.port
      1).holdStore = []) ∧
    (∃ m, m ∈ hold_4.mesh.head? ∧ 1 < 8 ∧ hold_4.mesh = [m] ∧ m.dst = 1024 + 1 ∧ hold_4.outDenied 1 m = false ∧ (hold_4.port
      1).holdStore = [] ∧ (hold_4.port 1).heldBytes + List.length m.payload ≤ holdRoom ∧ hold_4.opsDone m = false) ∧
    (∃ m, m ∈ hold_5.mesh.head? ∧ 8 = 8 ∧ hold_5.mesh = [m] ∧ m.dst = 1040 ∧ hold_5.ringHeld = [] ∧ (hold_5.tile m.src).releasedBy
      m.sch m.seq = false) ∧
    ((hold_0.tile 3).haltJob = false ∨ hold_0.restartingAt 3 = false) ∧
    ((hold_6.tile 3).haltJob = true ∧ hold_6.restartingAt 3 = true) ∧
    (∃ h, h ∈ (hold_8.port 1).sentHeld.head? ∧ 1 < 8 ∧ (hold_8.port 1).sentHeld = h :: (hold_8.port 1).sentHeld.tail ∧ (hold_8.port
      1).acked h.id = true ∧ hold_8.releasableMsg (hold_8.port 1).horizon h.msg = true) ∧
    (∃ h, h ∈ hold_9.ringHeld.head? ∧ ∃ j, j ∈ hold_9.jobByTag h.msg.job ∧ 8 = 8 ∧ hold_9.ringHeld = h :: hold_9.ringHeld.tail ∧
      hold_9.releasableMsg hold_9.drvHorizon h.msg = true ∧ (hold_9.tile h.msg.src).releasedBy h.msg.sch h.msg.seq = false) ∧
    (∃ h, h ∈ (hold_10.port 1).sentHeld.head? ∧ (hold_10.port 1).sentHeld = h :: (hold_10.port 1).sentHeld.tail ∧ h.sent = some 5 ∧
      5 + 20000 ≤ hold_10.now ∧ hold_10.releasableMsg (hold_10.port 1).horizon h.msg = false) ∧
    (∃ q, q ∈ (hold_11.port 1).quarantine.head? ∧ (hold_11.port 1).quarantine = q :: (hold_11.port 1).quarantine.tail ∧ q.at' +
      100000 ≤ hold_11.now) := by
  refine ⟨?_, ?_, ?_, ?_, ?_, ?_, ?_, ?_, ?_, ?_, ?_, ?_⟩ <;> decide +kernel
end ResultsHeldAndReleasedCases

namespace HostEndpointCases
def jb (st : Nat) (s : State := o) : State := withJob (job st) ((s.wr TILE_JOB_JOB 3 7).wr NBC_CTRL_MODE 3 0)
def vf (s : State) : State := s.wr PCIE_VFEN_EN 0 7
def swi : SwapWork := ⟨0, false, [], true, 0⟩
def rj : Job := { job 4 with restart := some ⟨0, false, true, true⟩, ckptOp := some (0, 1), sections := [⟨2, true, 0xFFFF, 0, 0, 64⟩] }
def host_0 : State := vf o
def host_1 : State := { o with phase := .reset }
def host_2 : State := { vf o with phase := .recovery }
def host_3 : State := bg 0 1 (slot 0x4004 0 [0, 0, 0, 0]) o
def host_7 : State := bg 0 1 (slot 0x2005 1 [0, 0]) (jb 2)
def host_9 : State := (jb 3).modTile 3 (fun x => { x with swaps := [swi] })
def host_10 : State := (jb 4 { o with jobs := [] } |> fun s => bg 0 1 (slot 0x2005 1 [0, 0]) { s with jobs := [rj] })

theorem witness_HostEndpoint :
    (host_0.pcieUp = true ∧ bit (host_0.rd PCIE_VFEN_EN 0) 0 = true ∧ 0 < 2 ^ 28 ∧ bar0Bad 0 0 = true) ∧
    (bar0Bad 0 4 = false) ∧
    (host_1.pcieUp = false ∨ bit (host_1.rd PCIE_VFEN_EN 0) 0 = false) ∧
    (host_0.pcieUp = true ∧ bit (host_0.rd PCIE_VFEN_EN 0) 0 = true) ∧
    (∃ b, b ∈ host_7.bgRuns 0 1 8197 ∧ ∃ j, j ∈ host_7.jobByHandle b.object ∧ host_7.pcieUp = true ∧ bit (host_7.rd PCIE_VFEN_EN 0)
      0 = true ∧ (∀ (i : Nat), i < 8 → i ≠ 1 → host_7.bgRuns 0 i 8197 = none) ∧ j.state = 2 ∧ host_7.findExport 0 (b.args.getD 0
      0) (b.args.getD 1 0 * 65536) = none) ∧
    (∃ b, b ∈ host_3.bg 0 1 ∧ b.state = 1 ∧ 0 < 16 ∧ b.opcode = 16388 ∧ host_3.needsHost 0 b = true) ∧
    (host_0.bg 0 0 = none) ∧
    (∃ w, w ∈ (host_9.tile 3).swaps.find? (fun w ↦ w.entry == 0 && !w.out) ∧ ∃ j, j ∈ host_9.jobOf 3 ∧ host_9.masters j.fn = true ∧
      (host_9.tile 3).drained = true) ∧
    ((host_0.tile 3).swaps.find? (fun w ↦ w.entry == 0 && !w.out) = none) ∧
    (∃ j, j ∈ host_10.jobOf 3 ∧ host_10.masters j.fn = true ∧ host_10.mayRestore j 3 = true ∧ (Option.map (fun x ↦ x.reload)
      j.restart).getD false = true ∧ j.recompOf 3 ≠ []) ∧
    (host_0.pcieUp = true ∧ 2 ≠ 0 ∧ bit (host_0.rd PCIE_VFEN_EN 0) 2 = true ∧ host_0.phase = Phase.open) ∧
    (host_0.pcieUp = true ∧ 0 = 0 ∧ bit (host_0.rd PCIE_VFEN_EN 0) 0 = true) ∧
    (host_0.pcieUp = true ∧ host_0.phase ≠ Phase.recovery) ∧
    (host_2.pcieUp = true ∧ host_2.phase = Phase.recovery) ∧
    (host_0.pcieUp = true ∧ bit (host_0.rd PCIE_VFEN_EN 0) 5 = false) := by
  refine ⟨?_, ?_, ?_, ?_, ?_, ?_, ?_, ?_, ?_, ?_, ?_, ?_, ?_, ?_, ?_⟩ <;> decide +kernel
end HostEndpointCases

namespace JobsLoadAndRunCases
def okBody : Bytes := [2, 1] ++ toLE 2 0xFFFF ++ zeros 4 ++ toLE 8 128 ++ toLE 4 64 ++ toLE 4 64 ++ zeros 8 ++ zeros 32
def okImg : Bytes := toLE 4 0x314A584B ++ toLE 2 1 ++ toLE 2 1 ++ toLE 4 128 ++ toLE 4 0 ++ zeros 16 ++ sha256 okBody ++ okBody
def loadReq : Bytes := toLE 8 4096 ++ toLE 4 64 ++ toLE 4 0 ++ [0,0,0,0] ++ toLE 2 1 ++ [50,1] ++ toLE 4 10 ++ toLE 4 0 ++ toLE 4 0 ++ toLE 2 0 ++ zeros 10
def jb (st : Nat) : State := withJob (job st) ((o.wr TILE_JOB_JOB 3 7).wr NBC_CTRL_MODE 3 0)
def pn (us : List Nat) (s : State) : State := { s with histories := us.map fun u => (u, { History.reset with penned := true }) }
def job_1 : State := acc 0 0x2001 0 loadReq o
def job_2 : State := bg 0 7 (slot 0x2001 1 []) (jb 1)
def job_3 : State := bg 0 7 (slot 0x2001 1 []) ({jb 1 with jobs := [{ job 1 with imgLen := 128, entry := 5 }] }.wrHost 4096 okImg)
def job_4 : State := acc 0 0x2002 1 [] (jb 2)
def job_5 : State := acc 0 0x2002 1 [] (jb 3)
def job_6 : State := acc 0 0x2003 1 [] (jb 3)
def job_7 : State := acc 0 0x2004 1 [] (jb 3)
def job_19 : State := pn [tileUnit 3] (acc 0 0x2002 1 [] (jb 2))

theorem witness_JobsLoadAndRun :
    (∃ r, r ∈ requests job_1 ∧ job_1.mayRun 0 8193 r false (r.f 8 4 == 0) (r.f 12 4 != 0 || r.f 38 10 != 0) = true ∧ job_1.takeTiles
      (readPolicy r).fst = some ([3], []) ∧ (job_1.bgFree 0).isSome = true) ∧
    (∃ r, r ∈ requests job_1 ∧ ∃ b, b ∈ job_2.bgRuns 0 7 8193 ∧ ∃ j, j ∈ job_2.jobByHandle b.object ∧ job_2.masters 0 = true ∧
      (j.all.all fun t ↦ List.isEmpty (job_2.tile t).heldLines) = true ∧ imageStatus (job_2.rdHost j.imgAddr j.imgLen) j.imgLen
      j.tiles.length ≠ stOk) ∧
    (∃ r, r ∈ requests job_1 ∧ ∃ b, b ∈ job_3.bgRuns 0 7 8193 ∧ ∃ j, j ∈ job_3.jobByHandle b.object ∧ job_3.masters 0 = true ∧
      (j.all.all fun t ↦ List.isEmpty (job_3.tile t).heldLines) = true ∧ imageStatus (job_3.rdHost j.imgAddr j.imgLen) j.imgLen
      j.tiles.length = stOk) ∧
    (∃ r, r ∈ requests job_4 ∧ ∃ j, j ∈ job_4.jobByHandle r.object ∧ job_4.mayRun 0 8194 r = true ∧ j.state = 2 ∧ job_4.lostTile j =
      false ∧ job_4.inService = true ∧ job_4.jobByTag j.tag = some j) ∧
    (∃ r, r ∈ requests job_4 ∧ ∃ j, j ∈ job_5.jobByHandle r.object ∧ job_5.mayRun 0 8194 r = true ∧ j.state ≠ 2) ∧
    (∃ r, r ∈ requests job_4 ∧ ∃ j, j ∈ job_19.jobByHandle r.object ∧ job_19.mayRun 0 8194 r = true ∧ j.state = 2 ∧ job_19.lostTile
      j = true) ∧
    (∃ r, r ∈ requests job_6 ∧ ∃ j, j ∈ job_6.jobByHandle r.object ∧ job_6.mayRun 0 8195 r = true) ∧
    (∃ r, r ∈ requests job_7 ∧ ∃ j, j ∈ job_7.jobByHandle r.object ∧ job_7.mayRun 0 8196 r = true ∧ j.state = 3 ∧ job_7.jobBusy j =
      false ∧ job_7.bgFree 0 = some 0) := by
  refine ⟨?_, ?_, ?_, ?_, ?_, ?_, ?_, ?_⟩ <;> decide +kernel
end JobsLoadAndRunCases

namespace JobsRestoreExportAndEndCases
def jb (st : Nat) : State := withJob (job st) ((o.wr TILE_JOB_JOB 3 7).wr NBC_CTRL_MODE 3 0)
def pn (us : List Nat) (s : State) : State := { s with histories := us.map fun u => (u, { History.reset with penned := true }) }
def job_2 : State := bg 0 7 (slot 0x2001 1 []) (jb 1)
def job_4 : State := acc 0 0x2002 1 [] (jb 2)
def job_5 : State := acc 0 0x2002 1 [] (jb 3)
def job_8 : State := acc 0 0x2005 1 (zeros 12) (jb 3)
def job_10 : State := acc 0 0x2006 1 (toLE 8 4096 ++ toLE 4 1000) (jb 5)
def job_11 : State := acc 0 0x2006 1 (toLE 8 4096 ++ toLE 4 1000) (jb 6)
def job_12 : State := bg 0 0 (slot 0x2006 1 [4096, 0, 10]) (jb 6)
def job_14 : State := acc 0 0x2007 1 [] (jb 3)
def job_17 : State := acc 0 0x2007 1 [] (jb 1)
def job_18 : State := (jb 3).wr TILE_STATE_STATE 3 2
def job_21 : State := pn [tileUnit 3, tileUnit 4] (acc 0 0x2005 1 (zeros 12) (jb 5))
def job_22 : State := { acc 0 0x2005 1 (toLE 8 65536 ++ zeros 4) (jb 2) with busMaster := 0 }
def ck1 : Ckpt := (jb 3).record 7 3 1
def ex1 : Export := ⟨0, (o.sess 0).gen, (o.sess 0).exportKey, [1, 2], 5, { policy with wdog := 20 }, [], [9], [(ck1, [(5, some (zeros 64))])]⟩
def job_24 : State := acc 0 0x2005 1 (toLE 8 65536 ++ toLE 4 100000) (jb 2)
def job_25 : State := acc 0 0x2005 1 (toLE 8 65536 ++ toLE 4 100000) { (jb 2).wrHost 65536 [1, 2] with exports := [ex1] }

theorem witness_JobsRestoreExportAndEnd :
    (∃ j, j ∈ job_5.jobs ∧ ∃ r, r ∈ requests job_8 ∧ job_8.jobByHandle r.object = some j ∧ job_8.jobByTag j.tag = some j ∧
      job_8.mayRun 0 8197 r = true ∧ r.f 0 8 = 0 ∧ (j.state = 3 ∨ j.state = 5 ∨ j.state = 7) ∧ job_8.jobBusy j = false ∧
      job_8.bgFree 0 = some 0 ∧ (job_8.substitutes j).isSome = true) ∧
    (∃ j, j ∈ job_10.jobs ∧ ∃ r, r ∈ requests job_8 ∧ job_21.jobByHandle r.object = some j ∧ job_21.jobByTag j.tag = some j ∧
      job_21.mayRun 0 8197 r = true ∧ r.f 0 8 = 0 ∧ (j.state = 3 ∨ j.state = 5 ∨ j.state = 7) ∧ job_21.jobBusy j = false ∧
      job_21.bgFree 0 = some 0 ∧ job_21.substitutes j = none) ∧
    (∃ j, j ∈ job_4.jobs ∧ ∃ r, r ∈ requests job_22 ∧ job_22.jobByHandle r.object = some j ∧ job_22.jobByTag j.tag = some j ∧
      job_22.mayRun 0 8197 r = true ∧ r.f 0 8 ≠ 0 ∧ j.state = 2 ∧ job_22.jobBusy j = false ∧ job_22.lostTile j = false ∧
      job_22.bgFree 0 = some 0 ∧ job_22.masters 0 = false) ∧
    (∃ j, j ∈ job_4.jobs ∧ ∃ r, r ∈ requests job_24 ∧ job_24.jobByHandle r.object = some j ∧ job_24.jobByTag j.tag = some j ∧
      job_24.mayRun 0 8197 r = true ∧ r.f 0 8 ≠ 0 ∧ j.state = 2 ∧ job_24.jobBusy j = false ∧ job_24.lostTile j = false ∧
      job_24.bgFree 0 = some 0 ∧ job_24.masters 0 = true ∧ job_24.findExport 0 (r.f 0 8) (r.f 8 4 * 65536) = none) ∧
    (∃ j, j ∈ job_4.jobs ∧ ∃ r, r ∈ requests job_24 ∧ job_25.jobByHandle r.object = some j ∧ job_25.jobByTag j.tag = some j ∧
      job_25.mayRun 0 8197 r = true ∧ r.f 0 8 ≠ 0 ∧ j.state = 2 ∧ job_25.jobBusy j = false ∧ job_25.lostTile j = false ∧
      job_25.bgFree 0 = some 0 ∧ ∃ e, e ∈ job_25.findExport 0 (r.f 0 8) (r.f 8 4 * 65536) ∧ job_25.masters 0 = true ∧
      e.tiles.length = j.all.length) ∧
    (∃ j, j ∈ job_10.jobs ∧ ∃ r, r ∈ requests job_10 ∧ job_10.jobByHandle r.object = some j ∧ job_10.mayRun 0 8198 r false (r.f 8 4
      == 0) (r.f 0 8 % 4096 != 0) = true ∧ (j.state = 5 ∨ j.state = 6 ∨ j.state = 7) ∧ job_10.jobBusy j = false ∧ job_10.bgFree
      0 = some 0) ∧
    (∃ j, j ∈ job_11.jobs ∧ ∃ b, b ∈ job_12.bgRuns 0 0 8198 ∧ b.orphan = false ∧ job_12.jobByHandle b.object = some j ∧
      job_12.masters 0 = true ∧ (j.all.all fun t ↦ List.isEmpty (job_12.tile t).heldLines) = true ∧ b.args.getD 1 0 * 65536 <
      ceilDiv (exportLen j ((job_12.freezeJob j).exportTiles j).snd) 65536 * 65536) ∧
    (∃ j, j ∈ job_5.jobs ∧ ∃ r, r ∈ requests job_14 ∧ job_14.jobByHandle r.object = some j ∧ job_14.mayRun 0 8199 r = true ∧ j.state
      ≠ 1 ∧ job_14.jobBusy j = false) ∧
    (∃ j, j ∈ job_2.jobs ∧ ∃ r, r ∈ requests job_14 ∧ job_17.jobByHandle r.object = some j ∧ job_17.mayRun 0 8199 r = true ∧ j.state
      = 1) ∧
    (∃ j, j ∈ job_5.jobs ∧ job_18.jobByTag j.tag = some j ∧ j.state = 3 ∧ j.ckptOn = false ∧ (job_18.outbound j.tag).isEmpty = true
      ∧ ∀ (t : Nat), t ∈ j.all → job_18.rd TILE_STATE_STATE t = 2 ∧ (job_18.tile t).taRun = none ∧ (job_18.tile t).vecRun = none
      ∧ (job_18.tile t).taOpen = [] ∧ (job_18.tile t).dual = [] ∧ (job_18.tile t).detections = [] ∧ (job_18.tile t).guarded = []
      ∧ (job_18.tile t).sendBuf = none) := by
  refine ⟨?_, ?_, ?_, ?_, ?_, ?_, ?_, ?_, ?_, ?_⟩ <;> decide +kernel
/-- An export with room for its image. -/
theorem witness_JobsRestoreExportAndEnd_export :
    let s := bg 0 0 (slot 0x2006 1 [65536, 100000]) (jb 6)
    ∃ b j, s.bgRuns 0 0 0x2006 = some b ∧ b.orphan = false ∧ s.jobByHandle b.object = some j ∧ s.masters 0 = true
      ∧ (j.all.all fun t => (s.tile t).heldLines.isEmpty) = true
      ∧ ceilDiv (exportLen j ((s.freezeJob j).exportTiles j).2) 65536 * 65536 ≤ b.args.getD 1 0 * 65536 :=
  ⟨_, _, rfl, by decide +kernel, rfl, by decide +kernel, by decide +kernel, by decide +kernel⟩
end JobsRestoreExportAndEndCases

namespace LifeRecordCases
def je : JEntry := JEntry.make 7 1 [1, 2, 3, 4]
def s0 : Sector := ⟨Sector.head 1 1 0, [], false⟩
def bz (w : FlashWork) (s : State) : State := { s with flash := { s.flash with busy := some w } }
def cb (n : Nat) : CfgBlock := CfgBlock.form (fun _ => zeros 96) (cfgBody n [] (fun _ => 0))
def noSpare : Flash := { Flash.reset with dirs := [⟨2, Flash.reset.freeSpares.map fun p => (p, p), true⟩, ⟨1, [], true⟩] }
def fl : State := { o with buffer := [je], sectors := [(0, s0), (1, ⟨Sector.head 1 0 0, [], false⟩)] }
def md (s : State) : State := s.wr LREC_POWERED_MIN 0 600000
def life_0 : State := tick 90000000000 o
def life_2 : State := { (tick 90000000000 o) with phase := .reset }
def life_3 : State := (o).wr LREC_POWERED_MIN 0 1500
def life_4 : State := tick 7200000000000 { o with histAt := 5 }
def life_6 : State := fl
def life_7 : State := bz .flush fl
def life_8 : State := bz .flush { fl with flash := noSpare }
def life_10 : State := md o
def life_11 : State := bz .retention (md o)
def life_12 : State := bz (.refresh 2 0) (md o)
def life_14 : State := bz .half { o with flash := { Flash.reset with other := [cb 1] } }
def life_15 : State := { o with flash := { Flash.reset with log := [cb 2], other := [⟨[], false⟩] } }

theorem witness_LifeRecord_1 :
    (life_0.alive = true ∧ life_0.minuteAt + 60000000000 ≤ life_0.now) ∧
    (life_2.alive = false ∨ life_2.now < life_2.minuteAt + 60000000000) ∧
    (life_3.writesFlash = true ∧ life_3.snapMin + 1440 ≤ life_3.minutes) ∧
    (life_0.writesFlash = false ∨ life_0.minutes < life_0.snapMin + 1440) := by
  refine ⟨?_, ?_, ?_, ?_⟩ <;> decide +kernel
theorem witness_LifeRecord_2 :
    (life_4.phase ≠ Phase.reset ∧ (life_4.histAt < life_4.now / 3600000000000 * 3600000000000 ∨ life_4.histOwed = true ∧
      life_4.histAt + 600000000000 ≤ life_4.now)) ∧
    (life_0.now / 3600000000000 * 3600000000000 ≤ life_0.histAt ∧ (life_0.histOwed = false ∨ life_0.now < life_0.histAt +
      600000000000)) ∧
    (life_6.writesFlash = true ∧ life_6.flash.busy = none ∧ (!life_6.buffer.isEmpty) = true) ∧
    (life_0.writesFlash = true ∧ life_0.flash.busy = none ∧ (!life_0.buffer.isEmpty) = false) := by
  refine ⟨?_, ?_, ?_, ?_⟩ <;> decide +kernel
theorem witness_LifeRecord_3 :
    (life_10.writesFlash = true ∧ life_10.flash.busy = none ∧ decide (life_10.rd LREC_REWRITE_MIN 0 + monthMinutes ≤
      life_10.minutes) = true) ∧
    (life_0.writesFlash = true ∧ life_0.flash.busy = none ∧ decide (life_0.rd LREC_REWRITE_MIN 0 + monthMinutes ≤ life_0.minutes) =
      false) ∧
    (life_15.writesFlash = true ∧ life_15.flash.busy = none ∧ (!life_15.flash.other.isEmpty && life_15.flash.newerHere) = true) ∧
    (life_0.writesFlash = true ∧ life_0.flash.busy = none ∧ (!life_0.flash.other.isEmpty && life_0.flash.newerHere) = false) := by
  refine ⟨?_, ?_, ?_, ?_⟩ <;> decide +kernel
theorem witness_LifeRecord_4 :
    (life_2.writesFlash = false) ∧
    (life_11.flash.busy ≠ none ∧ life_11.flash.busy ≠ some FlashWork.flush) ∧
    (life_7.flash.busy ≠ none ∧ life_7.flash.busy ≠ some FlashWork.retention) ∧
    (life_7.flash.busy ≠ none ∧ life_7.flash.busy ≠ some FlashWork.half) := by
  refine ⟨?_, ?_, ?_, ?_⟩ <;> decide +kernel
theorem witness_LifeRecord_5 :
    (life_7.writesFlash = true ∧ life_7.flash.busy = some FlashWork.flush ∧ life_7.goodSectors ≠ 0) ∧
    (life_7.writesFlash = true ∧ life_7.flash.busy = some FlashWork.flush ∧ life_7.goodSectors ≠ 0 ∧ life_7.flash.freeSpares ≠ []) ∧
    (life_11.writesFlash = true ∧ life_11.flash.busy = some FlashWork.retention) ∧
    (life_10.writesFlash = true ∧ life_10.flash.busy = none ∧ life_10.refreshDue 2 = some 0) := by
  refine ⟨?_, ?_, ?_, ?_⟩ <;> decide +kernel
theorem witness_LifeRecord_6 :
    (life_0.flash.busy = none ∧ life_0.refreshDue 2 = none) ∧
    (life_12.writesFlash = true ∧ life_12.flash.busy = some (FlashWork.refresh 2 0)) ∧
    (life_14.writesFlash = true ∧ life_14.flash.busy = some FlashWork.half) := by
  refine ⟨?_, ?_, ?_⟩ <;> decide +kernel
theorem noSpare_full : noSpare.freeSpares = [] := by
  have hm : noSpare.map = Flash.reset.freeSpares.map fun p => (p, p) := by simp [Flash.map, Flash.dirAt, noSpare]
  have hr : Flash.reset.map = [] := by simp [Flash.map, Flash.dirAt, Flash.reset]
  rw [Flash.freeSpares, List.filter_eq_nil_iff]
  intro n hn
  have h : n ∈ Flash.reset.freeSpares := by rw [Flash.freeSpares, hr]; exact List.mem_filter.mpr ⟨hn, rfl⟩
  rw [hm]
  simpa using h

/-- A page's program fails while no spare is left. -/
theorem witness_LifeRecord_noSpare : life_8.writesFlash = true ∧ life_8.flash.busy = some .flush ∧ 2 ≤ life_8.goodSectors
    ∧ (life_8.sector (life_8.rd LREC_STAT_HEAD 0)).bad = false ∧ life_8.flash.freeSpares = [] :=
  ⟨by decide +kernel, by decide +kernel, by decide +kernel, by decide +kernel, noSpare_full⟩
end LifeRecordCases

namespace LinesReadAndWrittenCases
def jb (st : Nat) (s : State := o) : State := withJob (job st) ((s.wr TILE_JOB_JOB 3 7).wr NBC_CTRL_MODE 3 0)
def ln : Line := ⟨zeros 64, lineCrc (zeros 64) 5 + 3 * 2 ^ 16⟩
def withLine (n : Line) (s : State := o) : State := tp (fun x => { x with col := [(5, n)] }) s
def heldL (h : HeldLine) (s : State) : State := tp (fun x => { x with heldLines := [(5, h)], wdogFrom := some 5 }) s
def rcp (s : State) : State := { (jb 3 s) with jobs := [{ job 3 with sections := [⟨2, true, 0xFFFF, 0, 0, 1024⟩] }] }
def line_0 : State := withLine ⟨zeros 64, 7⟩
def line_1 : State := withLine (poisonLine 5)
def line_2 : State := { withLine ln with keys := [] }
def line_3 : State := withLine ln
def line_4 : State := o
def line_5 : State := heldL ⟨0, 1999999000, false, none, true, false, false⟩ (withLine ln)
def line_6 : State := heldL ⟨0, 1999999000, false, none, true, false, false⟩ (withLine ⟨zeros 64, 7⟩)
def line_7 : State := heldL ⟨1, 1999999000, false, none, true, false, false⟩ (rcp (withLine ⟨zeros 64, 7⟩))
def line_8 : State := heldL ⟨1, 1999999000, false, none, true, false, false⟩ (withLine ⟨zeros 64, 7⟩)
def line_9 : State := heldL ⟨0, 1999999000, false, none, true, true, false⟩ (withLine ln)
def line_10 : State := heldL ⟨2, 1999999000, true, none, true, false, false⟩ (rcp (withLine ⟨zeros 64, 7⟩))
def line_12 : State := { o with folds := [] }

theorem witness_LinesReadAndWritten :
    (([] : Bytes).length ≤ 68 ∧ line_0.chanUp 3 = true ∧ line_0.lineHeld 3 (5#22).toNat = false ∧ classify ((line_0.arrayLine 3
      (5#22).toNat).flipped []) (5#22).toNat = LineClass.failed) ∧
    (([] : Bytes).length ≤ 68 ∧ line_1.chanUp 3 = true ∧ line_1.lineHeld 3 (5#22).toNat = false ∧ classify ((line_1.arrayLine 3
      (5#22).toNat).flipped []) (5#22).toNat = LineClass.poisoned) ∧
    (([] : Bytes).length ≤ 68 ∧ line_2.chanUp 3 = true ∧ line_2.lineHeld 3 (5#22).toNat = false ∧ classify ((line_2.arrayLine 3
      (5#22).toNat).flipped []) (5#22).toNat = LineClass.good ∧ line_2.key (line_2.slotFor 3 (5#22).toNat) = none) ∧
    (([] : Bytes).length ≤ 68 ∧ line_3.chanUp 3 = true ∧ line_3.lineHeld 3 (5#22).toNat = false ∧ classify ((line_3.arrayLine 3
      (5#22).toNat).flipped []) (5#22).toNat = LineClass.good ∧ (line_3.key (line_3.slotFor 3 (5#22).toNat)).isSome = true) ∧
    (([] : Bytes).length ≤ 68 ∧ line_4.chanUp 3 = true ∧ line_4.lineHeld 3 (5#22).toNat = false ∧ classify ((line_4.arrayLine 3
      (5#22).toNat).flipped []) (5#22).toNat = LineClass.unwritten) ∧
    (([] : Bytes).length ≤ 68 ∧ ∃ h, h ∈ (line_5.tile 3).heldLines.find (5#22).toNat ∧ h.drover = false ∧ h.mark = false ∧
      (line_5.tile 3).poolQ = [] ∧ classify ((line_5.arrayLine 3 (5#22).toNat).flipped []) (5#22).toNat = LineClass.good ∧
      h.merge = none ∧ (h.undo = true → (line_5.key (line_5.slotFor 3 (5#22).toNat)).isSome = true)) ∧
    (([] : Bytes).length ≤ 68 ∧ ∃ h, h ∈ (line_6.tile 3).heldLines.find (5#22).toNat ∧ h.drover = false ∧ h.mark = false ∧
      (line_6.tile 3).poolQ = [] ∧ classify ((line_6.arrayLine 3 (5#22).toNat).flipped []) (5#22).toNat = LineClass.failed ∧
      h.tries = 0) ∧
    (([] : Bytes).length ≤ 68 ∧ ∃ h, h ∈ (line_7.tile 3).heldLines.find (5#22).toNat ∧ h.drover = false ∧ h.mark = false ∧
      (line_7.tile 3).poolQ = [] ∧ classify ((line_7.arrayLine 3 (5#22).toNat).flipped []) (5#22).toNat = LineClass.failed ∧
      h.tries ≠ 0 ∧ (line_7.recompSource 3 (5#22).toNat).isSome = true) ∧
    (([] : Bytes).length ≤ 68 ∧ ∃ h, h ∈ (line_8.tile 3).heldLines.find (5#22).toNat ∧ h.drover = false ∧ h.mark = false ∧
      (line_8.tile 3).poolQ = [] ∧ classify ((line_8.arrayLine 3 (5#22).toNat).flipped []) (5#22).toNat = LineClass.failed ∧
      h.tries ≠ 0 ∧ h.merge = none ∧ line_8.recompSource 3 (5#22).toNat = none) ∧
    (([] : Bytes).length ≤ 68 ∧ ∃ h, h ∈ (line_9.tile 3).heldLines.find (5#22).toNat ∧ h.drover = false ∧ h.mark = true ∧
      (line_9.tile 3).poolQ = [] ∧ classify ((line_9.arrayLine 3 (5#22).toNat).flipped []) (5#22).toNat = LineClass.good ∧
      h.merge = none) ∧
    (([] : Bytes).length ≤ 68 ∧ ∃ h, h ∈ (line_10.tile 3).heldLines.find (5#22).toNat ∧ h.drover = true ∧ h.merge = none ∧ h.mark =
      false ∧ (line_10.tile 3).poolQ = [] ∧ ∃ j, j ∈ line_7.jobs ∧ line_10.now ≤ h.since + 250000 ∧ line_10.recompSource 3
      (5#22).toNat = some (j, 4416) ∧ line_10.masters j.fn = true ∧ line_10.key (line_10.slotFor 3 (5#22).toNat) = some 99 ∧
      line_10.undoFor 3 (5#22).toNat = line_10) ∧
    (([] : Bytes).length ≤ 68 ∧ ∃ h, h ∈ (line_10.tile 3).heldLines.find (5#22).toNat ∧ h.drover = true ∧ h.merge = none ∧ h.mark =
      false ∧ (line_10.tile 3).poolQ = []) ∧
    (List.length (zeros 64) = 64 ∧ line_0.chanUp 3 = true ∧ line_0.lineHeld 3 (5#22).toNat = false ∧ (line_0.key (line_0.slotFor 3
      (5#22).toNat)).isSome = true) ∧
    (List.length (zeros 64) = 64 ∧ line_2.chanUp 3 = true ∧ line_2.lineHeld 3 (5#22).toNat = false ∧ line_2.key (line_2.slotFor 3
      (5#22).toNat) = none) ∧
    ([1#8, 2#8] ≠ [] ∧ (0#6).toNat + [1#8, 2#8].length ≤ 64 ∧ line_3.chanUp 3 = true ∧ line_3.lineHeld 3 (5#22).toNat = false ∧
      classify (line_3.arrayLine 3 (5#22).toNat) (5#22).toNat = LineClass.good ∧ line_3.key (line_3.slotFor 3 (5#22).toNat) =
      some 99) ∧
    ([1#8, 2#8] ≠ [] ∧ (0#6).toNat + [1#8, 2#8].length ≤ 64 ∧ line_0.chanUp 3 = true ∧ line_0.lineHeld 3 (5#22).toNat = false ∧
      classify (line_0.arrayLine 3 (5#22).toNat) (5#22).toNat = LineClass.failed) ∧
    ([1#8, 2#8] ≠ [] ∧ (0#6).toNat + [1#8, 2#8].length ≤ 64 ∧ line_1.chanUp 3 = true ∧ line_1.lineHeld 3 (5#22).toNat = false ∧
      classify (line_1.arrayLine 3 (5#22).toNat) (5#22).toNat = LineClass.poisoned) ∧
    (line_0.foldOff (foldOf 3) = false) ∧
    (line_12.foldOff (foldOf 3) = true) := by
  refine ⟨?_, ?_, ?_, ?_, ?_, ?_, ?_, ?_, ?_, ?_, ?_, ?_, ?_, ?_, ?_, ?_, ?_, ?_, ?_⟩ <;> decide +kernel
end LinesReadAndWrittenCases

namespace DeviceCommandsCases
def mb_3 : State := acc 0 0x1001 0 [] o
def mb_7 : State := acc 17 0x1002 0 [] o
def mb_9 : State := acc 0 0x1002 0 [] o
def mb_10 : State := acc 0 0x1005 0 [] o
def mb_11 : State := acc 17 0x1005 0 [] o
def mb_15 : State := acc 0 0x1003 0 (toLE 2 0x1000 ++ toLE 2 600) o
def mb_16 : State := acc 0 0x1006 0 (toLE 2 1 ++ toLE 2 5) {o with report := [(1,2,3),(4,5,6)]}
def mb_18 : State := acc 17 0x1004 0 (toLE 2 1 ++ toLE 2 0 ++ toLE 2 0x1003 ++ toLE 2 0 ++ toLE 4 5) o
def mb_20 : State := acc 0 0x1007 0 (toLE 4 9) (bg 0 5 (slot 0x4004 1 [] 2) o)

theorem witness_DeviceCommands :
    (∃ r, r ∈ requests mb_3 ∧ mb_3.mayRun 0 4097 r = true) ∧
    (∃ r, r ∈ requests mb_7 ∧ mb_9.mayRun 0 4098 r = true) ∧
    (∃ r, r ∈ requests mb_15 ∧ mb_15.mayRun 0 4099 r = true ∧ r.f 2 2 ≠ 0) ∧
    (∃ r, r ∈ requests mb_16 ∧ mb_16.mayRun 0 4102 r = true ∧ r.f 2 2 ≠ 0) ∧
    (∃ r, r ∈ requests mb_18 ∧ mb_18.mayRun 17 4100 r = true ∧ r.len = 12 ∧ r.f 0 2 = 1 ∧ r.f 2 2 = 0 ∧ r.f 6 2 = 0 ∧ r.f 4 2 = 4099
      ∧ r.f 8 4 = 5 ∧ cfgClamp 4099 5 = some 5) ∧
    (∃ r, r ∈ requests mb_10 ∧ mb_11.mayRun 17 4101 r = true ∧ mb_11.flash.log.length < halfBlocks) ∧
    (∃ r, r ∈ requests mb_20 ∧ ∃ b, b ∈ slots mb_20 ∧ mb_20.mayRun 0 4103 r = true ∧ (mb_20.mbox 0).bg.find? (fun b ↦ b.snd.opid ==
      r.f 0 4) = some (5, b) ∧ b.state ≠ 1 ∧ b.state ≠ 3) := by
  refine ⟨?_, ?_, ?_, ?_, ?_, ?_, ?_⟩ <;> decide +kernel
end DeviceCommandsCases

namespace EmptyQueueOnlyPassesTimeCases


theorem witness_EmptyQueueOnlyPassesTime : State.reset.pending = [] ∧ State.reset.phase = .reset := by decide +kernel
end EmptyQueueOnlyPassesTimeCases

namespace MailboxHandshakeCases
def req (op : Nat) (b : Bytes) : Bytes := toLE 2 op ++ toLE 2 b.length ++ toLE 4 77 ++ toLE 4 0 ++ toLE 4 0 ++ b
def go1 : State := (o.modMbox 0 fun x => x.write 0 (req 0x1001 [])).mbxGo 0
def mb_0 : State := State.reset
def mb_1 : State := o
def mb_2 : State := go1
def mb_3 : State := acc 0 0x1001 0 [] o
def mb_5 : State := (acc 0 0x1001 0 [] o).wr MBX_STAT_STATE 0 2

theorem witness_MailboxHandshake :
    (mb_1.mbxState 0 = mxIdle) ∧
    (mb_3.mbxState 0 = mxBusy ∨ mb_3.mbxState 0 = mxDone) ∧
    (mb_5.mbxState 0 = mxDone) ∧
    (mb_0.mbxState 0 ≠ mxDone) ∧
    (mb_0.mbxState 0 = mxNotReady) ∧
    (mb_2.nextMbx = some 0 ∧ (cmdSpec (fld (Memory.getN (mb_2.mbox 0).request 0 16) 0 2)).isSome = true) := by
  refine ⟨?_, ?_, ?_, ?_, ?_, ?_⟩ <;> decide +kernel
end MailboxHandshakeCases

namespace StepRunsTheFrontCommandCases


theorem witness_StepRunsTheFrontCommand : ({ State.reset with pending := [.timeTimer] }).pending = .timeTimer :: [] := rfl
end StepRunsTheFrontCommandCases

namespace ManagementEndpointCases
def cert1 (a : Nat) (op pr : Bool) : ClientCert := ⟨a, if op then [9#8] else [1], if pr then o.stackRecord.provKey else [2], 0#64, 0xFFFFFFFFFFFF#64⟩
def full (s : State := o) : State := s.wr MGT_STAT_CONN 0 15
def mgt_0 : State := o
def mgt_1 : State := { o with phase := .reset }
def mgt_2 : State := full
def mgt_3 : State := { o with authFails := List.replicate 8 (5, 1999999999) }
def mgt_5 : State := o.wr MBX_STAT_STATE 17 1
def mgt_6 : State := tick 9000000000000 o
def mgt_7 : State := tick 9000000000000 (o.wr MBX_STAT_STATE 17 1)
def mgt_8 : State := (o.wr MBX_STAT_STATE 17 1).setMbox 17 { o.mbox 17 with queue := List.replicate 4 [] }
def mgt_9 : State := { o with conns := [(1, { Conn.reset with mbx := 17, lastFrame := 1999999999, unread := [.status] })] }

theorem witness_ManagementEndpoint :
    (mgt_1.mgtUp = false) ∧
    (mgt_2.mgtUp = true ∧ mgt_2.freeConn = none) ∧
    (mgt_3.mgtUp = true ∧ mgt_3.freeConn = some 0 ∧ mgt_3.addressBlocked (cert1 5 false true).address = true) ∧
    (mgt_0.mgtUp = true ∧ mgt_0.freeConn = some 0 ∧ mgt_0.addressBlocked (cert1 5 false true).address = false ∧ mgt_0.certOk (cert1
      5 false true) = true) ∧
    (mgt_0.mgtUp = true ∧ mgt_0.freeConn = some 0 ∧ mgt_0.addressBlocked (cert1 6 true false).address = false ∧ mgt_0.certOk (cert1
      6 true false) = false) ∧
    (mgt_2.heard 0 = true ∧ mgt_2.mbxState (16 + 0) ≠ mxBusy) ∧
    (mgt_5.heard 1 = true ∧ mgt_5.mbxState (16 + 1) = mxBusy) ∧
    ((mgt_6.conn 1).lastFrame + mgt_6.conf 1300 * 1000000000 ≤ mgt_6.now ∧ mgt_6.heard 1 = true ∧ mgt_6.mbxState (16 + 1) ≠ mxBusy) ∧
    ((mgt_7.conn 1).lastFrame + mgt_7.conf 1300 * 1000000000 ≤ mgt_7.now ∧ mgt_7.heard 1 = true ∧ mgt_7.mbxState (16 + 1) = mxBusy) ∧
    (mgt_0.now < (mgt_0.conn 0).lastFrame + mgt_0.conf 1300 * 1000000000) ∧
    (mgt_0.heard 0 = false) ∧
    (mgt_9.heard 1 = true ∧ 16 ≤ List.length (zeros 16) ∧ List.length (zeros 16) ≤ 4096 ∧ (mgt_9.conn 1).unread ≠ []) ∧
    (mgt_0.heard 1 = true ∧ 16 ≤ List.length (zeros 16) ∧ List.length (zeros 16) ≤ 4096 ∧ (mgt_0.conn 1).unread = [] ∧
      mgt_0.mbxState (16 + 1) = mxIdle ∧ (mgt_0.mbox (16 + 1)).go = false ∧ (mgt_0.mbox (16 + 1)).queue = []) ∧
    (mgt_5.heard 1 = true ∧ 16 ≤ List.length (zeros 16) ∧ List.length (zeros 16) ≤ 4096 ∧ (mgt_5.conn 1).unread = [] ∧
      mgt_5.mbxState (16 + 1) = mxBusy ∧ (mgt_5.mbox (16 + 1)).queue.length < 4) ∧
    (mgt_8.heard 1 = true ∧ 16 ≤ List.length (zeros 16) ∧ List.length (zeros 16) ≤ 4096 ∧ (mgt_8.conn 1).unread = [] ∧
      mgt_8.mbxState (16 + 1) = mxBusy ∧ 4 ≤ (mgt_8.mbox (16 + 1)).queue.length) ∧
    (mgt_2.heard 0 = true ∧ 16 ≤ List.length (zeros 16) ∧ List.length (zeros 16) ≤ 4096 ∧ (mgt_2.conn 0).unread = []) ∧
    (mgt_2.heard 0 = true ∧ 16 ≤ List.length (zeros 16) ∧ List.length (zeros 16) ≤ 4096 ∧ (mgt_2.conn 0).unread = [] ∧ 3#16 ≠ 2#16 ∧
      3#16 ≠ 6#16 ∧ 3#16 ≠ 7#16) := by
  refine ⟨?_, ?_, ?_, ?_, ?_, ?_, ?_, ?_, ?_, ?_, ?_, ?_, ?_, ?_, ?_, ?_, ?_⟩ <;> decide +kernel
end ManagementEndpointCases

namespace UndefinedCommandIsUnsupportedCases
def low (m op obj : Nat) (b : Bytes) (s : State := { o with fwLevel := 1 }) : State := acc m op obj b s
def reqB (op : Nat) (b : Bytes) : Bytes := toLE 2 op ++ toLE 2 b.length ++ toLE 4 77 ++ toLE 4 0 ++ toLE 4 0 ++ b
def misc_0 : State := (o.modMbox 0 fun x => x.write 0 (reqB 0x1234 [1])).mbxGo 0
def misc_2 : State := low 0 0x1002 0 []

theorem witness_UndefinedCommandIsUnsupported :
    (misc_0.nextMbx = some 0 ∧ cmdSpec (fld (Memory.getN (misc_0.mbox 0).request 0 16) 0 2) = none) ∧
    (∃ r, r ∈ List.filterMap (fun x ↦ x.snd.accepted) misc_2.mboxes ∧ ∃ x, x ∈ List.filterMap (fun r : Req ↦ cmdSpec r.opcode)
      (List.filterMap (fun x ↦ x.snd.accepted) misc_2.mboxes) ∧ misc_2.command 0 0x1002 = some (r, x) ∧ misc_2.fwLevel < x.lvl) := by
  refine ⟨?_, ?_⟩ <;> decide +kernel
end UndefinedCommandIsUnsupportedCases

namespace ZeroDimensionMatmulCompletesCases
def mm (m n k : Nat) : Bytes := [1, 1, 1, 0] ++ zeros 4 ++ toLE 2 m ++ toLE 2 n ++ toLE 4 k ++ zeros 48
def misc_7 : State := (regs2 64 0).modTile 3 fun x => x.wrSpad 64 (mm 0 1 1)

theorem witness_ZeroDimensionMatmulCompletes :
    misc_7.runs 3 = true ∧ (misc_7.tile 3).taQ = [] ∧ (misc_7.tile 3).taRun = none ∧ (misc_7.tile 3).seedTa = [] ∧ (misc_7.tile
      3).seedVec = [] ∧ (misc_7.tile 3).xr 1 % 64 = 0 ∧ (misc_7.tile 3).xr 1 + 64 ≤ spadSize ∧ fld ((misc_7.tile 3).rdSpad
      ((misc_7.tile 3).xr 1) 64) 0 1 = 1 ∧ ((Matmul.of ((misc_7.tile 3).rdSpad ((misc_7.tile 3).xr 1) 64)).m = 0 ∨ (Matmul.of
      ((misc_7.tile 3).rdSpad ((misc_7.tile 3).xr 1) 64)).n = 0 ∨ (Matmul.of ((misc_7.tile 3).rdSpad ((misc_7.tile 3).xr 1)
      64)).k = 0) ∧ taRefused (misc_7.tile 3) ((misc_7.tile 3).rdSpad ((misc_7.tile 3).xr 1) 64) = false := by
  decide +kernel
end ZeroDimensionMatmulCompletesCases

namespace ChannelsAndCreditsCases
def c0 : Nat := chanOf 3 2
def tx (cr : Nat) (s : State) : State := (((s.wr TILE_TXC_CFG_EN c0 1).wr TILE_TXC_CFG_DEST c0 4).wr TILE_TXC_CREDIT_CREDITS c0 cr).wr TILE_TXC_CREDIT_MAXLEN c0 100 |>.wr TILE_JOB_JOB 3 7
def rx (full head : Nat) (s : State) : State := ((((s.wr TILE_RXC_RING_EN c0 1).wr TILE_RXC_RING_SLOTS c0 4).wr TILE_RXC_BASE_BASE c0 16).wr TILE_RXC_STAT_FULL c0 full).wr TILE_RXC_STAT_HEAD c0 head |>.wr TILE_JOB_JOB 3 7
def cr (k : CreditKind) (g n : Nat) : Credit := ⟨k, 4, 7, 3, 2, n, 100, g⟩
def msg_0 : State := o
def msg_6 : State := rx 2 3 (regs2 2 0)
def msg_18 : State := { tx 3 o with credits := [cr .grant 5 9] }
def msg_19 : State := { tx 3 o with credits := [cr .back 0 2] }
def msg_21 : State := { tx 3 o with credits := [cr .revoke 0 2] }
def msg_24 : State := (o.wr TILE_RXC_RING_SLOTS c0 4).wr TILE_RXC_BASE_BASE c0 65535

theorem witness_ChannelsAndCredits :
    (∃ c, c ∈ msg_18.credits ++ msg_18.drvGrants ∧ ∃ r, r ∈ [[], msg_18.credits.tail] ∧ takeCredit (fun c ↦ c.dst == 3 && c.ch == 2
      && ordered c) msg_18.credits = some (c, r) ∧ c.kind = CreditKind.grant ∧ (1024 ≤ c.src ∨ c.srcJob = msg_18.rd TILE_JOB_JOB
      3)) ∧
    (∃ c, c ∈ msg_19.credits ++ msg_19.drvGrants ∧ ∃ r, r ∈ [[], msg_18.credits.tail] ∧ takeCredit (fun c ↦ c.dst == 3 && c.ch == 2
      && !ordered c) msg_19.credits = some (c, r)) ∧
    (∃ c, c ∈ msg_21.credits ++ msg_21.drvGrants ∧ ∃ r, r ∈ [[], msg_18.credits.tail] ∧ takeCredit (fun c ↦ c.dst == 3 && c.ch == 2
      && ordered c) msg_21.credits = some (c, r) ∧ c.kind = CreditKind.revoke) ∧
    (msg_18.rdb TILE_RXC_RING_EN (chanOf 3 2) = false ∧ msg_18.rd TILE_RXC_BASE_BASE (chanOf 3 2) * 64 + msg_18.rd
      TILE_RXC_RING_SLOTS (chanOf 3 2) * msg_18.slotSize 3 2 ≤ spadSize) ∧
    (msg_24.rdb TILE_RXC_RING_EN (chanOf 3 2) = false ∧ spadSize < msg_24.rd TILE_RXC_BASE_BASE (chanOf 3 2) * 64 + msg_24.rd
      TILE_RXC_RING_SLOTS (chanOf 3 2) * msg_24.slotSize 3 2) ∧
    (msg_6.rdb TILE_RXC_RING_EN (chanOf 3 2) = true) ∧
    (msg_0.rdb TILE_TXC_CFG_EN (chanOf 3 2) = false) := by
  refine ⟨?_, ?_, ?_, ?_, ?_, ?_, ?_⟩ <;> decide +kernel
end ChannelsAndCreditsCases

namespace MessagesSentAndReceivedCases
def c0 : Nat := chanOf 3 2
def tx (cr : Nat) (s : State) : State := (((s.wr TILE_TXC_CFG_EN c0 1).wr TILE_TXC_CFG_DEST c0 4).wr TILE_TXC_CREDIT_CREDITS c0 cr).wr TILE_TXC_CREDIT_MAXLEN c0 100 |>.wr TILE_JOB_JOB 3 7
def rx (full head : Nat) (s : State) : State := ((((s.wr TILE_RXC_RING_EN c0 1).wr TILE_RXC_RING_SLOTS c0 4).wr TILE_RXC_BASE_BASE c0 16).wr TILE_RXC_STAT_FULL c0 full).wr TILE_RXC_STAT_HEAD c0 head |>.wr TILE_JOB_JOB 3 7
def ms (len : Nat) (nb : Nat := 0) : W64 := BitVec.ofNat 64 (len + 2 * 65536 + nb * 2^24)
def snd : State := (tx 3 (regs2 100 (ms 20))).modTile 3 fun x => x.wrSpad 95 ((List.range 40).map (BitVec.ofNat 8))
def cr (k : CreditKind) (g n : Nat) : Credit := ⟨k, 4, 7, 3, 2, n, 100, g⟩
def msg_1 : State := tx 3 (regs2 100 (ms 0))
def msg_3 : State := tx 0 (regs2 100 (ms 20 1))
def msg_5 : State := (snd).modTile 3 (fun x => { x with wait := some (.send 1 100 20 2 false) })
def msg_6 : State := rx 2 3 (regs2 2 0)
def msg_7 : State := rx 0 0 (regs2 2 0)
def msg_8 : State := regs2 2 0
def msg_33 : State := (tx 0 (regs2 100 (ms 20 1))).modTile 3 (fun x => { x with wait := some (.send 1 100 20 2 true) })

theorem witness_MessagesSentAndReceived :
    (msg_1.runs 3 = true ∧ 100 = (msg_1.tile 3).xr 1 ∧ 0 = bf ((msg_1.tile 3).xr 2) 0 13 ∧ 2 = bf ((msg_1.tile 3).xr 2) 16 4 ∧ 0 =
      0) ∧
    (msg_1.runs 3 = true ∧ 100 = (msg_1.tile 3).xr 1 ∧ 100 = bf ((msg_1.tile 3).xr 1) 0 13 ∧ 0 = bf ((msg_1.tile 3).xr 1) 16 4 ∧ 100
      ≠ 0 ∧ msg_1.rdb TILE_TXC_CFG_EN (chanOf 3 0) = false) ∧
    (msg_3.runs 3 = true ∧ 100 = (msg_3.tile 3).xr 1 ∧ 20 = bf ((msg_3.tile 3).xr 2) 0 13 ∧ 2 = bf ((msg_3.tile 3).xr 2) 16 4 ∧ 20 ≠
      0 ∧ msg_3.rdb TILE_TXC_CFG_EN (chanOf 3 2) = true ∧ 20 ≤ msg_3.rd TILE_TXC_CREDIT_MAXLEN (chanOf 3 2) ∧ 100 + 20 ≤
      spadSize ∧ msg_3.foldOff (endpointFold (msg_3.twinView 3 (msg_3.rd TILE_TXC_CFG_DEST (chanOf 3 2)))) = false ∧ msg_3.rd
      TILE_TXC_CREDIT_CREDITS (chanOf 3 2) = 0 ∧ bit ((msg_3.tile 3).xr 2) 24 = true) ∧
    ((Instr.msendWaitEnd 3 = Instr.kxMsend 3 1 1 1 ∧ msg_5.runs 3 = true ∧ 100 = (msg_5.tile 3).xr 1 ∧ 20 = bf ((msg_5.tile 3).xr 1)
      0 13 ∧ 2 = bf ((msg_5.tile 3).xr 1) 16 4 ∨ Instr.msendWaitEnd 3 = Instr.msendWaitEnd 3 ∧ msg_5.waits 3 = true ∧ ∃ nb,
      (msg_5.tile 3).wait = some (CoreWait.send 1 100 20 2 nb)) ∧ 20 ≠ 0 ∧ msg_5.rdb TILE_TXC_CFG_EN (chanOf 3 2) = true ∧ 20 ≤
      msg_5.rd TILE_TXC_CREDIT_MAXLEN (chanOf 3 2) ∧ 100 + 20 ≤ spadSize ∧ msg_5.foldOff (endpointFold (msg_5.twinView 3
      (msg_5.rd TILE_TXC_CFG_DEST (chanOf 3 2)))) = false ∧ msg_5.rd TILE_TXC_CREDIT_CREDITS (chanOf 3 2) ≠ 0 ∧ (msg_5.tile
      3).poisonedIn 100 20 = false ∧ (msg_5.tile 3).sendBuf = none) ∧
    (msg_33.waits 3 = true ∧ (msg_33.tile 3).wait = some (CoreWait.send 1 100 20 2 true) ∧ 20 ≠ 0 ∧ msg_33.rdb TILE_TXC_CFG_EN
      (chanOf 3 2) = true ∧ 20 ≤ msg_33.rd TILE_TXC_CREDIT_MAXLEN (chanOf 3 2) ∧ 100 + 20 ≤ spadSize ∧ msg_33.foldOff
      (endpointFold (msg_33.twinView 3 (msg_33.rd TILE_TXC_CFG_DEST (chanOf 3 2)))) = false ∧ msg_33.rd TILE_TXC_CREDIT_CREDITS
      (chanOf 3 2) = 0) ∧
    (msg_6.runs 3 = true ∧ 50 = chanOf 3 ((msg_6.tile 3).xr 1 % 16) ∧ msg_6.rdb TILE_RXC_RING_EN 50 = true ∧ msg_6.rd
      TILE_RXC_STAT_FULL 50 ≠ 0) ∧
    (msg_8.runs 3 = true ∧ 50 = chanOf 3 ((msg_8.tile 3).xr 1 % 16) ∧ (Instr.kxMrecv 3 2 1 = Instr.kxMrecv 3 2 1 ∨ Instr.kxMrecv 3 2
      1 = Instr.kxMfree 3 2 1) ∧ msg_8.rdb TILE_RXC_RING_EN 50 = false) ∧
    (msg_7.runs 3 = true ∧ 50 = chanOf 3 ((msg_7.tile 3).xr 1 % 16) ∧ (Instr.kxMrecv 3 2 1 = Instr.kxMrecv 3 2 1 ∨ Instr.kxMrecv 3 2
      1 = Instr.kxMfree 3 2 1) ∧ msg_7.rdb TILE_RXC_RING_EN 50 = true ∧ msg_7.rd TILE_RXC_STAT_FULL 50 = 0) := by
  refine ⟨?_, ?_, ?_, ?_, ?_, ?_, ?_, ?_⟩ <;> decide +kernel
end MessagesSentAndReceivedCases

namespace MessagesWaitAndTravelCases
def c0 : Nat := chanOf 3 2
def tx (cr : Nat) (s : State) : State := (((s.wr TILE_TXC_CFG_EN c0 1).wr TILE_TXC_CFG_DEST c0 4).wr TILE_TXC_CREDIT_CREDITS c0 cr).wr TILE_TXC_CREDIT_MAXLEN c0 100 |>.wr TILE_JOB_JOB 3 7
def rx (full head : Nat) (s : State) : State := ((((s.wr TILE_RXC_RING_EN c0 1).wr TILE_RXC_RING_SLOTS c0 4).wr TILE_RXC_BASE_BASE c0 16).wr TILE_RXC_STAT_FULL c0 full).wr TILE_RXC_STAT_HEAD c0 head |>.wr TILE_JOB_JOB 3 7
def ms (len : Nat) (nb : Nat := 0) : W64 := BitVec.ofNat 64 (len + 2 * 65536 + nb * 2^24)
def mg : Msg := { src := 4, sch := 1, dst := 3, dch := 2, gen := 0, seq := 0, job := 7, payload := [1,2,3,4,5], poison := [], rstack := 0, rtile := 4, rch := 1, ta := 0, vec := 0, tSend := 5 }
def snd : State := (tx 3 (regs2 100 (ms 20))).modTile 3 fun x => x.wrSpad 95 ((List.range 40).map (BitVec.ofNat 8))
def rxs (s : State) : State := ((s.wr TILE_RXC_SRC_SRC c0 4).wr TILE_RXC_SRC_SCH c0 1)
def cr (k : CreditKind) (g n : Nat) : Credit := ⟨k, 4, 7, 3, 2, n, 100, g⟩
def msg_0 : State := o
def msg_9 : State := rx 2 3 (regs2 4 50)
def msg_10 : State := (rx 2 3 (regs2 8 50))
def msg_11 : State := (rx 2 3 (regs2 8 50)).modTile 3 (fun x => { x with wait := some (.mwait 1 4 none) })
def msg_12 : State := (rx 2 3 (regs2 8 50)).modTile 3 (fun x => { x with wait := some (.mwait 1 8 (some 1999999999)) })
def msg_13 : State := o.modTile 3 (fun x => { x with sendBuf := some { mg with src := 3, dst := 4 } })
def msg_15 : State := {rxs (rx 2 3 o) with mesh := [mg, {mg with dst := 9}, {mg with seq := 1}] }
def msg_16 : State := {rxs (rx 2 3 o) with mesh := [{mg with job := 8}] }

theorem witness_MessagesWaitAndTravel :
    (msg_9.runs 3 = true ∧ (msg_9.tile 3).xr 1 % 2 ^ 32 ≠ 0 ∧ msg_9.ready 3 ((msg_9.tile 3).xr 1 % 2 ^ 32) ≠ 0) ∧
    (msg_10.runs 3 = true ∧ (msg_10.tile 3).xr 1 % 2 ^ 32 ≠ 0 ∧ msg_10.ready 3 ((msg_10.tile 3).xr 1 % 2 ^ 32) = 0 ∧ (msg_10.tile
      3).xr 1 ≠ 0 ∧ (msg_10.tile 3).xr 1 < 2 ^ 64 - 1) ∧
    (msg_11.waits 3 = true ∧ (msg_11.tile 3).wait = some (CoreWait.mwait 1 4 none) ∧ msg_11.ready 3 4 ≠ 0) ∧
    (msg_12.waits 3 = true ∧ (msg_12.tile 3).wait = some (CoreWait.mwait 1 8 (some 1999999999)) ∧ msg_12.ready 3 8 = 0 ∧ 1999999999
      ≤ msg_12.now) ∧
    (∃ m, m ∈ (msg_13.tile 3).sendBuf ∧ msg_13.meshStop = false ∧ (msg_13.tile 3).off = false ∧ (msg_13.tile 3).haltCkpt = false ∧
      (m.dst < 1024 ∨ msg_13.isTwin 3 = false)) ∧
    (∃ m, m ∈ msg_15.mesh ++ List.flatMap (fun k ↦ k.snd.sendBuf.toList ++ k.snd.ingest) msg_15.tiles ∧ ∃ r, r ∈ [] ::
      msg_15.mesh.tail :: List.map (fun k ↦ k.snd.ingest.tail) msg_15.tiles ∧ msg_15.restartingAt 3 = false ∧ (msg_15.tile
      3).ckptDone = false ∧ takeMsg (fun m ↦ m.dst == 3 && m.dch == 2) msg_15.mesh = some (m, r) ∧ msg_15.accepts 3 m = true ∧
      msg_15.rd TILE_RXC_STAT_FULL (chanOf 3 m.dch) < msg_15.rd TILE_RXC_RING_SLOTS (chanOf 3 m.dch) ∧ (msg_15.tile
      3).heldDelivery m.dch = false ∧ (msg_15.tile 3).guards ⟨msg_15.nextSlot 3 m.dch, (msg_15.slotBytes 3 m).length⟩ = false) ∧
    (∃ m, m ∈ msg_16.mesh ++ List.flatMap (fun k ↦ k.snd.sendBuf.toList ++ k.snd.ingest) msg_16.tiles ∧ ∃ r, r ∈ [] ::
      msg_0.mesh.tail :: List.map (fun k ↦ k.snd.ingest.tail) msg_0.tiles ∧ msg_16.restartingAt 3 = false ∧ (msg_16.tile
      3).ckptDone = false ∧ takeMsg (fun m ↦ m.dst == 3 && m.dch == 2) msg_16.mesh = some (m, r) ∧ msg_16.accepts 3 m = false) := by
  refine ⟨?_, ?_, ?_, ?_, ?_, ?_, ?_⟩ <;> decide +kernel
end MessagesWaitAndTravelCases

namespace TransfersCases
def c0 : Nat := chanOf 3 2
def tx (cr : Nat) (s : State) : State := (((s.wr TILE_TXC_CFG_EN c0 1).wr TILE_TXC_CFG_DEST c0 4).wr TILE_TXC_CREDIT_CREDITS c0 cr).wr TILE_TXC_CREDIT_MAXLEN c0 100 |>.wr TILE_JOB_JOB 3 7
def ms (len : Nat) (nb : Nat := 0) : W64 := BitVec.ofNat 64 (len + 2 * 65536 + nb * 2^24)
def snd : State := (tx 3 (regs2 100 (ms 20))).modTile 3 fun x => x.wrSpad 95 ((List.range 40).map (BitVec.ofNat 8))
def cr (k : CreditKind) (g n : Nat) : Credit := ⟨k, 4, 7, 3, 2, n, 100, g⟩
def xd (tile ls rs len : Nat) : Bytes := toLE 8 256 ++ toLE 8 512 ++ toLE 2 tile ++ toLE 1 ls ++ toLE 1 rs ++ toLE 4 len ++ zeros 8
def put (a : Nat) (d : Bytes) (s : State) : State := s.modTile 3 fun x => x.wrSpad a d
def xf (p : Bool) : Xfer := ⟨5, p, 256, 512, 4, 0, 0, 10, 0, none⟩
def xs (p : Bool) (j4 : Nat) : State := (((o.wr TILE_JOB_JOB 3 7).wr TILE_JOB_JOB 4 j4).modTile 3 fun x => { (x.wrSpad 250 ((List.range 40).map (BitVec.ofNat 8))) with xfers := [xf p] }).modTile 4 fun x => x.wrSpad 500 (List.replicate 30 9#8)
def msg_25 : State := put 1024 (xd 4 0 0 16) (regs2 1024 0)
def msg_26 : State := put 1024 (xd 4 0 0 0) (regs2 1024 0)
def msg_27 : State := (put 1024 (xd 4 0 0 16) (regs2 1024 0)).modTile 3 (fun x => { x with wait := some (.xferStart 1 true 1024) })
def msg_28 : State := (regs2 5 0).modTile 3 (fun x => { x with xfers := [{xf true with status := some 0}] })
def msg_30 : State := xs true 7
def msg_32 : State := xs true 8

theorem witness_Transfers :
    (xd 4 0 0 16 = (msg_27.tile 3).rdSpad 1024 32 ∧ (Instr.transferStallEnd 3 = Instr.kxPut 3 1 1 ∧ true = true ∧ msg_27.runs 3 =
      true ∧ 1024 = (msg_27.tile 3).xr 1 ∨ Instr.transferStallEnd 3 = Instr.kxGet 3 1 1 ∧ true = false ∧ msg_27.runs 3 = true ∧
      1024 = (msg_27.tile 3).xr 1 ∨ Instr.transferStallEnd 3 = Instr.transferStallEnd 3 ∧ msg_27.waits 3 = true ∧ (msg_27.tile
      3).wait = some (CoreWait.xferStart 1 true 1024)) ∧ 1024 % 32 = 0 ∧ 1024 + 32 ≤ spadSize ∧ fld (xd 4 0 0 16) 20 4 ≠ 0 ∧
      xferBad (xd 4 0 0 16) = false ∧ msg_27.foldOff (foldOf (msg_27.twinView 3 (fld (xd 4 0 0 16) 16 2))) = false ∧
      (msg_27.tile 3).outstanding < 16) ∧
    (xd 4 0 0 0 = (msg_26.tile 3).rdSpad 1024 32 ∧ (Instr.kxPut 3 2 1 = Instr.kxPut 3 2 1 ∨ Instr.kxPut 3 2 1 = Instr.kxGet 3 2 1) ∧
      msg_26.runs 3 = true ∧ 1024 = (msg_26.tile 3).xr 1 ∧ 1024 % 32 = 0 ∧ 1024 + 32 ≤ spadSize ∧ fld (xd 4 0 0 0) 20 4 = 0) ∧
    (zeros 32 = (msg_28.tile 3).rdSpad 5 32 ∧ ∃ x, x ∈ (msg_28.tile 3).xfers.find? (fun x ↦ x.tag == 5) ∧ (Instr.kxXwait 3 2 1 =
      Instr.kxXwait 3 2 1 ∧ msg_28.runs 3 = true ∧ 5 = (msg_28.tile 3).xr 1 % 65536 ∨ Instr.kxXwait 3 2 1 = Instr.xwaitReturn 3
      ∧ msg_28.waits 3 = true ∧ (msg_28.tile 3).wait = some (CoreWait.xfer 2 5)) ∧ x.status = some 0) ∧
    (xd 4 0 0 16 = (msg_25.tile 3).rdSpad 1024 32 ∧ msg_25.runs 3 = true ∧ 1024 = (msg_25.tile 3).xr 1 % 65536 ∧ (msg_25.tile
      3).xfers.find? (fun x ↦ x.tag == 1024) = none) ∧
    (∃ k, k ∈ (msg_30.tile 3).xfers.find? (fun k ↦ k.tag == (5#16).toNat && k.status.isNone) ∧ msg_30.meshStop = false ∧
      msg_30.xferHeld 3 k = false ∧ msg_30.rd TILE_JOB_JOB k.tile = msg_30.rd TILE_JOB_JOB 3 ∧ k.lspace = 0 ∧ k.rspace = 0 ∧ (4
      = if k.put = true then k.tile else 3) ∧ (512 = if k.put = true then k.rem else k.loc) ∧ (3 = if k.put = true then 3 else
      k.tile) ∧ (256 = if k.put = true then k.loc else k.rem) ∧ ((msg_30.tile 4).guarded.any fun g ↦ g.snd == GuardedWrite.xfer
      k.tag 3) = false ∧ (msg_30.tile 4).guards { addr := 512, len := k.len } = false ∧ (msg_30.tile 3).poisonedIn 256 k.len =
      false) ∧
    (∃ k, k ∈ (msg_32.tile 3).xfers.find? (fun k ↦ k.tag == (5#16).toNat && k.status.isNone) ∧ msg_32.meshStop = false ∧
      msg_32.xferHeld 3 k = false ∧ msg_32.rd TILE_JOB_JOB k.tile ≠ msg_32.rd TILE_JOB_JOB 3) := by
  refine ⟨?_, ?_, ?_, ?_, ?_, ?_⟩ <;> decide +kernel
end TransfersCases

namespace OperationsIssueRunAndCompleteCases
def n4 := toLE 4
def vd (op af yf c len rows a as b bs y ys imm : Nat) : Bytes := toLE 1 op ++ toLE 1 af ++ toLE 1 yf ++ toLE 1 c ++ n4 0 ++ n4 len ++ n4 rows ++ n4 a ++ n4 as ++ n4 b ++ n4 bs ++ n4 y ++ n4 ys ++ n4 0 ++ n4 0 ++ n4 imm ++ n4 0 ++ zeros 8
def md (op wf xf yf c m n k : Nat) : Bytes := toLE 1 op ++ toLE 1 wf ++ toLE 1 xf ++ toLE 1 yf ++ toLE 1 c ++ zeros 3 ++ toLE 2 m ++ toLE 2 n ++ n4 k ++ n4 0 ++ n4 64 ++ n4 1024 ++ n4 64 ++ n4 2048 ++ n4 64 ++ n4 4096 ++ n4 4200 ++ n4 4300 ++ n4 4400 ++ n4 4600 ++ n4 0
def ad : Bytes := toLE 1 2 ++ zeros 63
def vop (d : Bytes) : UnitOp := newOp true 0 0 0 0 d
def top (d : Bytes) : UnitOp := newOp false 0 0 0 0 d
def put (a : Nat) (d : Bytes) (s : State) : State := s.modTile 3 fun x => x.wrSpad a d
def q8 (s : State) : State := s.modTile 3 fun x => { x with taQ := List.replicate 8 (top ad), taCount := 8 }
def op_0 : State := put 128 (md 1 1 1 0 0 2 1 4) (regs2 128 0)
def op_1 : State := put 128 (md 1 1 1 0 0 2 1 4) (regs2 130 0)
def op_2 : State := q8 (put 128 (md 1 1 1 0 0 2 1 4) (regs2 128 0))
def op_3 : State := put 128 (vd 1 0 0 0 4 1 0 0 1024 0 2048 0 0) (regs2 128 0)
def op_4 : State := (put 128 (md 1 1 1 0 0 2 1 4) (regs2 128 0)).modTile 3 fun x => { x with wait := some (.taIssue 1 128) }
def op_6 : State := (regs2 0 0).modTile 3 fun x => { x with taCount := 1, vecCount := 1 }
def op_8 : State := (regs2 0 0).modTile 3 fun x => { x with taCount := 1, wait := some (.taOp 2 0) }
def op_9 : State := o.modTile 3 fun x => { x with taQ := [top (md 1 1 1 0 0 2 1 4), top ad], vecQ := [vop (vd 1 0 0 0 4 1 0 0 1024 0 2048 0 0)], taCount := 2, vecCount := 1 }
def op_10 : State := o.modTile 3 fun x => { x with taRun := some { top (md 1 1 1 0 0 2 1 4) with written := true }, vecRun := some { vop (vd 1 0 0 0 4 1 0 0 1024 0 2048 0 0) with written := true }, taCount := 1, vecCount := 1 }

theorem witness_OperationsIssueRunAndComplete :
    (op_0.runs 3 = true ∧ (op_0.tile 3).taQ.length < 8 ∧ (op_0.tile 3).xr 1 % 64 = 0 ∧ (op_0.tile 3).xr 1 + 64 ≤ spadSize ∧
      taRefused (op_0.tile 3) ((op_0.tile 3).rdSpad ((op_0.tile 3).xr 1) 64) = false ∧ taEmpty ((op_0.tile 3).rdSpad ((op_0.tile
      3).xr 1) 64) = false) ∧
    (op_3.runs 3 = true ∧ (op_3.tile 3).vecQ.length < 8 ∧ (op_3.tile 3).xr 1 % 64 = 0 ∧ (op_3.tile 3).xr 1 + 64 ≤ spadSize ∧
      Vec.refused ((op_3.tile 3).rdSpad ((op_3.tile 3).xr 1) 64) = false ∧ vecEmpty ((op_3.tile 3).rdSpad ((op_3.tile 3).xr 1)
      64) = false) ∧
    (op_1.runs 3 = true ∧ (op_1.tile 3).taQ.length < 8 ∧ (op_1.tile 3).xr 1 % 64 ≠ 0) ∧
    (op_2.runs 3 = true ∧ 8 ≤ (op_2.tile 3).taQ.length) ∧
    (op_4.waits 3 = true ∧ (op_4.tile 3).wait = some (CoreWait.taIssue 1 128) ∧ (op_4.tile 3).taQ.length < 8 ∧ 128 % 64 = 0 ∧ 128 +
      64 ≤ spadSize ∧ taRefused (op_4.tile 3) ((op_4.tile 3).rdSpad 128 64) = false ∧ taEmpty ((op_4.tile 3).rdSpad 128 64) =
      false) ∧
    (op_6.runs 3 = true ∧ issued (op_6.tile 3).taCount ((op_6.tile 3).xr 0 % 2 ^ 32) = true ∧ completed (op_6.tile 3).taCount
      (op_6.tile 3).taDone ((op_6.tile 3).xr 0 % 2 ^ 32) = true) ∧
    (op_0.runs 3 = true ∧ issued (op_0.tile 3).taCount ((op_0.tile 3).xr 0 % 2 ^ 32) = false) ∧
    (op_2.runs 3 = true ∧ issued (op_2.tile 3).taCount ((op_2.tile 3).xr 0 % 2 ^ 32) = true ∧ completed (op_2.tile 3).taCount
      (op_2.tile 3).taDone ((op_2.tile 3).xr 0 % 2 ^ 32) = false) ∧
    (op_6.runs 3 = true ∧ issued (op_6.tile 3).vecCount ((op_6.tile 3).xr 0 % 2 ^ 32) = true ∧ completed (op_6.tile 3).vecCount
      (op_6.tile 3).vecDone ((op_6.tile 3).xr 0 % 2 ^ 32) = true) ∧
    (op_8.waits 3 = true ∧ (op_8.tile 3).wait = some (CoreWait.taOp 2 0) ∧ completed (op_8.tile 3).taCount (op_8.tile 3).taDone 0 =
      true) ∧
    (∃ op, op ∈ (op_9.tile 3).taQ.head? ∧ (op_9.tile 3).unitsGo = true ∧ (Instr.taOpStart 3 = Instr.taOpStart 3 ∨ Instr.taOpStart 3
      = Instr.nbcOpenWaitEnd 3) ∧ (op_9.tile 3).taQ = op :: (op_9.tile 3).taQ.tail ∧ (op_9.tile 3).taRun = none ∧ taEmpty
      op.desc = false ∧ (op_9.tile 3).taOpen.length < 15 ∧ op_9.pauseOver 3 = true ∧ taRefused (op_9.tile 3) op.desc = false) ∧
    (∃ op, op ∈ (op_10.tile 3).taRun ∧ ∃ q, q ∈ [] :: List.flatMap (fun k ↦ [k.snd.taQ.tail, k.snd.vecQ.tail, k.snd.taOpen.tail])
      op_0.tiles ∧ (op_10.tile 3).unitsGo = true ∧ op.written = true ∧ op.ready ≤ op_10.milliCycles 3) ∧
    (∃ op, op ∈ (op_9.tile 3).vecQ.head? ∧ (op_9.tile 3).unitsGo = true ∧ (op_9.tile 3).vecQ = op :: (op_9.tile 3).vecQ.tail ∧
      (op_9.tile 3).vecRun = none ∧ vecEmpty op.desc = false) ∧
    (∃ op, op ∈ (op_10.tile 3).vecRun ∧ ∃ q, q ∈ [] :: List.flatMap (fun k ↦ [k.snd.taQ.tail, k.snd.vecQ.tail, k.snd.taOpen.tail])
      op_0.tiles ∧ (op_10.tile 3).unitsGo = true ∧ op.written = true ∧ op.ready ≤ op_10.milliCycles 3) := by
  refine ⟨?_, ?_, ?_, ?_, ?_, ?_, ?_, ?_, ?_, ?_, ?_, ?_, ?_, ?_⟩ <;> decide +kernel
end OperationsIssueRunAndCompleteCases

namespace TensorOperationsCases
def n4 := toLE 4
def md (op wf xf yf c m n k : Nat) : Bytes := toLE 1 op ++ toLE 1 wf ++ toLE 1 xf ++ toLE 1 yf ++ toLE 1 c ++ zeros 3 ++ toLE 2 m ++ toLE 2 n ++ n4 k ++ n4 0 ++ n4 64 ++ n4 1024 ++ n4 64 ++ n4 2048 ++ n4 64 ++ n4 4096 ++ n4 4200 ++ n4 4300 ++ n4 4400 ++ n4 4600 ++ n4 0
def ad : Bytes := toLE 1 2 ++ zeros 63
def top (d : Bytes) : UnitOp := newOp false 0 0 0 0 d
def dat : Bytes := (List.range 40).flatMap fun i => toLE 4 (0x3F800000 + i * 0x123456 + (if i % 3 = 0 then 2^31 else 0))
def mem (s : State) : State := s.modTile 3 fun x => (((x.wrSpad 0 dat).wrSpad 1024 dat).wrSpad 2048 dat)
def tr (d : Bytes) : State := (mem o).modTile 3 fun x => { x with taRun := some (top d), taCount := 1 }
def op_11 : State := tr ad
def op_12 : State := tr (md 1 1 1 0 0 2 1 4)

theorem witness_TensorOperations :
    (∃ op, op ∈ (op_12.tile 3).taRun ∧ op.written = false ∧ (op_12.tile 3).unitsGo = true ∧ ((taOutputs op.desc).any fun r ↦
      (op_12.tile 3).guards r (some (false, op.num))) = false ∧ fld op.desc 0 1 = 1 ∧ pairOf (Matmul.of op.desc).wf (Matmul.of
      op.desc).xf = some (1, false, 64) ∧ (Matmul.of op.desc).n = 1 ∧ (Matmul.of op.desc).yf = 0 ∧ (Matmul.of op.desc).accin =
      false ∧ (Matmul.of op.desc).flagen = false) ∧
    (∃ op, op ∈ (op_11.tile 3).taRun ∧ op.written = false ∧ (op_11.tile 3).unitsGo = true ∧ ((taOutputs op.desc).any fun r ↦
      (op_11.tile 3).guards r (some (false, op.num))) = false ∧ fld op.desc 0 1 = 2 ∧ op_11.attnHeld 3 (Attn.of op.desc) =
      false) ∧
    (∃ op, op ∈ (op_11.tile 3).taRun ∧ op.written = false ∧ (op_11.tile 3).unitsGo = true ∧ ((taOutputs op.desc).any fun r ↦
      (op_11.tile 3).guards r (some (false, op.num))) = false ∧ fld op.desc 0 1 ≠ 1) ∧
    (∃ op, op ∈ (op_12.tile 3).taRun ∧ op.written = false ∧ (op_12.tile 3).unitsGo = true ∧ ((taOutputs op.desc).any fun r ↦
      (op_12.tile 3).guards r (some (false, op.num))) = false ∧ fld op.desc 0 1 ≠ 2) := by
  refine ⟨?_, ?_, ?_, ?_⟩ <;> decide +kernel
end TensorOperationsCases

namespace VectorOperationsCases
def n4 := toLE 4
def vd (op af yf c len rows a as b bs y ys imm : Nat) : Bytes := toLE 1 op ++ toLE 1 af ++ toLE 1 yf ++ toLE 1 c ++ n4 0 ++ n4 len ++ n4 rows ++ n4 a ++ n4 as ++ n4 b ++ n4 bs ++ n4 y ++ n4 ys ++ n4 0 ++ n4 0 ++ n4 imm ++ n4 0 ++ zeros 8
def vop (d : Bytes) : UnitOp := newOp true 0 0 0 0 d
def dat : Bytes := (List.range 40).flatMap fun i => toLE 4 (0x3F800000 + i * 0x123456 + (if i % 3 = 0 then 2^31 else 0))
def mem (s : State) : State := s.modTile 3 fun x => (((x.wrSpad 0 dat).wrSpad 1024 dat).wrSpad 2048 dat)
def vr (d : Bytes) : State := (mem o).modTile 3 fun x => { x with vecRun := some (vop d), vecCount := 1 }
def op_15 : State := vr (vd 1 0 0 0 5 1 0 0 1024 0 2048 0 0x40400000)
def op_27 : State := vr (vd 13 0 0 0 5 1 0 0 1024 0 2048 0 0x40400000)
def op_28 : State := vr (vd 14 0 0 1 5 1 0 0 1024 0 2048 0 0x40400000)

theorem witness_VectorOperations :
    (∃ op, op ∈ unitOps op_15 ∧ op_15.vecReady 3 op = true ∧ (Vec.of op.desc).yf = 0 ∧ 1 ≤ fld op.desc 0 1 ∧ fld op.desc 0 1 ≤ 12) ∧
    (∃ op, op ∈ unitOps op_27 ∧ op_27.vecReady 3 op = true ∧ fld op.desc 0 1 = 13 ∧ recordBytes (Vec.of op.desc).yf (Vec.of
      op.desc).len = 0) ∧
    (∃ op, op ∈ unitOps op_28 ∧ op_28.vecReady 3 op = true ∧ (fld op.desc 0 1 = 14 ∧ Instr.sum 3 none = Instr.sum 3 none ∨ fld
      op.desc 0 1 = 15 ∧ Instr.sum 3 none = Instr.maxr 3 none ∨ fld op.desc 0 1 = 16 ∧ Instr.sum 3 none = Instr.softmax 3 none ∨
      fld op.desc 0 1 = 17 ∧ Instr.sum 3 none = Instr.rmsnorm 3 none) ∧ (Vec.of op.desc).yf = 0) := by
  refine ⟨?_, ?_, ?_⟩ <;> decide +kernel
end VectorOperationsCases

namespace PagePoolCommandsCases
def page_0 : State := pool0
def page_1 : State := pool1
def page_2 : State := pool2
def page_3 : State := poolFull
def page_4 : State := tp (fun x => { x with poolRun := some ⟨false, 2, 0, 0, 0, false, 5, 3, 4⟩ }) pool1
def page_5 : State := tp (fun x => { x with poolRun := some ⟨true, 2, 0, 0, 0, false, 5, 3, 4⟩ }) pool1
def page_7 : State := tick 2001000000 (((idle (run (.unref 3 true 0) pool1)).wr TILE_PG_EPOCH_EPOCH 3 5))
def page_8 : State := tp (fun x => {x with zeroFrames := [1], col := [((pool1.frameAddr 3 1)/64, ⟨zeros 64, 5⟩)] }) pool1

theorem witness_PagePoolCommands :
    ((page_0.tile 3).poolRun = none ∧ (page_0.tile 3).poolQ = [] ∧ (0#16).toNat < (page_0.tile 3).nfte ∧ (1#2 = 2#2 ∨ 1#2 = 1#2 ∧
      page_0.rdb TILE_PG_GEOM_FFMT 3 = false) ∧ (true = true ∨ (page_0.tile 3).fteState (0#16).toNat = 1 ∨ (page_0.tile
      3).fteState (0#16).toNat = 5) ∧ page_0.freeFrame 3 = some 0) ∧
    ((page_0.tile 3).poolRun = none ∧ (page_0.tile 3).poolQ = [] ∧ (0#2 = 0#2 ∨ 0#2 = 3#2)) ∧
    ((page_1.tile 3).poolRun = none ∧ (page_1.tile 3).poolQ = [] ∧ (0#16).toNat < page_1.nframes 3 ∧ (page_1.dirEntry 3
      (0#16).toNat).fmt ≠ 0 ∧ (page_1.dirEntry 3 (0#16).toNat).reclaim = false ∧ (page_1.dirEntry 3 (0#16).toNat).refcnt ≠
      65535) ∧
    ((page_1.tile 3).poolRun = none ∧ (page_1.tile 3).poolQ = [] ∧ (0#16).toNat < page_1.nframes 3 ∧ (page_1.dirEntry 3
      (0#16).toNat).fmt ≠ 0 ∧ (page_1.dirEntry 3 (0#16).toNat).reclaim = false ∧ (page_1.dirEntry 3 (0#16).toNat).refcnt ≠ 0) ∧
    ((page_1.tile 3).poolRun = none ∧ (page_1.tile 3).poolQ = [] ∧ (0#16).toNat < page_1.nframes 3 ∧ (page_1.dirEntry 3
      (0#16).toNat).fmt ≠ 0 ∧ (page_1.dirEntry 3 (0#16).toNat).reclaim = false ∧ (page_1.dirEntry 3 (0#16).toNat).refcnt = 1 ∧
      page_1.frameHeld 3 (0#16).toNat = false) ∧
    ((page_3.tile 3).poolRun = none ∧ (page_3.tile 3).poolQ = [] ∧ (0#16).toNat < page_3.nframes 3 ∧ (page_3.dirEntry 3
      (0#16).toNat).fmt ≠ 0 ∧ (page_3.dirEntry 3 (0#16).toNat).reclaim = false ∧ (page_3.dirEntry 3 (0#16).toNat).refcnt ≠ 1 ∧
      page_3.freeFrame 3 = none ∧ page_3.frameHeld 3 (0#16).toNat = false) ∧
    ((page_2.tile 3).poolRun = none ∧ (page_2.tile 3).poolQ = [] ∧ (0#16).toNat < page_2.nframes 3 ∧ (page_2.dirEntry 3
      (0#16).toNat).fmt ≠ 0 ∧ (page_2.dirEntry 3 (0#16).toNat).reclaim = false ∧ (page_2.dirEntry 3 (0#16).toNat).refcnt ≠ 1 ∧
      page_2.freeFrame 3 = some 1 ∧ page_2.frameHeld 3 (0#16).toNat = false) ∧
    ((page_1.tile 3).poolRun = none ∧ (page_1.tile 3).poolQ = [] ∧ (0#16).toNat < page_1.nframes 3 ∧ (page_1.dirEntry 3
      (0#16).toNat).fmt ≠ 0 ∧ (page_1.dirEntry 3 (0#16).toNat).reclaim = false ∧ (1#5).toNat ≤ 16 ∧ (page_1.dirEntry 3
      (0#16).toNat).count < (1#5).toNat ∧ (page_1.dirEntry 3 (0#16).toNat).refcnt ≤ 1) ∧
    ((page_0.tile 3).poolRun = none ∧ (page_0.tile 3).poolQ = [] ∧ (0#16).toNat < (page_0.tile 3).nfte ∧ (true = true ∨ (page_0.tile
      3).fteState (0#16).toNat = 3)) ∧
    ((page_0.tile 3).poolRun = none ∧ (page_0.tile 3).poolQ = [] ∧ (0#16).toNat < (page_0.tile 3).nfte) ∧
    ((page_0.tile 3).poolRun = none ∧ (page_0.tile 3).poolQ = [] ∧ (0#16).toNat < (page_0.tile 3).nfte ∧ (page_0.tile 3).fteState
      (0#16).toNat = 1) ∧
    (∃ r, r ∈ (page_4.tile 3).poolRun ∧ ((∃ fmt, Instr.alloc 3 true 0#16 1#2 = Instr.alloc 3 true (0#16) fmt) ∨ Instr.alloc 3 true
      0#16 1#2 = Instr.ref 3 true 0#16 ∨ Instr.alloc 3 true 0#16 1#2 = Instr.unref 3 true 0#16 ∨ Instr.alloc 3 true 0#16 1#2 =
      Instr.cow 3 true 0#16 ∨ (∃ n, Instr.alloc 3 true 0#16 1#2 = Instr.setcount 3 true (0#16) n) ∨ Instr.alloc 3 true 0#16 1#2
      = Instr.fetch 3 true 0#16 ∨ Instr.alloc 3 true 0#16 1#2 = Instr.retire 3 true 0#16)) ∧
    (∃ c, c ∈ (page_4.tile 3).poolRun ∧ c.ready ≤ page_4.now ∧ c.drover = false ∧ ((page_4.tile 3).wait = none) ∧ (page_4.tile
      3).poolQ = []) ∧
    (∃ c, c ∈ (page_5.tile 3).poolRun ∧ c.ready ≤ page_5.now ∧ c.drover = true ∧ (page_5.tile 3).poolQ = []) ∧
    (page_7.nframes 3 ≠ 0 ∧ page_7.now % 1000000 = 0 ∧ (page_7.tile 3).epochAt ≠ page_7.now ∧ page_7.readsOpen 3 = false) ∧
    (page_0.readsOpen 3 = true ∨ (page_0.tile 3).epochAt = page_0.now) ∧
    ((page_8.tile 3).zeroFrames.contains 1 = true ∧ 1 < page_8.nframes 3 ∧ (page_8.dirEntry 3 1).fmt = 0 ∧ page_8.frameHeld 3 1 =
      false ∧ page_8.key (page_8.rd VCH_KEY_CUR 3) = some 99) := by
  refine ⟨?_, ?_, ?_, ?_, ?_, ?_, ?_, ?_, ?_, ?_, ?_, ?_, ?_, ?_, ?_, ?_, ?_⟩ <;> decide +kernel
end PagePoolCommandsCases

namespace PagesSwapAndMoveCases
def area (s : State) : State := s.modSess 0 fun x => { x with swap := some (0x100000, 0x100000) }
def vic (s : State) : State := tp (fun x => { x with victims := [0] }) s
def swO : State := tp (fun x => { x with swaps := [⟨0, true, [0], true, 0⟩] }) ((area paged).setFte 3 0 24 1 2)
def swOd : State := (((area paged).setFte 3 0 24 1 3).wrHost 0x100000 (toLE 64 8355940133236164019124519958605388356318237011657626897347007275467202904569815116077776846446979541586820108791563688315753307673297542250703129901427321)).modSess 0 fun x => { x with swaps := [⟨9, 3, 0, 64, 1, [(0, 2, 1)], [], true⟩] }
def ftch : State := tp (fun x => { x with fetches := [0] }) swOd
def swI : State := tp (fun x => { x with swaps := [⟨0, false, [1], true, 0⟩] }) swOd
def rot (s : State) : State := { s with keys := [(0, 98), (1, 55)] }.modSess 0 fun x => { x with rotating := true, bulkDone := true, keyGen := 1, written := [3], swaps := x.swaps.map fun (k : SwapImg) => { k with gen := 0 } }
def page_14 : State := vic (area paged)
def page_15 : State := vic paged
def page_16 : State := swO
def page_17 : State := ftch
def page_18 : State := tp (fun x => {(x.wrSpad 0x8000 (List.replicate 128 1#8)) with fetches := [0]}) swOd
def page_19 : State := swI
def page_21 : State := { paged with jobs := [job 5], histories := [(chanUnit 3, { History.reset with penned := true })] }
def page_22 : State := {(((paged.createPool ⟨0, 0, 8, 4, 0x10000, 0x8000, 0x9000, 1⟩ 0 4)).wr TILE_JOB_JOB 4 7) with jobs := [{job 5 with tiles := [3,4]}], histories := [(tileUnit 3, { History.reset with penned := true })] }
def page_23 : State := rot paged
def page_24 : State := rot swOd
def page_25 : State := { (rot swOd).modSess 0 (fun x => { x with swaps := [⟨9, 3, 0, 0, 0, [], [], true⟩] }) with jobs := [job 5] }
def page_27 : State := rot (o)
def page_31 : State := tp (fun x => { x with inWin := true, swaps := x.swaps.map fun w => { w with ok := false } }) swI
def page_32 : State := { rot swOd with host := [] }

theorem witness_PagesSwapAndMove :
    ((page_14.tile 3).drained = true ∧ ((page_14.releasable 3 0).any fun k ↦ page_14.frameHeld 3 k.snd) = false ∧ ∃ j, j ∈
      page_14.jobOf 3 ∧ ∃ slot, slot ∈ (page_14.sess j.fn).room (page_14.imageLen 3 (page_14.releasable 3 0).length) ∧ ∃ key,
      key ∈ page_14.key (page_14.slotOf j.fn) ∧ ∃ area, area ∈ (page_14.sess j.fn).swap ∧ (page_14.tile 3).victims.contains 0 =
      true ∧ (page_14.tile 3).fteState 0 = 1 ∧ page_14.masters j.fn = true) ∧
    ((page_15.tile 3).drained = true ∧ ((page_15.releasable 3 0).any fun k ↦ page_15.frameHeld 3 k.snd) = false ∧ ∃ j, j ∈
      page_15.jobOf 3 ∧ (page_15.tile 3).victims.contains 0 = true ∧ (page_15.tile 3).fteState 0 = 1 ∧ (page_15.sess j.fn).room
      (page_15.imageLen 3 (page_15.releasable 3 0).length) = none) ∧
    ((page_16.tile 3).drained = true ∧ ((page_16.releasable 3 0).any fun k ↦ page_16.frameHeld 3 k.snd) = false ∧ ((page_16.tile
      3).swaps.find? (fun w ↦ w.entry == 0 && w.out)).isSome = true) ∧
    ((page_17.tile 3).drained = true ∧ ((page_17.releasable 3 0).any fun k ↦ page_17.frameHeld 3 k.snd) = false ∧ ∃ j, j ∈
      page_17.jobOf 3 ∧ ∃ k, k ∈ page_17.imageAt j.fn 3 0 ∧ (page_17.tile 3).fetches.contains 0 = true ∧ ((page_17.tile
      3).fteState 0 = 3 ∨ (page_17.tile 3).fteState 0 = 4) ∧ ((page_17.tile 3).swaps.any fun w ↦ w.entry == 0 && !w.out) = false
      ∧ page_17.masters j.fn = true ∧ ((page_17.setFte 3 0 24 1 4).freeFrames 3 k.pages.length).any ((page_17.setFte 3 0 24 1
      4).frameHeld 3) = false ∧ ((page_17.setFte 3 0 24 1 4).freeFrames 3 k.pages.length).length = k.pages.length) ∧
    ((page_18.tile 3).drained = true ∧ ((page_18.releasable 3 0).any fun k ↦ page_18.frameHeld 3 k.snd) = false ∧ ∃ j, j ∈
      page_18.jobOf 3 ∧ ∃ k, k ∈ page_18.imageAt j.fn 3 0 ∧ (page_18.tile 3).fetches.contains 0 = true ∧ ((page_18.tile
      3).fteState 0 = 3 ∨ (page_18.tile 3).fteState 0 = 4) ∧ ((page_18.tile 3).swaps.any fun w ↦ w.entry == 0 && !w.out) = false
      ∧ page_18.masters j.fn = true ∧ ((page_18.setFte 3 0 24 1 4).freeFrames 3 k.pages.length).any ((page_18.setFte 3 0 24 1
      4).frameHeld 3) = false ∧ ((page_18.setFte 3 0 24 1 4).freeFrames 3 k.pages.length).length < k.pages.length) ∧
    ((page_19.tile 3).drained = true ∧ ((page_19.releasable 3 0).any fun k ↦ page_19.frameHeld 3 k.snd) = false ∧ ∃ j, j ∈
      page_19.jobOf 3 ∧ ∃ w, w ∈ (page_19.tile 3).swaps.find? (fun w ↦ w.entry == 0 && !w.out) ∧ w.ok = true) ∧
    ((page_31.tile 3).drained = true ∧ ((page_31.releasable 3 0).any fun k ↦ page_31.frameHeld 3 k.snd) = false ∧ ∃ j, j ∈
      page_31.jobOf 3 ∧ ∃ w, w ∈ (page_31.tile 3).swaps.find? (fun w ↦ w.entry == 0 && !w.out) ∧ ∃ g, g ∈ page_31.flows.find?
      (fun g ↦ g.live && g.handle == (page_31.tile 3).fte 0 0 4) ∧ w.ok = false ∧ page_31.mayLose ((page_31.tile 3).fte 0 0 4) =
      true ∧ g.tile = 3) ∧
    (∃ x, x ∈ page_21.flows.find? (fun g ↦ g.live && g.tile == 3 && g.entry == 0 && g.handle == (page_21.tile 3).fte 0 0 4) ∧ ∃ j, j
      ∈ page_21.jobs.find? (fun j ↦ j.handle == x.job) ∧ 0 < (page_21.tile 3).nfte ∧ (∀ (w : Nat), w ∈ 3 :: (j.partner 3).toList
      → (page_21.tile w).fteState 0 ≠ 2 ∧ (page_21.tile w).fteState 0 ≠ 4 ∧ page_21.mayWrite w = true) ∧ page_21.penned
      (chanUnit 3) = true) ∧
    (∃ x, x ∈ page_22.flows.find? (fun g ↦ g.live && g.tile == 3 && g.entry == 0 && g.handle == (page_22.tile 3).fte 0 0 4) ∧ ∃ j, j
      ∈ page_22.jobs.find? (fun j ↦ j.handle == x.job) ∧ 0 < (page_22.tile 3).nfte ∧ (∀ (w : Nat), w ∈ 3 :: (j.partner 3).toList
      → (page_22.tile w).fteState 0 ≠ 2 ∧ (page_22.tile w).fteState 0 ≠ 4 ∧ page_22.mayWrite w = true) ∧ ∃ n, n ∈
      page_22.emptyEntry 4 ∧ (∀ (w : Nat), w ∈ 3 :: (j.partner 3).toList → page_22.penned (chanUnit w) = false) ∧
      (page_22.penned (tileUnit 3) = true ∨ j.all.contains 3 = false) ∧ j.tiles.contains 4 = true ∧ 4 ≠ 3 ∧ (j.partner 3).isSome
      = (j.partner 4).isSome ∧ page_22.mayRepin 3 0 4 = true ∧ j.partner 3 = none) ∧
    (∃ j, j ∈ page_23.jobOf 3 ∧ (page_23.freeFrame 3).isSome = true ∧ (page_23.sess j.fn).rotating = true ∧ (page_23.sess
      j.fn).bulkDone = true ∧ 0 < page_23.nframes 3 ∧ (page_23.dirEntry 3 0).fmt ≠ 0 ∧ (page_23.dirEntry 3 0).reclaim = false ∧
      (page_23.dirEntry 3 0).kslot = page_23.oldSlotOf j.fn ∧ (page_23.tile 3).drained = true ∧ page_23.frameHeld 3 0 = false) ∧
    (∃ k, k ∈ (page_24.sess 0).swaps.find? (fun k ↦ k.slot == 0 && k.gen != (page_24.sess 0).keyGen) ∧ ∃ key, key ∈ page_24.key
      (page_24.slotOf 0) ∧ ∃ area, area ∈ (page_24.sess 0).swap ∧ (page_24.sess 0).rotating = true ∧ (page_24.sess 0).bulkDone =
      true ∧ page_24.masters 0 = true ∧ (page_24.openImage 0 k).snd = true) ∧
    (∃ k, k ∈ (page_25.sess 0).swaps.find? (fun k ↦ k.slot == 0 && k.gen != (page_25.sess 0).keyGen) ∧ ∃ key, key ∈ page_25.key
      (page_25.slotOf 0) ∧ ∃ area, area ∈ (page_25.sess 0).swap ∧ (page_25.sess 0).rotating = true ∧ (page_25.sess 0).bulkDone =
      true ∧ page_25.masters 0 = true ∧ (page_25.openImage 0 k).snd = false ∧ k.live = true ∧ page_25.mayLose k.flow = true) ∧
    (∃ k, k ∈ (page_32.sess 0).swaps.find? (fun k ↦ k.slot == 0 && k.gen != (page_32.sess 0).keyGen) ∧ ∃ key, key ∈ page_32.key
      (page_32.slotOf 0) ∧ ∃ area, area ∈ (page_32.sess 0).swap ∧ (page_32.sess 0).rotating = true ∧ (page_32.sess 0).bulkDone =
      true ∧ page_32.masters 0 = true ∧ (page_32.openImage 0 k).snd = false ∧ k.live = true ∧ page_32.mayLose k.flow = false) ∧
    ((page_27.sess 0).rotating = true ∧ (page_27.sess 0).bulkDone = true ∧ page_27.oldCount 0 = 0) ∧
    (page_14.oldCount 0 ≠ 0) := by
  refine ⟨?_, ?_, ?_, ?_, ?_, ?_, ?_, ?_, ?_, ?_, ?_, ?_, ?_, ?_, ?_⟩ <;> decide +kernel
end PagesSwapAndMoveCases

namespace WindowsAndPreemptionCases
def area (s : State) : State := s.modSess 0 fun x => { x with swap := some (0x100000, 0x100000) }
def page_0 : State := pool0
def page_10 : State := tp (fun x => { x with inWin := true, haltWin := true, winActs := [.spad 100 [1,2], .keySlot 1 0] }) pool1
def page_11 : State := tp (fun x => {x with failedAlloc := some 0xFFFF }) (jobOn 3 (withPool o))
def page_12 : State := tp (fun x => { x with failedAlloc := some 0xFFFF }) (paged.wr TILE_PG_FREE_FREE 3 0)
def page_13 : State := tp (fun x => { x with failedAlloc := some 0xFFFF }) (area (paged.wr TILE_PG_FREE_FREE 3 0))
def page_26 : State := tp (fun x => { x with taRun := some (newOp false 0 0 0 0 ([2] ++ zeros 63)) }) pool1
def page_31 : State := tp (fun x => { x with winActs := [.spad 100 [1,2]] }) running
def page_32 : State := tp (fun x => { x with winReq := true }) (acc 0 0x3004 9 [] (jobOn 3 (withFlow o)))
def page_35 : State := tp (fun x => { x with failedAlloc := some 0xFFFF }) (area (jobOn 3 (withPool o)))

theorem witness_WindowsAndPreemption :
    ((page_31.tile 3).inWin = false ∧ page_31.winWanted 3 = true) ∧
    (page_0.winWanted 3 = false) ∧
    ((page_10.tile 3).inWin = true ∧ (page_10.tile 3).drained = true ∧ (page_10.tile 3).selftest = false ∧ page_10.winAsked 3 =
      false ∧ (page_10.tile 3).winActs.any page_10.awaitsTwin = false) ∧
    (page_32.winAsked 3 = true ∨ (page_32.tile 3).winActs.any page_32.awaitsTwin = true) ∧
    ((page_26.tile 3).drained = false) ∧
    (page_35.nframes 3 ≠ 0 ∧ ((page_35.tile 3).failedAlloc ≠ none ∨ page_35.rd TILE_PG_FREE_FREE 3 + page_35.rd TILE_PG_FREE_PENDING
      3 < page_35.rd TILE_PG_FRAMES_RESERVE 3 ∧ page_35.now % 1000000 = 0) ∧ page_35.pickVictims 3 (max (max 1 (page_35.rd
      TILE_PG_FRAMES_RESERVE 3)) (if (page_35.tile 3).fetches.contains ((page_35.tile 3).failedAlloc.getD 65535) = true then
      page_35.fetchNeeds 3 ((page_35.tile 3).failedAlloc.getD 65535) else 0)) (page_35.rd TILE_PG_FREE_FREE 3 + page_35.rd
      TILE_PG_FREE_PENDING 3 + page_35.comingFree 3) (page_35.candidates 3 ((page_35.tile 3).failedAlloc.getD 65535)) = [] ∧ ∀
      (j : Job), page_35.jobOf 3 = some j → (page_35.sess j.fn).swap.isSome = true) ∧
    (page_11.nframes 3 ≠ 0 ∧ ((page_11.tile 3).failedAlloc ≠ none ∨ page_11.rd TILE_PG_FREE_FREE 3 + page_11.rd TILE_PG_FREE_PENDING
      3 < page_11.rd TILE_PG_FRAMES_RESERVE 3 ∧ page_11.now % 1000000 = 0) ∧ ∃ j, j ∈ page_11.jobOf 3 ∧ page_11.pickVictims 3
      (max (max 1 (page_11.rd TILE_PG_FRAMES_RESERVE 3)) (if (page_11.tile 3).fetches.contains ((page_11.tile
      3).failedAlloc.getD 65535) = true then page_11.fetchNeeds 3 ((page_11.tile 3).failedAlloc.getD 65535) else 0)) (page_11.rd
      TILE_PG_FREE_FREE 3 + page_11.rd TILE_PG_FREE_PENDING 3 + page_11.comingFree 3) (page_11.candidates 3 ((page_11.tile
      3).failedAlloc.getD 65535)) = [] ∧ (page_11.sess j.fn).swap = none) ∧
    (page_12.nframes 3 ≠ 0 ∧ ((page_12.tile 3).failedAlloc ≠ none ∨ page_12.rd TILE_PG_FREE_FREE 3 + page_12.rd TILE_PG_FREE_PENDING
      3 < page_12.rd TILE_PG_FRAMES_RESERVE 3 ∧ page_12.now % 1000000 = 0) ∧ ∃ j, j ∈ page_12.jobOf 3 ∧ page_12.pickVictims 3
      (max (max 1 (page_12.rd TILE_PG_FRAMES_RESERVE 3)) (if (page_12.tile 3).fetches.contains ((page_12.tile
      3).failedAlloc.getD 65535) = true then page_12.fetchNeeds 3 ((page_12.tile 3).failedAlloc.getD 65535) else 0)) (page_12.rd
      TILE_PG_FREE_FREE 3 + page_12.rd TILE_PG_FREE_PENDING 3 + page_12.comingFree 3) (page_12.candidates 3 ((page_12.tile
      3).failedAlloc.getD 65535)) = [0] ∧ (page_12.sess j.fn).room (page_12.imageLen 3 (page_12.releasable 3 0).length) = none) ∧
    (page_13.nframes 3 ≠ 0 ∧ ((page_13.tile 3).failedAlloc ≠ none ∨ page_13.rd TILE_PG_FREE_FREE 3 + page_13.rd TILE_PG_FREE_PENDING
      3 < page_13.rd TILE_PG_FRAMES_RESERVE 3 ∧ page_13.now % 1000000 = 0) ∧ ∃ j, j ∈ page_13.jobOf 3 ∧ page_13.pickVictims 3
      (max (max 1 (page_13.rd TILE_PG_FRAMES_RESERVE 3)) (if (page_13.tile 3).fetches.contains ((page_13.tile
      3).failedAlloc.getD 65535) = true then page_13.fetchNeeds 3 ((page_13.tile 3).failedAlloc.getD 65535) else 0)) (page_13.rd
      TILE_PG_FREE_FREE 3 + page_13.rd TILE_PG_FREE_PENDING 3 + page_13.comingFree 3) (page_13.candidates 3 ((page_13.tile
      3).failedAlloc.getD 65535)) = [0] ∧ (page_13.sess j.fn).room (page_13.imageLen 3 (page_13.releasable 3 0).length) ≠ none) := by
  refine ⟨?_, ?_, ?_, ?_, ?_, ?_, ?_, ?_, ?_⟩ <;> decide +kernel
end WindowsAndPreemptionCases

namespace PortStatesCases
def hb : HelloBody := ⟨7#64, 3#8, 1#8, 0#8, 3#8, 0#64, 100#16, 20#16, 30#16, 2#8, 15#8, []⟩
def port (st : Nat) (s : State := o) : State := { (s.wr WELT_PSTAT_STATE 1 st) with cfg := s.cfg.set 0x050A 15 }
def port_0 : State := port 1
def port_1 : State := port 2 (o.wr WELT_LANE_ST_STATE 5 1)
def port_3 : State := (port 3).modPort 1 fun x => { x with rxNext := 5, helloAcked := true }
def port_4 : State := (port 3).modPort 1 fun x => { x with rxNext := 5 }
def port_5 : State := (port 3).modPort 1 fun x => { x with lastHello := 1999999999 }
def port_6 : State := port 4
def port_7 : State := port 5
def port_8 : State := (port 4).wr WELT_LANE_ST_STATE 5 2
def port_11 : State := { port 4 with laneAt := [(5, 1999999999)] }

theorem witness_PortStates :
    (port_0.portsMay = true ∧ port_0.portState 1 = psDown ∧ port_0.lanesOn 1 ≠ 0 ∧ ((port_0.port 1).since = 0 ∨ (port_0.port
      1).since + 100000000 ≤ port_0.now)) ∧
    (port_1.portState 1 ≠ psDown ∨ port_1.portsMay = false) ∧
    (port_1.rd WELT_LANE_ST_STATE 5 = 1 ∧ port_1.lkrOk 5 = true) ∧
    (port_1.rd WELT_LANE_ST_STATE 5 = 1 ∧ (false = false ∨ port_1.lkrOk 5 = false)) ∧
    (port_0.rd WELT_LANE_ST_STATE 5 ≠ 1) ∧
    (hb.stamps = [] ∧ port_3.portState 1 = psHello ∧ (⟨5#16, 3#16, 1#2, 7#14⟩ : FlitHdr).seq.toNat = (port_3.port 1).rxNext ∧
      (port_3.port 1).helloRx = false ∧ (port_3.port 1).helloAcked = true) ∧
    (hb.stamps = [] ∧ port_4.portState 1 = psHello ∧ (⟨5#16, 3#16, 1#2, 7#14⟩ : FlitHdr).seq.toNat = (port_4.port 1).rxNext ∧
      (port_4.port 1).helloRx = false ∧ (port_4.port 1).helloAcked = false ∧ (port_4.port 1).replay = [] ∧ (port_4.port 1).outQ
      = []) ∧
    (port_3.portState 1 = psHello ∧ (port_3.port 1).since + 1000000 ≤ port_3.now) ∧
    (port_6.portUp 1 = true ∧ (port_6.port 1).lastHello + 100000 ≤ port_6.now) ∧
    (port_5.now < (port_5.port 1).lastHello + 100000) ∧
    (port_7.portState 1 = psRetrain) ∧
    (port_8.rd WELT_LANE_ST_STATE 5 = 2) ∧
    (port_6.portUp (5 / 4) = true ∧ port_6.rd WELT_LANE_ST_STATE 5 = 0 ∧ bit (port_6.lanesOn (5 / 4)) (5 % 4) = true ∧ port_6.penned
      (laneUnit 5) = false ∧ port_6.lkrOk 5 = true ∧ ∀ (k : Nat), port_6.laneAt.find 5 = some k → k + 1000000000 ≤ port_6.now) ∧
    (port_11.lkrOk 5 = false ∨ port_11.laneAt.find 5 = some 1999999999 ∧ port_11.now < 1999999999 + 1000000000) ∧
    (port_3.portHears 1 = true ∧ ((port_3.port 1).lastSent = 0 ∨ (port_3.port 1).lastSent + 10000 ≤ port_3.now)) := by
  refine ⟨?_, ?_, ?_, ?_, ?_, ?_, ?_, ?_, ?_, ?_, ?_, ?_, ?_, ?_, ?_⟩ <;> decide +kernel
end PortStatesCases

namespace PowerSettingsAndDebuggerCases
def tel : Tele := ⟨0, 5, 6, 7, 8, 9, 10, 11, 12, 0⟩
def u4 (n : Nat) : Bytes := toLE 4 n
def pwr_0 : State := acc 17 0x7001 0 (u4 300) o
def pwr_2 : State := acc 17 0x7002 0 [0,1,2,0] o
def pwr_4 : State := acc 17 0x7002 0 [0,0,1,0] o
def pwr_5 : State := acc 17 0x7003 0 (u4 (tileUnit 3) ++ u4 1) { o with tele := [(tileUnit 3, [tel, {tel with start := 9}])] }
def pwr_6 : State := acc 17 0x7004 0 (toLE 2 3 ++ [5, 0]) o
def pwr_8 : State := acc 17 0x8001 0 (toLE 2 3 ++ [1, 0]) o
def pwr_10 : State := acc 17 0x8002 0 (toLE 2 3 ++ [1, 0]) ((o.wr TILE_STATE_STATE 3 1).modTile 3 fun x => {x with dbg := true})
def pwr_12 : State := acc 17 0x8003 0 (toLE 2 3 ++ [0, 0] ++ u4 60 ++ u4 9) (o.modTile 3 fun x => x.wrSpad 62 [1,2,3])
def pwr_13 : State := acc 17 0x8004 0 (toLE 2 3 ++ [0, 0] ++ u4 60 ++ u4 9 ++ [1,2,3,4,5,6,7,8,9]) (o.modTile 3 fun x => x.wrSpad 58 (List.replicate 20 9#8))
def pwr_14 : State := acc 17 0x8005 0 (toLE 2 3 ++ [1, 0] ++ u4 9) o

theorem witness_PowerSettingsAndDebugger :
    (∃ r, r ∈ requests pwr_0 ∧ pwr_0.mayRun 17 28673 r = true ∧ cfgClamp 256 (r.f 0 4) = some ((cfgClamp 256 300).getD 0)) ∧
    (∃ r, r ∈ requests pwr_2 ∧ pwr_2.mayRun 17 28674 r = true ∧ r.f 3 1 = 0 ∧ r.f 0 1 ≤ 2 ∧ r.f 1 1 ≤ 2 ∧ r.f 2 1 ≤ 2 ∧ prioOk (r.f
      0 1 + 4 * r.f 1 1 + 16 * r.f 2 1) = true) ∧
    (∃ r, r ∈ requests pwr_4 ∧ pwr_4.mayRun 17 28674 r = true ∧ r.f 3 1 = 0 ∧ (2 < r.f 0 1 ∨ 2 < r.f 1 1 ∨ 2 < r.f 2 1 ∨ prioOk (r.f
      0 1 + 4 * r.f 1 1 + 16 * r.f 2 1) = false)) ∧
    (∃ r, r ∈ requests pwr_5 ∧ ∃ k, k ∈ pwr_5.teleOf (r.f 0 4) (r.f 4 4) ∧ pwr_5.mayRun 17 28675 r = true ∧ r.f 4 4 ≤ 63) ∧
    (∃ r, r ∈ requests pwr_6 ∧ pwr_6.mayRun 17 28676 r = true ∧ r.f 3 1 = 0 ∧ r.f 0 2 ≤ 1023 ∧ cfgClamp (4096 + r.f 0 2) (r.f 2 1) =
      some 5) ∧
    (∃ r, r ∈ requests pwr_8 ∧ r.f 0 2 ≤ 1023 ∧ r.f 3 1 = 0 ∧ pwr_8.mayRun 17 32769 r = true ∧ r.f 2 1 ≤ 1) ∧
    (∃ r, r ∈ requests pwr_10 ∧ r.f 0 2 ≤ 1023 ∧ r.f 3 1 = 0 ∧ pwr_10.mayRun 17 32770 r = true ∧ r.f 2 1 ≤ 1) ∧
    (∃ r, r ∈ requests pwr_12 ∧ r.f 0 2 ≤ 1023 ∧ r.f 3 1 = 0 ∧ pwr_12.mayRun 17 32771 r = true ∧ r.f 8 4 ≠ 0 ∧ dbgPlaceBad r = false
      ∧ r.f 2 1 = 0) ∧
    (∃ r, r ∈ requests pwr_13 ∧ r.f 0 2 ≤ 1023 ∧ r.f 3 1 = 0 ∧ pwr_13.mayRun 17 32772 r = true ∧ r.f 8 4 ≠ 0 ∧ dbgPlaceBad r = false
      ∧ r.len = 12 + r.f 8 4 ∧ r.f 2 1 = 0) ∧
    (∃ r, r ∈ requests pwr_14 ∧ r.f 0 2 ≤ 1023 ∧ r.f 3 1 = 0 ∧ pwr_14.mayRun 17 32773 r = true ∧ r.f 2 1 = 1 ∧ (pwr_14.conn (17 -
      16)).closing = false ∧ pwr_14.connOpen (17 - 16) = true) := by
  refine ⟨?_, ?_, ?_, ?_, ?_, ?_, ?_, ?_, ?_, ?_⟩ <;> decide +kernel
end PowerSettingsAndDebuggerCases

namespace RegulatorAndSupplyProtectionsCases
def regAt (r st : Nat) (f : Regul → Regul) (s : State := o) : State := ((((s.wr TLR_CFG_EN r 1).wr TLR_STAT_STATE r st).wr TLR_SET_VSET r 120).wr TLR_SET_NOTCH r 5).modRegul r f
def reg (st : Nat) (f : Regul → Regul) (s : State := o) : State := regAt 3 st f s
def regp_0 : State := reg 2 id
def regp_1 : State := reg 3 id
def regp_2 : State := o
def regp_3 : State := (reg 2 fun x => { x with limited := [(0, 64 * 1999999995 + 31)] })
def regp_4 : State := (reg 6 fun x => { x with ovAt := some 5 })
def regp_5 : State := regAt 2117 2 id
def regp_8 : State := reg 5 id

theorem witness_RegulatorAndSupplyProtections :
    (regp_0.regOn 3 = true ∧ regp_0.regState 3 ≠ rsTied) ∧
    (regp_8.regState 3 = rsTied) ∧
    (regp_1.regState 3 = rsBurst) ∧
    (regp_0.regState 3 ≠ rsBurst) ∧
    (regp_0.regOn 3 = true ∧ 0 < famPhases 3 ∧ ((regp_0.regul 3).limited.find 0).getD 0 / 64 + famCycle 3 < regp_0.now) ∧
    (regp_3.regOn 3 = true ∧ 0 < famPhases 3 ∧ regp_3.now ≤ ((regp_3.regul 3).limited.find 0).getD 0 / 64 + famCycle 3 ∧
      ((regp_3.regul 3).limited.find 0).getD 0 % 64 = 31) ∧
    (regp_0.regOn 3 = true ∧ 3 < 2112) ∧
    ((Instr.dipTrip 3 = Instr.dipTrip 3 ∨ Instr.dipTrip 3 = Instr.overvoltageTrip 3 ∨ ∃ p, Instr.dipTrip 3 = Instr.cycleLimit 3 p) ∧
      regp_2.regOn 3 = false) ∧
    (∃ x, x ∈ (regp_4.regul 3).ovAt ∧ x + 10000 ≤ regp_4.now) ∧
    (regp_5.regOn (lkrOf 5) = true ∧ 1#4 ≠ 0#4 ∧ (1#4).toNat ≤ 6) ∧
    (regp_0.regOn (lkrOf 5) = false ∨ 1#4 = 0#4 ∨ 6 < (1#4).toNat) ∧
    (Instr.boardFaultAssert = Instr.boardFaultAssert ∨ Instr.boardFaultAssert = Instr.vspnFault 5 ∧ (5 < 700 ∨ 900 < 5)) ∧
    ((Instr.boardFaultAssert = Instr.boardFaultAssert ∨ Instr.boardFaultAssert = Instr.vspnFault 700 ∧ (700 < 700 ∨ 900 < 700)) ∧
      700 ≤ 700 ∧ 700 ≤ 900) := by
  refine ⟨?_, ?_, ?_, ?_, ?_, ?_, ?_, ?_, ?_, ?_, ?_, ?_, ?_⟩ <;> decide +kernel
end RegulatorAndSupplyProtectionsCases

namespace ReinLinkCases
def reg (st : Nat) (f : Regul → Regul) (s : State := o) : State := ((((s.wr TLR_CFG_EN 3 1).wr TLR_STAT_STATE 3 st).wr TLR_SET_VSET 3 120).wr TLR_SET_NOTCH 3 5).modRegul 3 f
def fr (toTile : Bool) (ty p : Nat) (s : State := o) : State := tp (fun x => x.setWire toTile [reinFrame ty 5 p]) s
def rein_0 : State := fr true 8 (3 + 16 * 2)
def rein_2 : State := tp (fun x => { x with notchSeq := 4 }) (fr true 9 (8 + 4 * 256)) |>.wr TILE_NOTCH_CUR 3 2 |>.wr TILE_NOTCH_TARGET 3 9
def rein_3 : State := fr true 9 1
def rein_4 : State := fr true 9 (7 * 256)
def rein_5 : State := fr true 0xA 0 running
def rein_6 : State := tp (fun x => { x with haltRail := true, heldState := 1, clkStop := true }) ((fr true 0xB 0).wr TILE_STATE_STATE 3 5)
def rein_7 : State := tp (fun x => { x with haltRail := true }) running
def rein_8 : State := tp (fun x => { x with taOpen := [newOp false 5 0 0 0 (zeros 64)] }) o
def rein_9 : State := (reg 2 (fun x => { x with frozen := true, cmd := some ⟨5, 120, false, 5, none⟩ }) (fr false 2 (5 * 16)))
def rein_10 : State := (reg 2 (fun x => { x with frozen := true, cmd := some ⟨5, 120, false, 5, none⟩ }) (fr false 2 (7 + 5 * 16)))
def rein_11 : State := fr false 1 (5 + 7 * 2^20 + 3 * 2 ^ 44)
def rein_12 : State := tp (fun x => { x with hint := some ⟨0, 1, 2, 3, true, 4⟩ }) (tick 2000000800 o)
def rein_13 : State := tp (fun x => { x with reinFromFce := some 5 }) (fr true 8 3)
def rein_15 : State := fr false 2 0x80
def rein_17 : State := tp (fun x => { x with reinSent := [(true, 1, reinFrame 8 5 3)] }) (fr false 0xF 0)
def rein_18 : State := tp (fun x => { x with reinSent := [(true, 3, reinFrame 8 5 3)] }) (reg 2 id (fr false 0xF 0))

theorem witness_ReinLink :
    ((Instr.ack 3 = Instr.notch 3 ∧ true = true ∧ 9 = rfNotch ∨ Instr.ack 3 = Instr.ack 3 ∧ true = true ∧ 9 = rfAck ∨ Instr.ack 3 =
      Instr.hold 3 ∧ true = true ∧ 9 = rfHold ∨ Instr.ack 3 = Instr.resume 3 ∧ true = true ∧ 9 = rfResume ∨ Instr.ack 3 =
      Instr.retuned 3 ∧ true = false ∧ 9 = rfRetuned ∨ Instr.ack 3 = Instr.hint 3 ∧ true = false ∧ 9 = rfHint) ∧ (rein_0.tile
      3).reinTake true 9 = none) ∧
    ((Instr.notch 3 = Instr.notch 3 ∧ true = true ∧ 8 = rfNotch ∨ Instr.notch 3 = Instr.ack 3 ∧ true = true ∧ 8 = rfAck ∨
      Instr.notch 3 = Instr.hold 3 ∧ true = true ∧ 8 = rfHold ∨ Instr.notch 3 = Instr.resume 3 ∧ true = true ∧ 8 = rfResume ∨
      Instr.notch 3 = Instr.retuned 3 ∧ true = false ∧ 8 = rfRetuned ∨ Instr.notch 3 = Instr.hint 3 ∧ true = false ∧ 8 = rfHint)
      ∧ ∃ x, x ∈ List.flatMap (fun d ↦ List.filterMap (fun ty ↦ Option.map (fun x ↦ x.fst) ((rein_0.tile 3).reinTake d ty)) [1,
      2, 8, 9, 10, 11]) [true, false] ∧ (rein_13.tile 3).reinTake true 8 = some (x, none)) ∧
    (∃ k, k ∈ (rein_0.tile 3).reinTake true rfNotch ∧ k.2.isSome = true) ∧
    (∃ k, k ∈ (rein_2.tile 3).reinTake true rfAck ∧ ∃ f, f ∈ k.2 ∧ (f.payload % 256 = 0 ∨ f.payload % 256 = 8) ∧ f.payload / 256 %
      16 = (rein_2.tile 3).notchSeq ∧ rein_2.rd TILE_NOTCH_CUR 3 < rein_2.rd TILE_NOTCH_TARGET 3) ∧
    (∃ k, k ∈ (rein_4.tile 3).reinTake true rfAck ∧ ∃ f, f ∈ k.2 ∧ (f.payload % 256 = 0 ∨ f.payload % 256 = 8) ∧ f.payload / 256 %
      16 ≠ (rein_4.tile 3).notchSeq) ∧
    (∃ k, k ∈ (rein_3.tile 3).reinTake true rfAck ∧ ∃ f, f ∈ k.2 ∧ f.payload % 256 ≠ 0 ∧ f.payload % 256 ≠ 8) ∧
    (∃ k, k ∈ (rein_5.tile 3).reinTake true rfHold ∧ k.2.isSome = true) ∧
    (∃ k, k ∈ (rein_6.tile 3).reinTake true rfResume ∧ ∃ f, f ∈ k.2 ∧ (rein_6.tile 3).haltRail = true ∧ (rein_6.tile 3).lost = false
      ∧ rein_6.inService = true ∧ rein_6.rd TILE_STATE_STATE 3 = 5 ∧ (rein_6.tile 3).heldState < 5) ∧
    ((rein_7.tile 3).haltRail = true ∧ (rein_7.tile 3).lost = false ∧ (rein_7.tile 3).taOpen = [] ∧ rein_7.rd TILE_STATE_STATE 3 ≠
      5) ∧
    ((rein_8.tile 3).taOpen ≠ []) ∧
    (∃ k, k ∈ (rein_9.tile 3).reinTake false rfRetuned ∧ ∃ f, f ∈ k.2 ∧ (rein_9.regul (rein_9.sourceOf 3)).frozen = true ∧
      (rein_9.setTile 3 { k.1 with fceNotch := f.payload % 16 }).mustRetune (rein_9.sourceOf 3) = false) ∧
    (∃ k, k ∈ (rein_10.tile 3).reinTake false rfRetuned ∧ ∃ f, f ∈ k.2 ∧ (rein_10.regul (rein_10.sourceOf 3)).frozen = true ∧
      (rein_10.setTile 3 { k.1 with fceNotch := f.payload % 16 }).mustRetune (rein_10.sourceOf 3) = true) ∧
    (∃ k, k ∈ (rein_15.tile 3).reinTake false rfRetuned ∧ ∃ f, f ∈ k.2 ∧ (rein_15.regul (rein_15.sourceOf 3)).frozen = false) ∧
    (∃ k, k ∈ (rein_11.tile 3).reinTake false rfHint ∧ k.2.isSome = true) ∧
    (∃ h, h ∈ (rein_12.tile 3).hint ∧ h.applied = true ∧ h.stop ≤ rein_12.now ∧ rein_12.now % 1000 = 800) ∧
    (∃ f, f ∈ ((rein_0.tile 3).wire true).head? ∧ (rein_0.tile 3).wire true = f :: ((rein_0.tile 3).wire true).tail ∧ f.seq =
      (5#4).toNat) ∧
    (∃ f, f ∈ ((rein_17.tile 3).wire !true).head? ∧ ∃ k, k ∈ (rein_17.tile 3).reinSent.find? (fun k ↦ k.fst == true && k.snd.snd.seq
      == (5#4).toNat) ∧ ((rein_17.tile 3).wire !true) = f :: ((rein_17.tile 3).wire !true).tail ∧ f.seq = (5#4).toNat ∧ f.type =
      rfNak ∧ k.snd.fst < 3) ∧
    (∃ f, f ∈ ((rein_18.tile 3).wire !true).head? ∧ ∃ k, k ∈ (rein_18.tile 3).reinSent.find? (fun k ↦ k.fst == true && k.snd.snd.seq
      == (5#4).toNat) ∧ ((rein_18.tile 3).wire !true) = f :: ((rein_18.tile 3).wire !true).tail ∧ f.seq = (5#4).toNat ∧ f.type =
      rfNak ∧ 3 ≤ k.snd.fst ∧ rein_18.regOn (tlrOf 3) = true) ∧
    (reinReserved (5#4).toNat (5) = true) ∧
    (reinReserved (8#4).toNat (5) = false) := by
  refine ⟨?_, ?_, ?_, ?_, ?_, ?_, ?_, ?_, ?_, ?_, ?_, ?_, ?_, ?_, ?_, ?_, ?_, ?_, ?_, ?_⟩ <;> decide +kernel
end ReinLinkCases

namespace ResultRingsAndRecordsCases
def ring (s : State) : State := (((s.wr MBX_RING_CFG_EN (ringOf 0 3) 1).wr MBX_RING_CFG_LOG2N (ringOf 0 3) 4).wr MBX_RING_BASE_BASE (ringOf 0 3) 2).wr MBX_RING_PROD_PROD (ringOf 0 3) 17 |>.wr MBX_RING_CONS_CONS (ringOf 0 3) 3
def mg : Msg := { src := 3, sch := 2, dst := 0x400, dch := 3, gen := 1, seq := 5, job := 7, payload := [1,2,3,4,5], poison := [], rstack := 0, rtile := 3, rch := 2, ta := 0, vec := 0, tSend := 5 }
def ev1 : EventRec := { code := 7, cls := 0, charged := false, unit := tileUnit 3, at' := 4, temp := 0, rail := 0, opcode := 0, job := 0, tenant := 0xFF, flow := 0, reps := 1, seq := 3, detail := [] }
def ring_0 : State := o
def ring_1 : State := ring o
def ring_2 : State := { o with sessions := [(0, {Session.reset with state := 2})] }
def ring_3 : State := { ring o with ringQ := [(ringOf 0 3, [⟨mg, 5⟩, ⟨mg, 6⟩])] }
def ring_4 : State := { (ring o).wr MBX_RING_PROD_PROD (ringOf 0 3) 19 with ringQ := [(ringOf 0 3, [⟨mg, 5⟩, ⟨mg, 6⟩])] }
def ring_5 : State := { o with events := [ev1] }
def ring_7 : State := { o.wr MBX_SP_EVT_PROD_PROD 2 256 with events := [{ev1 with tenant := 2}, ev1] }
def ring_9 : State := { ring o with ringIrq := [(ringOf 0 3, (1, 5))] }

theorem witness_ResultRingsAndRecords :
    ((ring_0.sess 0).state ≠ 2) ∧
    ((ring_1.sess 0).state ≠ 2 ∧ ring_1.rdb MBX_RING_CFG_EN (ringOf 0 3) = true) ∧
    ((Instr.ringEnable 0 0 = Instr.ringEnable 0 0 ∨ Instr.ringEnable 0 0 = Instr.ringDisable 0 0 ∨ ∃ v, Instr.ringEnable 0 0 =
      Instr.ringConsWrite 0 0 v) ∧ (ring_2.sess 0).state = 2) ∧
    (∃ i, i ∈ List.flatMap (fun x ↦ x.snd) ring_3.ringQ ∧ ∃ q, q ∈ List.map (fun x ↦ x.snd.tail) ring_3.ringQ ∧ ring_3.ringQ.find
      (ringOf 0 3) = some (i :: q) ∧ ring_3.rdb MBX_RING_CFG_EN (ringOf 0 3) = true ∧ ring_3.ringOpen 0 = true ∧ ring_3.ringFull
      (ringOf 0 3) = false) ∧
    (∃ i, i ∈ List.flatMap (fun x ↦ x.snd) ring_3.ringQ ∧ ∃ q, q ∈ List.map (fun x ↦ x.snd.tail) ring_3.ringQ ∧ ring_4.ringQ.find
      (ringOf 0 3) = some (i :: q) ∧ ring_4.rdb MBX_RING_CFG_EN (ringOf 0 3) = true ∧ ring_4.ringOpen 0 = true ∧ ring_4.ringFull
      (ringOf 0 3) = true) ∧
    (∃ e, e ∈ ring_5.events.head? ∧ ring_5.events = e :: ring_5.events.tail ∧ (ring_5.rd MBX_SP_EVT_PROD_PROD e.fn + 2 ^ 32 -
      ring_5.rd MBX_EVT_CONS_CONS e.fn) % 2 ^ 32 < 256) ∧
    (∃ e, e ∈ ring_7.events.head? ∧ ring_7.events = e :: ring_7.events.tail ∧ 256 ≤ (ring_7.rd MBX_SP_EVT_PROD_PROD e.fn + 2 ^ 32 -
      ring_7.rd MBX_EVT_CONS_CONS e.fn) % 2 ^ 32) ∧
    (∃ k, k ∈ ring_9.ringIrq.find (ringOf 0 3) ∧ k.snd + ring_9.rd MBX_RING_CFG_IRQ_HOLD (ringOf 0 3) * 1000 ≤ ring_9.now) := by
  refine ⟨?_, ?_, ?_, ?_, ?_, ?_, ?_, ?_⟩ <;> decide +kernel
end ResultRingsAndRecordsCases

namespace PoolsScrubsAndCopiesCases
def jb (st : Nat) (s : State := o) : State := withJob (job st) ((s.wr TILE_JOB_JOB 3 7).wr NBC_CTRL_MODE 3 0)
def geom : Bytes := toLE 2 0xFFFF ++ [0,0] ++ toLE 2 8 ++ toLE 2 4 ++ toLE 4 0x10000 ++ toLE 4 0x8000 ++ toLE 4 0x9000 ++ toLE 2 1 ++ toLE 2 0
def cp (dir : Nat) : Bytes := toLE 8 8192 ++ toLE 4 16 ++ toLE 2 0 ++ [BitVec.ofNat 8 dir, 0] ++ toLE 4 64
def sess_0 : State := acc 0 0x4001 1 geom (jb 2 (withFlow o))
def sess_1 : State := acc 0 0x4002 0 (toLE 8 4096 ++ toLE 8 8192 ++ [0] ++ zeros 7) o
def sess_3 : State := acc 0 0x4002 0 (toLE 8 4096 ++ toLE 8 8192 ++ [1] ++ zeros 7) o
def sess_4 : State := acc 0 0x4003 1 (toLE 2 0xFFFF ++ toLE 2 0 ++ toLE 4 0 ++ toLE 4 2) (jb 3)
def sess_6 : State := bg 0 7 (slot 0x4003 1 [0, 1, 0, 2, 3]) (jb 3)
def sess_8 : State := acc 0 0x4004 1 (cp 0) (jb 5)
def sess_9 : State := bg 0 7 (slot 0x4004 1 [8192, 16, 0, 0, 64]) ((jb 5).wrHost 8192 [1,2,3])
def sess_10 : State := bg 0 7 (slot 0x4004 1 [8192, 16, 0, 1, 64]) (((jb 5).wrHost 8192 [1,2,3]).modTile 3 fun x => x.wrSpad 60 (List.replicate 20 7#8))
def sess_22 : State := bg 0 7 (slot 0x4004 1 [8192, 64, 0, 2, 64]) ((jb 5).wrHost 8192 [1,2,3])
def sess_23 : State := bg 0 7 (slot 0x4004 1 [8192, 64, 0, 3, 64]) ((jb 5).modTile 3 fun x => { x with col := [(1, goodLine 99 3 1 (List.replicate 64 3#8))] })

theorem witness_PoolsScrubsAndCopies :
    (∃ r, r ∈ requests sess_0 ∧ ∃ j, j ∈ sess_0.jobByHandle r.object ∧ sess_0.mayRun 0 16385 r = true ∧ r.f 22 2 = 0 ∧ (r.f 0 2 =
      65535 ∨ j.tiles.contains (r.f 0 2) = true) ∧ j.state = 2) ∧
    (∃ r, r ∈ requests sess_1 ∧ ∃ j, j ∈ sess_0.jobs ∧ sess_1.mayRun 0 16386 r = true ∧ r.f 8 8 ≠ 0 ∧ r.f 16 1 = 0 ∧ r.f 17 7 = 0 ∧
      r.f 0 8 % 4096 = 0 ∧ r.f 8 8 % 4096 = 0) ∧
    (∃ r, r ∈ requests sess_3 ∧ ∃ j, j ∈ sess_0.jobs ∧ sess_3.mayRun 0 16386 r = true ∧ r.f 16 1 = 1 ∧ r.f 17 7 = 0 ∧ r.f 0 8 % 4096
      = 0 ∧ r.f 8 8 % 4096 = 0 ∧ sess_3.anySwapped 0 = false) ∧
    (∃ r, r ∈ requests sess_4 ∧ sess_4.mayRun 0 16387 r (sess_4.scrubDenied 0 r) = true ∧ r.f 8 4 ≠ 0 ∧ r.f 2 2 = 0 ∧ r.f 4 4 <
      268435456 ∧ (r.f 0 2 = 65535 ∨ (∃ j, sess_4.jobByHandle r.object = some j ∧ j.all.contains (r.f 0 2) = true) ∨
      sess_4.jobByHandle r.object = none ∧ r.f 0 2 < 1024) ∧ sess_4.scrubTiles r = some [3] ∧ sess_4.bgFree 0 = some 0) ∧
    (∃ b, b ∈ sess_6.bgRuns 0 7 16387 ∧ sess_6.scrubSlots = [(0, 7, b)] ∧ b.a 1 ≠ 0 ∧ (b.scrubs.any fun t ↦ sess_6.rangeHeld t (b.a
      2) (b.a 3)) = false) ∧
    (∃ r, r ∈ requests sess_8 ∧ ∃ j, j ∈ sess_8.jobByHandle r.object ∧ sess_8.mayRun 0 16388 r = true ∧ r.f 8 4 ≠ 0 ∧ sess_8.copyBad
      r = false ∧ (j.state = 2 ∨ j.state = 5 ∨ j.state = 6 ∨ j.state = 7) ∧ sess_8.bgFree 0 = some 0) ∧
    (∃ b, b ∈ sess_9.bgRuns 0 7 16388 ∧ ∃ j, j ∈ sess_9.jobByHandle b.object ∧ sess_9.masters 0 = true ∧ b.a 3 = 0 ∧ j.tiles[b.a 2]?
      = some 3) ∧
    (∃ b, b ∈ sess_10.bgRuns 0 7 16388 ∧ ∃ j, j ∈ sess_10.jobByHandle b.object ∧ sess_10.masters 0 = true ∧ b.a 3 = 1 ∧ j.tiles[b.a
      2]? = some 3 ∧ (sess_10.tile 3).poison = []) ∧
    (∃ b, b ∈ sess_22.bgRuns 0 7 16388 ∧ ∃ j, j ∈ sess_22.jobByHandle b.object ∧ sess_22.masters 0 = true ∧ b.a 3 = 2 ∧ j.tiles[b.a
      2]? = some 3 ∧ sess_22.chanClosed 3 = false ∧ sess_22.rangeHeld 3 (b.a 4 / 64) (b.a 1 / 64) = false) ∧
    (∃ b, b ∈ sess_23.bgRuns 0 7 16388 ∧ ∃ j, j ∈ sess_23.jobByHandle b.object ∧ sess_23.masters 0 = true ∧ b.a 3 = 3 ∧ j.tiles[b.a
      2]? = some 3 ∧ sess_23.chanClosed 3 = false ∧ sess_23.rangeHeld 3 (b.a 4 / 64) (b.a 1 / 64) = false) := by
  refine ⟨?_, ?_, ?_, ?_, ?_, ?_, ?_, ?_, ?_, ?_⟩ <;> decide +kernel
end PoolsScrubsAndCopiesCases

namespace SessionKeysCases
def sess_11 : State := acc 0 0x5001 0 [] { o with sessions := [] }
def sess_12 : State := acc 0 0x5002 0 [] o

theorem witness_SessionKeys :
    (∃ r, r ∈ requests sess_11 ∧ sess_11.mayRun 0 20481 r = true ∧ (sess_11.sess 0).state = 0) ∧
    (∃ r, r ∈ requests sess_12 ∧ sess_12.mayRun 0 20482 r = true ∧ sess_12.bgFree 0 = some 0 ∧ (sess_12.sess 0).rotating = false) ∧
    (∃ r, r ∈ requests sess_11 ∧ (Instr.sessOpen 0 false = Instr.sessOpen 0 false ∧ sess_11.mayRun 0 20481 r = true ∧ (sess_11.sess
      0).state = 0 ∨ Instr.sessOpen 0 false = Instr.sessRotateKey 0 false ∧ sess_11.mayRun 0 20482 r = true ∧ (sess_11.bgFree
      0).isSome = true)) := by
  refine ⟨?_, ?_, ?_⟩ <;> decide +kernel
end SessionKeysCases

namespace SessionsEndAndRotateCases
def jb (st : Nat) (s : State := o) : State := withJob (job st) ((s.wr TILE_JOB_JOB 3 7).wr NBC_CTRL_MODE 3 0)
def geom : Bytes := toLE 2 0xFFFF ++ [0,0] ++ toLE 2 8 ++ toLE 2 4 ++ toLE 4 0x10000 ++ toLE 4 0x8000 ++ toLE 4 0x9000 ++ toLE 2 1 ++ toLE 2 0
def sess_0 : State := acc 0 0x4001 1 geom (jb 2 (withFlow o))
def sess_10 : State := bg 0 7 (slot 0x4004 1 [8192, 16, 0, 1, 64]) (((jb 5).wrHost 8192 [1,2,3]).modTile 3 fun x => x.wrSpad 60 (List.replicate 20 7#8))
def sess_13 : State := acc 0 0x5003 0 [] (jb 3 (withFlow o))
def sess_15 : State := acc 0 0x5004 0 [] o
def sess_16 : State := { o with sessions := [(0, { Session.reset with state := 2, written := [3] })] }
def sess_17 : State := { o with sessions := [(0, { Session.reset with state := 2, written := [3], scrubbed := [3], bytes := 9, closeSlot := some 0 })], mboxes := [(0, {Mailbox.reset with bg := [(0, slot 0x5003 0 [])]})] }
def sess_18 : State := (((o.wr VCH_KEY_ROT 3 1).wr VCH_KEY_CUR 3 1).modTile 3 fun x => { x with col := [(5, ⟨zeros 64, lineCrc (zeros 64) 5 + 3 * 2 ^ 16⟩)] }).modSess 0 (fun x => {x with rotating := true, written := [3]})
def sess_21 : State := (o.wr VCH_KEY_ROT 3 1)

theorem witness_SessionsEndAndRotate :
    (∃ r, r ∈ requests sess_13 ∧ sess_13.mayRun 0 20483 r = true ∧ (sess_13.bgFree 0).isSome = true) ∧
    (∃ r, r ∈ requests sess_15 ∧ sess_15.mayRun 0 20484 r = true) ∧
    (∃ r, r ∈ requests sess_0 ∧ (sess_16.sess 0).state = 2 ∧ (sess_16.sess 0).written.contains 3 = true ∧ (sess_16.sess
      0).scrubbed.contains 3 = false) ∧
    (∃ r, r ∈ requests sess_0 ∧ (sess_17.sess 0).state = 2 ∧ (sess_17.sess 0).written.all (sess_17.sess 0).scrubbed.contains = true) ∧
    (sess_18.rdb VCH_KEY_ROT 3 = true ∧ sess_18.chanUp 3 = true ∧ sess_18.nextRotLine 3 = some 5 ∧ (List.any (sess_18.tile
      3).heldLines fun k ↦ k.fst == 5) = false) ∧
    (sess_21.rdb VCH_KEY_ROT 3 = true ∧ (sess_21.chanUp 3 = false ∨ sess_21.nextRotLine 3 = none)) := by
  refine ⟨?_, ?_, ?_, ?_, ?_, ?_⟩ <;> decide +kernel
def answersNext (c : Instr) (s : State) : Bool := match exec c s with | .next _ => true | _ => false

theorem exec_run {c : Instr} {s : State} (h : answersNext c s = true) : exec c s = .next (run c s) := by
  unfold answersNext at h
  unfold run
  split at h
  · next t ht => rw [ht]
  · cases h

def toFlush : State := { o with buffer := [⟨7, 1, 0, []⟩] }

/-- Closing a session erases its keys, a copy to host memory writes it, a flush of the journal begins. -/
theorem witness_ProtectedStateChangesOnlyByItsCommands :
    (exec (.sessClose 0) sess_13 = .next (run (.sessClose 0) sess_13) ∧ (run (.sessClose 0) sess_13).keys ≠ sess_13.keys)
    ∧ (exec (.memCopyDone 0 7) sess_10 = .next (run (.memCopyDone 0 7) sess_10)
      ∧ (run (.memCopyDone 0 7) sess_10).host ≠ sess_10.host)
    ∧ (exec (.journalFlush true) toFlush = .next (run (.journalFlush true) toFlush)
      ∧ (run (.journalFlush true) toFlush).flash ≠ toFlush.flash) := by
  refine ⟨⟨exec_run ?_, ?_⟩, ⟨exec_run ?_, ?_⟩, exec_run ?_, ?_⟩ <;> decide +kernel
end SessionsEndAndRotateCases

namespace SetPointsCases
def reg (st : Nat) (f : Regul → Regul) (s : State := o) : State := ((((s.wr TLR_CFG_EN 3 1).wr TLR_STAT_STATE 3 st).wr TLR_SET_VSET 3 120).wr TLR_SET_NOTCH 3 5).modRegul 3 f
def setp_0 : State := reg 2 id
def setp_1 : State := o
def setp_3 : State := (reg 2 fun x => { x with refTo := 120, refFrom := 100, refAt := 2000000000 })
def setp_4 : State := (reg 2 fun x => { x with refTo := 120, refFrom := 120, tripped := true, cmd := some ⟨1, 120, true, 5, none⟩ })
def setp_6 : State := reg 5 id
def setp_7 : State := (reg 5 id).wr TLR_CFG_EN 3 0
def setp_8 : State := (reg 1 fun x => { x with refTo := 120, refFrom := 120, again := true }).modTile 3 fun x => { x with haltRail := true }

theorem witness_SetPoints :
    (setp_0.rdb TLR_CFG_EN 3 = true ∧ setp_0.regOn 3 = true) ∧
    (setp_1.rdb TLR_CFG_EN 3 = false ∨ setp_1.regOn 3 = false) ∧
    (setp_0.regOn 3 = true ∧ setp_0.arrived 3 = true ∧ (setp_0.regul (setp_0.sourceOf 3)).tripped = false ∧ (setp_0.regul 3).again =
      false ∧ (setp_0.regul 3).back = false) ∧
    (setp_8.regState 3 = rsSoft ∧ setp_8.vref 3 = (setp_8.regul 3).refTo ∧ setp_8.arrived 3 = true ∧ (setp_8.regul 3).tripped =
      false ∧ (setp_8.regul 3).again = true ∧ (setp_8.regul 3).back = false) ∧
    (setp_3.arrived 3 = false) ∧
    (setp_4.regOn 3 = true ∧ setp_4.regOn (setp_4.sourceOf 3) = true ∧ (setp_4.regul 3).cmd.isSome = true ∧ setp_4.arrived 3 = true
      ∧ (setp_4.regul (setp_4.sourceOf 3)).tripped = true ∧ (setp_4.regul (setp_4.sourceOf 3)).arrival + 5000 ≤ setp_4.now) ∧
    ((setp_0.regul 3).cmd = none) ∧
    (setp_1.rdb TLR_CFG_EN 3 = false ∧ setp_1.penned (regUnit 3) = false ∧ setp_1.inService = true ∧ setp_1.regState 3 ≠ rsTied) ∧
    (setp_7.rdb TLR_CFG_EN 3 = false ∧ setp_7.penned (regUnit 3) = false ∧ setp_7.inService = true ∧ setp_7.regState 3 = rsTied) ∧
    (setp_0.rdb TLR_CFG_EN 3 = true ∨ setp_0.penned (regUnit 3) = true ∨ setp_0.inService = false) ∧
    (setp_0.rdb TLR_CFG_EN 3 = true ∧ setp_0.regState 3 ≠ rsTied) ∧
    (setp_6.rdb TLR_CFG_EN 3 = true ∧ setp_6.regState 3 = rsTied) ∧
    (setp_1.rdb TLR_CFG_EN 3 = false) := by
  refine ⟨?_, ?_, ?_, ?_, ?_, ?_, ?_, ?_, ?_, ?_, ?_, ?_, ?_⟩ <;> decide +kernel
end SetPointsCases

namespace DroverRestartsAndStandbyCases
def jb (st : Nat) (s : State := o) : State := withJob (job st) ((s.wr TILE_JOB_JOB 3 7).wr NBC_CTRL_MODE 3 0)
def vf (s : State) : State := s.wr PCIE_VFEN_EN 0 7
def sb : State := { o with jobs := [], sessions := [], cfg := o.cfg.set 0x0600 1 }
def stby_0 : State := (vf (jb 3)).wr MBX_SP_INFO_RESTARTS 0 9
def stby_1 : State := { vf o with phase := .drover }
def stby_2 : State := tick 90000000000 sb
def stby_4 : State := { (acc 0 0x2001 0 [] sb) with standby := true }
def stby_7 : State := { vf o with phase := .recovery }
def stby_9 : State := { vf o with phase := .stopped }

theorem witness_DroverRestartsAndStandby :
    (stby_0.phase = Phase.open ∨ stby_0.phase = Phase.drover) ∧
    (stby_7.phase = Phase.rom ∨ stby_7.phase = Phase.firmware ∨ stby_7.phase = Phase.recovery) ∧
    (stby_9.phase = Phase.reset ∨ stby_9.phase = Phase.stopped) ∧
    (stby_1.phase = Phase.drover) ∧
    (stby_0.phase ≠ Phase.drover) ∧
    (stby_2.phase = Phase.open ∧ stby_2.standby = false ∧ stby_2.conf 1536 ≠ 0 ∧ stby_2.idleNow = true ∧ stby_2.heatStops = false ∧
      stby_2.idleFrom + stby_2.conf 1536 * 1000000000 ≤ stby_2.now) ∧
    (stby_0.idleNow = false ∨ stby_0.conf 1536 = 0 ∨ stby_0.now < stby_0.idleFrom + stby_0.conf 1536 * 1000000000) ∧
    (stby_4.standby = true ∧ stby_4.workAsked = true) ∧
    (stby_0.standby = false ∨ stby_0.workAsked = false) := by
  refine ⟨?_, ?_, ?_, ?_, ?_, ?_, ?_, ?_, ?_⟩ <;> decide +kernel
end DroverRestartsAndStandbyCases

namespace TiesAndAvsBusCases
def regAt (r st : Nat) (f : Regul → Regul) (s : State := o) : State := ((((s.wr TLR_CFG_EN r 1).wr TLR_STAT_STATE r st).wr TLR_SET_VSET r 120).wr TLR_SET_NOTCH r 5).modRegul r f
def reg (st : Nat) (f : Regul → Regul) (s : State := o) : State := regAt 3 st f s
def still (s : State) : State := (s.modTile 3 fun x => { x with haltRail := true, clkStop := true }).modTile 2 fun x => { x with haltRail := true, clkStop := true }
def still4 (s : State) : State := (s.modTile 3 fun x => { x with haltRail := true, clkStop := true }).modTile 4 fun x => { x with haltRail := true, clkStop := true }
def tie_0 : State := regAt (neighbourReg 3) 2 id (reg 6 (fun x => { x with stopAt := some 5 }) (still4 (still o)))
def tie_1 : State := (reg 6 (fun x => { x with stopAt := some 5 }) (still4 (still o)))
def tie_2 : State := o
def tie_3 : State := reg 5 (fun x => { x with tying := some (4, 1999000000) })
def tie_4 : State := { o with lostAvs := true }
def tie_5 : State := { o with avsFails := 3 }
def tie_6 : State := reg 6 (fun x => { x with stopAt := some 5, again := true }) (still4 (still o))
def tie_7 : State := { o with vibOwed := true, avsRate := true }
def tie_8 : State := { (reg 5 fun x => { x with tying := some (4, 1999000000) }) with vibOwed := true, avsRate := true }

theorem witness_TiesAndAvsBus :
    (3 < 2048 ∧ tie_6.inService = true ∧ tie_6.regState 3 = rsFault ∧ (tie_6.regul 3).stopAt.isSome = true ∧ tie_6.tileStill
      (regTile 3) = true ∧ tie_6.tileStill (regTile (neighbourReg 3)) = true ∧ (tie_6.regul 3).again = true) ∧
    (3 < 2048 ∧ tie_0.inService = true ∧ tie_0.regState 3 = rsFault ∧ (tie_0.regul 3).stopAt.isSome = true ∧ tie_0.tileStill
      (regTile 3) = true ∧ tie_0.tileStill (regTile (neighbourReg 3)) = true ∧ (tie_0.regul 3).again = false ∧ tie_0.tieAllowed
      3 = true) ∧
    (3 < 2048 ∧ tie_1.inService = true ∧ tie_1.regState 3 = rsFault ∧ (tie_1.regul 3).stopAt.isSome = true ∧ tie_1.tileStill
      (regTile 3) = true ∧ tie_1.tileStill (regTile (neighbourReg 3)) = true ∧ (tie_1.regul 3).again = false ∧ tie_1.tieAllowed
      3 = false) ∧
    (tie_2.regState 3 ≠ rsFault ∨ tie_2.inService = false) ∧
    ((tie_3.regul 3).tying = some (4, 1999000000) ∧ 1999000000 + 300000 ≤ tie_3.now ∧ 4 * 5 ≤ famMa 4) ∧
    ((tie_3.regul 3).tying = some (4, 1999000000) ∧ 1999000000 + 300000 ≤ tie_3.now ∧ famMa 4 < 4 * 1999000000) ∧
    ((tie_0.regul 3).tying = none) ∧
    (tie_0.lostAvs = false) ∧
    (tie_7.vibOwed = true ∧ tie_7.avsRate = true ∧ tie_7.lostAvs = false ∧ tie_7.phase ≠ Phase.stopped ∧ tie_7.vibFrom ≤ tie_7.now ∧
      (tie_7.phase = Phase.firmware → ∀ (g : Nat), g < 64 → tie_7.foldUp g = true) ∧ tie_7.sequencing = false) ∧
    (tie_8.vibOwed = true ∧ tie_8.avsRate = true ∧ tie_8.lostAvs = false ∧ tie_8.phase ≠ Phase.stopped ∧ tie_8.vibFrom ≤ tie_8.now ∧
      (tie_8.phase = Phase.firmware → ∀ (g : Nat), g < 64 → tie_8.foldUp g = true) ∧ tie_8.sequencing = true) ∧
    (tie_0.vibOwed = false ∨ tie_0.avsRate = false) ∧
    (tie_4.lostAvs = true) ∧
    (tie_0.avsFails ≠ 3) ∧
    (tie_5.avsFails = 3) := by
  refine ⟨?_, ?_, ?_, ?_, ?_, ?_, ?_, ?_, ?_, ?_, ?_, ?_, ?_, ?_⟩ <;> decide +kernel
end TiesAndAvsBusCases

namespace TilesAndFoldsSwitchCases
def jb (st : Nat) (s : State := o) : State := withJob (job st) ((s.wr TILE_JOB_JOB 3 7).wr NBC_CTRL_MODE 3 0)
def fon : Fold := { Fold.reset with off := false }
def mg : Msg := { src := 4, sch := 1, dst := 3, dch := 2, gen := 0, seq := 0, job := 7, payload := [1,2,3,4,5], poison := [], rstack := 0, rtile := 4, rch := 1, ta := 0, vec := 0, tSend := 5 }
def rails (s : State) : State := (s.wr TLR_STAT_STATE 3 2).wr TLR_STAT_STATE 1027 2
def tsw_0 : State := rails (tp (fun x => { x with off := true }) o)
def tsw_1 : State := rails (tp (fun x => { x with lost := true, hdrStages := 3, hdrAt := 1999000000 }) o)
def tsw_2 : State := o
def tsw_4 : State := jb 3
def tsw_6 : State := { o with folds := o.folds.filter fun k => k.1 != foldOf 1023 }
def tsw_7 : State := { o with mesh := [mg] }
def tsw_8 : State := { o with folds := [(0, fon), (1, fon), (8, fon)], tiles := [((tilesOf 1).headD 0, tl), ((tilesOf 8).headD 0, tl)] }
def tsw_9 : State := { o with folds := o.folds.filter (fun k => k.1 != foldOf 1023), mesh := [mg] }

theorem witness_TilesAndFoldsSwitch :
    ((tsw_0.tile 3).hdrStages = 0 ∧ ((tsw_0.tile 3).off = true ∨ (tsw_0.tile 3).lost = true) ∧ tsw_0.railsUp 3 = true ∧
      tsw_0.foldOff (foldOf 3) = false) ∧
    ((tsw_1.tile 3).hdrStages = 3 ∧ ((tsw_1.tile 3).off = true ∨ (tsw_1.tile 3).lost = true) ∧ tsw_1.railsUp 3 = true ∧
      tsw_1.foldOff (foldOf 3) = false ∧ ((tsw_1.tile 3).hdrAt + if (tsw_1.tile 3).hdrSlow = true then 10640 else 20 * (tsw_1.rd
      TLR_CFG_HDR_STAGE 3 + 1)) ≤ tsw_1.now) ∧
    (tsw_2.railsUp 3 = false) ∧
    ((tsw_0.tile 3).off = true ∧ tsw_0.foldOff (foldOf 3) = false ∧ tsw_0.droverActs = true ∧ tsw_0.turnOf 3 = true ∧
      tsw_0.railsBarred = false) ∧
    ((tsw_1.tile 3).off = false ∨ tsw_1.droverActs = false ∨ tsw_1.turnOf 3 = false ∨ tsw_1.railsBarred = true) ∧
    ((tsw_1.tile 3).off = false ∧ tsw_1.jobOf 3 = none) ∧
    ((tsw_4.jobOf 3).isSome = true) ∧
    (tsw_6.foldOff 63 = true ∧ tsw_6.droverActs = true ∧ tsw_6.railsBarred = false ∧ tsw_6.fcvDown 63 = false ∧ tsw_6.penned
      (regUnit (cirOf 63)) = false ∧ (tsw_6.phase = Phase.firmware → ∀ (g : Nat), g < 63 → tsw_6.foldUp g = true) ∧
      tsw_6.meshEmpty = true) ∧
    (tsw_9.foldOff 63 = true ∧ tsw_9.droverActs = true ∧ tsw_9.railsBarred = false ∧ tsw_9.fcvDown 63 = false ∧ tsw_9.penned
      (regUnit (cirOf 63)) = false ∧ (tsw_9.phase = Phase.firmware → ∀ (g : Nat), g < 63 → tsw_9.foldUp g = true) ∧
      tsw_9.meshEmpty = false) ∧
    (tsw_0.foldOff 0 = false ∨ tsw_0.droverActs = false ∨ tsw_0.railsBarred = true ∨ tsw_0.fcvDown 0 = true) ∧
    (tsw_8.foldOff 0 = false ∧ (∀ (v : Nat), v ∈ tilesOf 0 → tsw_8.jobOf v = none) ∧ tsw_8.foldOffDenied 0 = true) ∧
    (tsw_7.foldOff 0 = false ∧ (∀ (v : Nat), v ∈ tilesOf 0 → tsw_7.jobOf v = none) ∧ tsw_7.foldOffDenied 0 = false ∧ tsw_7.meshEmpty
      = false) ∧
    (tsw_0.foldOff 0 = false ∧ tsw_0.foldOffDenied 0 = false ∧ tsw_0.meshEmpty = true ∧ ∀ (v : Nat), v ∈ tilesOf 0 → tsw_0.jobOf v =
      none) ∧
    (tsw_6.foldOff 63 = true) := by
  refine ⟨?_, ?_, ?_, ?_, ?_, ?_, ?_, ?_, ?_, ?_, ?_, ?_, ?_, ?_⟩ <;> decide +kernel
end TilesAndFoldsSwitchCases

namespace WeltFlitsCases
def jb (st : Nat) (s : State := o) : State := withJob (job st) ((s.wr TILE_JOB_JOB 3 7).wr NBC_CTRL_MODE 3 0)
def up (s : State := o) : State := { ((s.wr WELT_PSTAT_STATE 1 4).modPort 1 fun x => { x with credits := [40,40,40], rxNext := 5 }) with cfg := s.cfg.set 0x0502 0 }
def mb (held : Bool) : MsgBody := ⟨held, 1#8, 1#8, 4#10, 3#10, 1#4, 2#4, 9#32, 6#32, 0#16, 5#64, [1, 2, 3]⟩
def mb0 (held : Bool) : MsgBody := { mb held with dstack := 0#8 }
def gb (op : Byte) : GrantBody := ⟨op, 9#10, 2#4, 1#4, 3#16, 64#16, 1#16⟩
def db (k : Byte) (org : BitVec 64) : DputBody := ⟨k, 1#8, 44#16, org, 4#32, 9#16, 0#8, 2#32, zeros 32, 1#16⟩
def dg : DgetBody := ⟨1#64, 9#16, 2#32, 0#16, 1#8⟩
def hb : HelloBody := ⟨7#64, 3#8, 1#8, 0#8, 3#8, 0#64, 100#16, 20#16, 30#16, 2#8, 15#8, []⟩
def fl (sq : Nat) : OutFlit := ⟨8, 0, 0, sq, 0, 0, 0, 0, [], 1, 0⟩
def qu : Quarantined := ⟨9, peerMsg (mb0 true) 1 5, 5⟩
def chn (s : State) : State := ((s.wr TILE_TXC_CFG_EN (chanOf 3 1) 1).wr TILE_TXC_CFG_DEST (chanOf 3 1) 0x401).wr TILE_TXC_REMOTE_TILE (chanOf 3 1) 9 |>.wr TILE_TXC_REMOTE_CH (chanOf 3 1) 2
def jf (s : State) : State := withJob { job 3 with policy := { policy with flock := 9 }, expel := some (2, 1, 0, []) } s
def welt_0 : State := o
def welt_1 : State := up
def welt_2 : State := (up).modPort 1 fun x => { x with replay := [{ fl 3 with tries := 2 }, { fl 4 with type := 4 }, fl 9] }
def welt_3 : State := (up).modPort 1 fun x => { x with replay := [{ fl 4 with tries := 7 }] }
def welt_4 : State := { (up) with sessions := [] }
def welt_5 : State := up (jb 3)
def welt_7 : State := (up).modPort 1 fun x => { x with quarantine := [qu] }
def welt_8 : State := chn (up (jb 3))
def welt_9 : State := up (jf o)
def welt_11 : State := (up).wr WELT_TIME_SOURCE 1 1
def welt_12 : State := { up (jf o) with flockDone := [(36, 5)] }
def welt_13 : State := up { o with phase := .drover }
def welt_18 : State := (up).wr WELT_PSTAT_CONFLICT 1 1
def welt_21 : State := { (up).wr WELT_TIME_SOURCE 1 1 with lockRun := 15, timeLocked := true }

theorem witness_WeltFlits :
    (welt_0.portHears 1 = false) ∧
    (hb.stamps.length ≤ 8 ∧ welt_0.portHears 1 = false) ∧
    ((mb true).payload ≠ [] ∧ List.length (mb true).payload ≤ 4096 ∧ welt_0.portHears 1 = false) ∧
    ([9#32] ≠ [] ∧ [9#32].length ≤ 60 ∧ welt_0.portHears 1 = false) ∧
    (List.length (db 1 5#64).digest = 32 ∧ welt_0.portHears 1 = false) ∧
    (welt_1.portUp 1 = true ∧ (welt_1.port 1).outQ = []) ∧
    (welt_1.portUp 1 = true ∧ (⟨8#16, 3#16, 3#2, 7#14⟩ : FlitHdr).seq.toNat ≠ (welt_1.port 1).rxNext) ∧
    (hb.stamps.length ≤ 8 ∧ welt_1.portUp 1 = true ∧ (⟨8#16, 3#16, 3#2, 7#14⟩ : FlitHdr).seq.toNat ≠ (welt_1.port 1).rxNext) ∧
    ((mb true).payload ≠ [] ∧ List.length (mb true).payload ≤ 4096 ∧ welt_1.portUp 1 = true ∧ (⟨8#16, 3#16, 3#2, 7#14⟩ :
      FlitHdr).seq.toNat ≠ (welt_1.port 1).rxNext) ∧
    ([9#32] ≠ [] ∧ [9#32].length ≤ 60 ∧ welt_1.portUp 1 = true ∧ (⟨8#16, 3#16, 3#2, 7#14⟩ : FlitHdr).seq.toNat ≠ (welt_1.port
      1).rxNext) ∧
    (List.length (db 1 5#64).digest = 32 ∧ welt_1.portUp 1 = true ∧ (⟨8#16, 3#16, 3#2, 7#14⟩ : FlitHdr).seq.toNat ≠ (welt_1.port
      1).rxNext) ∧
    (welt_1.portUp 1 = true ∧ (⟨5#16, 3#16, 1#2, 7#14⟩ : FlitHdr).seq.toNat = (welt_1.port 1).rxNext ∧ ∀ (q : Quarantined), q ∈
      (welt_1.port 1).quarantine → q.id ≠ (9#32).toNat) ∧
    (welt_1.portUp 1 = true ∧ (⟨5#16, 3#16, 1#2, 7#14⟩ : FlitHdr).seq.toNat = (welt_1.port 1).rxNext ∧ (mb true).payload ≠ [] ∧
      List.length (mb true).payload ≤ 4096 ∧ welt_1.portCarries 1 = true ∧ (mb true).held = true) ∧
    (welt_1.portUp 1 = true ∧ (⟨5#16, 3#16, 1#2, 7#14⟩ : FlitHdr).seq.toNat = (welt_1.port 1).rxNext ∧ (mb0 false).payload ≠ [] ∧
      List.length (mb0 false).payload ≤ 4096 ∧ welt_1.portCarries 1 = true ∧ (mb0 false).held = false ∧ BitVec.toNat (mb0
      false).dstack = welt_1.stackNo 1 ∧ welt_1.staysIn (peerMsg (mb0 false) 1 welt_1.now) = false) ∧
    (welt_5.portUp 1 = true ∧ (⟨5#16, 3#16, 1#2, 7#14⟩ : FlitHdr).seq.toNat = (welt_5.port 1).rxNext ∧ (mb0 false).payload ≠ [] ∧
      List.length (mb0 false).payload ≤ 4096 ∧ welt_5.portCarries 1 = true ∧ (mb0 false).held = false ∧ BitVec.toNat (mb0
      false).dstack = welt_5.stackNo 1 ∧ welt_5.staysIn (peerMsg (mb0 false) 1 welt_5.now) = true) ∧
    (welt_1.portUp 1 = true ∧ (⟨5#16, 3#16, 1#2, 7#14⟩ : FlitHdr).seq.toNat = (welt_1.port 1).rxNext ∧ (mb false).payload ≠ [] ∧
      List.length (mb false).payload ≤ 4096 ∧ welt_1.portCarries 1 = true ∧ (mb false).held = false ∧ BitVec.toNat (mb
      false).dstack ≠ welt_1.stackNo 1) ∧
    (welt_18.portUp 1 = true ∧ (⟨5#16, 3#16, 1#2, 7#14⟩ : FlitHdr).seq.toNat = (welt_18.port 1).rxNext ∧ (mb true).payload ≠ [] ∧
      List.length (mb true).payload ≤ 4096 ∧ welt_18.sessOpen (welt_18.portOwner 1) = true ∧ welt_18.rdb WELT_PSTAT_CONFLICT 1 =
      true) ∧
    (welt_4.portUp 1 = true ∧ (⟨5#16, 3#16, 1#2, 7#14⟩ : FlitHdr).seq.toNat = (welt_4.port 1).rxNext ∧ (mb true).payload ≠ [] ∧
      List.length (mb true).payload ≤ 4096 ∧ welt_4.sessOpen (welt_4.portOwner 1) = false) ∧
    (welt_7.portUp 1 = true ∧ (⟨5#16, 3#16, 1#2, 7#14⟩ : FlitHdr).seq.toNat = (welt_7.port 1).rxNext ∧ ∃ q, q ∈ (welt_7.port
      1).quarantine.head? ∧ (welt_7.port 1).quarantine = q :: (welt_7.port 1).quarantine.tail ∧ q.id = (9#32).toNat ∧ q.msg.rch
      = welt_7.stackNo 1 ∧ welt_7.staysIn q.msg = false) ∧
    (welt_7.portUp 1 = true ∧ (⟨5#16, 3#16, 1#2, 7#14⟩ : FlitHdr).seq.toNat = (welt_7.port 1).rxNext ∧ ∃ q, q ∈ (welt_7.port
      1).quarantine.head? ∧ (welt_7.port 1).quarantine = q :: (welt_7.port 1).quarantine.tail ∧ q.id = (9#32).toNat) ∧
    (welt_1.portUp 1 = true ∧ (⟨5#16, 3#16, 1#2, 7#14⟩ : FlitHdr).seq.toNat = (welt_1.port 1).rxNext ∧ ((gb 0).op = 0#8 ∨ 3 <
      BitVec.toNat (gb 0).op) ∧ welt_1.portCarries 1 = true) ∧
    (welt_1.portUp 1 = true ∧ (⟨5#16, 3#16, 1#2, 7#14⟩ : FlitHdr).seq.toNat = (welt_1.port 1).rxNext ∧ (gb 1).op = 1#8 ∧ 1 ≤ (gb
      1).credits.toNat ∧ (gb 1).credits.toNat ≤ 64 ∧ welt_1.portCarries 1 = true ∧ (welt_1.port 1).grants = [] ∧
      welt_1.grantTile 1 ⟨(gb 1).tile.toNat, (gb 1).ch.toNat, (gb 1).sch.toNat, (gb 1).credits.toNat, (gb 1).maxlen.toNat, (gb
      1).gen.toNat⟩ = none) ∧
    (welt_8.portUp 1 = true ∧ (⟨5#16, 3#16, 1#2, 7#14⟩ : FlitHdr).seq.toNat = (welt_8.port 1).rxNext ∧ (gb 2).op = 2#8 ∧
      welt_8.portCarries 1 = true ∧ welt_8.grantTile 1 ⟨(gb 2).tile.toNat, (gb 2).ch.toNat, (gb 2).sch.toNat, (gb
      2).credits.toNat, (gb 2).maxlen.toNat, (gb 2).gen.toNat⟩ = some 3) ∧
    (welt_4.portUp 1 = true ∧ (⟨5#16, 3#16, 1#2, 7#14⟩ : FlitHdr).seq.toNat = (welt_4.port 1).rxNext ∧ welt_4.portCarries 1 = false) ∧
    (welt_1.portUp 1 = true ∧ (⟨5#16, 3#16, 1#2, 7#14⟩ : FlitHdr).seq.toNat = (welt_1.port 1).rxNext ∧ List.length (db 1
      5#64).digest = 32 ∧ (db 1 5#64).kind = 1#8 ∧ welt_1.portCarries 1 = true ∧ welt_1.phase ≠ Phase.drover ∧ (db 1
      5#64).origin.toNat ≠ welt_1.stackId ∧ welt_1.relayed.contains ((db 1 5#64).origin.toNat, BitVec.toNat (db 1 5#64).recSeq)
      = false ∧ welt_1.flockDone.find ((db 1 5#64).flock.toNat * 4 + BitVec.toNat (db 1 5#64).jobKind) = none) ∧
    (welt_12.portUp 1 = true ∧ (⟨5#16, 3#16, 1#2, 7#14⟩ : FlitHdr).seq.toNat = (welt_12.port 1).rxNext ∧ List.length (db 1
      5#64).digest = 32 ∧ (db 1 5#64).kind = 1#8 ∧ welt_12.portCarries 1 = true ∧ welt_12.phase ≠ Phase.drover ∧ (db 1
      5#64).origin.toNat ≠ welt_12.stackId ∧ welt_12.relayed.contains ((db 1 5#64).origin.toNat, BitVec.toNat (db 1
      5#64).recSeq) = false ∧ ∃ n, n ∈ welt_12.flockDone.find ((db 1 5#64).flock.toNat * 4 + BitVec.toNat (db 1 5#64).jobKind) ∧
      BitVec.toNat (db 1 5#64).point ≤ n ∧ welt_12.flockAt.find (flockKey (db 1 5#64).flock.toNat (BitVec.toNat (db 1
      5#64).jobKind) (BitVec.toNat (db 1 5#64).point)) = none) ∧
    (welt_1.portUp 1 = true ∧ (⟨5#16, 3#16, 1#2, 7#14⟩ : FlitHdr).seq.toNat = (welt_1.port 1).rxNext ∧ List.length (db 1
      1#64).digest = 32 ∧ (db 1 1#64).kind = 1#8 ∧ welt_1.portCarries 1 = true ∧ welt_1.phase ≠ Phase.drover ∧ ((db 1
      1#64).origin.toNat = welt_1.stackId ∨ welt_1.relayed.contains ((db 1 1#64).origin.toNat, BitVec.toNat (db 1 1#64).recSeq)
      = true)) ∧
    (welt_13.portUp 1 = true ∧ (⟨5#16, 3#16, 1#2, 7#14⟩ : FlitHdr).seq.toNat = (welt_13.port 1).rxNext ∧ List.length (db 1
      5#64).digest = 32 ∧ welt_13.phase = Phase.drover) ∧
    (welt_13.portUp 1 = true ∧ (⟨5#16, 3#16, 1#2, 7#14⟩ : FlitHdr).seq.toNat = (welt_13.port 1).rxNext ∧ welt_13.phase =
      Phase.drover) ∧
    (welt_1.portUp 1 = true ∧ (⟨5#16, 3#16, 1#2, 7#14⟩ : FlitHdr).seq.toNat = (welt_1.port 1).rxNext ∧ dg.target.toNat =
      welt_1.stackId ∧ welt_1.portCarries 1 = true ∧ welt_1.phase ≠ Phase.drover) ∧
    (welt_4.portUp 1 = true ∧ (⟨5#16, 3#16, 1#2, 7#14⟩ : FlitHdr).seq.toNat = (welt_4.port 1).rxNext ∧ welt_4.portCarries 1 = false
      ∧ welt_4.phase ≠ Phase.drover) ∧
    (welt_9.portUp 1 = true ∧ (⟨5#16, 3#16, 1#2, 7#14⟩ : FlitHdr).seq.toNat = (welt_9.port 1).rxNext ∧ ∃ j, j ∈ welt_9.jobs.head? ∧
      ∃ l, l ∈ [] :: List.flatMap (fun j ↦ [j.tiles, j.twins]) welt_0.jobs ∧ welt_9.jobs = [j] ∧ j.policy.flock = dg.flock.toNat
      ∧ j.fn = welt_9.portOwner 1 ∧ welt_9.portCarries 1 = true ∧ welt_9.phase ≠ Phase.drover ∧ j.expel = some (BitVec.toNat
      dg.point, dg.target.toNat, 0, l) ∧ 0 = dg.first.toNat) ∧
    (welt_1.portUp 1 = true ∧ (⟨5#16, 3#16, 1#2, 7#14⟩ : FlitHdr).seq.toNat = (welt_1.port 1).rxNext ∧ (welt_1.rdb WELT_TIME_SOURCE
      1 = false ∨ 0#64 = 0#64)) ∧
    (welt_11.portUp 1 = true ∧ (⟨5#16, 3#16, 1#2, 7#14⟩ : FlitHdr).seq.toNat = (welt_11.port 1).rxNext ∧ welt_11.rdb
      WELT_TIME_SOURCE 1 = true ∧ 50#64 ≠ 0#64 ∧ welt_11.timeLocked = false ∧ welt_11.jobEver = false) ∧
    (welt_21.portUp 1 = true ∧ (⟨5#16, 3#16, 1#2, 7#14⟩ : FlitHdr).seq.toNat = (welt_21.port 1).rxNext ∧ welt_21.rdb
      WELT_TIME_SOURCE 1 = true ∧ 50#64 ≠ 0#64 ∧ 15 ≤ welt_21.lockRun ∧ (timeOffset ↑(50#64).toNat ↑(50#64).toNat ↑(0#64).toNat
      ↑(0#64).toNat).natAbs ≤ 20) ∧
    (welt_2.portUp 1 = true ∧ (welt_2.port 1).outQ = [] ∧ (welt_2.port 1).replay ≠ [] ∧ (∀ (f : OutFlit), f ∈ (welt_2.port 1).replay
      → seqUpTo f.seq (⟨4#16, 65535#16, 0#2, 0#14⟩ : FlitHdr).ack.toNat = false) ∧ ∀ (f : OutFlit), f ∈ (welt_2.port 1).replay →
      f.tries < 7) ∧
    (welt_3.portUp 1 = true ∧ (welt_3.port 1).outQ = [] ∧ (welt_3.port 1).replay ≠ [] ∧ (∀ (f : OutFlit), f ∈ (welt_3.port 1).replay
      → seqUpTo f.seq (⟨5#16, 3#16, 1#2, 7#14⟩ : FlitHdr).ack.toNat = false) ∧ ∃ f, f ∈ (welt_3.port 1).replay ∧ 7 ≤ f.tries) ∧
    (welt_1.portHears 1 = true) ∧
    ((5 ≤ (5#8).toNat ∧ (5#8).toNat ≤ 7 ∨ 15 ≤ (5#8).toNat) ∧ welt_1.portUp 1 = true ∧ (⟨5#16, 3#16, 1#2, 7#14⟩ : FlitHdr).seq.toNat
      = (welt_1.port 1).rxNext) := by
  refine ⟨?_, ?_, ?_, ?_, ?_, ?_, ?_, ?_, ?_, ?_, ?_, ?_, ?_, ?_, ?_, ?_, ?_, ?_, ?_, ?_, ?_, ?_, ?_, ?_, ?_, ?_, ?_, ?_, ?_, ?_, ?_, ?_, ?_, ?_, ?_, ?_, ?_, ?_, ?_⟩ <;> decide +kernel
end WeltFlitsCases

end Sys2Proof.Tests
end

section
/-! PROOFS of the statements about the scope of the block (spec/00_scope.md): reset, register writes by access code, and
command codes that do not exist. The first part states what the shared operations do: an arm of `exec`, the words of a byte
run, a write by access code, a seed that loads, a configuration field that is written. -/
namespace Sys2Proof.Machine

/-! ## Commands that complete -/

/-- A command completes with the state that it answers. -/
theorem completes_of_exec {c : Instr} {s t : State} {P : State → Prop} (h : exec c s = .next t) (hP : P t) :
    Completes c s P := ⟨t, h, hP⟩

theorem exec_taSeedTaWrite (u : TileId) (v : W32) (s : State) :
    exec (.taSeedTaWrite u v) s = .next (s.seedTa u v.toNat) := rfl

theorem exec_taSeedVecWrite (u : TileId) (v : W32) (s : State) :
    exec (.taSeedVecWrite u v) s = .next (s.seedVec u v.toNat) := rfl

theorem exec_nbcTolWrite (u : TileId) (v : W32) (s : State) :
    exec (.nbcTolWrite u v) s = .next (s.wr NBC_TOL_EXTRA u (v.toNat % 256)) := rfl

theorem exec_tileWdogWrite (u : TileId) (v : W32) (s : State) :
    exec (.tileWdogWrite u v) s = .next (s.setWdog u v.toNat) := rfl

theorem exec_registerWrite (sp : RegSpace) (off : Nat) (v : RegData) (s : State) :
    exec (.registerWrite sp off v) s = execRegisterWrite sp off v s := rfl

/-- A word written outside BAR0. -/
theorem exec_registerWrite_word {sp : RegSpace} (hsp : ∀ g, sp ≠ .bar0 g) (off : Nat) (v : W32) (s : State) :
    exec (.registerWrite sp off ⟨v, none⟩) s = .next (s.writeReg sp off v.toNat) := by
  rw [exec_registerWrite]
  cases sp with
  | bar0 g => exact absurd rfl (hsp g)
  | _ => simp [execRegisterWrite]

/-- Eight aligned bytes written outside BAR0. -/
theorem exec_registerWrite_pair {sp : RegSpace} (hsp : ∀ g, sp ≠ .bar0 g) {off : Nat} (ha : off % 8 = 0) (v w : W32)
    (s : State) : exec (.registerWrite sp off ⟨v, some w⟩) s = .next ((s.writeReg sp off v.toNat).writeReg sp (off + 4) w.toNat) := by
  rw [exec_registerWrite]
  cases sp with
  | bar0 g => exact absurd rfl (hsp g)
  | _ => simp [execRegisterWrite, ha]

/-- A write to BAR0 of a function that is not enabled (log 103). -/
theorem exec_registerWrite_disabled {f : FnId} {s : State} (h : bit (s.rd PCIE_VFEN_EN 0) f = false) (off : Nat) (v : RegData) :
    exec (.registerWrite (.bar0 f) off v) s = .next s := by
  simp [exec_registerWrite, execRegisterWrite, h]

/-- A write that BAR0 of an enabled function does not accept. -/
theorem exec_registerWrite_bad {f : FnId} {off : Nat} {v : RegData} {s : State} (h : bit (s.rd PCIE_VFEN_EN 0) f = true)
    (hb : bar0Bad off (if v.hi.isSome then 8 else 4) = true) :
    exec (.registerWrite (.bar0 f) off v) s = .next (s.cnt PCIE_BADACC_COUNT 0 1) := by
  simp [exec_registerWrite, execRegisterWrite, h, hb]

/-- A word that BAR0 of an enabled function accepts. -/
theorem exec_registerWrite_bar0_word {f : FnId} {off : Nat} {s : State} (h : bit (s.rd PCIE_VFEN_EN 0) f = true)
    (hb : bar0Bad off 4 = false) (v : W32) :
    exec (.registerWrite (.bar0 f) off ⟨v, none⟩) s = .next (s.writeBar0 f off v.toNat) := by
  simp [exec_registerWrite, execRegisterWrite, h, hb, State.writeReg]

/-- Eight bytes that BAR0 of an enabled function accepts. -/
theorem exec_registerWrite_bar0_pair {f : FnId} {off : Nat} {s : State} (h : bit (s.rd PCIE_VFEN_EN 0) f = true)
    (hb : bar0Bad off 8 = false) (v w : W32) :
    exec (.registerWrite (.bar0 f) off ⟨v, some w⟩) s = .next ((s.writeBar0 f off v.toNat).writeBar0 f (off + 4) w.toNat) := by
  simp [exec_registerWrite, execRegisterWrite, h, hb, State.writeReg]

/-! ## Bytes and bits -/

@[simp] theorem length_toLE (n v : Nat) : (toLE n v).length = n := by
  induction n generalizing v with
  | zero => rfl
  | succ n ih => simp [toLE, ih]

/-- The bytes of a number give the number back, cut to their count. -/
theorem leNat_toLE (n v : Nat) : leNat (toLE n v) = v % 256 ^ n := by
  induction n generalizing v with
  | zero => simp [toLE, leNat, Nat.mod_one]
  | succ n ih => rw [toLE, leNat, ih, BitVec.toNat_ofNat, Nat.pow_succ' (m := 256), Nat.mod_mul]

/-- The four bytes of a 32-bit word. -/
theorem leNat_toLE_word (v : W32) : leNat (toLE 4 v.toNat) = v.toNat := by
  rw [leNat_toLE, Nat.mod_eq_of_lt (by simpa using v.isLt)]

/-- A word reads as it was written. -/
theorem Memory.getN_putN_word (m : List Host.Cell) (a v : Nat) : Memory.getN (Memory.putN m a (toLE 4 v)) a 4 = toLE 4 v := by
  simpa using Memory.getN_putN m a (toLE 4 v)

theorem bit_zero_of_even {v : Nat} (h : v % 2 = 0) : bit v 0 = false := by
  simp [bit, Nat.testBit_zero, h]

theorem bf_zero (v w : Nat) : bf v 0 w = v % 2 ^ w := by simp [bf]

theorem satAdd_lt (w v k : Nat) : satAdd w v k < 2 ^ w := by
  have := Nat.two_pow_pos w
  unfold satAdd
  omega

namespace State

/-! ## Transformations made one after the other -/

/-- What every member's transformation keeps holds after all of them. -/
theorem each_induction {P : State → Prop} {f : State → Nat → State} (hf : ∀ s a, P s → P (f s a)) (l : List Nat)
    {s : State} (h : P s) : P (s.each l f) := by
  induction l generalizing s with
  | nil => exact h
  | cons a r ih => exact ih (hf s a h)

@[simp] theorem rd_cnt_same (s : State) (f : Field) (u k : Nat) : (s.cnt f u k).rd f u = satAdd f.w (s.rd f u) k := by
  rw [cnt, rd_wr_same, Nat.mod_eq_of_lt (satAdd_lt _ _ _)]

end State

/-! ## Writes by access code (R9, R10) -/

/-- A word written at an offset leaves the field as it is: the field has no bit there, or no write changes it. -/
def Field.ignores (f : Field) (off : Nat) : Bool :=
  (f.part off).isNone || f.acc == .ro || f.acc == .rov || f.acc == .wo

namespace State

variable {f : Field} {off : Nat}

/-- A word written to a field either leaves the state or writes that field. -/
theorem writeField_cases (s : State) (f : Field) (u off v : Nat) :
    s.writeField f u off v = s ∨ ∃ n, s.writeField f u off v = s.wr f u n := by
  unfold writeField
  split
  · exact .inl rfl
  · split
    · exact .inr ⟨_, rfl⟩
    · exact .inr ⟨_, rfl⟩
    · exact .inr ⟨_, rfl⟩
    · exact .inl rfl

theorem writeField_of_ignores (h : f.ignores off = true) (s : State) (u v : Nat) : s.writeField f u off v = s := by
  unfold writeField
  cases hp : f.part off with
  | none => rfl
  | some p => cases ha : f.acc <;> simp [Field.ignores, hp, ha] at h ⊢

/-- A word whose fields all ignore it changes nothing. -/
theorem writeWord_of_ignores {b : Blk} (h : b.fields.all (·.ignores off) = true) (s : State) (u v : Nat) :
    s.writeWord b u off v = s := by
  unfold writeWord
  generalize b.fields = l at h
  induction l with
  | nil => rfl
  | cons f r ih =>
    simp only [List.all_cons, Bool.and_eq_true] at h
    rw [List.foldl_cons, writeField_of_ignores h.1, ih h.2]

/-- A W1C field of one word: its bits at 1 in the word are cleared. -/
theorem rd_writeField_w1c {fl wl w : Nat} (ha : f.acc = .w1c) (hp : f.part off = some (fl, wl, w)) (s : State) (u v : Nat) :
    (s.writeField f u off v).rd f u = (s.rd f u - (s.rd f u &&& (bf v wl w * 2 ^ fl))) % 2 ^ f.w := by
  simp [writeField, hp, ha]

theorem rd_writeField_apart {g : Field} (h : g.apart f = true) (s : State) (u v w : Nat) :
    (s.writeField f u off v).rd g w = s.rd g w := by
  obtain he | ⟨n, he⟩ := writeField_cases s f u off v
  · rw [he]
  · rw [he, rd_wr_apart _ _ _ _ _ _ h]

/-- A write to fields of other keys leaves a field as it is. -/
theorem rd_writeFields_apart {g : Field} {l : List Field} (h : l.all (g.apart ·) = true) (s : State) (u v w : Nat) :
    (l.foldl (fun s f => s.writeField f u off v) s).rd g w = s.rd g w := by
  induction l generalizing s with
  | nil => rfl
  | cons f r ih =>
    simp only [List.all_cons, Bool.and_eq_true] at h
    rw [List.foldl_cons, ih h.2, rd_writeField_apart h.1]

theorem writeField_regs (s : State) (f : Field) (u off v : Nat) : ∃ r, s.writeField f u off v = { s with regs := r } := by
  obtain he | ⟨n, he⟩ := writeField_cases s f u off v
  · exact ⟨s.regs, he⟩
  · exact ⟨_, he⟩

/-- A word written to a block changes the register table alone. -/
theorem writeWord_regs (s : State) (b : Blk) (u off v : Nat) : ∃ r, s.writeWord b u off v = { s with regs := r } := by
  unfold writeWord
  induction b.fields generalizing s with
  | nil => exact ⟨_, rfl⟩
  | cons f r ih =>
    obtain ⟨q, hq⟩ := writeField_regs s f u off v
    obtain ⟨p, hp⟩ := ih (s.writeField f u off v)
    exact ⟨p, by rw [List.foldl_cons, hp, hq]⟩

/-- A W1C flag after a word is written to its block, where the block's other fields have other keys. -/
theorem rd_writeWord_w1c {b : Blk} {p q : List Field} {fl wl w : Nat} (hb : b.fields = p ++ f :: q)
    (hp : p.all (f.apart ·) = true) (hq : q.all (f.apart ·) = true) (ha : f.acc = .w1c) (hf : f.part off = some (fl, wl, w))
    (s : State) (u v : Nat) :
    (s.writeWord b u off v).rd f u = (s.rd f u - (s.rd f u &&& (bf v wl w * 2 ^ fl))) % 2 ^ f.w := by
  rw [writeWord, hb, List.foldl_append, List.foldl_cons, rd_writeFields_apart hq, rd_writeField_w1c ha hf,
    rd_writeFields_apart hp]

end State

/-! ## Seeds (R54) -/

theorem seedOf_lt (v : Nat) : seedOf v < 2 ^ 32 := by
  unfold seedOf
  split <;> omega

/-- The seed of a 32-bit word: zero loads 1. -/
theorem seedOf_word (v : W32) : seedOf v.toNat = if v = 0#32 then 1 else v.toNat := by
  have hv : v.toNat % 2 ^ 32 = v.toNat := Nat.mod_eq_of_lt v.isLt
  rw [seedOf, hv]
  congr 1
  simpa using (BitVec.toNat_inj (x := v) (y := 0#32))

/-- The tile without the seed writes that are due. -/
def Tile.dropDue (x : Tile) : Tile := { x with
  seedTa := x.seedTa.filter fun k => !decide (k.1 ≤ x.taDone)
  seedVec := x.seedVec.filter fun k => !decide (k.1 ≤ x.vecDone) }

/-- The last seed write of the Tensor Array that is due. -/
def Tile.dueTa (x : Tile) : Option (Nat × Nat) := (x.seedTa.filter fun k => decide (k.1 ≤ x.taDone)).getLast?

/-- The last seed write of the vector unit that is due. -/
def Tile.dueVec (x : Tile) : Option (Nat × Nat) := (x.seedVec.filter fun k => decide (k.1 ≤ x.vecDone)).getLast?

/-- With every operation of the Tensor Array complete, the seed written last is due. -/
theorem Tile.dueTa_append_of_idle {x : Tile} (hq : x.taQ = []) (hr : x.taRun = none) (v : Nat) :
    ({ x with seedTa := x.seedTa ++ [(x.taCount, v)] } : Tile).dueTa = some (x.taCount, v) := by
  simp [dueTa, taDone, hq, hr, List.filter_append]

/-- With every operation of the vector unit complete, the seed written last is due. -/
theorem Tile.dueVec_append_of_idle {x : Tile} (hq : x.vecQ = []) (hr : x.vecRun = none) (v : Nat) :
    ({ x with seedVec := x.seedVec ++ [(x.vecCount, v)] } : Tile).dueVec = some (x.vecCount, v) := by
  simp [dueVec, vecDone, hq, hr, List.filter_append]

/-- A generator's register takes a seed, if there is one. -/
def State.loadSeed (s : State) (f : Field) (t : Nat) (k : Option (Nat × Nat)) : State :=
  k.elim s fun k => s.wr f t (seedOf k.2)

namespace State

section
variable (s : State) (f : Field) (t : Nat) (k : Option (Nat × Nat))

@[simp] theorem tile_loadSeed (u : Nat) : (s.loadSeed f t k).tile u = s.tile u := by
  cases k <;> rfl

theorem loadSeed_regs : ∃ r, s.loadSeed f t k = { s with regs := r } := by
  cases k with
  | none => exact ⟨s.regs, rfl⟩
  | some k => exact ⟨_, rfl⟩

theorem rd_loadSeed_same (h : f.w = 32) : (s.loadSeed f t k).rd f t = k.elim (s.rd f t) fun k => seedOf k.2 := by
  cases k with
  | none => rfl
  | some k => exact (rd_wr_same s f t _).trans (h ▸ Nat.mod_eq_of_lt (seedOf_lt k.2))

theorem rd_loadSeed_apart {g : Field} (h : g.apart f = true) (u : Nat) : (s.loadSeed f t k).rd g u = s.rd g u := by
  cases k with
  | none => rfl
  | some k => exact rd_wr_apart _ _ _ _ _ _ h

/-- Seeds that are due leave the tile's lists, and the last of each generator loads. -/
theorem applySeeds_eq : s.applySeeds t
    = ((s.modTile t Tile.dropDue).loadSeed TA_SRNG_TA_STATE t (s.tile t).dueTa).loadSeed TA_SRNG_VEC_STATE t (s.tile t).dueVec := by
  simp only [applySeeds, loadSeed, Tile.dueTa, Tile.dueVec]
  generalize (List.filter _ (s.tile t).seedTa).getLast? = a, (List.filter _ (s.tile t).seedVec).getLast? = b
  cases a <;> cases b <;> rfl

theorem rd_ta_applySeeds :
    (s.applySeeds t).rd TA_SRNG_TA_STATE t = (s.tile t).dueTa.elim (s.rd TA_SRNG_TA_STATE t) fun k => seedOf k.2 := by
  rw [applySeeds_eq, rd_loadSeed_apart _ _ _ _ (by decide), rd_loadSeed_same _ _ _ _ rfl, rd_modTile]

theorem rd_vec_applySeeds :
    (s.applySeeds t).rd TA_SRNG_VEC_STATE t = (s.tile t).dueVec.elim (s.rd TA_SRNG_VEC_STATE t) fun k => seedOf k.2 := by
  rw [applySeeds_eq, rd_loadSeed_same _ _ _ _ rfl, rd_loadSeed_apart _ _ _ _ (by decide), rd_modTile]

@[simp] theorem tile_applySeeds_same : (s.applySeeds t).tile t = (s.tile t).dropDue := by
  simp [applySeeds_eq]

theorem tile_applySeeds_other {u : Nat} (h : u ≠ t) : (s.applySeeds t).tile u = s.tile u := by
  simp [applySeeds_eq, tile_modTile_other _ _ _ _ h]

/-- Loading seeds changes tiles and registers alone. -/
theorem applySeeds_frame : s.applySeeds t = { s with tiles := (s.applySeeds t).tiles, regs := (s.applySeeds t).regs } := by
  obtain ⟨p, hp⟩ := loadSeed_regs (s.modTile t Tile.dropDue) TA_SRNG_TA_STATE t (s.tile t).dueTa
  obtain ⟨q, hq⟩ := loadSeed_regs (s.modTile t Tile.dropDue |>.loadSeed TA_SRNG_TA_STATE t (s.tile t).dueTa) TA_SRNG_VEC_STATE t
    (s.tile t).dueVec
  rw [applySeeds_eq, hq, hp]
  rfl
end

/-! ## A seed that is written (R54) -/

section
variable (s : State) (t v : Nat)

/-- With the Tensor Array idle a seed loads at once. -/
theorem rd_seedTa_of_idle (hq : (s.tile t).taQ = []) (hr : (s.tile t).taRun = none) :
    (s.seedTa t v).rd TA_SRNG_TA_STATE t = seedOf v := by
  rw [seedTa, rd_ta_applySeeds, tile_modTile_same, Tile.dueTa_append_of_idle hq hr]
  rfl

/-- With the vector unit idle a seed loads at once. -/
theorem rd_seedVec_of_idle (hq : (s.tile t).vecQ = []) (hr : (s.tile t).vecRun = none) :
    (s.seedVec t v).rd TA_SRNG_VEC_STATE t = seedOf v := by
  rw [seedVec, rd_vec_applySeeds, tile_modTile_same, Tile.dueVec_append_of_idle hq hr]
  rfl

/-- A seed written before an operation has completed waits for it. -/
theorem seedTa_waits (hd : (s.tile t).taDone < (s.tile t).taCount) (hs : (s.tile t).seedTa = []) :
    (s.seedTa t v).rd TA_SRNG_TA_STATE t = s.rd TA_SRNG_TA_STATE t
      ∧ ((s.seedTa t v).tile t).seedTa = [((s.tile t).taCount, v)] := by
  have hc : ¬ (s.tile t).taCount ≤ (s.tile t).taCount - (s.tile t).taQ.length - (s.tile t).taRun.toList.length :=
    Nat.not_le_of_lt hd
  rw [seedTa, rd_ta_applySeeds, tile_applySeeds_same, tile_modTile_same]
  simp [Tile.dueTa, Tile.dropDue, Tile.taDone, hs, hc]

theorem seedTa_frame : s.seedTa t v = { s with tiles := (s.seedTa t v).tiles, regs := (s.seedTa t v).regs } :=
  applySeeds_frame _ t

theorem seedVec_frame : s.seedVec t v = { s with tiles := (s.seedVec t v).tiles, regs := (s.seedVec t v).regs } :=
  applySeeds_frame _ t

theorem seedTa_otherTiles : s.otherTiles (s.seedTa t v) t := fun w hw => by
  rw [seedTa, tile_applySeeds_other _ _ hw, tile_modTile_other _ _ _ _ hw]

theorem seedVec_otherTiles : s.otherTiles (s.seedVec t v) t := fun w hw => by
  rw [seedVec, tile_applySeeds_other _ _ hw, tile_modTile_other _ _ _ _ hw]
end

/-! ## BAR0 (R383, R384) -/

section
variable {off : Nat} (f : Nat) (s : State)

/-- BAR0 accepts eight aligned bytes inside the request buffer. -/
theorem bar0Bad_request (h1 : 0x1000 ≤ off) (h2 : off < 0x2000) (ha : off % 4 = 0) : bar0Bad off 8 = false := by
  simp [bar0Bad, bar0Buffer, ha, h1, show off < 0x3000 by omega]

/-- A word inside the request buffer of BAR0. -/
theorem writeBar0_request (h1 : 0x1000 ≤ off) (h2 : off < 0x2000) (v : Nat) : s.writeBar0 f off v
    = s.modMbox f fun x => { x with request := Memory.putN x.request (off - 0x1000) (toLE 4 v) } := by
  simp [writeBar0, writePage, show off < 0x4000 by omega, show off ≠ 0 by omega, show ¬ off < 0x10 by omega, h1, h2]

theorem bar0Word_request (h1 : 0x1000 ≤ off) (h2 : off < 0x2000) :
    s.bar0Word f off = leNat (Memory.getN (s.mbox f).request (off - 0x1000) 4) := by
  simp [bar0Word, show ¬ off < 0x10 by omega, h1, h2]

/-- Eight bytes read in BAR0 are two words of one instant (R384). -/
theorem readBar0_pair (he : bit (s.rd PCIE_VFEN_EN 0) f = true) (hb : bar0Bad off 8 = false) :
    s.readBar0 f off 8 = toLE 4 (s.bar0Word f off) ++ toLE 4 (s.bar0Word f (off + 4)) := by
  simp [readBar0, he, hb, List.range_succ]

/-- A vector's mask is the fourth word of its entry in the MSI-X table. -/
theorem writeBar0_mask {k : Nat} (hk : k < 8) (v : Nat) :
    s.writeBar0 f (0x30000 + 16 * k + 12) v = s.writeMsix f (4 * k + 3) v := by
  have hw : (0x30000 + 16 * k + 12 - 0x30000) / 4 = 4 * k + 3 := by omega
  simp only [writeBar0, hw]
  rw [if_neg (by omega), if_neg (by omega), if_pos (by omega)]

/-- Eight bytes written in the request buffer read as written. -/
theorem readBar0_written (he : bit (s.rd PCIE_VFEN_EN 0) f = true) (h1 : 0x1000 ≤ off) (h2 : off + 8 ≤ 0x2000) (ha : off % 4 = 0)
    (v w : W32) :
    ((s.writeBar0 f off v.toNat).writeBar0 f (off + 4) w.toNat).readBar0 f off 8 = toLE 4 v.toNat ++ toLE 4 w.toNat := by
  have hb := State.bar0Bad_request h1 (by omega) ha
  rw [writeBar0_request f s h1 (by omega), writeBar0_request f _ (by omega) (by omega), readBar0_pair _ _ ?enabled hb,
    bar0Word_request f _ h1 (by omega), bar0Word_request f _ (by omega) (by omega), mbox_modMbox_same, mbox_modMbox_same]
  case enabled => exact he
  dsimp only
  rw [show off + 4 - 0x1000 = off - 0x1000 + 4 by omega, Memory.getN_putN_other _ _ _ _ _ (by omega),
    Memory.getN_putN_word, Memory.getN_putN_word, leNat_toLE_word, leNat_toLE_word]

/-- A function's mask word written at 0 raises a vector that waits. -/
theorem writeMsix_unmask {k v : Nat} (hf : f < 16) (hv : v % 2 = 0) (hp : (s.msixPend.find (8 * f + k)).isSome = true) :
    s.writeMsix f (4 * k + 3) v = { s with
      msixTab := s.msixTab.set (32 * f + (4 * k + 3)) (v % 2 ^ 32)
      msixPend := s.msixPend.del (8 * f + k)
      msix := s.msix.set (8 * f + k) ((s.msix.find (8 * f + k)).getD 0 + 1) } := by
  have hm : bit (v % 4294967296) 0 = false := bit_zero_of_even (by omega)
  simp [writeMsix, irq, hf, hp, bit_zero_of_even hv, hm, show (4 * k + 3) / 4 = k by omega,
    show (4 * k + 3) % 4 = 3 by omega, ← Nat.add_assoc]
end

/-! ## Configuration fields (R407, R410) -/

theorem each_cfg {g : State → Nat → State} (h : ∀ s a, (g s a).cfg = s.cfg) (s : State) (l : List Nat) :
    (s.each l g).cfg = s.cfg :=
  each_induction (P := fun t => t.cfg = s.cfg) (fun t a ht => (h t a).trans ht) l rfl

@[simp] theorem printCfg_cfg (s : State) : s.printCfg.cfg = s.cfg := by
  unfold printCfg
  exact each_cfg (fun t m => wr_cfg t _ m _) s _

/-- The cap takes a value as the active configuration's. -/
theorem conf_setConf_cap (s : State) (v : Nat) : (s.setConf 0x0100 v).conf 0x0100 = v := by
  simp [setConf, cfgEffect, conf]

theorem cfgWrite_of_clamp {id v a : Nat} (h : cfgClamp id v = some a) (s : State) : (s.cfgWrite id v).1 = s.setConf id a := by
  simp [cfgWrite, h]

/-- A write of the cap applies the value that the cap's range gives it. -/
theorem conf_cfgWrite_cap (s : State) (v : Nat) : cfgClamp 0x0100 v = some ((s.cfgWrite 0x0100 v).1.conf 0x0100) := by
  have ⟨a, ha⟩ : ∃ a, cfgClamp 0x0100 v = some a := ⟨_, rfl⟩
  rw [cfgWrite_of_clamp ha, conf_setConf_cap, ha]

end State

end Sys2Proof.Machine

/-! ## The statements -/

namespace Sys2Proof.Proofs.Scope
open Sys2Proof Sys2Proof.Machine

/-- Settles O55: no register is listed after reset, so each reads its Reset value. -/
theorem resetState : Obligations.ResetState :=
  ⟨rfl, rfl, rfl, rfl, fun _ _ => rfl⟩

/-! ### Register writes (O27) -/

section
variable (u : TileId) (v : W32) (s : State)

theorem taSeedTaWrite_loads (hq : (s.tile u).taQ = []) (hr : (s.tile u).taRun = none) :
    Completes (.taSeedTaWrite u v) s fun t => t.rd TA_SRNG_TA_STATE u = (if v = 0#32 then 1 else v.toNat)
      ∧ s.otherTiles t u ∧ t = { s with tiles := t.tiles, regs := t.regs } :=
  completes_of_exec (exec_taSeedTaWrite u v s)
    ⟨by rw [State.rd_seedTa_of_idle _ _ _ hq hr, seedOf_word], s.seedTa_otherTiles _ _, s.seedTa_frame _ _⟩

theorem taSeedTaWrite_waits (hd : (s.tile u).taDone < (s.tile u).taCount) (hs : (s.tile u).seedTa = []) :
    Completes (.taSeedTaWrite u v) s fun t => t.rd TA_SRNG_TA_STATE u = s.rd TA_SRNG_TA_STATE u
      ∧ (t.tile u).seedTa = [((s.tile u).taCount, v.toNat)] :=
  completes_of_exec (exec_taSeedTaWrite u v s) (s.seedTa_waits _ _ hd hs)

theorem taSeedVecWrite_loads (hq : (s.tile u).vecQ = []) (hr : (s.tile u).vecRun = none) :
    Completes (.taSeedVecWrite u v) s fun t => t.rd TA_SRNG_VEC_STATE u = (if v = 0#32 then 1 else v.toNat)
      ∧ s.otherTiles t u ∧ t = { s with tiles := t.tiles, regs := t.regs } :=
  completes_of_exec (exec_taSeedVecWrite u v s)
    ⟨by rw [State.rd_seedVec_of_idle _ _ _ hq hr, seedOf_word], s.seedVec_otherTiles _ _, s.seedVec_frame _ _⟩

theorem nbcTolWrite_takes_low_byte :
    Completes (.nbcTolWrite u v) s fun t => t.rd NBC_TOL_EXTRA u = v.toNat % 256 ∧ t = { s with regs := t.regs } :=
  completes_of_exec (exec_nbcTolWrite u v s) ⟨(State.rd_wr_same ..).trans (Nat.mod_mod _ _), rfl⟩

theorem tileWdogWrite_clamps :
    Completes (.tileWdogWrite u v) s fun t =>
      t.rd TILE_WDOG_LIMIT u = max 5 (min 50 (v.toNat % 64)) ∧ t = { s with regs := t.regs } := by
  refine completes_of_exec (exec_tileWdogWrite u v s) ⟨(State.rd_wr_same ..).trans (Nat.mod_eq_of_lt ?_), rfl⟩
  show max 5 (min 50 (v.toNat % 64)) < 2 ^ 6
  omega

/-- No space of a tile is BAR0. -/
theorem tile_ne_bar0 (g : FnId) : RegSpace.tile u ≠ .bar0 g := by simp

theorem writeReg_tile_beyond {off : Nat} (h : 0x4000 ≤ off) (n : Nat) : s.writeReg (.tile u) off n = s := by
  simp [State.writeReg, Nat.not_lt.mpr h]

/-- Nothing is written beyond the registers of a tile's window (R75). -/
theorem registerWrite_tile_beyond {off : Nat} (h : 0x4000 ≤ off) (w : Option W32) :
    exec (.registerWrite (.tile u) off ⟨v, w⟩) s = .next s := by
  have h4 : 0x4000 ≤ off + 4 := by omega
  cases w <;> simp [exec_registerWrite, execRegisterWrite, writeReg_tile_beyond u s h, writeReg_tile_beyond u s h4]

/-- The tile's registers with rows of their own, and the read-only TILE_ID. -/
theorem registerWrite_tile_rows :
    exec (.registerWrite (.tile u) 0x018 ⟨v, none⟩) s = exec (.tileWdogWrite u v) s
      ∧ exec (.registerWrite (.tile u) 0x1088 ⟨v, none⟩) s = exec (.taSeedTaWrite u v) s
      ∧ exec (.registerWrite (.tile u) 0x2004 ⟨v, none⟩) s = exec (.nbcTolWrite u v) s
      ∧ exec (.registerWrite (.tile u) 0x000 ⟨v, none⟩) s = .next s := by
  simp only [exec_registerWrite_word (tile_ne_bar0 u)]
  refine ⟨rfl, rfl, rfl, ?_⟩
  exact congrArg _ (State.writeWord_of_ignores (b := .tile) (off := 0) (by decide) s u v.toNat)

/-- Every other field of the TA_ block has another key than INT_OVF. -/
theorem ta_fields_around_intOvf : Blk.ta.fields
    = [TA_ARITH_SATF, TA_ARITH_RMODE] ++ TA_AFLAGS_INT_OVF :: fieldsOf_ta.drop 3 := rfl

theorem rd_intOvf_written (n : Nat) : (s.writeWord .ta u 0x084 n).rd TA_AFLAGS_INT_OVF u
    = (s.rd TA_AFLAGS_INT_OVF u - (s.rd TA_AFLAGS_INT_OVF u &&& n % 2)) % 2 := by
  rw [State.rd_writeWord_w1c ta_fields_around_intOvf (by decide) (by decide) rfl rfl]
  simp [bf_zero, TA_AFLAGS_INT_OVF]

/-- A W1C flag (R9). -/
theorem registerWrite_intOvf :
    Completes (.registerWrite (.tile u) 0x1084 ⟨v, none⟩) s fun t =>
      (v.toNat % 2 = 1 → t.rd TA_AFLAGS_INT_OVF u = 0)
      ∧ (v.toNat % 2 = 0 → s.rd TA_AFLAGS_INT_OVF u < 2 → t.rd TA_AFLAGS_INT_OVF u = s.rd TA_AFLAGS_INT_OVF u)
      ∧ t = { s with regs := t.regs } := by
  have hw : s.writeReg (.tile u) 0x1084 v.toNat = s.writeWord .ta u 0x084 v.toNat := rfl
  obtain ⟨r, hr⟩ := State.writeWord_regs s .ta u 0x084 v.toNat
  refine completes_of_exec (exec_registerWrite_word (tile_ne_bar0 u) _ v s) ?_
  rw [hw]
  refine ⟨fun h => ?_, fun h hs => ?_, ?_⟩
  · rw [rd_intOvf_written, h, Nat.and_one_is_mod]
    omega
  · rw [rd_intOvf_written, h, Nat.and_zero, Nat.sub_zero, Nat.mod_eq_of_lt hs]
  · rw [hr]

/-- Eight bytes are two words (R384). -/
theorem registerWrite_pair {sp : RegSpace} {off : Nat} {t : State} (hsp : ∀ g, sp ≠ .bar0 g) (ha : off % 8 = 0)
    (h : exec (.registerWrite sp off ⟨v, none⟩) s = .next t) (w : W32) :
    exec (.registerWrite sp off ⟨v, some w⟩) s = exec (.registerWrite sp (off + 4) ⟨w, none⟩) t := by
  rw [exec_registerWrite_word hsp, Host.Outcome.next.injEq] at h
  rw [exec_registerWrite_pair hsp ha, exec_registerWrite_word hsp, h]

/-- The cap's register is a configuration field (R356). -/
theorem registerWrite_cap : Completes (.registerWrite .pwr 0x000 ⟨v, none⟩) s fun t =>
    cfgClamp 0x0100 (bf v.toNat 0 12) = some (t.conf 0x0100) :=
  completes_of_exec (exec_registerWrite_word (by simp) _ v s) (State.conf_cfgWrite_cap s _)
end

section
variable {f : FnId} {off : Nat} {s : State} (v : W32)

theorem registerWrite_bar0_bad (he : bit (s.rd PCIE_VFEN_EN 0) f = true) {w : Option W32}
    (hb : bar0Bad off (if w.isSome then 8 else 4) = true) :
    Completes (.registerWrite (.bar0 f) off ⟨v, w⟩) s fun t =>
      t.rd PCIE_BADACC_COUNT 0 = satAdd PCIE_BADACC_COUNT.w (s.rd PCIE_BADACC_COUNT 0) 1 ∧ t = { s with regs := t.regs }
        ∧ s.readBar0 f off (if w.isSome then 8 else 4) = zeros (if w.isSome then 8 else 4) :=
  completes_of_exec (exec_registerWrite_bad he hb) ⟨State.rd_cnt_same .., rfl, by simp [State.readBar0, hb]⟩

/-- The request buffer of BAR0 reads as it was written (R383). -/
theorem registerWrite_bar0_request (he : bit (s.rd PCIE_VFEN_EN 0) f = true) (h1 : 0x1000 ≤ off) (h2 : off + 8 ≤ 0x2000)
    (ha : off % 4 = 0) (w : W32) :
    Completes (.registerWrite (.bar0 f) off ⟨v, some w⟩) s fun t => t.readBar0 f off 8 = toLE 4 v.toNat ++ toLE 4 w.toNat
      ∧ (∀ m, m ≠ f.val → t.mbox m = s.mbox m) ∧ t = { s with mboxes := t.mboxes } := by
  have hb := State.bar0Bad_request h1 (by omega) ha
  refine completes_of_exec (exec_registerWrite_bar0_pair he hb v w) ⟨State.readBar0_written f s he h1 h2 ha v w, ?_⟩
  rw [State.writeBar0_request f _ h1 (by omega), State.writeBar0_request f _ (by omega) (by omega)]
  exact ⟨fun m hm => by rw [State.mbox_modMbox_other _ _ _ _ hm, State.mbox_modMbox_other _ _ _ _ hm], rfl⟩

/-- A vector that waits is raised as its mask goes (R383). -/
theorem registerWrite_unmask (he : bit (s.rd PCIE_VFEN_EN 0) f = true) (hv : v.toNat % 2 = 0) (k : Fin 8)
    (hp : (s.msixPend.find (8 * f.val + k.val)).isSome = true) :
    Completes (.registerWrite (.bar0 f) (0x30000 + 16 * k.val + 12) ⟨v, none⟩) s fun t =>
      t.msixPend.find (8 * f.val + k.val) = none
        ∧ t.msix.find (8 * f.val + k.val) = some ((s.msix.find (8 * f.val + k.val)).getD 0 + 1)
        ∧ t = { s with msix := t.msix, msixPend := t.msixPend, msixTab := t.msixTab } := by
  have hb : bar0Bad (0x30000 + 16 * k.val + 12) 4 = false := by
    simp [bar0Bad, bar0Buffer]
    omega
  refine completes_of_exec (exec_registerWrite_bar0_word he hb v) ?_
  rw [State.writeBar0_mask f s k.isLt, State.writeMsix_unmask f s f.isLt hv hp]
  exact ⟨Tbl.find_del_same _ _, Tbl.find_set_same _ _ _, rfl⟩
end

/-- Settles O27, clause by clause: each write is one elementary update of the state, whose laws give its effect and frame. -/
theorem registerWritesTakeEffect : Obligations.RegisterWritesTakeEffect := by
  refine ⟨fun u v s => ⟨taSeedTaWrite_loads u v s, fun _ hd hs _ => taSeedTaWrite_waits u v s hd hs,
    taSeedVecWrite_loads u v s, nbcTolWrite_takes_low_byte u v s, tileWdogWrite_clamps u v s⟩, fun u f v s => ?_⟩
  obtain ⟨hwdog, hseed, htol, hid⟩ := registerWrite_tile_rows u v s
  exact ⟨hwdog, hseed, htol, hid, fun off w h => registerWrite_tile_beyond u v s h w, registerWrite_intOvf u v s,
    fun sp off w t hsp ha h => registerWrite_pair v s hsp ha h w, fun off w he hb => registerWrite_bar0_bad v he hb,
    fun off w he => exec_registerWrite_disabled he off _,
    fun off w he h1 h2 ha => registerWrite_bar0_request v he h1 h2 ha w,
    fun k he hv hp => registerWrite_unmask v he hv k hp, registerWrite_cap v s⟩

/-! ### Undefined command codes (O57) -/

/-- Whether a command answers a next state with a property. -/
def answers (p : State → Bool) : Out → Bool
  | .next t => p t
  | _ => false

/-- The command interface of management connection 0 is open, its mailbox idle. -/
def connected : State :=
  ({ State.reset with phase := .open } |>.wr MBX_STAT_STATE 16 mxIdle).wr MGT_STAT_CONN 0 1

/-- The client of connection 0 has sent two REQUEST frames (R390), of a code, 0, that no table has: the first stands in mailbox
16 with GO set, the second waits behind it. -/
def twoRequests : State :=
  (connected.clientFrame 0 (.request (zeros 16))).clientFrame 0 (.request (zeros 16))

theorem twoRequests_undefined : twoRequests.nextMbx = some 16
    ∧ cmdSpec (fld (Memory.getN (twoRequests.mbox 16).request 0 16) 0 2) = none := by decide +kernel

/-- The acceptance answers the first request, and with the REPLY frame sent the mailbox takes the second: GO is set again. -/
theorem mbxAccept_twoRequests_go : answers (fun t => (t.mbox 16).go) (exec (.mbxAccept 16) twoRequests) = true := by
  decide +kernel

/-- Refutes O57: a management mailbox takes the REQUEST frame that waits behind the undefined command in the same step (R390),
so GO does not stay clear as the statement says of every mailbox. -/
theorem not_undefinedCommandIsUnsupported : ¬ Obligations.UndefinedCommandIsUnsupported := by
  intro h
  obtain ⟨hnext, hcode⟩ := twoRequests_undefined
  obtain ⟨t, ht, -, hgo, -⟩ := (h 16 false false twoRequests).1 hnext hcode
  have hset := mbxAccept_twoRequests_go
  rw [ht] at hset
  exact absurd (hset.symm.trans hgo) (by decide)

end Sys2Proof.Proofs.Scope
end

section
namespace Sys2Proof.Proofs.Stack
open Sys2Proof Sys2Proof.Machine

/-! ### Numbering (O58) -/

/-- A fold and a local index give back the tile that has them. -/
theorem tileAt_spec {f n : Nat} (hf : f < 64) (hn : n < 16) :
    tileAt f n < 1024 ∧ foldOf (tileAt f n) = f ∧ localOf (tileAt f n) = n := by
  unfold tileAt foldOf localOf
  omega

theorem foldOf_lt {t : Nat} (ht : t < 1024) : foldOf t < 64 := by
  unfold foldOf
  omega

/-- The pair-tie neighbour stands in the same row, at the next column, or before the last one. -/
theorem tieOf_column_row (t : Nat) :
    tieOf t % 32 = (if t % 32 = 31 then 30 else t % 32 + 1) ∧ tieOf t / 32 = t / 32 := by
  unfold tieOf
  split <;> omega

/-- Settles O58: the successor is the tile of the fold at the next local index, and the neighbour is found by its column. -/
theorem foldSuccessorAndPairTie : Obligations.FoldSuccessorAndPairTie := by
  intro u
  obtain ⟨hlt, hfold, hlocal⟩ := tileAt_spec (foldOf_lt u.isLt) (Nat.mod_lt (localOf u + 1) (by decide))
  exact ⟨hlt, hfold, hlocal, tieOf_column_row u⟩

/-! ### Flits of the welt ports (O45) -/

/-- Port 0 is UP without credits, and TIME_TIMER has come at 5 ns: its TIME flit waits for a credit (R364, R377). -/
def timeWaits : State :=
  ({ State.reset with now := 5 }.wr WELT_PSTAT_STATE 0 psUp).sendFlit 0 0x02 0 (zeros 24)

/-- The next expected flit of the peer, with the credit for which the TIME flit waits. -/
def creditReturned : FlitHdr := ⟨0, 0xFFFF, 1, 1⟩

theorem timeWaits_hypotheses : timeWaits.portUp 0 = true ∧ creditReturned.seq.toNat = (timeWaits.port 0).rxNext
    ∧ (timeWaits.port 0).timeSt.getD 0 0 = 0 := by decide +kernel

/-- The peer's TIME flit brings the credit: the own TIME flit leaves first, and its transmit time is the stamp kept. -/
theorem time_timeWaits_stamp : Scope.answers (fun t => (t.port 0).timeSt.getD 0 0 == 5)
    (exec (.time 0 creditReturned 7#64 0#64 0#64 9#64) timeWaits) = true := by decide +kernel

/-- Refutes O45: a TIME flit takes the stamps of the peer, but the header of the same flit may first let a waiting TIME flit
of the port go, which sets the own transmit stamp to the present time; the statement keeps the stamp from before. -/
theorem not_weltFlits : ¬ Obligations.WeltFlits := by
  intro h
  obtain ⟨hup, hseq, hold⟩ := timeWaits_hypotheses
  obtain ⟨-, -, -, -, -, -, -, -, -, -, htime, -⟩ := h.2 0 creditReturned timeWaits hup hseq
  obtain ⟨t, ht, hst, -⟩ := htime 7#64 0#64 0#64 9#64 (.inr rfl)
  have hkept : (t.port 0).timeSt.getD 0 0 = 0 := (congrArg (·.getD 0 0) hst).trans hold
  have hnew := time_timeWaits_stamp
  rw [ht] at hnew
  exact absurd (hkept.symm.trans (eq_of_beq hnew)) (by decide)

end Sys2Proof.Proofs.Stack
end

section
-- The proofs are checked in turn: side by side, their threads need more memory than the text is compiled with.
set_option Elab.async false

/-! PROOFS. What the shared operations change: the journal and the event records, the halt that begins a job's restart, a
charge with the drain that it may begin, the flits that a port sends, a column's lines as they are read, and a tile's notch. A
later proof takes from here that the rest of the state stays. -/
namespace Sys2Proof.Machine

/-! ## Regions of the state -/

/-- A region of the state: `upd s t` is `s` with the region as `t` has it. -/
structure Extent where
  upd : State → State → State
  upd_self : ∀ s, upd s s = s
  upd_upd : ∀ s t u, upd (upd s t) u = upd s u
  upd_idem : ∀ s t, upd s (upd s t) = upd s t

namespace Extent

/-- What differs in the one region alone differs in the other alone. -/
def In (a b : Extent) : Prop := ∀ s t, b.upd s (a.upd s t) = a.upd s t

def regs : Extent := ⟨fun s t => { s with regs := t.regs }, fun _ => rfl, fun _ _ _ => rfl, fun _ _ => rfl⟩
def tiles : Extent := ⟨fun s t => { s with tiles := t.tiles }, fun _ => rfl, fun _ _ _ => rfl, fun _ _ => rfl⟩
def tileRegs : Extent := ⟨fun s t => { s with tiles := t.tiles, regs := t.regs }, fun _ => rfl, fun _ _ _ => rfl, fun _ _ => rfl⟩
def jobs : Extent := ⟨fun s t => { s with jobs := t.jobs }, fun _ => rfl, fun _ _ _ => rfl, fun _ _ => rfl⟩
def ports : Extent := ⟨fun s t => { s with ports := t.ports }, fun _ => rfl, fun _ _ _ => rfl, fun _ _ => rfl⟩

/-- The Life Record with its registers. -/
def journal : Extent := ⟨fun s t => { s with
  buffer := t.buffer, histOwed := t.histOwed, sectors := t.sectors, snapMin := t.snapMin, coalesced := t.coalesced
  regs := t.regs }, fun _ => rfl, fun _ _ _ => rfl, fun _ _ => rfl⟩

def logged : Extent := ⟨State.logged, fun _ => rfl, fun _ _ _ => rfl, fun _ _ => rfl⟩

/-- The background slots of the mailboxes, with their interrupts. -/
def slots : Extent := ⟨fun s t => { s with mboxes := t.mboxes, msix := t.msix, msixPend := t.msixPend },
  fun _ => rfl, fun _ _ _ => rfl, fun _ _ => rfl⟩

/-- What is held for release, on the ports and at the rings. -/
def held : Extent := ⟨fun s t => { s with ports := t.ports, ringHeld := t.ringHeld }, fun _ => rfl, fun _ _ _ => rfl, fun _ _ => rfl⟩

/-- What the halt of a job changes: its tiles, its messages and credits, what is held for it, and a checkpoint's slot. -/
def halt : Extent := ⟨fun s t => { s with
  credits := t.credits, creditQ := t.creditQ, jobs := t.jobs, mboxes := t.mboxes, mesh := t.mesh, msix := t.msix
  msixPend := t.msixPend, ports := t.ports, ringHeld := t.ringHeld, tiles := t.tiles, regs := t.regs },
  fun _ => rfl, fun _ _ _ => rfl, fun _ _ => rfl⟩

/-- What the restart of a job changes: what a charge may, but for the drain. -/
def restart : Extent := ⟨fun s t => { s.logged t with
  credits := t.credits, creditQ := t.creditQ, jobs := t.jobs, life := t.life, mboxes := t.mboxes, mesh := t.mesh, msix := t.msix
  msixPend := t.msixPend, ports := t.ports, ringHeld := t.ringHeld, sessions := t.sessions, tiles := t.tiles },
  fun _ => rfl, fun _ _ _ => rfl, fun _ _ => rfl⟩

def charged : Extent := ⟨State.charged, fun _ => rfl, fun _ _ _ => rfl, fun _ _ => rfl⟩

/-- The regulators with their registers. -/
def rails : Extent := ⟨fun s t => { s with regs := t.regs, reguls := t.reguls }, fun _ => rfl, fun _ _ _ => rfl, fun _ _ => rfl⟩

/-- What a tile's change of notch changes. -/
def notch : Extent := ⟨fun s t => { s with tiles := t.tiles, regs := t.regs, reguls := t.reguls },
  fun _ => rfl, fun _ _ _ => rfl, fun _ _ => rfl⟩

theorem upd_restart (s t : State) : restart.upd s t
    = { s.charged t with dstate := s.dstate, drain := s.drain, drainUnits := s.drainUnits } := rfl

variable {r : Extent} {s t u : State}

/-- What differs in a region twice differs there alone. -/
theorem frame_trans (h : t = r.upd s t) (h' : u = r.upd t u) : u = r.upd s u :=
  calc u = r.upd t u := h'
    _ = r.upd (r.upd s t) u := congrArg (r.upd · u) h
    _ = r.upd s u := r.upd_upd s t u

theorem In.frame {a : Extent} (ha : a.In r) (h : t = a.upd s t) : t = r.upd s t :=
  calc t = a.upd s t := h
    _ = r.upd s (a.upd s t) := (ha s t).symm
    _ = r.upd s t := congrArg (r.upd s) h.symm

theorem In.refl (a : Extent) : a.In a := a.upd_idem

end Extent

/-! ## Moves inside a region -/

/-- The job `k` is `j` later on: it is the same job, its last digest point the same, and no digest of it newly waits. -/
def Job.Kept (j k : Job) : Prop := k.tag = j.tag ∧ k.digestAt = j.digestAt ∧ (k.digestDue = j.digestDue ∨ k.digestDue = none)

/-- A job at the start of a restart. -/
def Job.restarted (now : Nat) (park : Bool) (j : Job) : Job := { j with
  state := 4, restarts := min 65535 (j.restarts + 1)
  restart := some ⟨now, park || j.parkNext, false, false⟩, parkNext := false, digestDue := none }

theorem Job.Kept.refl (j : Job) : j.Kept j := ⟨rfl, rfl, .inl rfl⟩

theorem Job.Kept.trans {i j k : Job} (h : i.Kept j) (h' : j.Kept k) : i.Kept k := by
  obtain ⟨ht, hp, hd⟩ := h
  obtain ⟨ht', hp', hd'⟩ := h'
  refine ⟨ht'.trans ht, hp'.trans hp, ?_⟩
  rcases hd' with hd' | hd'
  · exact hd.imp hd'.trans hd'.trans
  · exact .inr hd'

/-- The state moves inside a region: the rest stays, no recompute begins or ends, jobs are kept, and no record is lost. -/
structure State.Moves (s : State) (r : Extent) (t : State) : Prop where
  frame : t = r.upd s t
  recomp : ∀ u, (t.tile u).recomp = (s.tile u).recomp
  jobs : ∀ k ∈ t.jobs, ∃ j ∈ s.jobs, j.Kept k
  events : s.events ⊆ t.events

namespace State
namespace Moves

variable {s t u : State} {a r : Extent}

theorem refl (s : State) : s.Moves r s :=
  ⟨(r.upd_self s).symm, fun _ => rfl, fun k hk => ⟨k, hk, .refl k⟩, List.Subset.refl _⟩

/-- A move that leaves the tiles, the jobs and the records alone. -/
theorem of_frame (hf : t = r.upd s t) (ht : t.tiles = s.tiles) (hj : t.jobs = s.jobs) (he : t.events = s.events) :
    s.Moves r t :=
  ⟨hf, fun u => by rw [tile, tile, ht], fun k hk => ⟨k, hj ▸ hk, .refl k⟩, he ▸ List.Subset.refl _⟩

/-- A move inside a smaller region after another move. -/
theorem after (h' : t.Moves a u) (h : s.Moves r t) (ha : a.In r := by intro _ _; rfl) : s.Moves r u where
  frame := Extent.frame_trans h.frame (ha.frame h'.frame)
  recomp v := (h'.recomp v).trans (h.recomp v)
  jobs k hk := by
    obtain ⟨j, hj, hjk⟩ := h'.jobs k hk
    obtain ⟨i, hi, hij⟩ := h.jobs j hj
    exact ⟨i, hi, hij.trans hjk⟩
  events := List.Subset.trans h.events h'.events

theorem mono (h : s.Moves a t) (ha : a.In r := by intro _ _; rfl) : s.Moves r t := after h (refl s) ha

theorem ite {c : Prop} [Decidable c] (ht : s.Moves r t) (hu : s.Moves r u) : s.Moves r (if c then t else u) := by
  split
  · exact ht
  · exact hu

theorem each {f : State → Nat → State} (hf : ∀ (t : State) n, t.Moves r (f t n)) (l : List Nat) (s : State) :
    s.Moves r (s.each l f) :=
  each_induction (P := s.Moves r) (fun t n ht => after (hf t n) ht (.refl r)) l (refl s)

theorem foldl {α : Type} {f : State → α → State} (hf : ∀ (t : State) x, t.Moves r (f t x)) (l : List α) (s : State) :
    s.Moves r (l.foldl f s) := by
  induction l generalizing s with
  | nil => exact refl s
  | cons x l ih => exact after (ih (f s x)) (hf s x) (.refl r)

/-- A walk that carries a value along with the state. -/
theorem foldl_fst {α β : Type} {f : State × β → α → State × β} (hf : ∀ (p : State × β) x, p.1.Moves r (f p x).1) (l : List α)
    (p : State × β) : p.1.Moves r (l.foldl f p).1 := by
  induction l generalizing p with
  | nil => exact refl p.1
  | cons x l ih => exact after (ih (f p x)) (hf p x) (.refl r)

end Moves

/-! ## The elementary updates -/

section
variable {s : State} {n m v : Nat} {f : Field}

theorem moves_wr : s.Moves .regs (s.wr f n v) := .of_frame rfl rfl rfl rfl

theorem moves_modTile {g : Tile → Tile} (hg : ∀ x, (g x).recomp = x.recomp) : s.Moves .tiles (s.modTile n g) where
  frame := rfl
  recomp u := by
    by_cases h : u = n
    · rw [h, tile_modTile_same, hg]
    · rw [tile_modTile_other _ _ _ _ h]
  jobs k hk := ⟨k, hk, .refl k⟩
  events := List.Subset.refl _

theorem tile_mapTiles {g : Nat → Tile → Tile} (hg : ∀ n, g n Tile.reset = Tile.reset) (u : Nat) :
    ({ s with tiles := s.tiles.map fun k => (k.1, g k.1 k.2) } : State).tile u = g u (s.tile u) := by
  simp only [tile]
  induction s.tiles with
  | nil => simp [Tbl.find, hg]
  | cons k l ih =>
    simp only [List.map_cons, Tbl.find]
    split
    · subst_vars; rfl
    · exact ih

theorem moves_mapTiles {g : Nat → Tile → Tile} (hr : ∀ n, g n Tile.reset = Tile.reset) (hg : ∀ n x, (g n x).recomp = x.recomp) :
    s.Moves .tiles { s with tiles := s.tiles.map fun k => (k.1, g k.1 k.2) } where
  frame := rfl
  recomp u := by rw [tile_mapTiles hr, hg]
  jobs k hk := ⟨k, hk, .refl k⟩
  events := List.Subset.refl _

theorem mem_modJob {g : Job → Job} {k : Job} (hk : k ∈ (s.modJob n g).jobs) :
    (k ∈ s.jobs ∧ k.tag ≠ n) ∨ ∃ j ∈ s.jobs, j.tag = n ∧ g j = k := by
  obtain ⟨j, hj, rfl⟩ := List.mem_map.mp hk
  by_cases h : j.tag = n
  · exact .inr ⟨j, hj, h, by rw [if_pos h]⟩
  · exact .inl ⟨by rwa [if_neg h], by rwa [if_neg h]⟩

theorem moves_modJob {g : Job → Job} (hg : ∀ j : Job, j.Kept (g j)) : s.Moves .jobs (s.modJob n g) where
  frame := rfl
  recomp _ := rfl
  jobs k hk := by
    obtain ⟨hk, -⟩ | ⟨j, hj, -, rfl⟩ := mem_modJob hk
    · exact ⟨k, hk, .refl k⟩
    · exact ⟨j, hj, hg j⟩
  events := List.Subset.refl _

theorem moves_modPort {g : Port → Port} : s.Moves .ports (s.modPort n g) := .of_frame rfl rfl rfl rfl
theorem moves_setPort {x : Port} : s.Moves .ports (s.setPort n x) := .of_frame rfl rfl rfl rfl
theorem moves_modMbox {g : Mailbox → Mailbox} : s.Moves .slots (s.modMbox n g) := .of_frame rfl rfl rfl rfl
theorem moves_setHist {x : History} : s.Moves .logged (s.setHist n x) := .of_frame rfl rfl rfl rfl
theorem moves_modSess {g : Session → Session} : s.Moves .charged (s.modSess n g) := .of_frame rfl rfl rfl rfl
theorem moves_lifeInc : s.Moves .charged (s.lifeInc n m v) := .of_frame rfl rfl rfl rfl
theorem moves_modRegul {g : Regul → Regul} : s.Moves .rails (s.modRegul n g) := .of_frame rfl rfl rfl rfl

theorem moves_irq : s.Moves .slots (s.irq n m) := by
  unfold irq
  split
  · dsimp only
    split <;> exact .of_frame rfl rfl rfl rfl
  · exact .refl s

/-! ## The journal and the records (R422, R432 to R437) -/

theorem moves_setSector {x : Sector} : s.Moves .journal (s.setSector n x) := .of_frame rfl rfl rfl rfl

theorem moves_openSector : s.Moves .journal (s.openSector n m) := .after moves_wr moves_setSector

theorem moves_putEntry {e : JEntry} : s.Moves .journal (s.putEntry n e) := moves_setSector

theorem moves_snapHere : s.Moves .journal s.snapHere := by
  unfold snapHere inc
  have hp := Moves.foldl (r := .journal) (f := fun s e => s.putEntry (s.rd LREC_STAT_HEAD 0) e) (fun _ _ => moves_putEntry)
    s.snapEntries s
  have hm (t : State) (n : Nat) : t.Moves .journal { t with snapMin := n } := .of_frame rfl rfl rfl rfl
  exact .after moves_wr (.after (hm _ _) hp)

theorem moves_advanceHead : s.Moves .journal (s.advanceHead n) := by
  unfold advanceHead
  split
  · exact .refl s
  · have ht (i k : Nat) : s.Moves .journal ((s.openSector i k).wr LREC_STAT_HEAD 0 i) := .after moves_wr moves_openSector
    dsimp only
    split
    · exact .after moves_snapHere (ht ..)
    · exact ht ..

theorem moves_snapAhead {e : JEntry} : s.Moves .journal (s.snapAhead e) := by
  unfold snapAhead
  dsimp only
  split
  · exact .refl s
  · split
    · exact moves_snapHere
    · exact .refl s

theorem moves_append {e : JEntry} {c : Bool} : s.Moves .journal (s.append e c) := by
  unfold append
  refine .after moves_putEntry (.after (a := .journal) ?_ (moves_snapAhead (e := e)))
  split
  · exact moves_openSector
  · split
    · exact moves_advanceHead
    · exact .refl _

theorem moves_snapState : s.Moves .journal s.snapState := by
  unfold snapState
  split
  · exact .mono moves_wr
  · exact .refl s

theorem moves_flush : s.Moves .journal s.flush := by
  unfold flush
  split
  · exact .refl s
  · refine .after moves_snapState (.after (Moves.foldl (r := .journal) (fun _ _ => moves_append) _ _) ?_)
    exact .after (a := .journal) (.of_frame rfl rfl rfl rfl) (.mono moves_wr)

theorem moves_trimBuffer : s.Moves .journal (s.trimBuffer n) := by
  induction n generalizing s with
  | zero => exact .refl s
  | succ n ih =>
    unfold trimBuffer cnt
    split
    · exact .refl s
    · split
      · exact .refl s
      · exact .after ih (.after moves_wr (.of_frame rfl rfl rfl rfl))

theorem moves_journal {b : Bytes} : s.Moves .journal (s.journal n b) := by
  unfold journal inc
  split
  · exact .refl s
  · have ht (q : JEntry) (o : Bool) (k v : Nat) : s.Moves .journal
        (({ s with buffer := s.buffer ++ [q], histOwed := o }.wr LREC_SEQ_NEXT 0 v).trimBuffer k) :=
      .after moves_trimBuffer (.after moves_wr (.of_frame rfl rfl rfl rfl))
    dsimp only
    split
    · exact ht ..
    · exact .after moves_flush (ht ..)

theorem moves_journalEvent {e : EventRec} : s.Moves .journal (s.journalEvent e) := by
  unfold journalEvent
  have hc (c : Tbl (Nat × Nat)) : s.Moves .journal { s with coalesced := c } := .of_frame rfl rfl rfl rfl
  split
  · exact moves_journal
  · dsimp only
    split
    · split
      · exact .after moves_wr (hc _)
      · exact .after moves_journal (hc _)
    · exact .after moves_journal (hc _)

theorem moves_journalState : s.Moves .journal s.journalState := moves_journal

section
variable {code unit opcode cls flow reps : Nat} {j : Option Job} {detail : Bytes} {tenant : Option Nat}

/-- The state of a report before it is journalled, and its record. -/
theorem event_eq : ∃ (e : EventRec) (h : Tbl History), e.code = code ∧ e.unit = unit ∧ e.cls = cls
    ∧ s.event code unit j opcode detail cls flow reps tenant
      = { s with histories := h, events := s.events ++ [e], evSeq := s.evSeq + 1 }.journalEvent e := by
  unfold event
  dsimp only
  split
  · exact ⟨_, _, rfl, rfl, rfl, rfl⟩
  · exact ⟨_, _, rfl, rfl, rfl, rfl⟩

/-- A record is reported: it comes last. -/
theorem events_event : ∃ e : EventRec, e.code = code ∧ e.unit = unit ∧ e.cls = cls
    ∧ (s.event code unit j opcode detail cls flow reps tenant).events = s.events ++ [e] := by
  obtain ⟨e, h, hc, hu, hk, he⟩ := event_eq (s := s) (code := code) (unit := unit) (j := j) (opcode := opcode)
    (detail := detail) (cls := cls) (flow := flow) (reps := reps) (tenant := tenant)
  exact ⟨e, hc, hu, hk, he ▸ congrArg State.events moves_journalEvent.frame⟩

theorem moves_event : s.Moves .logged (s.event code unit j opcode detail cls flow reps tenant) := by
  obtain ⟨e, h, -, -, -, he⟩ := event_eq (s := s) (code := code) (unit := unit) (j := j) (opcode := opcode)
    (detail := detail) (cls := cls) (flow := flow) (reps := reps) (tenant := tenant)
  rw [he]
  exact .after moves_journalEvent
    ⟨rfl, fun _ => rfl, fun k hk => ⟨k, hk, .refl k⟩, fun x hx => List.mem_append_left _ hx⟩
end

/-! ## Flits that a port sends (R361 to R366) -/

theorem moves_pumpPort : s.Moves .ports (s.pumpPort n) := moves_modPort

theorem moves_sendFlit {type flags tag : Nat} {body : Bytes} : s.Moves .ports (s.sendFlit n type flags body tag) := by
  unfold sendFlit
  dsimp only
  split
  · exact .after moves_pumpPort moves_modPort
  · exact moves_modPort

theorem moves_sendIds {type : Nat} {l : List Nat} : s.Moves .ports (s.sendIds n type m l) := by
  induction m generalizing s l with
  | zero => exact .refl s
  | succ m ih =>
    unfold sendIds
    split
    · exact .refl s
    · exact .after ih moves_sendFlit

theorem moves_retractJob {tag : Nat} : s.Moves .ports (s.retractJob n tag) := by
  unfold retractJob
  exact .after (.each (r := .ports) (fun _ _ => moves_sendFlit) _ _) (.after moves_sendIds moves_setPort)

/-! ## The halt of a job (R205, R216, R217, R224) -/

theorem moves_mesh {l : List Msg} : s.Moves .halt { s with mesh := l } := .of_frame rfl rfl rfl rfl

theorem moves_keepCredits {p : Credit → Bool} : s.Moves .halt (s.keepCredits p) := .of_frame rfl rfl rfl rfl

theorem moves_bgSet {k st status : Nat} {res : Bytes} : s.Moves .slots (s.bgSet n k st status res) := by
  unfold bgSet
  split
  · exact .refl s
  · exact .after moves_irq moves_modMbox

theorem moves_wdogHold : s.Moves .tiles (s.wdogHold n) := by
  unfold wdogHold
  exact moves_modTile fun _ => rfl

theorem moves_wdogGo : s.Moves .tiles (s.wdogGo n) := by
  unfold wdogGo
  split
  · exact moves_modTile fun _ => rfl
  · exact moves_wdogHold

theorem moves_refund {m : Msg} : s.Moves .regs (s.refund m) := by
  unfold refund
  dsimp only
  split
  · exact moves_wr
  · exact .refl s

theorem moves_dropGuarded : s.Moves .tiles (s.dropGuarded n) :=
  moves_mapTiles (g := fun _ x => { x with guarded := x.guarded.filter fun g => match g.2 with | .xfer _ o => decide (o ≠ n) | _ => true })
    (fun _ => rfl) (fun _ _ => rfl)

theorem moves_bookBusy : s.Moves .tiles (s.bookBusy n) := by
  unfold bookBusy
  split
  · exact .refl s
  · exact moves_modTile fun _ => rfl

theorem moves_abandon : s.Moves .halt (s.abandon n) := by
  unfold abandon setOpen
  refine .after moves_wr (.after (moves_modTile fun _ => rfl) (.after moves_bookBusy (.after moves_dropGuarded moves_mesh)))

theorem moves_abortCkpt : s.Moves .halt (s.abortCkpt n) := by
  unfold abortCkpt
  split
  · exact .refl s
  · refine .after (a := .halt) (.each (fun _ _ => ?_) _ _) (.after (moves_modJob fun _ => ⟨rfl, rfl, .inl rfl⟩) ?_)
    · exact .after moves_wdogGo (.mono (moves_modTile fun _ => rfl))
    · split
      · exact .mono moves_bgSet
      · exact .refl s

theorem moves_dropLone {j : Job} : s.Moves .tiles (s.dropLone j) := by
  refine .each (fun t v => ?_) _ _
  split
  · exact .refl t
  · exact moves_modTile fun _ => rfl

theorem moves_haltJob : s.Moves .halt (s.haltJob n) := by
  unfold haltJob
  split
  · exact .refl s
  · refine .after moves_keepCredits (.after moves_mesh (.after (a := .halt) (.each (fun _ _ => ?_) _ _) (.mono moves_dropLone)))
    exact .after moves_wdogHold (.after (moves_modTile fun _ => rfl) moves_abandon)

theorem moves_dropHeld : s.Moves .held (s.dropHeld n) := by
  have h := Moves.each (r := .ports) (f := fun s p => s.retractJob p n) (fun _ _ => moves_retractJob) (List.range 8) s
  have hr (t : State) : t.Moves .held { t with ringHeld := t.ringHeld.filter fun h => h.msg.job != n } := .of_frame rfl rfl rfl rfl
  exact .after (hr _) (.mono h)

/-- The job's work is given up: its tiles halted, what it has not released gone. -/
def quieted (s : State) (tag : Nat) : State := (((s.outbound tag).foldl State.refund (s.abortCkpt tag)).haltJob tag).dropHeld tag

theorem moves_quieted : s.Moves .halt (s.quieted n) :=
  .after moves_dropHeld (.after moves_haltJob (.after (Moves.foldl (r := .regs) (fun _ _ => moves_refund) _ _) moves_abortCkpt))

/-- The state in which the restart of a job is recorded. -/
def halted (s : State) (tag : Nat) (park : Bool) : State := (s.quieted tag).modJob tag (Job.restarted (s.quieted tag).now park)

theorem moves_halted {park : Bool} : s.Moves .halt (s.halted n park) :=
  .after (moves_modJob fun _ => ⟨rfl, rfl, .inr rfl⟩) moves_quieted

end
end State
end Sys2Proof.Machine

/-! PROOFS, continued: a job's restart, and a charge with the drain that it may begin. -/
namespace Sys2Proof.Machine
namespace State

variable {s : State} {n m v : Nat} {f : Field}

/-! ## The restart of a job (R205, R216, R217) -/

/-- With its job, a restart halts it and records that. -/
theorem beginRestart_eq {j : Job} {park : Bool} (h : s.jobByTag n = some j) :
    s.beginRestart n park = (s.halted n park).event evJobRestart stratumUnit (some j) := by
  simp only [beginRestart, h]
  rfl

theorem moves_beginRestart {park : Bool} : s.Moves .restart (s.beginRestart n park) := by
  cases h : s.jobByTag n with
  | none =>
    simp only [beginRestart, h]
    exact .refl s
  | some j =>
    rw [beginRestart_eq h]
    exact .after moves_event (.mono moves_halted)

/-! ## Charges (R231, R425 to R428) -/

theorem moves_setDstate : s.Moves .charged (s.setDstate n) := by
  have hd : s.Moves .charged { s with dstate := n } := .of_frame rfl rfl rfl rfl
  unfold setDstate
  refine .ite (.refl s) (.after moves_journalState (.after moves_event (.after (a := .charged) (.each (fun _ _ => ?_) _ _) hd)))
  exact .after moves_irq (.mono moves_wr)

/-- DSTATE goes to 1 as a drain begins. -/
theorem moves_startDrain : s.Moves .charged (if s.dstate = 0 ∨ s.dstate = 2 then s.setDstate 1 else s) :=
  .ite moves_setDstate (.refl s)

theorem moves_drainUnits {o : Option Nat} {l : List Nat} : s.Moves .charged { s with drain := o, drainUnits := l } :=
  .of_frame rfl rfl rfl rfl

theorem moves_suspect {tied : Bool} : s.Moves .charged (s.suspect n tied) := by
  unfold suspect
  refine .ite (.refl s) (.after moves_startDrain (.after moves_drainUnits (.after (a := .charged) (.each (fun t tag => ?_) _ _) ?_)))
  · split
    · exact .refl t
    · refine .ite (.ite (.mono moves_beginRestart) (.mono (moves_modJob fun _ => ?_))) (.ite (.mono (moves_modJob fun _ => ?_)) (.refl t))
        <;> exact ⟨rfl, rfl, .inl rfl⟩
  · exact .after moves_wr (.after moves_event (.after moves_event (.mono moves_setHist)))

theorem moves_enterCharge {cls code seq : Nat} {atOnce tied : Bool} :
    s.Moves .charged (s.enterCharge n cls code seq atOnce tied) := by
  have ht (h : History) (b : Bytes) : s.Moves .charged ((s.setHist n h).journal 2 b) := .after moves_journal (.mono moves_setHist)
  unfold enterCharge
  exact .ite (.after moves_suspect (ht ..)) (ht ..)

section
variable {cls code opcode : Nat} {j : Option Job} {detail : Bytes} {atOnce tied : Bool}

theorem moves_charge : s.Moves .charged (s.charge n cls code j opcode detail atOnce tied) :=
  .after moves_enterCharge (.mono moves_event)

/-- The record of a charge. -/
theorem event_mem_charge : ∃ e ∈ (s.charge n cls code j opcode detail atOnce tied).events,
    e.code = code ∧ e.unit = n ∧ e.cls = cls := by
  obtain ⟨e, hc, hu, hk, he⟩ := events_event (s := s) (code := code) (unit := n) (j := j) (opcode := opcode) (detail := detail)
    (cls := cls) (flow := 0) (reps := 1) (tenant := none)
  exact ⟨e, moves_enterCharge.events (he ▸ List.mem_append_right _ (List.mem_singleton.mpr rfl)), hc, hu, hk⟩
end

/-! ## The notch of a tile (R107, R274 to R278, R332) -/

theorem moves_reinSend {toTile : Bool} {type payload : Nat} : s.Moves .tiles (s.reinSend n toTile type payload) :=
  moves_modTile fun x => by cases toTile <;> rfl

theorem moves_ackTile {status : Nat} : s.Moves .tiles (s.ackTile n status m) := by
  unfold ackTile
  split
  · exact moves_reinSend
  · exact .refl s

theorem moves_slewTo : s.Moves .rails (s.slewTo n m) := .after moves_wr (.after moves_wr moves_modRegul)

theorem moves_freeze : s.Moves .rails (s.freeze n) := .after moves_wr (.after moves_wr moves_modRegul)

theorem moves_retarget : s.Moves .rails (s.retarget n) := by
  unfold retarget
  split
  · exact moves_freeze
  · exact moves_slewTo

theorem moves_allPhases : s.Moves .rails (s.allPhases n) := by
  have ht : s.Moves .rails (if s.regState n = rsBurst then
      s.wr TLR_STAT_STATE n (if s.rdb TLR_TIE_SOURCE n then rsSource else rsRegulate) else s) := .ite (.mono moves_wr) (.refl s)
  unfold allPhases
  exact .ite (.after moves_modRegul (.after moves_wr ht)) ht

theorem moves_setPoint : s.Moves .notch (s.setPoint n m v) := by
  have hset (c : Nat) : s.Moves .notch (if n < 1024 then (s.wr TLR_SET_VSET n c).wr TLR_SET_NOTCH n v else s.wr TLR_SET_VSET n c) :=
    .ite (.after moves_wr (.mono moves_wr)) (.mono moves_wr)
  unfold setPoint
  refine .ite (hset _) (.after moves_retarget (.after (a := .notch) (.ite (.mono (moves_modTile fun _ => rfl)) (.refl _))
    (.after moves_modRegul (.after (a := .notch) (.ite (.mono moves_allPhases) (.refl _)) ?_))))
  split
  · exact .after moves_ackTile (.after moves_wr (hset _))
  · exact .after moves_wr (hset _)

theorem moves_goNotch : s.Moves .notch (s.goNotch n m) := by
  unfold goNotch
  split
  · exact .refl s
  · exact .after moves_setPoint moves_setPoint

theorem moves_clock {stop : Bool} : s.Moves .tiles (s.clock n stop) := by
  unfold clock settle
  exact .after (moves_modTile fun _ => rfl) (moves_modTile fun _ => rfl)

/-! ## Captures (R67, R210) -/

theorem moves_captureDual {unit msg lag seq : Nat} : s.Moves .regs (s.captureDual n unit msg lag seq) := by
  unfold captureDual
  split
  · exact .refl s
  · exact .after moves_wr (.after moves_wr (.after moves_wr (.after moves_wr moves_wr)))

theorem moves_clearCaptures {twin : Option Nat} : s.Moves .regs (s.clearCaptures n twin) := by
  unfold clearCaptures
  have hall (t : State) : t.Moves .regs (t.each (n :: twin.toList) fun t u => t.wr NBC_DUAL_MISMATCH u 0) :=
    .each (fun _ _ => moves_wr) _ t
  have hviol (c : Prop) [Decidable c] : s.Moves .regs (if c then s else s.wr NBC_STATUS_VIOL n 0) := .ite (.refl s) moves_wr
  have hshadow (t : State) (c : Prop) [Decidable c] : t.Moves .regs (if c then t else t.wr NBC_VSH_STAT_MISMATCH n 0) :=
    .ite (.refl t) moves_wr
  exact .ite (.after (hshadow ..) (hviol _)) (.after (hall _) (.after (hshadow ..) (hviol _)))

/-! ## A column's lines as the stratum reads them (R220, R242 to R249) -/

theorem moves_putLine {l : Line} : s.Moves .tiles (s.putLine n m l) := moves_modTile fun _ => rfl

theorem moves_vchErr : s.Moves .regs (s.vchErr n m v) := .after moves_wr moves_wr

theorem moves_crcErr : s.Moves .charged (s.crcErr n m) :=
  .after (moves_modTile fun _ => rfl) (.after moves_lifeInc (.mono moves_wr))

theorem moves_poisonRead : s.Moves .charged (s.poisonRead n m) := .after moves_event (.after moves_lifeInc (.mono moves_vchErr))

theorem moves_poison : s.Moves .charged (s.poison n m) :=
  .after moves_charge (.after moves_lifeInc (.after moves_vchErr (.after moves_wr (.mono moves_putLine))))

theorem moves_markWritten : s.Moves .charged (s.markWritten n) := by
  unfold markWritten
  split
  · exact .refl s
  · exact moves_modSess

theorem moves_settleRaw : s.Moves .charged (s.settleRaw n m) := by
  unfold settleRaw
  split
  · refine .ite (.after moves_event (.after moves_lifeInc (.after moves_vchErr (.after moves_wr ?_)))) moves_poison
    split
    · exact .mono moves_putLine
    · exact .refl s
  · exact moves_poison

/-- A read of a line changes what its handling and a charge may. -/
theorem moves_readWith {settle : State → State} (h : ∀ t : State, t.Moves .charged (settle t)) :
    s.Moves .charged (s.readWith settle n m v).1 := by
  unfold readWith
  dsimp only
  split
  · exact .after (h _) (.after moves_vchErr moves_crcErr)
  · exact moves_poisonRead
  · exact .ite (.mono moves_vchErr) (.refl s)

theorem moves_undoLine : s.Moves .charged (s.undoLine n m).1 := by
  unfold undoLine
  dsimp only
  split
  · exact .refl s
  · exact moves_readWith fun _ => moves_settleRaw

theorem moves_blockLines : s.Moves .charged (s.blockLines n m).1 := by
  refine Moves.foldl_fst (fun p i => ?_) _ (s, [])
  dsimp only
  split
  · dsimp only
    exact .mono (moves_modTile fun _ => rfl)
  · exact moves_undoLine

theorem moves_undoFor : s.Moves .charged (s.undoFor n m) := by
  have ht : s.Moves .charged ((s.blockLines n (m / 64)).1.modTile n fun x => { x with
      undo := (m / 64, (s.blockLines n (m / 64)).2) :: x.undo, logBytes := x.logBytes + 64 + 4096 }) :=
    .after (moves_modTile fun _ => rfl) moves_blockLines
  unfold undoFor
  exact .ite (.refl s) (.ite (.after (moves_modJob fun _ => ⟨rfl, rfl, .inl rfl⟩) ht) ht)

theorem moves_settleFailed : s.Moves .charged (s.settleFailed n m) := by
  have hr : s.Moves .charged ((s.undoFor n m).markWritten n) := .after moves_markWritten moves_undoFor
  unfold settleFailed
  exact .ite moves_settleRaw (.ite hr (.after moves_settleRaw hr))

theorem moves_readLine : s.Moves .charged (s.readLine n m v).1 := moves_readWith fun _ => moves_settleFailed

end State
end Sys2Proof.Machine

/-! PROOFS of the statements about flocks and periods (R28, R227 to R230, R354): a digest point, the decision on it, the
scheduler's next period, and what waits in ingest. -/
namespace Sys2Proof.Machine

namespace Extent

/-- What a decision on a digest point changes: what a charge may, and the records of the points. -/
def decision : Extent := ⟨fun s t => { s.logged t with
  credits := t.credits, creditQ := t.creditQ, drain := t.drain, drainUnits := t.drainUnits, dstate := t.dstate, jobs := t.jobs, life := t.life
  mboxes := t.mboxes, mesh := t.mesh, msix := t.msix, msixPend := t.msixPend, ports := t.ports, ringHeld := t.ringHeld, sessions := t.sessions
  tiles := t.tiles, flockAt := t.flockAt, flockDone := t.flockDone, flocks := t.flocks },
  fun _ => rfl, fun _ _ _ => rfl, fun _ _ => rfl⟩

/-- What a digest point changes: what a decision may, and the number of the next record. -/
def digest : Extent := ⟨fun s t => { s.logged t with
  credits := t.credits, creditQ := t.creditQ, drain := t.drain, drainUnits := t.drainUnits, dstate := t.dstate, jobs := t.jobs, life := t.life
  mboxes := t.mboxes, mesh := t.mesh, msix := t.msix, msixPend := t.msixPend, ports := t.ports, ringHeld := t.ringHeld, sessions := t.sessions
  tiles := t.tiles, drecSeq := t.drecSeq, flockAt := t.flockAt, flockDone := t.flockDone, flocks := t.flocks },
  fun _ => rfl, fun _ _ _ => rfl, fun _ _ => rfl⟩

/-- What the admission of a waiting message changes. -/
def admission : Extent := ⟨fun s t => { s with mesh := t.mesh, ports := t.ports }, fun _ => rfl, fun _ _ _ => rfl, fun _ _ => rfl⟩

/-- What the start of a scheduler's period changes. -/
def period : Extent := ⟨fun s t => { s.logged t with tiles := t.tiles, jobs := t.jobs, mesh := t.mesh, ports := t.ports },
  fun _ => rfl, fun _ _ _ => rfl, fun _ _ => rfl⟩

theorem upd_decision (s t : State) :
    decision.upd s t = { s.charged t with flockAt := t.flockAt, flockDone := t.flockDone, flocks := t.flocks } := rfl

theorem upd_digest (s t : State) : digest.upd s t
    = { s.charged t with drecSeq := t.drecSeq, flockAt := t.flockAt, flockDone := t.flockDone, flocks := t.flocks } := rfl

end Extent

namespace State

variable {s : State} {n m v : Nat}

/-! ## Digests (R227, R228) -/

theorem moves_ckptLine : s.Moves .charged (s.ckptLine n m).1 := by
  unfold ckptLine
  split
  · exact .refl s
  · exact moves_readLine

theorem moves_tileDigest {j : Job} : s.Moves .charged (s.tileDigest j n).1 := by
  refine Moves.foldl_fst (fun p l => ?_) _ (s, [])
  dsimp only
  split
  · exact moves_ckptLine
  · exact moves_readLine

/-- The tiles of a member have taken and kept their digests of a point. -/
def keepDigests (s : State) (j : Job) (point done : Nat) : State := s.each j.tiles fun s t =>
  let d := s.tileDigest j t
  d.1.modTile t fun x => { x with digests := (point, d.2) :: x.digests.filter (fun k => decide (done ≤ k.1)) }

theorem moves_keepDigests {j : Job} : s.Moves .charged (s.keepDigests j n m) := by
  unfold keepDigests
  refine .each (fun t u => ?_) _ _
  exact .after (a := .tiles) (moves_modTile fun _ => rfl) (moves_tileDigest (s := t) (j := j) (n := u))

/-! ## Records and decisions (R229, R230, R375) -/

theorem moves_detect {op : Option UnitOp} : s.Moves .tiles (s.detect n m op v) := .ite (moves_modTile fun _ => rfl) (.refl s)

theorem moves_sendRecord {skip hops : Nat} {r : FlockRec} : s.Moves .ports (s.sendRecord n skip hops r) :=
  .each (fun _ _ => moves_sendFlit) _ _

theorem moves_askDigests {j : Job} {origin first : Nat} : s.Moves .ports (s.askDigests j n origin first) :=
  .each (fun _ _ => moves_sendFlit) _ _

theorem moves_expelDone {j : Job} {l : List Nat} : s.Moves .charged (s.expelDone j l) :=
  .after (a := .charged) (.each (fun _ _ => moves_charge) _ _) (.after moves_event (.mono (moves_modJob fun _ => ⟨rfl, rfl, .inl rfl⟩)))

theorem moves_expel {j : Job} {major : Bytes} {l : List Nat} : s.Moves .charged (s.expel j n major l) := by
  have hs : s.Moves .charged (if j.state = 3 then s.beginRestart j.tag true
      else s.modJob j.tag fun j => { j with restart := j.restart.map fun r => { r with park := true } }) :=
    .ite (.mono moves_beginRestart) (.mono (moves_modJob fun _ => ⟨rfl, rfl, .inl rfl⟩))
  unfold expel
  dsimp only
  split
  · exact .after moves_expelDone hs
  · split
    · exact .after moves_askDigests (.after (moves_modJob fun _ => ⟨rfl, rfl, .inl rfl⟩) hs)
    · exact .after moves_expelDone hs

theorem moves_flockRestart {l : List Job} : s.Moves .tiles (s.flockRestart l) := .foldl (fun _ _ => moves_detect) _ _

/-- A point is decided: its place in the tables of the flocks. -/
def closePoint (s : State) (flock kind point : Nat) : State := { s with
  flockDone := s.flockDone.set (flock * 4 + kind) point
  flockAt := s.flockAt.del (flockKey flock kind point)
  flocks := s.flocks.filter fun r => !(r.flock == flock && r.kind == kind && decide (r.point < point)) }

variable {flock kind point : Nat}

theorem moves_decideFlock : (s.closePoint flock kind point).Moves .charged (s.decideFlock flock kind point) := by
  have hgone (l : List Job) : (s.closePoint flock kind point).Moves .charged
      (l.foldl (fun s j => s.event evFlockMissed stratumUnit (some j)) (s.closePoint flock kind point)) :=
    .foldl (fun _ _ => .mono moves_event) _ _
  unfold decideFlock
  refine .ite (.ite (.after moves_event (hgone _)) (hgone _)) (.ite (hgone _) (.ite (.after moves_flockRestart (hgone _)) ?_))
  split
  · exact .after moves_flockRestart (.after moves_event (hgone _))
  · exact .after (a := .charged) (.foldl (fun _ _ => .ite (.refl _) moves_expel) _ _) (hgone _)

theorem moves_closePoint : s.Moves .decision (s.closePoint flock kind point) := .of_frame rfl rfl rfl rfl

theorem moves_decision : s.Moves .decision (s.decideFlock flock kind point) := .after moves_decideFlock moves_closePoint

end State
end Sys2Proof.Machine

/-! PROOFS, continued: the digest point and its decision. -/
namespace Sys2Proof.Machine
namespace State

variable {s : State} {n m flock kind point : Nat}

/-! ## A digest point (R227 to R229) -/

/-- Whether the records of a point come after its decision. -/
def lateRecord (s : State) (r : FlockRec) : Bool :=
  match s.flockDone.find (r.flock * 4 + r.kind) with | some n => decide (r.point ≤ n) | none => false

theorem lateRecord_eq_false {r : FlockRec} (h : ∀ n, s.flockDone.find (r.flock * 4 + r.kind) = some n → n < r.point) :
    s.lateRecord r = false := by
  unfold lateRecord
  split
  case h_1 n hn => exact decide_eq_false (Nat.not_le.mpr (h n hn))
  case h_2 => rfl

/-- A record that comes in time is kept with the others of its point. -/
theorem flocks_addRecord {r : FlockRec} (h : s.lateRecord r = false) : (s.addRecord r).flocks = s.flocks ++ [r] := by
  have hr : s.addRecord r = if s.lateRecord r then s else _ := rfl
  rw [hr, if_neg (ne_true_of_eq_false h)]

theorem moves_addRecord {r : FlockRec} : s.Moves .decision (s.addRecord r) :=
  .ite (.refl s) (.of_frame rfl rfl rfl rfl)

theorem moves_tryFlock : s.Moves .decision (s.tryFlock flock kind point) := .ite moves_decision (.refl s)

theorem flocks_decideFlock : (s.decideFlock flock kind point).flocks
    = s.flocks.filter fun r => !(r.flock == flock && r.kind == kind && decide (r.point < point)) :=
  congrArg State.flocks moves_decideFlock.frame

/-- A decision keeps the records of its own point. -/
theorem mem_flocks_tryFlock {r : FlockRec} (hr : r ∈ s.flocks) (hp : point ≤ r.point) : r ∈ (s.tryFlock flock kind point).flocks := by
  unfold tryFlock
  split
  · rw [flocks_decideFlock]
    exact List.mem_filter.mpr ⟨hr, by simp [Nat.not_lt.mpr hp]⟩
  · exact hr

/-- The record that a member's stack makes of a point. -/
def ownRecord (s : State) (j : Job) (point : Nat) : FlockRec :=
  ⟨j.policy.flock, j.policy.kind, point, s.stackId, s.drecSeq, s.memberDigest j point, j.tiles.length⟩

/-- The record's number is taken and the job's point noted. -/
def notePoint (s : State) (job point : Nat) : State :=
  ({ s with drecSeq := (s.drecSeq + 1) % 2 ^ 32 } : State).modJob job fun j => { j with digestAt := point, digestDue := none }

/-- A record of a member's own goes out, and its point is decided where no other is awaited. -/
def tellRecord (s : State) (j : Job) (r : FlockRec) : State :=
  ((s.addRecord r).sendRecord j.fn 8 3 r).tryFlock r.flock r.kind r.point

theorem moves_tellRecord {j : Job} {r : FlockRec} : s.Moves .decision (s.tellRecord j r) :=
  .after moves_tryFlock (.after moves_sendRecord moves_addRecord)

theorem mem_flocks_tellRecord {j : Job} {r : FlockRec} (h : s.lateRecord r = false) : r ∈ (s.tellRecord j r).flocks := by
  refine mem_flocks_tryFlock ?_ (Nat.le_refl _)
  have hs : ((s.addRecord r).sendRecord j.fn 8 3 r).flocks = (s.addRecord r).flocks := (congrArg State.flocks moves_sendRecord.frame :)
  rw [hs, flocks_addRecord h]
  exact List.mem_append_right _ (List.mem_singleton.mpr rfl)

/-- A digest point with nothing in its way. -/
theorem exec_digestPoint {job : Nat} {j : Job} (hj : s.jobByTag job = some j) (hp : s.digestPoint j = some n)
    (hd : s.phase ≠ .drover) (hl : (j.tiles.any fun v => (j.weightLines v).any (s.lineHeld v)) = false) :
    ∃ m, exec (.digestPoint job) s = .next (((s.keepDigests j n m).notePoint job n).tellRecord j ((s.keepDigests j n m).ownRecord j n)) := by
  refine ⟨(s.flockDone.find (j.policy.flock * 4 + j.policy.kind)).getD 0, ?_⟩
  change execDigestPoint job s = _
  simp only [execDigestPoint, hj, hp, hd, hl, Bool.false_eq_true, or_self, if_false]
  rfl

theorem frame_notePoint {job : Nat} (h : s.Moves .charged t) : t.notePoint job n = Extent.digest.upd s (t.notePoint job n) := by
  have hd : Extent.charged.In .digest := fun _ _ => rfl
  exact Extent.frame_trans (hd.frame h.frame) rfl

/-- At a digest point with nothing in its way a member keeps its tile digests and adds its record (R227 to R229). -/
theorem completes_digestPoint {job : Nat} {j : Job} (hj : s.jobByTag job = some j) (hp : s.digestPoint j = some n)
    (hd : s.phase ≠ .drover) (hl : (j.tiles.any fun v => (j.weightLines v).any (s.lineHeld v)) = false)
    (hm : ∀ m, s.flockDone.find (j.policy.flock * 4 + j.policy.kind) = some m → m < n) : Completes (.digestPoint job) s fun t =>
      t.drecSeq = (s.drecSeq + 1) % 2 ^ 32 ∧ (∀ k ∈ t.jobs, k.tag = job → k.digestAt = n ∧ k.digestDue = none)
        ∧ (∃ r ∈ t.flocks, r.flock = j.policy.flock ∧ r.kind = j.policy.kind ∧ r.point = n ∧ r.origin = s.stackId
          ∧ r.recSeq = s.drecSeq)
        ∧ t = { s.charged t with drecSeq := t.drecSeq, flockAt := t.flockAt, flockDone := t.flockDone, flocks := t.flocks } := by
  obtain ⟨m, he⟩ := exec_digestPoint hj hp hd hl
  have hk : s.Moves .charged (s.keepDigests j n m) := moves_keepDigests
  have ht := moves_tellRecord (s := (s.keepDigests j n m).notePoint job n) (j := j) (r := (s.keepDigests j n m).ownRecord j n)
  have hseq : (s.keepDigests j n m).drecSeq = s.drecSeq := (congrArg State.drecSeq hk.frame :)
  have hid : (s.keepDigests j n m).stackId = s.stackId := (congrArg State.stackId hk.frame :)
  have hdone : (s.keepDigests j n m).flockDone = s.flockDone := (congrArg State.flockDone hk.frame :)
  refine completes_of_exec he ⟨?_, fun k hk hkt => ?_, ⟨_, mem_flocks_tellRecord (lateRecord_eq_false fun i hi => ?_), rfl, rfl, rfl, hid, hseq⟩, ?_⟩
  · exact (congrArg State.drecSeq ht.frame).trans (by rw [← hseq]; rfl)
  · obtain ⟨i, hi, hik, hat, hdue⟩ := ht.jobs k hk
    obtain ⟨-, hne⟩ | ⟨_, -, -, rfl⟩ := mem_modJob hi
    · exact absurd (hik.symm.trans hkt) hne
    · exact ⟨hat, hdue.elim id id⟩
  · exact hm i (hdone ▸ hi)
  · have hd : Extent.decision.In .digest := fun _ _ => rfl
    exact (Extent.frame_trans (frame_notePoint hk) (hd.frame ht.frame)).trans (Extent.upd_digest _ _)

end State
end Sys2Proof.Machine

/-! PROOFS, continued: the decision on a point when its time is over, and the statement about flocks and periods. -/
namespace Sys2Proof.Machine
namespace State

variable {s t : State} {flock kind point : Nat}

/-! ## The decision on a point whose time is over (R229, R230) -/

/-- The decision on a point of one kind of job, 50 ms after its first record. -/
def decideDue (s : State) (flock point kind : Nat) : State :=
  match s.flockAt.find (flockKey flock kind point) with
  | some t => if t + 50000000 ≤ s.now then s.decideFlock flock kind point else s
  | none => s

/-- The point is decided: no record of it is awaited, none of an earlier point kept. -/
structure Decided (t : State) (flock kind point : Nat) : Prop where
  at' : t.flockAt.find (flockKey flock kind point) = none
  flocks : ∀ r ∈ t.flocks, r.flock = flock → r.kind = kind → point ≤ r.point
  done : t.flockDone.find (flock * 4 + kind) = some point

theorem flockAt_decideFlock : (s.decideFlock flock kind point).flockAt = s.flockAt.del (flockKey flock kind point) :=
  congrArg State.flockAt moves_decideFlock.frame

theorem flockDone_decideFlock : (s.decideFlock flock kind point).flockDone = s.flockDone.set (flock * 4 + kind) point :=
  congrArg State.flockDone moves_decideFlock.frame

theorem decided_decideFlock : (s.decideFlock flock kind point).Decided flock kind point where
  at' := by rw [flockAt_decideFlock, Tbl.find_del_same]
  flocks r hr hf hk := by
    rw [flocks_decideFlock] at hr
    simpa [hf, hk] using (List.mem_filter.mp hr).2
  done := by rw [flockDone_decideFlock, Tbl.find_set_same]

/-- The decision on one kind leaves the other's points as they were. -/
theorem Decided.decideFlock {k : Nat} (h : s.Decided flock kind point) (hk : kind ≠ k) :
    (s.decideFlock flock k point).Decided flock kind point where
  at' := by
    rw [flockAt_decideFlock, Tbl.find_del_other _ (by unfold flockKey; omega)]
    exact h.at'
  flocks r hr := by
    rw [flocks_decideFlock] at hr
    exact h.flocks r (List.mem_filter.mp hr).1
  done := by
    rw [flockDone_decideFlock, Tbl.find_set_other _ _ (by omega)]
    exact h.done

theorem moves_decideDue : s.Moves .decision (s.decideDue flock point kind) := by
  unfold decideDue
  split
  · exact .ite moves_decision (.refl s)
  · exact .refl s

theorem Decided.decideDue {k : Nat} (h : s.Decided flock kind point) (hk : kind ≠ k) :
    (s.decideDue flock point k).Decided flock kind point := by
  unfold State.decideDue
  split
  · split
    · exact h.decideFlock hk
    · exact h
  · exact h

theorem decideDue_of_due {x : Nat} (hx : s.flockAt.find (flockKey flock kind point) = some x) (h : x + 50000000 ≤ s.now) :
    s.decideDue flock point kind = s.decideFlock flock kind point := by
  simp only [decideDue, hx, h, if_true]

theorem decideDue_of_none (hx : s.flockAt.find (flockKey flock kind point) = none) : s.decideDue flock point kind = s := by
  simp only [decideDue, hx]

/-- A decision that is due comes also after the one on the other kind. -/
theorem flockAt_decideDue_other {k : Nat} (hk : kind ≠ k) :
    (s.decideDue flock point k).flockAt.find (flockKey flock kind point) = s.flockAt.find (flockKey flock kind point) := by
  unfold decideDue
  split
  · split
    · rw [flockAt_decideFlock, Tbl.find_del_other _ (by unfold flockKey; omega)]
    · rfl
  · rfl

theorem exec_flockDecisionTimeout {flock : BitVec 16} {point : W32} (h : s.phase ≠ .drover) :
    exec (.flockDecisionTimeout flock point) s
      = .next ((s.decideDue flock.toNat point.toNat 0).decideDue flock.toNat point.toNat 1) := by
  change execFlockDecisionTimeout flock point s = _
  unfold execFlockDecisionTimeout
  rw [if_neg h]
  rfl

/-- 50 ms after the first record of a point it is decided, whichever kind of job keeps it. -/
theorem decided_decideDue {x : Nat} (hk : kind = 0 ∨ kind = 1) (hx : s.flockAt.find (flockKey flock kind point) = some x)
    (h : x + 50000000 ≤ s.now) : ((s.decideDue flock point 0).decideDue flock point 1).Decided flock kind point := by
  obtain rfl | rfl := hk
  · rw [decideDue_of_due hx h]
    exact decided_decideFlock.decideDue (by omega)
  · have hnow : (s.decideDue flock point 0).now = s.now := (congrArg State.now moves_decideDue.frame :)
    rw [decideDue_of_due ((flockAt_decideDue_other (by omega)).trans hx) (hnow ▸ h)]
    exact decided_decideFlock

/-! ## The scheduler's period and the ingest buffers (R28, R354) -/

theorem moves_admitLink {u p : Nat} : s.Moves .admission (s.admitLink u p) := by
  have hm (t : State) (l : List Msg) : t.Moves .admission { t with mesh := l } := .of_frame rfl rfl rfl rfl
  unfold admitLink
  split
  · exact .refl s
  · exact .after (hm _ _) (.mono moves_modPort)

theorem moves_admitAll {u : Nat} : s.Moves .admission (s.admitAll u) := by
  unfold admitAll
  refine .foldl (fun t k => ?_) _ _
  split
  · exact .ite (.refl t) moves_admitLink
  · exact .refl t

theorem admitAll_of_nil {u : Nat} (h : s.linkTokens u = []) : s.admitAll u = s := by
  simp only [admitAll, h, List.foldl_nil]

theorem moves_barrier {j : Job} {k done : Nat} : s.Moves .period (s.barrier j k done) := by
  unfold barrier
  refine .ite (.mono (moves_modJob fun _ => ⟨rfl, rfl, .inl rfl⟩)) (.after (a := .ports) (.each (fun _ _ => ?_) _ _)
    (.mono (moves_modJob fun _ => ⟨rfl, rfl, .inl rfl⟩)))
  exact moves_modPort

/-- The schedule of a period that begins at its time. -/
structure Begins (x y : Sched) (a : Nat) : Prop where
  start : y.s = a
  begun : y.begun = true
  done : y.done = 0
  number : y.k = if x.begun then x.k + 1 else 0

/-- A tile's next period begins at its time, and messages are admitted to it. -/
theorem exec_schedulerPeriod {u : TileId} {j : Job} {a : Nat} (hj : s.jobOf u = some j) (hn : (s.tile u).sched.nextAt = some a)
    (hst : j.state = 3) (hk : j.policy.kind = 0) (hm : s.meshStop = false) (hu : j.tiles.contains u.val = true) (ha : a ≤ s.now) :
    ∃ (b : State) (y : Sched) (l : List (Nat × Nat)), s.Moves .period b ∧ Begins (s.tile u).sched y a
      ∧ exec (.schedulerPeriod u) s
        = .next (l.foldl (fun s k => s.admitLink u k.2) (b.modTile u fun z => { z with sched := y })) := by
  have hc : ¬(s.meshStop = true ∨ j.state ≠ 3 ∨ (!j.tiles.contains u.val) = true ∨ s.now < a) := by
    simp [hm, hst, hu, Nat.not_lt.mpr ha, - List.contains_eq_mem]
  have he : exec (.schedulerPeriod u) s = execSchedulerPeriod u s := rfl
  simp only [he, execSchedulerPeriod, hj, hk, hn, ne_eq, not_true_eq_false, if_false, if_neg hc]
  refine ⟨_, _, _, ?_, ⟨rfl, rfl, rfl, rfl⟩, rfl⟩
  exact .ite (.after moves_event (.ite moves_barrier (.refl s))) (.ite moves_barrier (.refl s))

theorem moves_admits {u : Nat} {l : List (Nat × Nat)} : s.Moves .admission (l.foldl (fun s k => s.admitLink u k.2) s) := by
  refine .foldl (fun _ _ => ?_) _ _
  exact moves_admitLink

theorem completes_schedulerPeriod {u : TileId} {j : Job} {a : Nat} (hj : s.jobOf u = some j)
    (hn : (s.tile u).sched.nextAt = some a) (hst : j.state = 3) (hk : j.policy.kind = 0) (hm : s.meshStop = false)
    (hu : j.tiles.contains u.val = true) (ha : a ≤ s.now) : Completes (.schedulerPeriod u) s fun t =>
      (t.tile u).sched.s = a ∧ (t.tile u).sched.begun = true ∧ (t.tile u).sched.done = 0
      ∧ (t.tile u).sched.k = (if (s.tile u).sched.begun then (s.tile u).sched.k + 1 else 0)
      ∧ t = { s.logged t with tiles := t.tiles, jobs := t.jobs, mesh := t.mesh, ports := t.ports } := by
  obtain ⟨b, y, l, hb, ⟨hs, hbegun, hdone, hnum⟩, he⟩ := exec_schedulerPeriod hj hn hst hk hm hu ha
  have hl := moves_admits (s := b.modTile u fun z => { z with sched := y }) (u := u) (l := l)
  have htiles : _ = (b.modTile u fun z => { z with sched := y }).tiles := (congrArg State.tiles hl.frame :)
  have hsched : (State.tile (l.foldl (fun s k => s.admitLink u k.2) (b.modTile u fun z => { z with sched := y })) u).sched = y := by
    rw [State.tile, htiles]
    exact congrArg Tile.sched (tile_modTile_same ..)
  refine completes_of_exec he ?_
  rw [hsched]
  exact ⟨hs, hbegun, hdone, hnum, (Moves.after (r := .period) hl (.after (moves_modTile fun _ => rfl) hb)).frame⟩

/-- What waits for a tile of no scoring job goes on. -/
theorem exec_schedulerPeriod_admitAll {u : TileId} (h : ∀ j, s.jobOf u = some j → j.policy.kind ≠ 0) :
    exec (.schedulerPeriod u) s = .next (s.admitAll u) := by
  change execSchedulerPeriod u s = _
  unfold execSchedulerPeriod
  split
  · rfl
  case _ j hj => exact if_pos (h j hj)

end State
end Sys2Proof.Machine

namespace Sys2Proof.Proofs.Stack
open Machine

/-- Settles O35: a digest point keeps and tells its record after the tiles' digests, a decision closes its point whatever it
decides, and a period's start changes the schedule of its tile alone. -/
theorem flocksAndPeriods : Obligations.FlocksAndPeriods := by
  intro u job flock point s
  refine ⟨fun j n hj hp hd hl hm => State.completes_digestPoint hj hp hd hl hm, fun j n hj hp hwait => ?_, fun j hj hp => ?_,
    fun kind x hk hx hd hnow => ?_, fun h => ?_, fun hd => ?_, fun j a hj hn hst hk hm hu ha =>
    State.completes_schedulerPeriod hj hn hst hk hm hu ha, fun h => ?_, fun j hj hk hn => ?_⟩
  · have he : exec (.digestPoint job) s = execDigestPoint job s := rfl
    simp only [execDigestPoint, hj, hp, if_pos hwait] at he
    refine completes_of_exec he ⟨fun k hk ht => ?_, rfl⟩
    obtain ⟨-, hne⟩ | ⟨_, -, -, rfl⟩ := State.mem_modJob hk
    · exact absurd ht hne
    · rfl
  · change execDigestPoint job s = _
    simp only [execDigestPoint, hj, hp]
  · obtain ⟨hat, hflocks, hdone⟩ := State.decided_decideDue hk hx hnow
    exact completes_of_exec (State.exec_flockDecisionTimeout hd) ⟨hat, hflocks, hdone,
      (State.Moves.after (r := .decision) State.moves_decideDue State.moves_decideDue).frame.trans (Extent.upd_decision _ _)⟩
  · by_cases hd : s.phase = .drover
    · change execFlockDecisionTimeout flock point s = _
      simp only [execFlockDecisionTimeout, if_pos hd]
    · rw [State.exec_flockDecisionTimeout hd, State.decideDue_of_none (h 0 (by omega)), State.decideDue_of_none (h 1 (by omega))]
  · change execFlockDecisionTimeout flock point s = _
    simp only [execFlockDecisionTimeout, if_pos hd]
  · exact completes_of_exec (State.exec_schedulerPeriod_admitAll h) ⟨State.admitAll_of_nil, State.moves_admitAll.frame⟩
  · change execSchedulerPeriod u s = _
    simp only [execSchedulerPeriod, hj, hk, hn, ne_eq, not_true_eq_false, if_false]

end Sys2Proof.Proofs.Stack

/-! PROOFS, continued: what an operation on tiles or ports leaves as it was in each of them, and what every member of a list
has after each was done in turn. -/
namespace Sys2Proof.Machine
namespace State

/-! ## A part of the tiles that stays -/

/-- What `f` reads of a tile stays in every tile. -/
def Keeps {α : Type} (f : Tile → α) (s t : State) : Prop := ∀ u, f (t.tile u) = f (s.tile u)

section
variable {α : Type} {f : Tile → α} {s t u : State} {n m v : Nat}

theorem Keeps.refl (s : State) : Keeps f s s := fun _ => rfl

theorem Keeps.after (h' : Keeps f t u) (h : Keeps f s t) : Keeps f s u := fun v => (h' v).trans (h v)

theorem Keeps.of_tiles (h : t.tiles = s.tiles) : Keeps f s t := fun u => by rw [tile, tile, h]

theorem Keeps.ite {c : Prop} [Decidable c] (ht : Keeps f s t) (hu : Keeps f s u) : Keeps f s (if c then t else u) := by
  split
  · exact ht
  · exact hu

theorem keeps_modTile {g : Tile → Tile} (hg : ∀ x, f (g x) = f x) : Keeps f s (s.modTile n g) := fun u => by
  by_cases h : u = n
  · rw [h, tile_modTile_same, hg]
  · rw [tile_modTile_other _ _ _ _ h]

theorem keeps_mapTiles {g : Nat → Tile → Tile} (hr : ∀ n, g n Tile.reset = Tile.reset) (hg : ∀ n x, f (g n x) = f x) :
    Keeps f s { s with tiles := s.tiles.map fun k => (k.1, g k.1 k.2) } := fun u => by rw [tile_mapTiles hr, hg]

theorem keeps_wr {g : Field} : Keeps f s (s.wr g n v) := .of_tiles rfl
theorem keeps_modRegul {g : Regul → Regul} : Keeps f s (s.modRegul n g) := .of_tiles rfl
theorem keeps_retarget : Keeps f s (s.retarget n) := .of_tiles (congrArg State.tiles moves_retarget.frame :)
theorem keeps_allPhases : Keeps f s (s.allPhases n) := .of_tiles (congrArg State.tiles moves_allPhases.frame :)

/-! ### The notch of a tile keeps its detections -/

theorem keeps_detections_ackTile {status : Nat} : Keeps Tile.detections s (s.ackTile n status m) :=
  .ite (keeps_modTile fun _ => rfl) (.refl s)

theorem keeps_detections_setPoint : Keeps Tile.detections s (s.setPoint n m v) := by
  have hset (c : Nat) : Keeps Tile.detections s
      (if n < 1024 then (s.wr TLR_SET_VSET n c).wr TLR_SET_NOTCH n v else s.wr TLR_SET_VSET n c) :=
    .ite (.of_tiles rfl) (.of_tiles rfl)
  unfold setPoint
  refine .ite (hset _) (.after keeps_retarget (.after (.ite (keeps_modTile fun _ => rfl) (.refl _))
    (.after keeps_modRegul (.after (.ite keeps_allPhases (.refl _)) ?_))))
  split
  · exact .after keeps_detections_ackTile (.after keeps_wr (hset _))
  · exact .after keeps_wr (hset _)

theorem keeps_detections_goNotch : Keeps Tile.detections s (s.goNotch n m) := by
  unfold goNotch
  exact .ite (.refl s) (.after keeps_detections_setPoint keeps_detections_setPoint)

theorem keeps_detections_clock {stop : Bool} : Keeps Tile.detections s (s.clock n stop) := by
  unfold clock settle
  exact .after (keeps_modTile fun _ => rfl) (keeps_modTile fun _ => rfl)

end

/-! ## What holds for every member of a list -/

/-- What a member's own transformation brings about, and the others keep, holds of all of them in the end. -/
theorem each_establishes {P : Nat → State → Prop} {f : State → Nat → State} (hset : ∀ s a, P a (f s a))
    (hkeep : ∀ s a b, P b s → P b (f s a)) {l : List Nat} {s : State} : ∀ a ∈ l, P a (s.each l f) := by
  induction l generalizing s with
  | nil => exact fun _ h => absurd h List.not_mem_nil
  | cons b l ih =>
    intro a ha
    obtain rfl | ha := List.mem_cons.mp ha
    · exact each_induction (fun s c => hkeep s c a) l (hset s a)
    · exact ih a ha

end State

/-! ## The held messages of a port (R222 to R224) -/

/-- The hold store, and the messages that are sent and not released. -/
def Port.held (x : Port) : List Held × List Msg := (x.holdStore, x.sentHeld.map (·.msg))

section
variable {x : Port} {w : Way} {f : OutFlit} {mask : Nat}

theorem Port.held_lay : (x.lay mask f).1.held = x.held := rfl

theorem Port.held_markers : (x.markers mask).held = x.held := by
  have hlay (l : List Nat) (y : Port) : (l.foldl (fun x i =>
      (x.lay mask ⟨4, 0, 0, 0, 0, 0, 0, 0, toLE 1 i ++ toLE 1 mask, 0, 0⟩).1) y).held = y.held := by
    induction l generalizing y with
    | nil => rfl
    | cons i l ih => exact (ih _).trans Port.held_lay
  have hmask : (if x.lineMask = mask then x else { x with lineMask := mask, lineNo := 0 }).held = x.held := by split <;> rfl
  have hrow (y : Port) : (if y.lineNo % (4096 * (lanesOf mask).length) ≠ 0 then y else (lanesOf mask).foldl (fun x i =>
      (x.lay mask ⟨4, 0, 0, 0, 0, 0, 0, 0, toLE 1 i ++ toLE 1 mask, 0, 0⟩).1) y).held = y.held := by
    split
    · rfl
    · exact hlay _ y
  exact (hrow _).trans hmask

theorem Port.held_stampBody {now : Nat} : (x.stampBody now f).1.held = x.held := by
  unfold Port.stampBody
  split
  · rfl
  · split <;> rfl

theorem Port.held_put : (x.put w f).1.held = x.held := Port.held_lay.trans (Port.held_markers.trans Port.held_stampBody)

theorem Port.held_pump1 {shut : List Nat} {before l : List OutFlit} {y : Port} (h : x.pump1 w shut before l = some y) :
    y.held = x.held := by
  induction l generalizing shut before with
  | nil => exact absurd h (by simp [Port.pump1])
  | cons f l ih =>
    unfold Port.pump1 at h
    split at h
    · exact ih h
    · split at h
      · cases h
        exact Port.held_put
      · exact ih h

theorem Port.held_pump {n : Nat} : (Port.pump w n x).held = x.held := by
  induction n generalizing x with
  | zero => rfl
  | succ n ih =>
    unfold Port.pump
    split
    case h_1 y hy => exact ih.trans (Port.held_pump1 hy)
    case h_2 => rfl

theorem Port.held_markSent {now : Nat} : (x.markSent now).held = x.held := by
  unfold Port.markSent Port.held
  simp only [List.map_map, Prod.mk.injEq, true_and]
  refine List.map_congr_left fun h _ => ?_
  simp only [Function.comp_apply]
  split <;> rfl
end

namespace State

variable {s : State} {p q n : Nat}

theorem held_modPort {g : Port → Port} (hg : ∀ x, (g x).held = x.held) : ((s.modPort p g).port q).held = (s.port q).held := by
  by_cases h : q = p
  · rw [h, port_modPort_same, hg]
  · rw [port_modPort_other _ _ _ _ h]

theorem held_sendFlit {type flags tag : Nat} {body : Bytes} :
    ((s.sendFlit p type flags body tag).port q).held = (s.port q).held := by
  unfold sendFlit
  dsimp only
  split
  · exact (held_modPort fun _ => Port.held_markSent.trans Port.held_pump).trans (held_modPort fun _ => rfl)
  · exact held_modPort fun _ => Port.held_put

theorem held_sendIds {type : Nat} {l : List Nat} : ((s.sendIds p type n l).port q).held = (s.port q).held := by
  induction n generalizing s l with
  | zero => rfl
  | succ n ih =>
    unfold sendIds
    split
    · rfl
    · exact ih.trans held_sendFlit

/-- No message of the job waits for its release on the port. -/
def NoneHeld (n p : Nat) (s : State) : Prop :=
  (∀ h ∈ (s.port p).holdStore, h.msg.job ≠ n) ∧ ∀ h ∈ (s.port p).sentHeld, h.msg.job ≠ n

theorem NoneHeld.of_held {t : State} (h : s.NoneHeld n p) (hh : (t.port p).held = (s.port p).held) : t.NoneHeld n p := by
  obtain ⟨hstore, hsent⟩ := h
  obtain ⟨hs, hm⟩ := Prod.mk.inj hh
  refine ⟨hs ▸ hstore, fun k hk => ?_⟩
  obtain ⟨i, hi, he⟩ := List.mem_map.mp (hm ▸ List.mem_map_of_mem hk)
  exact he ▸ hsent i hi

theorem held_retractJob_other (h : q ≠ p) : ((s.retractJob p n).port q).held = (s.port q).held := by
  unfold retractJob
  refine (each_induction (P := fun t => (t.port q).held = (s.port q).held) (fun t a ht => held_sendFlit.trans ht) _
    (held_sendIds.trans ?_))
  simp [setPort, port, h]

theorem noneHeld_retractJob : NoneHeld n p (s.retractJob p n) := by
  unfold retractJob
  refine each_induction (fun t a ht => ht.of_held held_sendFlit) _ (NoneHeld.of_held ?_ held_sendIds)
  rw [NoneHeld, port_setPort_same]
  exact ⟨fun h hh => by simpa using (List.mem_filter.mp hh).2, fun h hh => by simpa using (List.mem_filter.mp hh).2⟩

theorem NoneHeld.ringHeld {l : List Held} (h : s.NoneHeld n p) : NoneHeld n p { s with ringHeld := l } := h

/-- What is held of a job is gone from every port. -/
theorem noneHeld_dropHeld (hp : p < 8) : NoneHeld n p (s.dropHeld n) := by
  have h : NoneHeld n p (s.each (List.range 8) fun s p => s.retractJob p n) := by
    refine each_establishes (P := NoneHeld n) (fun s p => noneHeld_retractJob) (fun s p q h => ?_) p (List.mem_range.mpr hp)
    by_cases hq : q = p
    · exact hq ▸ noneHeld_retractJob
    · exact h.of_held (held_retractJob_other hq)
  exact h.ringHeld

end State
end Sys2Proof.Machine

/-! PROOFS, continued: a detection taken up by a job (R27, R62, R205, R216, R217). -/
namespace Sys2Proof.Machine
namespace State

variable {s t : State} {n v : Nat} {j : Job}

/-! ## A job by its tag -/

theorem tag_of_jobByTag (h : s.jobByTag n = some j) : j.tag = n := by
  unfold jobByTag at h
  split at h
  · cases h
  · exact eq_of_beq (List.find?_some (p := fun j : Job => j.tag == n) h)

theorem jobByTag_of_jobOf (h : s.jobOf v = some j) : s.jobByTag j.tag = some j := (tag_of_jobByTag h).symm ▸ h

theorem jobByTag_congr (h : t.jobs = s.jobs) : t.jobByTag n = s.jobByTag n := by rw [jobByTag, jobByTag, h]

/-- A change of jobs that keeps their tags changes the job that a tag names. -/
theorem jobByTag_modJob {g : Job → Job} (hg : ∀ j, (g j).tag = j.tag) {m : Nat} :
    (s.modJob m g).jobByTag n = (s.jobByTag n).map fun k => if k.tag = m then g k else k := by
  have hp : ((fun k : Job => k.tag == n) ∘ fun k => if k.tag = m then g k else k) = fun k => k.tag == n := by
    funext k
    simp only [Function.comp_apply]
    split
    · rw [hg]
    · rfl
  unfold jobByTag
  split
  · rfl
  · exact (List.find?_map ..).trans (by rw [hp])

/-! ## The halt of a job -/

theorem jobByTag_abortCkpt (h : s.jobByTag n = some j) : ∃ k, (s.abortCkpt n).jobByTag n = some k ∧ k.all = j.all := by
  have hend (o : Option (Nat × Nat)) : (match o with | some (m, k) => s.bgEnd m k stAborted | none => s).jobByTag n = some j := by
    split
    · exact (jobByTag_congr (congrArg State.jobs moves_bgSet.frame :)).trans h
    · exact h
  have hgo (t : State) (l : List Nat) : (t.each l fun s u =>
      (s.modTile u fun x => { x with haltCkpt := false, ckptDone := false }).wdogGo u).jobs = t.jobs := by
    refine each_induction (P := fun r => r.jobs = t.jobs) (fun s u hs => ?_) l rfl
    exact (congrArg State.jobs moves_wdogGo.frame :).trans hs
  refine ⟨{ j with ckptOn := false, ckptOp := none }, ?_, rfl⟩
  simp only [abortCkpt, h]
  rw [jobByTag_congr (hgo _ _), jobByTag_modJob]
  · exact (congrArg (Option.map _) (hend j.ckptOp)).trans (by simp [tag_of_jobByTag h])
  · exact fun _ => rfl

theorem keeps_haltJob_abandon : Keeps Tile.haltJob s (s.abandon n) := by
  have hdrop (t : State) : Keeps Tile.haltJob t (t.dropGuarded n) := keeps_mapTiles
    (g := fun _ x => { x with guarded := x.guarded.filter fun g => match g.2 with | .xfer _ o => decide (o ≠ n) | _ => true })
    (fun _ => rfl) (fun _ _ => rfl)
  have hbook (t : State) : Keeps Tile.haltJob t (t.bookBusy n) := by
    unfold bookBusy
    split
    · exact .refl t
    · exact keeps_modTile fun _ => rfl
  unfold abandon setOpen
  exact .after keeps_wr (.after (keeps_modTile fun _ => rfl) (.after (hbook _) (.after (hdrop _) (.of_tiles rfl))))

/-- One tile of a job halts. -/
def haltTile (s : State) (v : Nat) : State :=
  ((s.abandon v).modTile v fun x => { x with haltJob := true, restored := false }).wdogHold v

theorem haltJob_haltTile_same : ((s.haltTile v).tile v).haltJob = true := by
  unfold haltTile wdogHold
  rw [tile_modTile_same, tile_modTile_same]

theorem haltJob_haltTile_other {u : Nat} (h : (s.tile v).haltJob = true) : ((s.haltTile u).tile v).haltJob = true := by
  by_cases hu : v = u
  · exact hu ▸ haltJob_haltTile_same
  · unfold haltTile wdogHold
    rw [tile_modTile_other _ _ _ _ hu, tile_modTile_other _ _ _ _ hu, keeps_haltJob_abandon, h]

theorem haltJob_eq (h : s.jobByTag n = some j) : s.haltJob n
    = (({ (s.dropLone j).each j.all haltTile with
          mesh := ((s.dropLone j).each j.all haltTile).mesh.filter fun m => m.job != n } : State).keepCredits fun c => c.srcJob != n) := by
  simp only [haltJob, h]
  rfl

/-- Every tile of the job is halted. -/
theorem haltJob_haltJob (h : s.jobByTag n = some j) (hv : v ∈ j.all) : ((s.haltJob n).tile v).haltJob = true := by
  have he := each_establishes (P := fun v t => (t.tile v).haltJob = true) (fun _ _ => haltJob_haltTile_same)
    (fun _ _ _ h => haltJob_haltTile_other h) (s := s.dropLone j) v hv
  have ht : (s.haltJob n).tiles = ((s.dropLone j).each j.all haltTile).tiles := by rw [haltJob_eq h]; rfl
  exact (Keeps.of_tiles (f := Tile.haltJob) ht v).trans he

/-- No message of the job is on the mesh. -/
theorem mesh_haltJob (h : s.jobByTag n = some j) {m : Msg} (hm : m ∈ (s.haltJob n).mesh) : m.job ≠ n := by
  rw [haltJob_eq h] at hm
  simpa using (List.mem_filter.mp hm).2

theorem Moves.tiles_mesh (h : s.Moves .held t) : t.tiles = s.tiles ∧ t.mesh = s.mesh :=
  ⟨(congrArg State.tiles h.frame :), (congrArg State.mesh h.frame :)⟩

theorem tiles_dropHeld : (s.dropHeld n).tiles = s.tiles := moves_dropHeld.tiles_mesh.1

theorem mesh_dropHeld : (s.dropHeld n).mesh = s.mesh := moves_dropHeld.tiles_mesh.2

/-- The job's tiles are halted, and its messages are gone from the mesh. -/
theorem quieted_haltJob_mesh (h : s.jobByTag n = some j) : (∀ v ∈ j.all, ((s.quieted n).tile v).haltJob = true)
    ∧ ∀ m ∈ (s.quieted n).mesh, m.job ≠ n := by
  obtain ⟨k, hk, hall⟩ := jobByTag_abortCkpt h
  have hr := Moves.foldl (r := .regs) (f := State.refund) (fun _ _ => moves_refund) (s.outbound n) (s.abortCkpt n)
  have hk' := (jobByTag_congr (n := n) (congrArg State.jobs hr.frame :)).trans hk
  refine ⟨fun v hv => ?_, fun m hm => ?_⟩
  · rw [quieted, Keeps.of_tiles (f := Tile.haltJob) tiles_dropHeld v]
    exact haltJob_haltJob hk' (hall ▸ hv)
  · rw [quieted, mesh_dropHeld] at hm
    exact mesh_haltJob hk' hm

/-! ## The job fault -/

/-- A new detection of a job is taken up. -/
theorem exec_jobFaultDetect {u : TileId} {d : Detection} (hj : s.jobOf u = some j) (hd : d ∈ (s.tile u).detections)
    (ht : d.taken = false) (hst : j.state = 3 ∨ j.state = 7) : ∃ reload : Bool, exec (.jobFaultDetect u) s
      = .next (((if j.state = 3 then s.beginRestart j.tag false else s.dropOutbound j.tag).modJob j.tag fun j =>
          { j with restart := j.restart.map fun r => { r with reload := r.reload || reload } }).modTile u Tile.takeUp) := by
  have he : exec (.jobFaultDetect u) s = execJobFaultDetect u s := rfl
  have hne : ((s.tile u).detections.filter (!·.taken)).isEmpty = false := by
    rw [List.isEmpty_eq_false_iff]
    exact List.ne_nil_of_mem (List.mem_filter.mpr ⟨hd, by rw [ht]; rfl⟩)
  refine ⟨((s.tile u).detections.filter (!·.taken)).any (·.trigger == 4) && j.policy.kind == 0, ?_⟩
  rcases hst with hst | hst <;>
    simp only [he, execJobFaultDetect, hj, hne, hst, Bool.false_eq_true, beq_self_eq_true, Bool.true_or, Bool.or_true, Bool.not_true,
      or_self, if_false, if_true, Nat.reduceEqDiff]

theorem taken_takeUp {x : Tile} {d : Detection} (h : d ∈ x.takeUp.detections) : d.taken = true := by
  obtain ⟨e, -, rfl⟩ := List.mem_map.mp h
  rfl

end State
end Sys2Proof.Machine

/-! PROOFS, continued: what a running job and a failed one do on a detection. -/
namespace Sys2Proof.Machine

namespace Extent

/-- What a failed job's detection changes. -/
def silence : Extent := ⟨fun s t => { s with
  mesh := t.mesh, tiles := t.tiles, jobs := t.jobs, ringHeld := t.ringHeld, ports := t.ports, regs := t.regs },
  fun _ => rfl, fun _ _ _ => rfl, fun _ _ => rfl⟩

end Extent

namespace State

variable {s t : State} {n v : Nat} {j : Job} {d : Detection}

theorem Moves.of_logged (h : s.Moves .logged t) : t.tiles = s.tiles ∧ t.jobs = s.jobs ∧ t.mesh = s.mesh :=
  ⟨(congrArg State.tiles h.frame :), (congrArg State.jobs h.frame :), (congrArg State.mesh h.frame :)⟩

theorem Moves.events_halt (h : s.Moves .halt t) : t.events = s.events := (congrArg State.events h.frame :)

/-! ## The end of the row -/

/-- The detections of a tile are taken up, and the job's restart notes whether its records are to be loaded again. -/
def takeDetections (s : State) (n v : Nat) (reload : Bool) : State :=
  (s.modJob n fun j => { j with restart := j.restart.map fun r => { r with reload := r.reload || reload } }).modTile v Tile.takeUp

section
variable {reload : Bool}

theorem moves_takeDetections : s.Moves .silence (s.takeDetections n v reload) := by
  unfold takeDetections
  exact .after (a := .tiles) (moves_modTile fun _ => rfl) (.mono (moves_modJob fun _ => ⟨rfl, rfl, .inl rfl⟩))

theorem taken_takeDetections (h : d ∈ ((s.takeDetections n v reload).tile v).detections) : d.taken = true := by
  rw [takeDetections, tile_modTile_same] at h
  exact taken_takeUp h

theorem mesh_events_takeDetections :
    (s.takeDetections n v reload).mesh = s.mesh ∧ (s.takeDetections n v reload).events = s.events := ⟨rfl, rfl⟩

theorem keeps_haltJob_takeDetections : Keeps Tile.haltJob s (s.takeDetections n v reload) :=
  .after (keeps_modTile fun _ => rfl) (.of_tiles rfl)

theorem state_takeDetections {k : Job} (h : k ∈ (s.takeDetections n v reload).jobs) : ∃ i ∈ s.jobs, i.tag = k.tag ∧ i.state = k.state := by
  obtain ⟨hk, -⟩ | ⟨i, hi, -, rfl⟩ := mem_modJob h
  · exact ⟨k, hk, rfl, rfl⟩
  · exact ⟨i, hi, rfl, rfl⟩

end

/-! ## A running job -/

/-- A job that halts is RESTARTING. -/
theorem state_halted {park : Bool} {k : Job} (h : k ∈ (s.halted n park).jobs) (ht : k.tag = n) : k.state = 4 := by
  obtain ⟨-, hne⟩ | ⟨_, -, -, rfl⟩ := mem_modJob h
  · exact absurd ht hne
  · rfl

theorem tiles_mesh_modJob {g : Job → Job} : (s.modJob n g).tiles = s.tiles ∧ (s.modJob n g).mesh = s.mesh := ⟨rfl, rfl⟩

theorem halted_haltJob_mesh {park : Bool} (h : s.jobByTag n = some j) :
    (∀ v ∈ j.all, ((s.halted n park).tile v).haltJob = true) ∧ ∀ m ∈ (s.halted n park).mesh, m.job ≠ n := by
  obtain ⟨hhalted, hmesh⟩ := quieted_haltJob_mesh h
  obtain ⟨ht, hm⟩ := tiles_mesh_modJob (s := s.quieted n) (n := n) (g := Job.restarted (s.quieted n).now park)
  rw [halted, hm]
  refine ⟨fun v hv => ?_, hmesh⟩
  rw [Keeps.of_tiles (f := Tile.haltJob) ht v]
  exact hhalted v hv

theorem runs_of_haltJob (h : (s.tile v).haltJob = true) : s.runs v = false := by
  simp [runs, h]

theorem completes_jobFaultDetect_running {u : TileId} (hj : s.jobOf u = some j) (hd : d ∈ (s.tile u).detections)
    (ht : d.taken = false) (hst : j.state = 3) : Completes (.jobFaultDetect u) s fun t =>
      (∀ k ∈ t.jobs, k.tag = j.tag → k.state = 4)
        ∧ (∀ v ∈ j.all, (t.tile v).haltJob = true ∧ t.runs v = false) ∧ (∀ m ∈ t.mesh, m.job ≠ j.tag)
        ∧ (∀ d ∈ (t.tile u).detections, d.taken = true) ∧ s.reported t evJobRestart stratumUnit
        ∧ t = { s.charged t with dstate := s.dstate, drain := s.drain, drainUnits := s.drainUnits } := by
  obtain ⟨reload, he⟩ := exec_jobFaultDetect hj hd ht (.inl hst)
  rw [if_pos hst] at he
  have htag := jobByTag_of_jobOf hj
  have hhalt : s.Moves .halt (s.halted j.tag false) := moves_halted
  have hev := moves_event (s := s.halted j.tag false) (code := evJobRestart) (unit := stratumUnit) (j := some j) (opcode := 0)
    (detail := []) (cls := 0) (flow := 0) (reps := 1) (tenant := none)
  obtain ⟨e, hcode, hunit, -, hevents⟩ := events_event (s := s.halted j.tag false) (code := evJobRestart) (unit := stratumUnit)
    (j := some j) (opcode := 0) (detail := []) (cls := 0) (flow := 0) (reps := 1) (tenant := none)
  rw [← beginRestart_eq htag] at hev hevents
  obtain ⟨htiles, hjobs, hmesh⟩ := hev.of_logged
  have htake := moves_takeDetections (s := s.beginRestart j.tag false) (n := j.tag) (v := u) (reload := reload)
  obtain ⟨hmesh', hevents'⟩ := mesh_events_takeDetections (s := s.beginRestart j.tag false) (n := j.tag) (v := u) (reload := reload)
  obtain ⟨hhalted, hgone⟩ := halted_haltJob_mesh (park := false) htag
  have hkeep (v : Nat) (hv : v ∈ j.all) :
      (((s.beginRestart j.tag false).takeDetections j.tag u reload).tile v).haltJob = true := by
    rw [keeps_haltJob_takeDetections, Keeps.of_tiles (f := Tile.haltJob) htiles v]
    exact hhalted v hv
  refine completes_of_exec he ⟨fun k hk hkt => ?_, fun v hv => ⟨hkeep v hv, runs_of_haltJob (hkeep v hv)⟩, fun m hm => ?_,
    fun d hd => taken_takeDetections hd, ⟨e, hcode, hunit, ?_⟩, ?_⟩
  · obtain ⟨i, hi, hit, his⟩ := state_takeDetections hk
    exact his ▸ state_halted (hjobs ▸ hi) (hit.trans hkt)
  · exact hgone m (hmesh ▸ hmesh' ▸ hm)
  · exact hevents'.trans (hhalt.events_halt ▸ hevents)
  · exact (Moves.after (r := .restart) htake (.after hev (.mono hhalt))).frame.trans (Extent.upd_restart _ _)

end State
end Sys2Proof.Machine

/-! PROOFS, continued: a failed job sends no result any more (R27, R62). -/
namespace Sys2Proof.Machine
namespace State

variable {s t : State} {n v : Nat} {j : Job} {d : Detection}

/-- The message of another job, or one to a tile. -/
def Stays (n : Nat) (m : Msg) : Prop := m.job = n → m.dst < 0x400

/-- Outbound messages of a job go from the mesh and from the send buffers. -/
def discarded (s : State) (n : Nat) : State := { s with
  mesh := s.mesh.filter fun m => !(m.job == n && decide (0x400 ≤ m.dst))
  tiles := s.tiles.map fun k => (k.1, { k.2 with sendBuf := k.2.sendBuf.filter fun m => !(m.job == n && decide (0x400 ≤ m.dst)) }) }

theorem dropOutbound_eq : s.dropOutbound n = (((s.outbound n).foldl State.refund s).discarded n).dropHeld n := rfl

theorem stays_of_not_mine {m : Msg} (h : (!(m.job == n && decide (0x400 ≤ m.dst))) = true) : Stays n m := by
  intro hm
  simpa [hm] using h

theorem stays_mesh_discarded {m : Msg} (h : m ∈ (s.discarded n).mesh) : Stays n m :=
  stays_of_not_mine (List.mem_filter.mp h).2

theorem stays_sendBuf_discarded {k : Nat × Tile} {m : Msg} (hk : k ∈ (s.discarded n).tiles) (hm : m ∈ k.2.sendBuf) : Stays n m := by
  obtain ⟨i, -, rfl⟩ := List.mem_map.mp hk
  exact stays_of_not_mine (Option.mem_filter_iff.mp hm).2

theorem moves_discarded : s.Moves .silence (s.discarded n) := by
  have ht := moves_mapTiles (s := s) (g := fun _ x => { x with sendBuf := x.sendBuf.filter fun m => !(m.job == n && decide (0x400 ≤ m.dst)) })
    (fun _ => rfl) (fun _ _ => rfl)
  have hm (t : State) (l : List Msg) : t.Moves .silence { t with mesh := l } := .of_frame rfl rfl rfl rfl
  exact .after (hm _ _) (.mono ht)

theorem moves_dropOutbound : s.Moves .silence (s.dropOutbound n) := by
  rw [dropOutbound_eq]
  exact .after moves_dropHeld (.after moves_discarded (.mono (Moves.foldl (r := .regs) (fun _ _ => moves_refund) _ _)))

theorem ringHeld_dropHeld {h : Held} (hh : h ∈ (s.dropHeld n).ringHeld) : h.msg.job ≠ n := by
  simp only [dropHeld, List.mem_filter] at hh
  simpa using hh.2

theorem mem_of_find {l : Tbl Tile} {x : Tile} (h : l.find v = some x) : (v, x) ∈ l := by
  induction l with
  | nil => exact absurd h (by simp [Tbl.find])
  | cons k l ih =>
    simp only [Tbl.find] at h
    split at h
    · cases h
      subst_vars
      exact List.mem_cons_self
    · exact List.mem_cons_of_mem _ (ih h)

/-- A send buffer of the job's holds no outbound message once none of any tile does. -/
theorem stays_sendBuf_modTile {g : Tile → Tile} (hg : ∀ x, (g x).sendBuf = x.sendBuf)
    (h : ∀ k ∈ s.tiles, ∀ m ∈ k.2.sendBuf, Stays n m) : ∀ k ∈ (s.modTile v g).tiles, ∀ m ∈ k.2.sendBuf, Stays n m := by
  intro k hk m hm
  obtain rfl | hk := Tbl.mem_set hk
  · rw [hg] at hm
    cases hf : s.tiles.find v with
    | none => simp [tile, hf, Tile.reset] at hm
    | some x =>
      rw [tile, hf] at hm
      exact h (v, x) (mem_of_find hf) m hm
  · exact h k hk m hm

/-- No outbound message of the job leaves any more, unless it was released before. -/
structure Silent (s : State) (n : Nat) : Prop where
  mesh : ∀ m ∈ s.mesh, Stays n m
  bufs : ∀ k ∈ s.tiles, ∀ m ∈ k.2.sendBuf, Stays n m
  rings : ∀ h ∈ s.ringHeld, h.msg.job ≠ n
  ports : ∀ p < 8, s.NoneHeld n p

theorem silent_dropOutbound : (s.dropOutbound n).Silent n := by
  rw [dropOutbound_eq]
  exact ⟨fun m hm => stays_mesh_discarded (mesh_dropHeld ▸ hm), fun k hk m hm => stays_sendBuf_discarded (tiles_dropHeld ▸ hk) hm,
    fun h hh => ringHeld_dropHeld hh, fun p hp => noneHeld_dropHeld hp⟩

theorem silent_takeDetections {reload : Bool} (h : s.Silent n) : (s.takeDetections n v reload).Silent n where
  mesh := h.mesh
  bufs := stays_sendBuf_modTile (fun _ => rfl) h.bufs
  rings := h.rings
  ports := h.ports

theorem completes_jobFaultDetect_failed {u : TileId} (hj : s.jobOf u = some j) (hd : d ∈ (s.tile u).detections)
    (ht : d.taken = false) (hst : j.state = 7) : Completes (.jobFaultDetect u) s fun t =>
      (∀ m ∈ t.mesh, m.job = j.tag → m.dst < 0x400)
        ∧ (∀ k ∈ t.tiles, ∀ m ∈ k.2.sendBuf, m.job = j.tag → m.dst < 0x400)
        ∧ (∀ h ∈ t.ringHeld, h.msg.job ≠ j.tag) ∧ (∀ p : PortId, ∀ h ∈ (t.port p).holdStore, h.msg.job ≠ j.tag)
        ∧ (∀ p : PortId, ∀ h ∈ (t.port p).sentHeld, h.msg.job ≠ j.tag) ∧ (∀ d ∈ (t.tile u).detections, d.taken = true)
        ∧ t = { s with mesh := t.mesh, tiles := t.tiles, jobs := t.jobs, ringHeld := t.ringHeld, ports := t.ports, regs := t.regs } := by
  obtain ⟨reload, he⟩ := exec_jobFaultDetect hj hd ht (.inr hst)
  rw [if_neg (by omega)] at he
  obtain ⟨hmesh, hbuf, hring, hports⟩ := silent_takeDetections (v := u) (reload := reload) (silent_dropOutbound (s := s) (n := j.tag))
  refine completes_of_exec he ⟨hmesh, hbuf, hring, fun p => (hports p p.isLt).1, fun p => (hports p p.isLt).2,
    fun d hd => taken_takeDetections hd, (Moves.after (r := .silence) moves_takeDetections moves_dropOutbound).frame⟩

end State
end Sys2Proof.Machine

/-! PROOFS, continued: the comparison of a Dual pair's signatures (R208, R210). -/
namespace Sys2Proof.Machine

/-- The fields that a capture of a failed comparison sets. -/
def dualFields : List Field := [NBC_DUAL_MISMATCH, NBC_DUAL_UNIT, NBC_DUAL_MSG, NBC_DUAL_LAG, NBC_DUAL_SEQ_SEQ]

theorem regKey_ne_dualFields {f : Field} {v w : Nat} (h : w ≠ v) (hf : ∀ g ∈ dualFields, f = g ∨ f.apart g = true) :
    ∀ g ∈ dualFields, regKey f w ≠ regKey g v := by
  intro g hg
  obtain rfl | ha := hf g hg
  · exact regKey_ne_of_unit h
  · exact regKey_ne_of_apart ha

namespace State

variable {s t : State} {u v w p q : Nat} {d e : DualSig}

/-! ## Captures -/

section
variable {unit msg lag seq : Nat}

/-- What a capture does not set stays. -/
theorem rd_captureDual {f : Field} (h : ∀ g ∈ dualFields, regKey f w ≠ regKey g v) :
    (s.captureDual v unit msg lag seq).rd f w = s.rd f w := by
  simp only [dualFields, List.forall_mem_cons] at h
  obtain ⟨hmis, hunit, hmsg, hlag, hseq, -⟩ := h
  unfold captureDual
  split
  · rfl
  · rw [rd_wr_ne _ _ _ _ _ _ hseq, rd_wr_ne _ _ _ _ _ _ hlag, rd_wr_ne _ _ _ _ _ _ hmsg, rd_wr_ne _ _ _ _ _ _ hunit,
      rd_wr_ne _ _ _ _ _ _ hmis]

/-- After a capture the tile shows a mismatch, this one or an earlier one. -/
theorem mismatch_captureDual_same : (s.captureDual v unit msg lag seq).rdb NBC_DUAL_MISMATCH v = true := by
  unfold captureDual
  split
  case isTrue h => exact h
  case isFalse =>
    rw [rdb_wr_apart _ _ _ _ _ _ (by decide), rdb_wr_apart _ _ _ _ _ _ (by decide), rdb_wr_apart _ _ _ _ _ _ (by decide),
      rdb_wr_apart _ _ _ _ _ _ (by decide), rdb_wr_same]
    decide

theorem rd_captureDual_other {f : Field} (h : w ≠ v) (hf : ∀ g ∈ dualFields, f = g ∨ f.apart g = true) :
    (s.captureDual v unit msg lag seq).rd f w = s.rd f w := rd_captureDual (regKey_ne_dualFields h hf)

theorem mismatch_captureDual (h : s.rdb NBC_DUAL_MISMATCH w = true) :
    (s.captureDual v unit msg lag seq).rdb NBC_DUAL_MISMATCH w = true := by
  by_cases hw : w = v
  · exact hw ▸ mismatch_captureDual_same
  · rw [rdb, rd_captureDual_other hw (by decide)]
    exact h

theorem lag_captureDual (h : s.rdb NBC_DUAL_MISMATCH v = false) : (s.captureDual v unit msg 1 seq).rd NBC_DUAL_LAG v = 1 := by
  unfold captureDual
  rw [if_neg (by simp [h]), rd_wr_apart _ _ _ _ _ _ (by decide), rd_wr_same]
  decide

theorem jobOf_captureDual : (s.captureDual v unit msg lag seq).jobOf w = s.jobOf w := by
  have hjobs : (s.captureDual v unit msg lag seq).jobs = s.jobs := (congrArg State.jobs moves_captureDual.frame :)
  have hjob : (s.captureDual v unit msg lag seq).rd TILE_JOB_JOB w = s.rd TILE_JOB_JOB w :=
    rd_captureDual fun g hg => regKey_ne_of_apart ((by decide : ∀ g ∈ dualFields, TILE_JOB_JOB.apart g = true) g hg)
  rw [jobOf, hjob, jobByTag_congr hjobs, jobOf]

theorem keeps_captureDual {α : Type} {f : Tile → α} : Keeps f s (s.captureDual v unit msg lag seq) :=
  .of_tiles (congrArg State.tiles moves_captureDual.frame :)

end

/-! ## A comparison that fails -/

section
variable {other : Nat} {late : Bool}

/-- Both tiles of a pair have captured a failed comparison. -/
def captured (s : State) (p q : Nat) (d : DualSig) (late : Bool) : State :=
  let m := d.kind == 2
  let one := fun (s : State) (t : Nat) => s.captureDual t (if m then 0 else d.kind) (b2n m) (b2n late) (if m then d.num / 16 else d.num)
  one (one s p) q

theorem dualFail_eq : s.dualFail p q d late other = (s.captured p q d late).detect p 2 d.op other := rfl

theorem mismatch_captured : (s.captured p q d late).rdb NBC_DUAL_MISMATCH p = true
    ∧ (s.captured p q d late).rdb NBC_DUAL_MISMATCH q = true :=
  ⟨mismatch_captureDual mismatch_captureDual_same, mismatch_captureDual_same⟩

theorem lag_captured (h : s.rdb NBC_DUAL_MISMATCH p = false) (hpq : p ≠ q) : (s.captured p q d true).rd NBC_DUAL_LAG p = 1 :=
  (rd_captureDual_other hpq (by decide)).trans (lag_captureDual h)

theorem moves_captured : s.Moves .regs (s.captured p q d late) := .after moves_captureDual moves_captureDual

theorem keeps_captured {α : Type} {f : Tile → α} : Keeps f s (s.captured p q d late) := .after keeps_captureDual keeps_captureDual

theorem jobOf_captured : (s.captured p q d late).jobOf w = s.jobOf w := jobOf_captureDual.trans jobOf_captureDual

theorem now_captured : (s.captured p q d late).now = s.now := (congrArg State.now moves_captured.frame :)

/-- A detection changes no register. -/
theorem rd_detect {f : Field} {n cause : Nat} {op : Option UnitOp} : (s.detect v n op cause).rd f w = s.rd f w := by
  unfold detect
  split
  · rfl
  · rfl

theorem keeps_dual_detect {n cause : Nat} {op : Option UnitOp} : Keeps Tile.dual s (s.detect v n op cause) := by
  unfold detect
  exact .ite (keeps_modTile fun _ => rfl) (.refl s)

theorem detections_detect {n cause : Nat} {op : Option UnitOp} (h : (s.jobOf v).isSome = true) :
    ((s.detect v n op cause).tile v).detections = (s.tile v).detections ++ [⟨n, op, cause, s.now, false⟩] := by
  unfold detect
  rw [if_pos h, tile_modTile_same]

theorem mismatch_dualFail : (s.dualFail p q d late other).rdb NBC_DUAL_MISMATCH p = true
    ∧ (s.dualFail p q d late other).rdb NBC_DUAL_MISMATCH q = true := by
  simp only [dualFail_eq, rdb, rd_detect]
  exact mismatch_captured

theorem lag_dualFail (h : s.rdb NBC_DUAL_MISMATCH p = false) (hpq : p ≠ q) : (s.dualFail p q d true other).rd NBC_DUAL_LAG p = 1 := by
  rw [dualFail_eq, rd_detect]
  exact lag_captured h hpq

theorem keeps_dual_dualFail : Keeps Tile.dual s (s.dualFail p q d late other) := by
  rw [dualFail_eq]
  exact .after keeps_dual_detect keeps_captured

theorem moves_dualFail : s.Moves .tileRegs (s.dualFail p q d late other) := by
  rw [dualFail_eq]
  exact .after moves_detect (.mono moves_captured)

theorem detections_dualFail (h : (s.jobOf p).isSome = true) : ((s.dualFail p q d late other).tile p).detections
    = (s.tile p).detections ++ [⟨2, d.op, other, s.now, false⟩] := by
  have hj : ((s.captured p q d late).jobOf p).isSome = true := by rw [jobOf_captured, h]
  rw [dualFail_eq, detections_detect hj, now_captured, keeps_captured (f := Tile.detections)]

end

/-! ## The rows -/

/-- A signature is compared, and leaves the list of its tile. -/
def dropSig (s : State) (v : Nat) (d : DualSig) : State := s.modTile v fun x => { x with dual := x.dual.erase d }

theorem dual_dropSig {r : List DualSig} (h : (s.tile v).dual = d :: r) : ((s.dropSig v d).tile v).dual = r := by
  rw [dropSig, tile_modTile_same, h]
  exact List.erase_cons_head ..

/-- The pair's oldest signatures are those of one operation or message. -/
theorem exec_dualCompare {u : TileId} {r x : List DualSig} (hu : s.pairTiles u = some (p, q)) (hp : (s.tile p).dual = d :: r)
    (hq : (s.tile q).dual = e :: x) (h : d.sameAs e = true) : exec (.dualCompare u) s = .next (
      let t := (s.dropSig p d).dropSig q e
      if d.sig ≠ e.sig then t.dualFail p q d false (e.sig + 1)
      else if d.kind = 0 then (t.modTile p fun x => x.markPaired d.num).modTile q fun x => x.markPaired d.num
      else t) := by
  have he : exec (.dualCompare u) s = execDualCompare u s := rfl
  simp only [he, execDualCompare, hu, hp, hq, List.find?_cons, List.any_cons, h, Bool.true_or]
  split
  · rfl
  · split <;> rfl

/-- The comparison leaves the pair's lists without the signatures compared. -/
theorem dual_dropSigs {r x : List DualSig} (hne : p ≠ q) (hp : (s.tile p).dual = d :: r) (hq : (s.tile q).dual = e :: x) :
    (((s.dropSig p d).dropSig q e).tile p).dual = r ∧ (((s.dropSig p d).dropSig q e).tile q).dual = x := by
  have hother : (s.dropSig p d).tile q = s.tile q := tile_modTile_other _ _ _ _ hne.symm
  refine ⟨?_, dual_dropSig (hother ▸ hq)⟩
  rw [dropSig, tile_modTile_other _ _ _ _ hne]
  exact dual_dropSig hp

theorem keeps_detections_dropSig : Keeps Tile.detections s (s.dropSig v d) := keeps_modTile fun _ => rfl

theorem jobOf_dropSig : (s.dropSig v d).jobOf w = s.jobOf w := rfl

theorem now_dropSig : (s.dropSig v d).now = s.now := rfl

theorem moves_dropSig : s.Moves .tiles (s.dropSig v d) := moves_modTile fun _ => rfl

theorem detections_length_markPaired {x : Tile} {n : Nat} : (x.markPaired n).detections.length = x.detections.length :=
  List.length_map ..

theorem keeps_detections_length_markPaired {n : Nat} :
    Keeps (fun x => x.detections.length) s (s.modTile v fun x => x.markPaired n) :=
  keeps_modTile fun _ => detections_length_markPaired

theorem moves_markPaired {n : Nat} : s.Moves .tiles (s.modTile v fun x => x.markPaired n) := moves_modTile fun _ => rfl

theorem keeps_dual_markPaired {n : Nat} : Keeps Tile.dual s (s.modTile v fun x => x.markPaired n) := keeps_modTile fun _ => rfl

theorem completes_dualCompare_equal {u : TileId} {r x : List DualSig} (hu : s.pairTiles u = some (p, q)) (hne : p ≠ q)
    (hp : (s.tile p).dual = d :: r) (hq : (s.tile q).dual = e :: x) (h : d.sameAs e = true) (hsig : d.sig = e.sig) :
    Completes (.dualCompare u) s fun t => (t.tile p).dual = r ∧ (t.tile q).dual = x
      ∧ (t.tile p).detections.length = (s.tile p).detections.length ∧ t = { s with tiles := t.tiles } := by
  obtain ⟨hpr, hqx⟩ := dual_dropSigs hne hp hq
  have he := exec_dualCompare hu hp hq h
  have hdet : ((((s.dropSig p d).dropSig q e).tile p).detections).length = (s.tile p).detections.length :=
    congrArg List.length (Keeps.after keeps_detections_dropSig keeps_detections_dropSig p)
  have hmoves : s.Moves .tiles ((s.dropSig p d).dropSig q e) := .after moves_dropSig moves_dropSig
  simp only [hsig, ne_eq, not_true_eq_false, if_false] at he
  by_cases hk : d.kind = 0
  · rw [if_pos hk] at he
    refine completes_of_exec he ⟨?_, ?_, ?_, ?_⟩
    · exact (Keeps.after keeps_dual_markPaired keeps_dual_markPaired p).trans hpr
    · exact (Keeps.after keeps_dual_markPaired keeps_dual_markPaired q).trans hqx
    · exact (Keeps.after keeps_detections_length_markPaired keeps_detections_length_markPaired p).trans hdet
    · exact (Moves.after (r := .tiles) moves_markPaired (.after moves_markPaired hmoves)).frame
  · rw [if_neg hk] at he
    exact completes_of_exec he ⟨hpr, hqx, hdet, hmoves.frame⟩

theorem completes_dualCompare_differ {u : TileId} {r x : List DualSig} (hu : s.pairTiles u = some (p, q)) (hne : p ≠ q)
    (hp : (s.tile p).dual = d :: r) (hq : (s.tile q).dual = e :: x) (h : d.sameAs e = true) (hsig : d.sig ≠ e.sig)
    (hj : (s.jobOf p).isSome = true) : Completes (.dualCompare u) s fun t =>
      (t.tile p).dual = r ∧ (t.tile q).dual = x ∧ t.rdb NBC_DUAL_MISMATCH p = true ∧ t.rdb NBC_DUAL_MISMATCH q = true
        ∧ (t.tile p).detections = (s.tile p).detections ++ [⟨2, d.op, e.sig + 1, s.now, false⟩]
        ∧ t = { s with tiles := t.tiles, regs := t.regs } := by
  obtain ⟨hpr, hqx⟩ := dual_dropSigs hne hp hq
  have he := exec_dualCompare hu hp hq h
  simp only [if_pos hsig] at he
  obtain ⟨hmp, hmq⟩ := mismatch_dualFail (s := (s.dropSig p d).dropSig q e) (p := p) (q := q) (d := d) (late := false) (other := e.sig + 1)
  refine completes_of_exec he ⟨(keeps_dual_dualFail p).trans hpr, (keeps_dual_dualFail q).trans hqx, hmp, hmq, ?_, ?_⟩
  · rw [detections_dualFail (by rw [jobOf_dropSig, jobOf_dropSig, hj]), now_dropSig, now_dropSig,
      Keeps.after keeps_detections_dropSig keeps_detections_dropSig p]
  · exact (Moves.after (r := .tileRegs) moves_dualFail (.after moves_dropSig (.mono moves_dropSig))).frame

/-- A signature without its partner's within 10 µs leaves the list, and the comparison has failed. -/
theorem exec_dualLagTimeout {u : TileId} {r : List DualSig} (hv : s.partnerOf u = some v) (hu : (s.tile u).dual = d :: r)
    (hd : d.at' + 10000 ≤ s.now) (hnone : (s.tile v).dual.any d.sameAs = false) :
    exec (.dualLagTimeout u) s = .next ((s.dropSig u d).dualFail u v d true 0) := by
  have he : exec (.dualLagTimeout u) s = execDualLagTimeout u s := rfl
  simp only [he, execDualLagTimeout, hv, hu, List.find?_cons, hd, hnone, decide_true, Bool.not_false, Bool.and_true]
  rfl

theorem sameAs_self : d.sameAs d = true := by simp [DualSig.sameAs]

/-- A tile whose signature waits for its partner's is not its own partner. -/
theorem ne_of_unjoined {r : List DualSig} (hu : (s.tile u).dual = d :: r) (hnone : (s.tile v).dual.any d.sameAs = false) : u ≠ v := by
  rintro rfl
  rw [hu, List.any_cons, sameAs_self] at hnone
  exact absurd hnone (by simp)

theorem completes_dualLagTimeout {u : TileId} {r : List DualSig} (hv : s.partnerOf u = some v) (hu : (s.tile u).dual = d :: r)
    (hd : d.at' + 10000 ≤ s.now) (hnone : (s.tile v).dual.any d.sameAs = false) : Completes (.dualLagTimeout u) s fun t =>
      (t.tile u).dual = r ∧ t.rdb NBC_DUAL_MISMATCH u = true ∧ t.rdb NBC_DUAL_MISMATCH v = true
        ∧ (s.rdb NBC_DUAL_MISMATCH u = false → t.rd NBC_DUAL_LAG u = 1)
        ∧ t = { s with tiles := t.tiles, regs := t.regs } := by
  obtain ⟨hmu, hmv⟩ := mismatch_dualFail (s := s.dropSig u d) (p := u) (q := v) (d := d) (late := true) (other := 0)
  exact completes_of_exec (exec_dualLagTimeout hv hu hd hnone) ⟨(keeps_dual_dualFail _).trans (dual_dropSig hu), hmu, hmv,
    fun h => lag_dualFail h (ne_of_unjoined hu hnone), (Moves.after (r := .tileRegs) moves_dualFail (.mono moves_dropSig)).frame⟩

end State
end Sys2Proof.Machine

/-! PROOFS, continued: recomputes on a partner (R211 to R215, R238), and the statement about detections. -/
namespace Sys2Proof.Machine

namespace Extent

/-- What the end of a recompute changes. -/
def redone : Extent := ⟨fun s t => { s with tiles := t.tiles, regs := t.regs, reguls := t.reguls, life := t.life },
  fun _ => rfl, fun _ _ _ => rfl, fun _ _ => rfl⟩

/-- What a recompute changes: what a charge may, and the regulators. -/
def recompute : Extent := ⟨fun s t => { s.logged t with
  credits := t.credits, creditQ := t.creditQ, drain := t.drain, drainUnits := t.drainUnits, dstate := t.dstate, jobs := t.jobs, life := t.life
  mboxes := t.mboxes, mesh := t.mesh, msix := t.msix, msixPend := t.msixPend, ports := t.ports, ringHeld := t.ringHeld, sessions := t.sessions
  tiles := t.tiles, reguls := t.reguls }, fun _ => rfl, fun _ _ _ => rfl, fun _ _ => rfl⟩

/-- What the regeneration of a pair of norms changes. -/
def patches : Extent := ⟨fun s t => { s with tiles := t.tiles, jobs := t.jobs }, fun _ => rfl, fun _ _ _ => rfl, fun _ _ => rfl⟩

/-- The journal's part of the state and the tiles. -/
def noted : Extent := ⟨fun s t => { s.logged t with tiles := t.tiles }, fun _ => rfl, fun _ _ _ => rfl, fun _ _ => rfl⟩

theorem upd_recompute (s t : State) : recompute.upd s t = { s.charged t with reguls := t.reguls } := rfl

end Extent

namespace State

variable {s t : State} {u v p : Nat} {d : Detection}

/-! ## Issue (R211, R212) -/

/-- The detection is still to be decided, and its operation is at hand. -/
theorem exec_recomputeIssue {u : TileId} {q : List Detection} (hb : (s.tile u).boundWait = []) (hd : (s.tile u).detections = d :: q)
    (ht : d.taken = true) (htr : d.trigger ≤ 2) (hop : d.op.isSome = true) (hmode : d.trigger ≠ 0 ∨ s.boundMode u = true)
    (hbusy : ∀ k ∈ s.tiles, ∀ r, k.2.recomp = some r → r.orig ≠ u.val) : exec (.recomputeIssue u) s = .next (
      match s.partnerFor u with
      | none => (s.noteOnly u evCheckUnexplained d).decided u d
      | some p => s.issueRecompute u p d) := by
  have he : exec (.recomputeIssue u) s = execRecomputeIssue u s := rfl
  have hfree : s.tiles.any (fun k => match k.2.recomp with
      | some r => r.orig == u.val && decide (r.det = d)
      | none => false) = false := by
    refine List.any_eq_false.mpr fun k hk => ?_
    split
    case h_1 r hr => simp [hbusy k hk r hr]
    case h_2 => simp
  have hdual : (d.trigger == 0 && !s.boundMode u) = false := by
    rcases hmode with h | h <;> simp [h]
  have hnone : d.op.isNone = false := by rw [← Option.not_isSome, hop]; rfl
  rw [he, execRecomputeIssue]
  dsimp only
  rw [hb, hd, List.find?_cons_of_pos]
  · simp only [hdual, hnone, List.isEmpty_nil, Bool.not_true, Bool.false_eq_true, false_and, if_false]
    cases s.partnerFor u <;> rfl
  · exact Bool.and_eq_true_iff.mpr ⟨by simp [ht, htr], by rw [Bool.not_eq_true']; exact hfree⟩

theorem frame_modTile {r : Extent} {g : Tile → Tile} (h : Extent.tiles.In r) : s.modTile v g = r.upd s (s.modTile v g) := h.frame rfl

/-- The recompute stands on the partner. -/
theorem recomp_issueRecompute : ((s.issueRecompute v p d).tile p).recomp = some ⟨v, d, s.now, s.rd TLR_SET_NOTCH (tlrOf p)⟩ := by
  have hset : (((s.goNotch p 15).modTile p fun x => { x with recomp := some ⟨v, d, s.now, s.rd TLR_SET_NOTCH (tlrOf p)⟩ }).tile p).recomp
      = some ⟨v, d, s.now, s.rd TLR_SET_NOTCH (tlrOf p)⟩ := by rw [tile_modTile_same]
  unfold issueRecompute
  dsimp only
  split
  · exact (moves_clock.recomp p).trans hset
  · exact hset

theorem frame_issueRecompute : s.issueRecompute v p d = Extent.recompute.upd s (s.issueRecompute v p d) := by
  have hn : s.goNotch p 15 = Extent.recompute.upd s (s.goNotch p 15) := Extent.In.frame (a := .notch) (fun _ _ => rfl) moves_goNotch.frame
  have hi : Extent.tiles.In .recompute := fun _ _ => rfl
  have hc (t : State) : t.clock p false = Extent.recompute.upd t (t.clock p false) := hi.frame moves_clock.frame
  have hm (t : State) (r : Recompute) : (t.modTile p fun x => { x with recomp := some r })
      = Extent.recompute.upd t (t.modTile p fun x => { x with recomp := some r }) := frame_modTile hi
  unfold issueRecompute
  dsimp only
  split
  · exact Extent.frame_trans (Extent.frame_trans hn (hm _ _)) (hc _)
  · exact Extent.frame_trans hn (hm _ _)

/-! ## Decisions (R67, R210, R213) -/

theorem moves_decided : s.Moves .tileRegs (s.decided v d) := by
  unfold decided
  exact .after moves_clearCaptures (.mono (moves_modTile fun _ => rfl))

/-- A decided detection leaves the tile's list. -/
theorem detections_decided : ((s.decided v d).tile v).detections = (s.tile v).detections.erase d := by
  have ht (t : State) (o : Option Nat) : Keeps Tile.detections t (t.clearCaptures v o) := .of_tiles (congrArg State.tiles moves_clearCaptures.frame :)
  rw [decided, ht, tile_modTile_same]

theorem Moves.events_tileRegs (h : s.Moves .tileRegs t) : t.events = s.events := (congrArg State.events h.frame :)

/-- A detection that nothing can recompute is recorded and decided. -/
theorem noteOnly_decided {code : Nat} {q : List Detection} (hd : (s.tile v).detections = d :: q) :
    (((s.noteOnly v code d).decided v d).tile v).detections = q ∧ s.reported ((s.noteOnly v code d).decided v d) code (tileUnit v)
      ∧ s.Moves .noted ((s.noteOnly v code d).decided v d) := by
  have hev : s.Moves .logged (s.noteOnly v code d) := moves_event
  obtain ⟨e, hcode, hunit, -, hevents⟩ := events_event (s := s) (code := code) (unit := tileUnit v) (j := s.jobOf v) (opcode := d.num)
    (detail := d.detail) (cls := 0) (flow := 0) (reps := 1) (tenant := none)
  refine ⟨?_, ⟨e, hcode, hunit, moves_decided.events_tileRegs.trans hevents⟩, .after moves_decided (.mono hev)⟩
  rw [detections_decided, Keeps.of_tiles (f := Tile.detections) hev.of_logged.1 v, hd]
  exact List.erase_cons_head ..

/-! ## Completion (R212, R213, R238) -/

/-- The partner is free again and the recompute counted. -/
def redone (s : State) (u : Nat) : State := (s.endRecompute u).lifeInc (tileUnit u) 68 1

theorem exec_recomputeComplete {u : TileId} {fault : Option ArithFault} {r : Recompute} (hr : (s.tile u).recomp = some r)
    (hh : (r.det.op.map (s.redoHeld r.orig)).getD false = false) : exec (.recomputeComplete u fault) s = .next (
      if ((s.redone u).tile r.orig).detections.contains r.det then (s.redone u).classifyFault r.orig u r.det fault else s.redone u) := by
  have he : exec (.recomputeComplete u fault) s = execRecomputeComplete u fault s := rfl
  simp only [he, execRecomputeComplete, hr, hh]
  rfl

theorem endRecompute_eq {r : Recompute} (hr : (s.tile u).recomp = some r) : s.endRecompute u =
    (let t := s.modTile u fun x => { x with recomp := none }
     let t := t.goNotch u (if t.standby then r.notch else t.notchFor u)
     if t.rd TILE_STATE_STATE u = 5 then t.clock u true else t) := by
  simp only [endRecompute, hr]

theorem moves_clockAgain {c : Prop} [Decidable c] {n : Nat} :
    s.Moves .notch (if c then (s.goNotch u n).clock u true else s.goNotch u n) :=
  .ite (.after moves_clock moves_goNotch) moves_goNotch

theorem keeps_detections_clockAgain {c : Prop} [Decidable c] {n : Nat} :
    Keeps Tile.detections s (if c then (s.goNotch u n).clock u true else s.goNotch u n) :=
  .ite (.after keeps_detections_clock keeps_detections_goNotch) keeps_detections_goNotch

theorem recomp_redone {r : Recompute} (hr : (s.tile u).recomp = some r) : ((s.redone u).tile u).recomp = none := by
  have hl (t : State) : ((t.lifeInc (tileUnit u) 68 1).tile u).recomp = (t.tile u).recomp := rfl
  rw [redone, hl, endRecompute_eq hr]
  exact (moves_clockAgain.recomp u).trans (by rw [tile_modTile_same])

theorem keeps_detections_redone {r : Recompute} (hr : (s.tile u).recomp = some r) : Keeps Tile.detections s (s.redone u) := by
  have hl (t : State) : Keeps Tile.detections t (t.lifeInc (tileUnit u) 68 1) := .of_tiles rfl
  rw [redone, endRecompute_eq hr]
  exact .after (hl _) (.after keeps_detections_clockAgain (keeps_modTile fun _ => rfl))

theorem frame_redone {r : Recompute} (hr : (s.tile u).recomp = some r) : s.redone u = Extent.redone.upd s (s.redone u) := by
  have hl (t : State) : t.lifeInc (tileUnit u) 68 1 = Extent.redone.upd t (t.lifeInc (tileUnit u) 68 1) := rfl
  have hm : (s.modTile u fun x => { x with recomp := none }) = Extent.redone.upd s (s.modTile u fun x => { x with recomp := none }) :=
    frame_modTile fun _ _ => rfl
  rw [redone, endRecompute_eq hr]
  exact Extent.frame_trans (Extent.frame_trans hm (Extent.In.frame (a := .notch) (fun _ _ => rfl) moves_clockAgain.frame)) (hl _)

theorem completes_recomputeComplete_decided {u : TileId} {fault : Option ArithFault} {r : Recompute} (hr : (s.tile u).recomp = some r)
    (hh : (r.det.op.map (s.redoHeld r.orig)).getD false = false) (hc : (s.tile r.orig).detections.contains r.det = false) :
    Completes (.recomputeComplete u fault) s fun t => (t.tile u).recomp = none ∧ t.events = s.events
      ∧ t = { s with tiles := t.tiles, regs := t.regs, reguls := t.reguls, life := t.life } := by
  have he := exec_recomputeComplete (fault := fault) hr hh
  rw [keeps_detections_redone hr, if_neg (ne_true_of_eq_false hc)] at he
  have hf := frame_redone hr
  exact completes_of_exec he ⟨recomp_redone hr, (congrArg State.events hf :), hf⟩

theorem moves_blame {ts : List Nat} {cls code orig : Nat} : s.Moves .charged (s.blame orig d ts cls code) :=
  .each (fun _ _ => moves_charge) _ _

/-- The shadow lane's step comes out as the lane gave it: the checker is charged (R213). -/
theorem classifyFault_shadow {o : UnitOp} {c : Capture} {fault : Option ArithFault} (ho : d.op = some o) (ht : d.trigger = 1)
    (hv : o.viol = some c) (hy : redoStep c fault = c.y) :
    s.classifyFault v p d fault = (s.blame v d [v] clsChecker evShadowMismatch).decided v d := by
  simp only [classifyFault, ho, ht, hv, hy, if_true]

theorem completes_recomputeComplete_shadow {u : TileId} {fault : Option ArithFault} {r : Recompute} {o : UnitOp} {c : Capture}
    (hr : (s.tile u).recomp = some r) (hc : (s.tile r.orig).detections.contains r.det = true) (ho : r.det.op = some o)
    (hh : s.redoHeld r.orig o = false) (ht : r.det.trigger = 1) (hv : o.viol = some c) (hy : redoStep c fault = c.y) :
    Completes (.recomputeComplete u fault) s fun t => (t.tile u).recomp = none
      ∧ (∃ e ∈ t.events, e.code = evShadowMismatch ∧ e.unit = tileUnit r.orig ∧ e.cls = clsChecker)
      ∧ t = { s.charged t with reguls := t.reguls } := by
  have he := exec_recomputeComplete (fault := fault) hr (by rw [ho]; exact hh)
  rw [keeps_detections_redone hr, if_pos hc, classifyFault_shadow ho ht hv hy] at he
  have hb : (s.redone u).Moves .charged ((s.redone u).blame r.orig r.det [r.orig] clsChecker evShadowMismatch) := moves_blame
  have hd : (s.redone u).Moves .charged (((s.redone u).blame r.orig r.det [r.orig] clsChecker evShadowMismatch).decided r.orig r.det) :=
    .after moves_decided hb
  have hi : Extent.charged.In .recompute := fun _ _ => rfl
  have hf := Extent.In.frame (a := .redone) (r := .recompute) (fun _ _ => rfl) (frame_redone hr)
  obtain ⟨e, hmem, hcode, hunit, hcls⟩ := event_mem_charge (s := s.redone u) (n := tileUnit r.orig) (cls := clsChecker)
    (code := evShadowMismatch) (opcode := r.det.num) (j := (s.redone u).jobOf r.orig) (detail := r.det.detail) (atOnce := false)
    (tied := false)
  refine completes_of_exec he ⟨(hd.recomp u).trans (recomp_redone hr), ⟨e, ?_, hcode, hunit, hcls⟩,
    (Extent.frame_trans hf (hi.frame hd.frame)).trans (Extent.upd_recompute _ _)⟩
  exact moves_decided.events hmem

/-! ## The norms of a corrupt map (R215) -/

theorem otherTiles_modTile {g : Tile → Tile} : s.otherTiles (s.modTile v g) v := fun _ h => tile_modTile_other _ _ _ _ h

theorem otherTiles_trans {w : State} (h : s.otherTiles t v) (h' : t.otherTiles w v) : s.otherTiles w v :=
  fun n hn => (h' n hn).trans (h n hn)

theorem exec_normRegen {u : TileId} {j : Job} {desc : Bytes} {i : Nat} {r : List (Bytes × Nat)} (hj : s.jobOf u = some j)
    (hr : (s.tile u).regen = (desc, i) :: r) (hst : j.state = 3) : exec (.normRegen u) s = .next (
      let a := Matmul.of desc
      if a.m ≤ i then s.modTile u fun x => { x with regen := r }
      else if j.patches.any fun p => p.1 == u.val && p.2.1 == a.norm + 8 * i then
        s.modTile u fun x => { x with regen := (desc, i + 1) :: r }
      else ((s.modTile u fun x => { x with regen := (desc, i + 1) :: r }).modTile u fun x => { x with
        winActs := x.winActs ++ [.spad (a.norm + 8 * i) (a.pairBytes (s.tile u) i)] }).patch u (a.norm + 8 * i) (a.pairBytes (s.tile u) i)) := by
  have he : exec (.normRegen u) s = execNormRegen u s := rfl
  simp only [he, execNormRegen, hj, hr, hst, ne_eq, not_true_eq_false, if_false]
  split
  · rfl
  · split <;> rfl

/-- A patch leaves the list of rows and the acts of the tile's windows. -/
theorem keeps_patch {a : Nat} {b : Bytes} : Keeps (fun x => (x.regen, x.winActs)) s (s.patch v a b) := by
  have hk : Keeps (fun x => (x.regen, x.winActs)) s (s.modTile v fun x => match x.ckpts.find x.curSlot with
      | some c => { x with ckpts := x.ckpts.set x.curSlot { c with spad := Memory.putN c.spad a b } }
      | none => x) := keeps_modTile fun x => by split <;> rfl
  exact hk

theorem otherTiles_patch {a : Nat} {b : Bytes} : s.otherTiles (s.patch v a b) v := by
  have ho : s.otherTiles (s.modTile v fun x => match x.ckpts.find x.curSlot with
      | some c => { x with ckpts := x.ckpts.set x.curSlot { c with spad := Memory.putN c.spad a b } }
      | none => x) v := otherTiles_modTile
  exact ho

theorem frame_patch {a : Nat} {b : Bytes} : s.patch v a b = Extent.patches.upd s (s.patch v a b) := rfl

/-- The pair stands in the patch list of the tile's job. -/
theorem mem_patches_patch {a : Nat} {b : Bytes} {k : Job} (hk : k ∈ (s.patch v a b).jobs) (ht : k.tag = s.rd TILE_JOB_JOB v) :
    (v, a, b) ∈ k.patches := by
  obtain ⟨-, hne⟩ | ⟨i, -, -, rfl⟩ := mem_modJob hk
  · exact absurd ht hne
  · exact List.mem_append_right _ (List.mem_singleton.mpr rfl)

theorem completes_normRegen_done {u : TileId} {j : Job} {desc : Bytes} {i : Nat} {r : List (Bytes × Nat)} (hj : s.jobOf u = some j)
    (hr : (s.tile u).regen = (desc, i) :: r) (hst : j.state = 3) (hi : (Matmul.of desc).m ≤ i) : Completes (.normRegen u) s fun t =>
      (t.tile u).regen = r ∧ (t.tile u).winActs = (s.tile u).winActs ∧ s.otherTiles t u ∧ t = { s with tiles := t.tiles } := by
  have he := exec_normRegen hj hr hst
  simp only [if_pos hi] at he
  refine completes_of_exec he ⟨?_, ?_, otherTiles_modTile, rfl⟩ <;> rw [tile_modTile_same]

theorem completes_normRegen_pair {u : TileId} {j : Job} {desc : Bytes} {i : Nat} {r : List (Bytes × Nat)} (hj : s.jobOf u = some j)
    (hr : (s.tile u).regen = (desc, i) :: r) (hst : j.state = 3) (hi : i < (Matmul.of desc).m)
    (hp : ∀ p ∈ j.patches, p.1 = u.val → p.2.1 ≠ (Matmul.of desc).norm + 8 * i) : Completes (.normRegen u) s fun t =>
      (t.tile u).regen = (desc, i + 1) :: r
        ∧ (t.tile u).winActs = (s.tile u).winActs ++ [.spad ((Matmul.of desc).norm + 8 * i) ((Matmul.of desc).pairBytes (s.tile u) i)]
        ∧ (∀ k ∈ t.jobs, k.tag = j.tag →
          (u.val, (Matmul.of desc).norm + 8 * i, (Matmul.of desc).pairBytes (s.tile u) i) ∈ k.patches)
        ∧ s.otherTiles t u ∧ t = { s with tiles := t.tiles, jobs := t.jobs } := by
  have hnew : j.patches.any (fun p => p.1 == u.val && p.2.1 == (Matmul.of desc).norm + 8 * i) = false := by
    refine List.any_eq_false.mpr fun p hpm h => ?_
    obtain ⟨hu, ha⟩ := Bool.and_eq_true_iff.mp h
    exact hp p hpm (eq_of_beq hu) (eq_of_beq ha)
  have he := exec_normRegen hj hr hst
  simp only [if_neg (Nat.not_le.mpr hi), hnew, Bool.false_eq_true, if_false] at he
  obtain ⟨hregen, hwin⟩ := Prod.mk.inj (keeps_patch (s := (s.modTile u fun x => { x with regen := (desc, i + 1) :: r }).modTile u fun x =>
      { x with winActs := x.winActs ++ [.spad ((Matmul.of desc).norm + 8 * i) ((Matmul.of desc).pairBytes (s.tile u) i)] })
    (v := u) (a := (Matmul.of desc).norm + 8 * i) (b := (Matmul.of desc).pairBytes (s.tile u) i) u)
  refine completes_of_exec he ⟨hregen.trans (by rw [tile_modTile_same, tile_modTile_same]),
    hwin.trans (by rw [tile_modTile_same, tile_modTile_same]), fun k hk ht => ?_,
    otherTiles_trans otherTiles_modTile (otherTiles_trans otherTiles_modTile otherTiles_patch), ?_⟩
  · exact mem_patches_patch hk (ht.trans (tag_of_jobByTag hj))
  · have ht : Extent.tiles.In .patches := fun _ _ => rfl
    exact Extent.frame_trans (Extent.frame_trans (frame_modTile ht) (frame_modTile ht)) frame_patch

end State
end Sys2Proof.Machine

namespace Sys2Proof.Proofs.Stack
open Machine

/-- A detection is taken up by a job that runs or has failed, once. -/
theorem exec_jobFaultDetect_taken {u : TileId} {s : State} (h : ∀ d ∈ (s.tile u).detections, d.taken = true) :
    exec (.jobFaultDetect u) s = .next s := by
  have hnone : ((s.tile u).detections.filter (!·.taken)) = [] :=
    List.filter_eq_nil_iff.mpr fun d hd => by rw [h d hd]; decide
  change execJobFaultDetect u s = _
  unfold execJobFaultDetect
  split
  · rfl
  · exact if_pos (.inl (by rw [hnone]; rfl))

/-- Settles O33: a restart, a comparison and a recompute each leave the rest of the state to what a charge may change. -/
theorem detectionsAndRecomputes : Obligations.DetectionsAndRecomputes := by
  refine ⟨fun u s => ⟨fun j d hj hd ht hst => State.completes_jobFaultDetect_running hj hd ht hst,
    fun j d hj hd ht hst => State.completes_jobFaultDetect_failed hj hd ht hst, exec_jobFaultDetect_taken,
    fun p q d e r x hu hne hp hq h => ⟨fun hsig => State.completes_dualCompare_equal hu hne hp hq h hsig,
      fun hsig hj => State.completes_dualCompare_differ hu hne hp hq h hsig hj⟩,
    fun v d r hv hu hd hnone => State.completes_dualLagTimeout hv hu hd hnone⟩,
    fun u fault s => ⟨fun d q hb hd ht htr hop hmode hbusy => ⟨fun p hp => ?_, fun hp => ?_⟩, fun r o hr ho hheld => ?_,
      fun r hr hh hc => State.completes_recomputeComplete_decided hr hh hc,
      fun r o c hr hc ho hh ht hv hy => State.completes_recomputeComplete_shadow hr hc ho hh ht hv hy,
      fun j d i r hj hr hst => ⟨fun hi => State.completes_normRegen_done hj hr hst hi,
        fun hi hp => State.completes_normRegen_pair hj hr hst hi hp⟩⟩⟩
  · have he := State.exec_recomputeIssue hb hd ht htr hop hmode hbusy
    rw [hp] at he
    exact completes_of_exec he ⟨⟨_, State.recomp_issueRecompute, rfl, rfl, rfl⟩,
      State.frame_issueRecompute.trans (Extent.upd_recompute _ _)⟩
  · have he := State.exec_recomputeIssue hb hd ht htr hop hmode hbusy
    rw [hp] at he
    obtain ⟨hq, hrep, hmoves⟩ := State.noteOnly_decided (code := evCheckUnexplained) hd
    exact completes_of_exec he ⟨hq, hrep, hmoves.frame⟩
  · change execRecomputeComplete u fault s = _
    simp only [execRecomputeComplete, hr, ho, Option.map_some, Option.getD_some, hheld, if_true]

end Sys2Proof.Proofs.Stack

end

section
/-! PROOFS of the statements about narrow arithmetic (spec/02_narrow_arithmetic.md): the checks that close after an operation
(R61 to R63, R68) and a store that waited behind the input guard (R206). The first parts state what a row of register writes, the
capture of a violation and a retirement do. -/
namespace Sys2Proof.Machine
namespace State

variable {s t : State} {v w : Nat}

/-! ## Other tiles and the job of a tile -/

theorem otherTiles_of_tiles (h : t.tiles = s.tiles) : s.otherTiles t v := fun w _ => by rw [tile, tile, h]

theorem Moves.tiles_regs (h : s.Moves .regs t) : t.tiles = s.tiles := (congrArg State.tiles h.frame :)

theorem Moves.jobs_tileRegs (h : s.Moves .tileRegs t) : t.jobs = s.jobs := (congrArg State.jobs h.frame :)

theorem jobOf_congr (hj : t.jobs = s.jobs) (hr : t.rd TILE_JOB_JOB w = s.rd TILE_JOB_JOB w) : t.jobOf w = s.jobOf w := by
  rw [jobOf, jobOf, hr, jobByTag_congr hj]

theorem otherTiles_detect {n cause : Nat} {op : Option UnitOp} : s.otherTiles (s.detect v n op cause) v := by
  unfold detect
  split
  · exact otherTiles_modTile
  · exact fun _ _ => rfl

theorem keeps_taOpen_detect {n cause : Nat} {op : Option UnitOp} : Keeps Tile.taOpen s (s.detect v n op cause) := by
  unfold detect
  exact .ite (keeps_modTile fun _ => rfl) (.refl s)

/-! ## A row of register writes -/

/-- Fields of one unit written one after the other. -/
def wrAll (s : State) (v : Nat) (l : List (Field × Nat)) : State := l.foldl (fun s k => s.wr k.1 v k.2) s

section
variable {l : List (Field × Nat)}

theorem moves_wrAll : s.Moves .regs (s.wrAll v l) := by
  unfold wrAll
  exact .foldl (fun _ _ => moves_wr) l s

/-- A field with another key than all that are written reads as before. -/
theorem rd_wrAll_apart {f : Field} (h : ∀ g ∈ l.map Prod.fst, f.apart g = true) : (s.wrAll v l).rd f w = s.rd f w := by
  induction l generalizing s with
  | nil => rfl
  | cons k l ih =>
    obtain ⟨hk, hl⟩ := List.forall_mem_cons.mp h
    exact (ih (s := s.wr k.1 v k.2) hl).trans (rd_wr_apart _ _ _ _ _ _ hk)

/-- Where the fields have different keys, each reads as it was written. -/
theorem rd_wrAll_mem {f : Field} {n : Nat} (hl : (l.map Prod.fst).Pairwise fun f g => f.apart g = true) (h : (f, n) ∈ l) :
    (s.wrAll v l).rd f v = n % 2 ^ f.w := by
  induction l generalizing s with
  | nil => exact absurd h List.not_mem_nil
  | cons k l ih =>
    obtain ⟨hk, hl⟩ := List.pairwise_cons.mp hl
    obtain rfl | h := List.mem_cons.mp h
    · exact (rd_wrAll_apart (s := s.wr f v n) hk).trans (rd_wr_same ..)
    · exact ih (s := s.wr k.1 v k.2) hl h
end

/-! ## The capture of a violation (R62, R63, R68) -/

/-- The fields that the capture of a violation sets. -/
def violFields : List Field :=
  [NBC_STATUS_VIOL, NBC_VIOL_SEQ_SEQ, NBC_VIOL_POS_ROW, NBC_VIOL_POS_COL, NBC_VIOL_Y_Y, NBC_VIOL_B_BTOL, NBC_VIOL_C_C]

/-- What the capture of a violation of operation `num` writes into them. -/
def violWrites (num : Nat) (c : Capture) : List (Field × Nat) :=
  [(NBC_STATUS_VIOL, 1), (NBC_VIOL_SEQ_SEQ, num), (NBC_VIOL_POS_ROW, c.row), (NBC_VIOL_POS_COL, c.col), (NBC_VIOL_Y_Y, c.y),
    (NBC_VIOL_B_BTOL, c.b), (NBC_VIOL_C_C, c.c)]

section
variable {num n : Nat} {c : Capture} {f : Field}

theorem map_fst_violWrites : (violWrites num c).map Prod.fst = violFields := rfl

theorem violFields_pairwise : violFields.Pairwise fun f g => f.apart g = true := by decide

/-- Every violation counts, and the first is captured. -/
theorem captureViol_eq : s.captureViol v num c = if s.rdb NBC_STATUS_VIOL v then s.cnt NBC_VIOLATIONS_COUNT v 1
    else (s.cnt NBC_VIOLATIONS_COUNT v 1).wrAll v (violWrites num c) := by
  have hviol : (s.cnt NBC_VIOLATIONS_COUNT v 1).rdb NBC_STATUS_VIOL v = s.rdb NBC_STATUS_VIOL v :=
    rdb_wr_apart _ _ _ _ _ _ (by decide)
  rw [← hviol]
  rfl

theorem moves_captureViol : s.Moves .regs (s.captureViol v num c) := by
  rw [captureViol_eq]
  exact .ite moves_wr (.after moves_wrAll moves_wr)

/-- What neither counts violations nor captures one stays. -/
theorem rd_captureViol_apart (hc : f.apart NBC_VIOLATIONS_COUNT = true) (h : ∀ g ∈ violFields, f.apart g = true) :
    (s.captureViol v num c).rd f w = s.rd f w := by
  rw [captureViol_eq]
  split
  · exact rd_wr_apart _ _ _ _ _ _ hc
  · exact (rd_wrAll_apart (l := violWrites num c) h).trans (rd_wr_apart _ _ _ _ _ _ hc)

theorem rd_captureViol_count : (s.captureViol v num c).rd NBC_VIOLATIONS_COUNT v
    = satAdd NBC_VIOLATIONS_COUNT.w (s.rd NBC_VIOLATIONS_COUNT v) 1 := by
  rw [captureViol_eq]
  split
  · exact rd_cnt_same ..
  · rw [rd_wrAll_apart (by rw [map_fst_violWrites]; decide), rd_cnt_same]

/-- The first violation is captured. -/
theorem rd_captureViol_first (hs : s.rdb NBC_STATUS_VIOL v = false) (h : (f, n) ∈ violWrites num c) :
    (s.captureViol v num c).rd f v = n % 2 ^ f.w := by
  rw [captureViol_eq, if_neg (by rw [hs]; decide), rd_wrAll_mem (l := violWrites num c) violFields_pairwise h]

/-- A later violation leaves the capture as it stands. -/
theorem rd_captureViol_later (hs : s.rdb NBC_STATUS_VIOL v = true) (h : f.apart NBC_VIOLATIONS_COUNT = true) :
    (s.captureViol v num c).rd f w = s.rd f w := by
  rw [captureViol_eq, if_pos hs]
  exact rd_wr_apart _ _ _ _ _ _ h

theorem viol_captureViol : (s.captureViol v num c).rdb NBC_STATUS_VIOL v = true := by
  cases hs : s.rdb NBC_STATUS_VIOL v with
  | false =>
    rw [rdb, rd_captureViol_first hs (List.mem_cons_self ..)]
    decide
  | true => rw [rdb, rd_captureViol_later hs (by decide), ← hs, rdb]

theorem jobOf_captureViol : (s.captureViol v num c).jobOf w = s.jobOf w :=
  jobOf_congr (moves_captureViol.mono (r := .tileRegs)).jobs_tileRegs (rd_captureViol_apart (by decide) (by decide))
end

/-! ## The close of an operation's checks (R61, R67) -/

/-- The checks of the oldest operation are closed: it leaves the open ones, and an exempt row sets EXEMPT. -/
def checksClosed (s : State) (v : Nat) (op : UnitOp) (q : List UnitOp) : State :=
  let s := (s.modTile v fun x => { x with taOpen := q }).setOpen v
  if op.exempt then s.wr NBC_STATUS_EXEMPT v 1 else s

section
variable {op : UnitOp} {q : List UnitOp}

theorem tiles_checksClosed : (s.checksClosed v op q).tiles = (s.modTile v fun x => { x with taOpen := q }).tiles := by
  unfold checksClosed setOpen
  dsimp only
  split <;> rfl

theorem tile_checksClosed : (s.checksClosed v op q).tile v = { s.tile v with taOpen := q } := by
  rw [tile, tiles_checksClosed]
  exact tile_modTile_same ..

theorem otherTiles_checksClosed : s.otherTiles (s.checksClosed v op q) v :=
  otherTiles_trans otherTiles_modTile (otherTiles_of_tiles tiles_checksClosed)

theorem moves_checksClosed : s.Moves .tileRegs (s.checksClosed v op q) := by
  have hopen : s.Moves .tileRegs ((s.modTile v fun x => { x with taOpen := q }).setOpen v) :=
    .after moves_wr (.mono (moves_modTile fun _ => rfl))
  unfold checksClosed
  exact .ite (.after moves_wr hopen) hopen

theorem rd_checksClosed {f : Field} (ho : f.apart NBC_STATUS_OPEN = true) (he : f.apart NBC_STATUS_EXEMPT = true) :
    (s.checksClosed v op q).rd f w = s.rd f w := by
  unfold checksClosed setOpen
  dsimp only
  split
  · rw [rd_wr_apart _ _ _ _ _ _ he, rd_wr_apart _ _ _ _ _ _ ho, rd_modTile]
  · rw [rd_wr_apart _ _ _ _ _ _ ho, rd_modTile]

theorem exempt_checksClosed (h : op.exempt = true) : (s.checksClosed v op q).rdb NBC_STATUS_EXEMPT v = true := by
  rw [checksClosed, if_pos h, rdb_wr_same]
  decide

theorem jobOf_checksClosed : (s.checksClosed v op q).jobOf w = s.jobOf w :=
  jobOf_congr moves_checksClosed.jobs_tileRegs (rd_checksClosed (by decide) (by decide))

section
variable {u : TileId}

theorem exec_nbcCheckClose (ho : (s.tile u).taOpen = op :: q) : exec (.nbcCheckClose u) s = .next (match op.viol with
    | none => s.checksClosed u op q
    | some c => ((s.checksClosed u op q).captureViol u op.num c).detect u 0 (some op) 0) := by
  have he : exec (.nbcCheckClose u) s = execNbcCheckClose u s := rfl
  rw [he, execNbcCheckClose, ho]
  dsimp only
  cases op.viol <;> rfl

/-- The checks close without a violation. -/
theorem completes_nbcCheckClose_passed (ho : (s.tile u).taOpen = op :: q) (hv : op.viol = none) :
    Completes (.nbcCheckClose u) s fun t => (t.tile u).taOpen = q
      ∧ (op.exempt = true → t.rdb NBC_STATUS_EXEMPT u = true) ∧ t.rd NBC_VIOLATIONS_COUNT u = s.rd NBC_VIOLATIONS_COUNT u
      ∧ (t.tile u).detections = (s.tile u).detections ∧ s.otherTiles t u ∧ t = { s with tiles := t.tiles, regs := t.regs } := by
  have he := exec_nbcCheckClose ho
  rw [hv] at he
  exact completes_of_exec he ⟨by rw [tile_checksClosed], exempt_checksClosed, rd_checksClosed (by decide) (by decide),
    by rw [tile_checksClosed], otherTiles_checksClosed, moves_checksClosed.frame⟩

/-- The checks close with a violation. -/
theorem completes_nbcCheckClose_violated {c : Capture} (ho : (s.tile u).taOpen = op :: q) (hv : op.viol = some c) :
    Completes (.nbcCheckClose u) s fun t => (t.tile u).taOpen = q
      ∧ t.rd NBC_VIOLATIONS_COUNT u = satAdd NBC_VIOLATIONS_COUNT.w (s.rd NBC_VIOLATIONS_COUNT u) 1
      ∧ t.rdb NBC_STATUS_VIOL u = true
      ∧ (s.rdb NBC_STATUS_VIOL u = false → t.rd NBC_VIOL_SEQ_SEQ u = op.num % 2 ^ 32
        ∧ t.rd NBC_VIOL_POS_ROW u = c.row % 2 ^ NBC_VIOL_POS_ROW.w
          ∧ t.rd NBC_VIOL_POS_COL u = c.col % 2 ^ NBC_VIOL_POS_COL.w ∧ t.rd NBC_VIOL_Y_Y u = c.y % 2 ^ 32)
      ∧ (s.rdb NBC_STATUS_VIOL u = true → t.rd NBC_VIOL_SEQ_SEQ u = s.rd NBC_VIOL_SEQ_SEQ u
          ∧ t.rd NBC_VIOL_Y_Y u = s.rd NBC_VIOL_Y_Y u)
      ∧ ((s.jobOf u).isSome = true → (t.tile u).detections.length = (s.tile u).detections.length + 1)
      ∧ s.otherTiles t u ∧ t = { s with tiles := t.tiles, regs := t.regs } := by
  have he := exec_nbcCheckClose ho
  rw [hv] at he
  have hcap : ((s.checksClosed u op q).captureViol u op.num c).tiles = (s.checksClosed u op q).tiles := moves_captureViol.tiles_regs
  have htile : ((s.checksClosed u op q).captureViol u op.num c).tile u = { s.tile u with taOpen := q } := by
    rw [tile, hcap]
    exact tile_checksClosed
  have hstat : (s.checksClosed u op q).rdb NBC_STATUS_VIOL u = s.rdb NBC_STATUS_VIOL u := by
    rw [rdb, rd_checksClosed (by decide) (by decide), rdb]
  refine completes_of_exec he ⟨by rw [keeps_taOpen_detect, htile], ?count, by rw [rdb, rd_detect]; exact viol_captureViol,
    fun h => ?first, fun h => ?later, fun hj => ?detection,
    otherTiles_trans otherTiles_checksClosed (otherTiles_trans (otherTiles_of_tiles hcap) otherTiles_detect),
    (Moves.after (r := .tileRegs) moves_detect (.after moves_captureViol moves_checksClosed)).frame⟩
  case count => rw [rd_detect, rd_captureViol_count, rd_checksClosed (by decide) (by decide)]
  case first =>
    have hset {f : Field} {n : Nat} (hf : (f, n) ∈ violWrites op.num c) := rd_captureViol_first (hstat.trans h) hf
    simp only [rd_detect]
    exact ⟨hset (by simp [violWrites]), hset (by simp [violWrites]), hset (by simp [violWrites]), hset (by simp [violWrites])⟩
  case later =>
    simp only [rd_detect, rd_captureViol_later (hstat.trans h) (show NBC_VIOL_SEQ_SEQ.apart NBC_VIOLATIONS_COUNT = true by decide),
      rd_captureViol_later (hstat.trans h) (show NBC_VIOL_Y_Y.apart NBC_VIOLATIONS_COUNT = true by decide)]
    exact ⟨rd_checksClosed (by decide) (by decide), rd_checksClosed (by decide) (by decide)⟩
  case detection =>
    rw [detections_detect (by rw [jobOf_captureViol, jobOf_checksClosed]; exact hj), htile, List.length_append, List.length_singleton]
end
end

end State
end Sys2Proof.Machine

/-! PROOFS, continued: an instruction that retires, the store that the input guard lets go, and the statement about checks. -/
namespace Sys2Proof.Machine

/-! ## Retirement (R81) -/

/-- A written register reads as written; x0 reads zero. -/
theorem Tile.xr_setX {x : Tile} {d r n : Nat} (hd : d < 32) :
    (x.setX d n).xr r = if r = d ∧ d ≠ 0 then n % 2 ^ 64 else x.xr r := by
  unfold Tile.setX
  by_cases h0 : d = 0
  · rw [if_pos h0, if_neg fun h => h.2 h0]
  · rw [if_neg h0]
    by_cases hr : r = d
    · simp [Tile.xr, hr, h0, hd]
    · simp [Tile.xr, hr, Ne.symm hr]

namespace State

variable {s t : State} {v : Nat}

theorem rd_retire {f : Field} {w d n k : Nat} : (s.retire v d n k).rd f w = s.rd f w := rfl

theorem retired_retire {d n : Nat} (hd : d < 32) : s.retired (s.retire v d n 4) v d n := by
  refine ⟨?_, fun r => ?_, otherTiles_modTile⟩
  · rw [retire, tile_modTile_same]
    rfl
  · rw [retire, tile_modTile_same]
    exact Tile.xr_setX hd

/-- What an instruction did to its tile beside the pc and the registers does not show in its retirement. -/
theorem retired_of_same {s' : State} {d n : Nat} (hpc : (s'.tile v).pc = (s.tile v).pc) (hx : (s'.tile v).x = (s.tile v).x)
    (hother : s.otherTiles s' v) (h : s'.retired t v d n) : s.retired t v d n := by
  obtain ⟨htpc, htx, htother⟩ := h
  refine ⟨htpc.trans (by rw [hpc]), fun r => (htx r).trans ?_, fun w hw => (htother w hw).trans (hother w hw)⟩
  simp only [Tile.xr, hx]

/-- Beside the pc and the registers, a retirement counts. -/
theorem tile_retire {d n : Nat} : ∃ x pc c, (s.retire v d n 4).tile v = { s.tile v with x := x, pc := pc, counters := c } := by
  rw [retire, tile_modTile_same]
  unfold Tile.setX
  split
  · exact ⟨_, _, _, rfl⟩
  · exact ⟨_, _, _, rfl⟩

/-! ## A store that the input guard lets go (R206) -/

theorem takeGuarded_head {p : GuardedWrite → Bool} {k : Nat × GuardedWrite} {r : List (Nat × GuardedWrite)} (h : p k.2 = true) :
    takeGuarded p (k :: r) = some (k, r) := by rw [takeGuarded, if_pos h]

/-- The state in which a store that waited has been made: its wait is counted, and it has left the waiting writes. -/
def storeMade (s : State) (v t0 : Nat) (r : List (Nat × GuardedWrite)) (a : Nat) (b : Bytes) : State :=
  ((s.cnt NBC_GUARD_STALL v ((s.now - t0) * s.mhz v / 1000)).modTile v fun x => { x with guarded := r }).modTile v fun x =>
    { x.wrSpad a b with wait := none }

section
variable {t0 a : Nat} {b : Bytes} {r : List (Nat × GuardedWrite)}

theorem tile_storeMade : (s.storeMade v t0 r a b).tile v = { ({ s.tile v with guarded := r } : Tile).wrSpad a b with wait := none } := by
  rw [storeMade, tile_modTile_same, tile_modTile_same, cnt, tile_wr]

theorem rd_stall_storeMade : (s.storeMade v t0 r a b).rd NBC_GUARD_STALL v
    = satAdd NBC_GUARD_STALL.w (s.rd NBC_GUARD_STALL v) ((s.now - t0) * s.mhz v / 1000) := by
  rw [storeMade, rd_modTile, rd_modTile, rd_cnt_same]

theorem moves_storeMade : s.Moves .tileRegs (s.storeMade v t0 r a b) :=
  .after (moves_modTile fun _ => rfl) (.after (moves_modTile fun _ => rfl) (.mono moves_wr))

theorem otherTiles_storeMade : s.otherTiles (s.storeMade v t0 r a b) v := fun w hw => by
  rw [storeMade, tile_modTile_other _ _ _ _ hw, tile_modTile_other _ _ _ _ hw, cnt, tile_wr]

theorem retired_storeMade {d n : Nat} (hd : d < 32) : s.retired ((s.storeMade v t0 r a b).retire v d n 4) v d n :=
  retired_of_same (by rw [tile_storeMade]; rfl) (by rw [tile_storeMade]; rfl) otherTiles_storeMade (retired_retire hd)

theorem moves_retire {d n k : Nat} : s.Moves .tiles (s.retire v d n k) := by
  refine moves_modTile fun x => ?_
  unfold Tile.setX
  split <;> rfl

/-- The oldest waiting write, a store that no guarded region stalls, goes. -/
theorem exec_guardedWriteResume_store {u : TileId} {d n : Nat} (hw : (s.tile u).wait = some (.store a b d n 4))
    (hg : (s.tile u).guarded = (t0, .store) :: r) (hfree : (s.tile u).guards ⟨a, b.length⟩ = false) :
    exec (.guardedWriteResume u) s = .next ((s.storeMade u t0 r a b).retire u d n 4) := by
  have he : exec (.guardedWriteResume u) s = execGuardedWriteResume u s := rfl
  have hwait (k : Nat) : (((s.cnt NBC_GUARD_STALL u k).modTile u fun x => { x with guarded := r }).tile u).wait
      = some (.store a b d n 4) := by rw [tile_modTile_same]; exact hw
  rw [he, execGuardedWriteResume, hg]
  dsimp only
  rw [takeGuarded_head (by simp [writeWaits, guardedRegions, hw, hfree])]
  simp only [resumeWrite, hwait]
  rfl

theorem completes_guardedWriteResume_store {u : TileId} {d n : Nat} (hd : d < 32)
    (hw : (s.tile u).wait = some (.store a b d n 4)) (hg : (s.tile u).guarded = (t0, .store) :: r)
    (hfree : (s.tile u).guards ⟨a, b.length⟩ = false) : Completes (.guardedWriteResume u) s fun t =>
      s.retired t u d n ∧ (t.tile u).wait = none ∧ (t.tile u).guarded = r ∧ (t.tile u).rdSpad a b.length = b
        ∧ (∀ x, x < a ∨ a + b.length ≤ x → Memory.get (t.tile u).spad x = Memory.get (s.tile u).spad x)
        ∧ t.rd NBC_GUARD_STALL u = satAdd NBC_GUARD_STALL.w (s.rd NBC_GUARD_STALL u) ((s.now - t0) * s.mhz u / 1000)
        ∧ t = { s with tiles := t.tiles, regs := t.regs } := by
  obtain ⟨x, pc, c, ht⟩ := tile_retire (s := s.storeMade u t0 r a b) (v := u) (d := d) (n := n)
  rw [tile_storeMade] at ht
  refine completes_of_exec (exec_guardedWriteResume_store hw hg hfree) ⟨retired_storeMade hd, by rw [ht],
    by rw [ht]; rfl, ?_, fun y hy => ?_, rd_retire.trans rd_stall_storeMade, (Moves.after (r := .tileRegs) moves_retire moves_storeMade).frame⟩
  · rw [ht]
    exact Memory.getN_putN _ a b
  · rw [ht]
    exact Memory.get_putN_other _ a y b hy
end

end State
end Sys2Proof.Machine

namespace Sys2Proof.Proofs.Narrow
open Machine

/-- Settles O26: a close and its capture are rows of writes to registers of different keys, and a store that the guard lets go is
made and then retires like any other. -/
theorem checksAndGuardedStores : Obligations.ChecksAndGuardedStores :=
  ⟨fun _ _ _ _ ho => ⟨fun hv => State.completes_nbcCheckClose_passed ho hv, fun _ hv => State.completes_nbcCheckClose_violated ho hv⟩,
    fun _ _ _ _ _ _ _ _ hd hw hg hfree => State.completes_guardedWriteResume_store hd hw hg hfree⟩

end Sys2Proof.Proofs.Narrow

end

section
/-! PROOFS of the statement about the Tensor Array (R39, R116, R118, R136): what a MATMUL of one column computes, what writing an
operation's outputs changes, and what an ATTN that appends and reads its pages may change. -/
namespace Sys2Proof.Machine

/-! ## The outputs of a MATMUL (R39, R116, R118) -/

/-- The FP32 bytes of the column that a MATMUL of one column gives on the floating path: for each row of W the sum of its products
with the column, accumulated from +0 in chunks of `g`. -/
def Matmul.column (a : Matmul) (x : Tile) (g : Nat) : Bytes :=
  let col := (operandRows x a.xf a.k a.n a.x a.xs a.xsc).1.headD []
  (operandRows x a.wf a.k a.m a.w a.ws a.wsc).1.flatMap fun r => toLE 4 (fp32Bits (accFloat g Val.zero (r.zip col)))

theorem fp32Val_zero : fp32Val 0 = Val.zero := by
  simp [fp32Val, floatVal, bf, bit, Val.mk', Val.zero]

/-- What is made of the members of a list with their positions, and does not depend on these. -/
theorem flatMap_zipIdx_fst {α β : Type} (l : List α) (f : α → List β) : l.zipIdx.flatMap (fun p => f p.1) = l.flatMap f := by
  rw [← List.flatMap_map, List.zipIdx_map_fst]

/-- An element of the floating path without an addend and without a fault of the silicon. -/
theorem bits_matElem {g : Nat} {w x : List Val} : (matElem false g 0 w x 0).bits = fp32Bits (accFloat g Val.zero (w.zip x)) := by
  simp [matElem, Elem.float, fp32Val_zero]

/-- A MATMUL of one column with FP32 results writes that column and nothing else. -/
theorem writes_matmulRun_column {x : Tile} {a : Matmul} {satf : Bool} {rmode rng e g k : Nat}
    (hp : pairOf a.wf a.xf = some (g, false, k)) (hn : a.n = 1) (hy : a.yf = 0) (hacc : a.accin = false) (hflag : a.flagen = false) :
    (matmulRun x a satf rmode rng e none).writes = [(a.y, a.column x g)] := by
  obtain ⟨col, hcol⟩ : ∃ col, (operandRows x a.xf a.k a.n a.x a.xs a.xsc).1 = [col] := by
    rw [hn]
    exact ⟨_, rfl⟩
  have hrec : recordBytes 0 a.m = 0 := rfl
  simp only [matmulRun, hp, hcol, hy, hflag, hrec, Matmul.column, Matmul.cbits, hacc, List.headD_cons, List.zipIdx_singleton,
    List.map_singleton, List.foldl_cons, List.foldl_nil, List.nil_append, List.flatMap_singleton, if_true,
    Bool.false_eq_true, if_false, Nat.zero_mul, Nat.add_zero, List.append_nil, List.flatMap_map, bits_matElem]
  exact congrArg (fun b => [(a.y, b)]) (flatMap_zipIdx_fst _ fun wr : List Val => toLE 4 (fp32Bits (accFloat g Val.zero (wr.zip col))))

/-! ## Outputs written (R78, R126, R208) -/

/-- The poison markers are no bytes of the scratchpad. -/
theorem Tile.spad_moveAll {x : Tile} {ws : List (Nat × Bytes)} {bad : Bool} :
    (x.moveAll ws bad).spad = (ws.foldl (fun x w => x.wrSpad w.1 w.2) x).spad := by
  unfold Tile.moveAll
  dsimp only
  generalize ws.foldl (fun x w => x.wrSpad w.1 w.2) x = y
  generalize (ws.flatMap fun w => linesOf w.1 w.2.length) = l
  induction l generalizing y with
  | nil => rfl
  | cons n l ih =>
    rw [List.foldl_cons, ih]
    have hset : (y.setPoison n).spad = y.spad := by
      unfold Tile.setPoison
      split <;> rfl
    split
    · exact hset
    · split <;> rfl

/-- One run of outputs: its bytes stand at its address, and every other byte stays. -/
theorem Tile.spad_moveAll_run {x : Tile} {a : Nat} {b : Bytes} {bad : Bool} : (x.moveAll [(a, b)] bad).spad = Memory.putN x.spad a b :=
  Tile.spad_moveAll

namespace State

variable {s t : State} {n m v : Nat}

theorem moves_setFlags : s.Moves .regs (s.setFlags n m) := by
  unfold setFlags
  exact .foldl (fun t _ => .ite moves_wr (.refl t)) aflagBits s

section
variable {op : UnitOp} {r : OpResult} {bad : Bool} {count col : List (Nat × Bytes)}

/-- An operation's flags and its generator are set in the registers alone. -/
theorem moves_flagsAndSeed : s.Moves .regs ((s.setFlags n r.flags).wr TA_SRNG_TA_STATE n r.rng) := .after moves_wr moves_setFlags

/-- The outputs are written, and the operation with its number and its descriptor stands as written. -/
theorem tile_taPut : ∃ p : UnitOp, p.written = true ∧ p.num = op.num ∧ p.desc = op.desc
    ∧ (s.taPut v op r bad count col).tile v = { (s.tile v).moveAll r.writes bad with taRun := some p } := by
  have ht : ((s.setFlags v r.flags).wr TA_SRNG_TA_STATE v r.rng).tile v = s.tile v := by
    rw [tile, moves_flagsAndSeed.tiles_regs, tile]
  rw [taPut, tile_modTile_same, ht]
  exact ⟨{ op with
    written := true, exempt := r.exempt, viol := if bad then none else r.viol
    sig := opSig (r.writes ++ count) col, rng := s.rd TA_SRNG_TA_STATE v }, rfl, rfl, rfl, rfl⟩

theorem otherTiles_taPut : s.otherTiles (s.taPut v op r bad count col) v :=
  otherTiles_trans (otherTiles_of_tiles (moves_flagsAndSeed (r := r)).tiles_regs) otherTiles_modTile

theorem frame_taPut : s.taPut v op r bad count col = Extent.tileRegs.upd s (s.taPut v op r bad count col) := by
  have hi : Extent.tiles.In .tileRegs := fun _ _ => rfl
  unfold taPut
  exact Extent.frame_trans (Extent.In.frame (fun _ _ => rfl) (moves_flagsAndSeed (r := r)).frame) (frame_modTile hi)
end

/-! ## A column written by the stratum (R220, R243) -/

theorem moves_writePoison : s.Moves .charged (s.writePoison n m) := .after moves_putLine (.after moves_markWritten moves_undoFor)

theorem moves_writeLine {b : Bytes} : s.Moves .charged (s.writeLine n m v b) := by
  unfold writeLine
  split
  · exact .refl s
  · exact .after moves_putLine (.after moves_markWritten moves_undoFor)

theorem moves_mergeLine {off : Nat} {b : Bytes} : s.Moves .charged (s.mergeLine n m v off b) := by
  unfold mergeLine
  exact .ite moves_readLine (.after moves_writeLine moves_readLine)

theorem moves_mergeCol {k a : Nat} {b : Bytes} : s.Moves .charged (s.mergeCol n m k a b) := by
  induction k generalizing s a b with
  | zero => exact .refl s
  | succ k ih =>
    unfold mergeCol
    exact .ite (.refl s) (.after ih moves_mergeLine)

theorem moves_poisonCol {a len : Nat} : s.Moves .charged (s.poisonCol n a len) := .each (fun _ _ => moves_writePoison) _ s

/-! ## An ATTN appends and reads (R126, R127, R133) -/

section
variable {a : Attn} {p : PageDesc} {bad : Bool}

theorem moves_setPoison {l : Nat} : s.Moves .tiles (s.modTile v fun x => x.setPoison l) := by
  refine moves_modTile fun x => ?_
  unfold Tile.setPoison
  split <;> rfl

theorem moves_appendPoison : s.Moves .charged (s.appendPoison v a p) := by
  unfold appendPoison
  refine .after moves_setPoison (.foldl (fun t i => .foldl (fun t w => ?_) _ t) _ s)
  exact .after moves_poisonCol moves_poisonCol

theorem moves_attnAppend : s.Moves .charged (s.attnAppend v a bad).1 := by
  have hput (l : List (Nat × Bytes)) (k : PageDesc) : s.Moves .charged
      (l.foldl (fun s w => if bad then s else s.mergeCol v k.kslot 6 (k.addr + w.1) w.2) s) :=
    .foldl (fun t _ => .ite (.refl t) moves_mergeCol) l s
  have hcount (x : Nat) (b : Bytes) (t : State) : t.Moves .charged (t.modTile v fun x' => x'.wrSpad x b) :=
    .mono (moves_modTile fun _ => rfl)
  unfold attnAppend
  exact .ite (.after moves_appendPoison (.after (hcount ..) (hput ..))) (.after (hcount ..) (hput ..))

theorem moves_readPage {d : Nat} : s.Moves .charged (s.readPage v d p).1 := by
  refine Moves.foldl_fst (fun q i => ?_) _ (s, [], false)
  dsimp only
  split
  · exact moves_readLine
  · exact .refl _

theorem moves_readPages : s.Moves .charged (s.readPages v a).1 := by
  unfold readPages
  refine Moves.foldl_fst (fun p b => ?_) _ (s, [], false)
  exact moves_readPage

/-- The state in which an ATTN computes: it has appended, and read its pages. -/
def attnRead (s : State) (v : Nat) (a : Attn) : State :=
  let bad := a.poisoned (s.tile v)
  let p := (if a.append then s.attnAppend v a bad else (s, 0)).1.readPages v a
  if a.append && !bad && p.2.2 then p.1.appendPoison v a (PageDesc.ofBytes ((s.tile v).rdSpad a.lastDesc 16)) else p.1

theorem moves_attnRead : s.Moves .charged (s.attnRead v a) := by
  have happend (c : Bool) : s.Moves .charged (if a.append then s.attnAppend v a c else (s, 0)).1 := by
    split
    · exact moves_attnAppend
    · exact .refl s
  unfold attnRead
  exact .ite (.after moves_appendPoison (.after moves_readPages (happend _))) (.after moves_readPages (happend _))

/-- An ATTN appends and reads, and then puts its result. -/
theorem attnWrite_eq {op : UnitOp} {fault : Option ArithFault} : ∃ r bad count col,
    s.attnWrite v op fault = (s.attnRead v (Attn.of op.desc)).taPut v op r bad count col := by
  cases ha : (Attn.of op.desc).append with
  | true => exact ⟨_, _, _, _, if_pos ha⟩
  | false => exact ⟨_, _, _, _, if_neg (Bool.eq_false_iff.mp ha)⟩

section
variable {op : UnitOp} {fault : Option ArithFault}

theorem written_attnWrite : ∃ p : UnitOp, ((s.attnWrite v op fault).tile v).taRun = some p ∧ p.written = true ∧ p.num = op.num
    ∧ p.desc = op.desc := by
  obtain ⟨r, bad, count, col, hput⟩ := attnWrite_eq (s := s) (v := v) (op := op) (fault := fault)
  obtain ⟨p, hw, hn, hd, ht⟩ := tile_taPut (s := s.attnRead v (Attn.of op.desc)) (v := v) (op := op) (r := r) (bad := bad)
    (count := count) (col := col)
  exact ⟨p, by rw [hput, ht], hw, hn, hd⟩

theorem frame_attnWrite : s.attnWrite v op fault = Extent.charged.upd s (s.attnWrite v op fault) := by
  obtain ⟨r, bad, count, col, hput⟩ := attnWrite_eq (s := s) (v := v) (op := op) (fault := fault)
  rw [hput]
  exact Extent.frame_trans moves_attnRead.frame (Extent.In.frame (a := .tileRegs) (fun _ _ => rfl) frame_taPut)
end
end

/-! ## The rows (R116, R136, R206) -/

section
variable {u : TileId} {op : UnitOp} {opc : Nat} {fault : Option ArithFault}

theorem exec_matmul : exec (.matmul u fault) s = .next (s.taWrite u 1 fault) := rfl

theorem exec_attn : exec (.attn u fault) s = .next (s.taWrite u 2 fault) := rfl

variable (hr : (s.tile u).taRun = some op)
include hr

/-- The operation that runs is another than the row names. -/
theorem taWrite_other (h : fld op.desc 0 1 ≠ opc) : s.taWrite u opc fault = s := by
  simp only [taWrite, hr]
  exact if_pos (.inr (.inl h))

variable (hw : op.written = false) (hgo : (s.tile u).unitsGo = true)
  (hfree : ((taOutputs op.desc).any fun r => (s.tile u).guards r (some (false, op.num))) = false)
include hw hgo hfree

/-- The operation writes: it runs, and neither the guard nor a held line keeps it. -/
theorem taWrite_eq (ho : fld op.desc 0 1 = opc) (hheld : opc = 2 → s.attnHeld u (Attn.of op.desc) = false) :
    s.taWrite u opc fault = if opc = 1 then s.matmulWrite u op fault else s.attnWrite u op fault := by
  have hgoes : ¬(op.written = true ∨ fld op.desc 0 1 ≠ opc ∨ (!(s.tile u).unitsGo) = true
      ∨ opc = 2 ∧ s.attnHeld u (Attn.of op.desc) = true) := by
    simpa [hw, ho, hgo] using hheld
  simp only [taWrite, hr]
  rw [if_neg hgoes, if_neg (by rw [hfree]; decide)]

theorem completes_matmul_column {a : Matmul} {g k : Nat} (ha : Matmul.of op.desc = a) (ho : fld op.desc 0 1 = 1)
    (hp : pairOf a.wf a.xf = some (g, false, k)) (hn : a.n = 1) (hy : a.yf = 0) (hacc : a.accin = false) (hflag : a.flagen = false) :
    Completes (.matmul u none) s fun t =>
      ((t.tile u).rdSpad a.y (a.column (s.tile u) g).length = a.column (s.tile u) g
        ∧ ∀ z, z < a.y ∨ a.y + (a.column (s.tile u) g).length ≤ z → Memory.get (t.tile u).spad z = Memory.get (s.tile u).spad z)
      ∧ (∃ p, (t.tile u).taRun = some p ∧ p.written = true ∧ p.num = op.num) ∧ s.otherTiles t u
      ∧ t = { s with tiles := t.tiles, regs := t.regs } := by
  have he : exec (.matmul u none) s = .next (s.matmulWrite u op none) := by
    rw [exec_matmul, taWrite_eq hr hw hgo hfree ho (fun h => absurd h (by decide)), if_pos rfl]
  subst ha
  obtain ⟨p, hpw, hpn, -, hput⟩ := tile_taPut (s := s) (v := u) (op := op) (bad := (Matmul.of op.desc).poisoned (s.tile u))
    (r := matmulRun (s.tile u) (Matmul.of op.desc) (s.rdb TA_ARITH_SATF u) (s.rd TA_ARITH_RMODE u) (s.rd TA_SRNG_TA_STATE u) op.tol none)
    (count := []) (col := [])
  have ht : (s.matmulWrite u op none).tile u = _ := hput
  have hspad : ((s.matmulWrite u op none).tile u).spad
      = Memory.putN (s.tile u).spad (Matmul.of op.desc).y ((Matmul.of op.desc).column (s.tile u) g) := by
    rw [ht, writes_matmulRun_column hp hn hy hacc hflag]
    exact Tile.spad_moveAll_run
  refine completes_of_exec he ⟨⟨?_, fun z hz => ?_⟩, ⟨p, by rw [ht], hpw, hpn⟩, otherTiles_taPut, frame_taPut⟩
  · rw [Tile.rdSpad, hspad, Memory.getN_putN]
  · rw [hspad, Memory.get_putN_other _ _ _ _ hz]

theorem completes_attn (ho : fld op.desc 0 1 = 2) (hheld : s.attnHeld u (Attn.of op.desc) = false) :
    Completes (.attn u fault) s fun t =>
      (∃ p, (t.tile u).taRun = some p ∧ p.written = true ∧ p.num = op.num ∧ p.desc = op.desc)
      ∧ t.keys = s.keys ∧ t.host = s.host ∧ t.flows = s.flows := by
  have he : exec (.attn u fault) s = .next (s.attnWrite u op fault) := by
    rw [exec_attn, taWrite_eq hr hw hgo hfree ho (fun _ => hheld), if_neg (by decide)]
  exact completes_of_exec he ⟨written_attnWrite, (congrArg State.keys frame_attnWrite :), (congrArg State.host frame_attnWrite :),
    (congrArg State.flows frame_attnWrite :)⟩
end

end State
end Sys2Proof.Machine

namespace Sys2Proof.Proofs.Narrow
open Machine

/-- Settles O21: a MATMUL of one column writes a single run of bytes, and what an ATTN appends and reads changes no more of the
state than a charge may. -/
theorem tensorOperations : Obligations.TensorOperations :=
  fun u s _ hr hw hgo hfree => ⟨fun _ _ ho hp hn hy hacc hflag => State.completes_matmul_column hr hw hgo hfree rfl ho hp hn hy hacc hflag,
    fun ho hheld => State.completes_attn hr hw hgo hfree ho hheld,
    fun h => by rw [State.exec_matmul, State.taWrite_other hr h], fun h => by rw [State.exec_attn, State.taWrite_other hr h]⟩

end Sys2Proof.Proofs.Narrow

end

section
/-! PROOFS of the statement about a MATMUL with a dimension of zero (R84, R121): what the issue of an Xkraxa instruction leaves
as it was, what an operation that starts nothing does to its tile, and the wait for a number of an idle Tensor Array. -/
namespace Sys2Proof.Machine

/-- What an Xkraxa instruction that acts on its own tile changes: tiles, registers, and the traces of the connections. -/
def Extent.issue : Extent := ⟨fun s t => { s with tiles := t.tiles, regs := t.regs, conns := t.conns },
  fun _ => rfl, fun _ _ _ => rfl, fun _ _ => rfl⟩

/-! ## Operation numbers (R84) -/

/-- The number consumed last counts as issued. -/
theorem issued_last (n : Nat) : issued (n + 1) (n % 2 ^ 32) = true := by
  simp only [issued, decide_eq_true_eq]
  omega

/-- Where as many operations have completed as were issued, each of them has. -/
theorem completed_of_done_all (n v : Nat) : completed n n v = true := decide_eq_true (Nat.sub_le n _)

/-- Every operation of an idle Tensor Array has completed. -/
theorem Tile.taDone_of_idle {x : Tile} (hq : x.taQ = []) (hr : x.taRun = none) : x.taDone = x.taCount := by
  simp [taDone, hq, hr]

/-- A MATMUL with a dimension of zero starts nothing. -/
theorem taEmpty_of_zero {d : Bytes} (ho : fld d 0 1 = 1) (hz : (Matmul.of d).m = 0 ∨ (Matmul.of d).n = 0 ∨ (Matmul.of d).k = 0) :
    taEmpty d = true := by
  simpa [taEmpty, Matmul.empty, ho, or_assoc] using hz

/-- The tile with one more number of its Tensor Array consumed, its core not waiting. -/
def Tile.numbered (x : Tile) : Tile := { x with taCount := x.taCount + 1, wait := none }

/-- The tile after an operation that starts nothing, with the tile's counters, its watchdog and the seed writes that still wait. -/
def Tile.emptyDone (x : Tile) (c : Tbl Nat) (l : Nat) (g : Option Nat) (p q : List (Nat × Nat)) : Tile :=
  { x.numbered with counters := c, wdogLeft := l, wdogFrom := g, seedTa := p, seedVec := q }

namespace State

variable {s t : State} {v w n : Nat} {f : Field}

/-! ## The issue of an instruction (R81) -/

/-- The issue is traced at most. -/
theorem kxIssue_conns : ∃ c, s.kxIssue v n = { s with conns := c } := by
  unfold kxIssue
  split
  · exact ⟨_, rfl⟩
  · exact ⟨s.conns, rfl⟩

@[simp] theorem tile_kxIssue : (s.kxIssue v n).tile w = s.tile w := by
  obtain ⟨c, hc⟩ := kxIssue_conns (s := s) (v := v) (n := n)
  rw [hc]
  rfl

@[simp] theorem rd_kxIssue : (s.kxIssue v n).rd f w = s.rd f w := by
  obtain ⟨c, hc⟩ := kxIssue_conns (s := s) (v := v) (n := n)
  rw [hc]
  rfl

@[simp] theorem runs_kxIssue : (s.kxIssue v n).runs w = s.runs w := by
  simp [runs]

theorem moves_kxIssue : s.Moves .issue (s.kxIssue v n) := by
  obtain ⟨c, hc⟩ := kxIssue_conns (s := s) (v := v) (n := n)
  rw [hc]
  exact .of_frame rfl rfl rfl rfl

/-- Neither an operation that starts nothing nor a retirement stops the core. -/
theorem runs_of_emptyDone {x : Vector W64 32} {pc : W64} {k c : Tbl Nat} {l : Nat} {g : Option Nat} {p q : List (Nat × Nat)}
    (ht : t.tile v = { (s.tile v).emptyDone c l g p q with x := x, pc := pc, counters := k })
    (hst : t.rd TILE_STATE_STATE v = s.rd TILE_STATE_STATE v) (hr : s.runs v = true) : t.runs v = true := by
  simp only [runs, Bool.and_eq_true] at hr
  simp [runs, ht, hst, Tile.emptyDone, Tile.numbered, hr]

/-! ## An operation that starts nothing (R121) -/

/-- A number is consumed, and its operation completes at once. -/
def emptyIssued (s : State) (v : Nat) : State := (s.modTile v Tile.numbered).emptyTa v

/-- The tile has one number more consumed; its core, its units and its scratchpad are as they were. -/
theorem tile_emptyIssued : ∃ c l g p q, (s.emptyIssued v).tile v = (s.tile v).emptyDone c l g p q := by
  rw [emptyIssued, emptyTa, afterOp, setOpen, tile_wr, tile_applySeeds_same, wdogReload, tile_modTile_same, tile_modTile_same,
    tile_modTile_same]
  exact ⟨_, _, _, _, _, rfl⟩

/-- Without seed writes that wait, none is loaded. -/
theorem rd_applySeeds_of_noSeeds (ha : (s.tile v).seedTa = []) (hv : (s.tile v).seedVec = []) :
    (s.applySeeds v).rd f w = s.rd f w := by
  simp [applySeeds_eq, Tile.dueTa, Tile.dueVec, loadSeed, ha, hv]

/-- Beside the count of open checks no register changes: nothing violates a check, and no random value is drawn. -/
theorem rd_emptyIssued (ha : (s.tile v).seedTa = []) (hv : (s.tile v).seedVec = []) (ho : f.apart NBC_STATUS_OPEN = true) :
    (s.emptyIssued v).rd f w = s.rd f w := by
  let t := ((s.modTile v Tile.numbered).modTile v fun x => x.count 3 1).wdogReload v
  have hnone : (t.tile v).seedTa = [] ∧ (t.tile v).seedVec = [] := by
    simp only [t, wdogReload, tile_modTile_same]
    exact ⟨ha, hv⟩
  obtain ⟨hta, hvec⟩ := hnone
  rw [emptyIssued, emptyTa, afterOp, setOpen, rd_wr_apart _ _ _ _ _ _ ho, rd_applySeeds_of_noSeeds hta hvec]
  rfl

theorem otherTiles_emptyIssued : s.otherTiles (s.emptyIssued v) v :=
  otherTiles_trans otherTiles_modTile (otherTiles_trans otherTiles_modTile
    (otherTiles_trans otherTiles_modTile fun _ h => tile_applySeeds_other _ _ h))

theorem moves_applySeeds : s.Moves .tileRegs (s.applySeeds v) where
  frame := applySeeds_frame s v
  recomp u := by
    by_cases h : u = v
    · rw [h, tile_applySeeds_same]
      rfl
    · rw [tile_applySeeds_other _ _ h]
  jobs k hk := ⟨k, by rwa [applySeeds_frame s v] at hk, .refl k⟩
  events := by rw [applySeeds_frame s v]; exact List.Subset.refl _

theorem moves_wdogReload : s.Moves .tiles (s.wdogReload v) := by
  unfold wdogReload
  exact moves_modTile fun _ => rfl

theorem moves_emptyIssued : s.Moves .tileRegs (s.emptyIssued v) := by
  have hcount : s.Moves .tiles ((s.modTile v Tile.numbered).modTile v fun x => x.count 3 1) :=
    .after (moves_modTile fun _ => rfl) (moves_modTile fun _ => rfl)
  exact .after moves_wr (.after moves_applySeeds (.mono (.after moves_wdogReload hcount)))

/-! ## The rows (R83, R84) -/

section
variable {u : TileId} {a d : XReg}

/-- A core that runs issues to a Tensor Array whose queue has room. -/
theorem exec_kxTaissue_room (hr : s.runs u = true) (hq : (s.tile u).taQ.length < 8) : exec (.kxTaissue u d a) s
    = .next ((s.kxIssue u (kxBits 0x0B 0 0 d a 0)).issueTa u d ((s.tile u).xr a)) := by
  have he : exec (.kxTaissue u d a) s = execKxTaissue u d a s := rfl
  rw [he, execKxTaissue]
  simp only [runs_kxIssue, tile_kxIssue, hr, Bool.not_true, Bool.false_eq_true, if_false, if_neg (Nat.not_le.mpr hq)]

/-- An operation that starts nothing, issued to an idle Tensor Array. -/
theorem issueTa_empty {r p : Nat} (hq : (s.tile v).taQ = []) (hrun : (s.tile v).taRun = none) (hal : p % 64 = 0)
    (hle : p + 64 ≤ spadSize) (href : taRefused (s.tile v) ((s.tile v).rdSpad p 64) = false)
    (hempty : taEmpty ((s.tile v).rdSpad p 64) = true) :
    s.issueTa v r p = (s.emptyIssued v).retire v r ((s.tile v).taCount % 2 ^ 32) 4 := by
  have hok : ¬(p % 64 ≠ 0 ∨ spadSize < p + 64 ∨ taRefused (s.tile v) ((s.tile v).rdSpad p 64) = true) := by
    simp [hal, href, Nat.not_lt.mpr hle]
  rw [issueTa, if_neg hok, if_pos (by simp [hempty, hq, hrun])]
  rfl

section
variable (hr : s.runs u = true) (hi : issued (s.tile u).taCount ((s.tile u).xr a % 2 ^ 32) = true)
  (hc : completed (s.tile u).taCount (s.tile u).taDone ((s.tile u).xr a % 2 ^ 32) = true)
include hr hi hc

/-- The wait for a number whose operations have all completed returns at once. -/
theorem exec_kxTawait_completed : exec (.kxTawait u d a) s
    = .next ((s.kxIssue u (kxBits 0x0B 0 2 d a 0)).retire u d (statusWord kxOk 0) 4) := by
  have he : exec (.kxTawait u d a) s = execKxTawait u d a s := rfl
  rw [he, execKxTawait]
  simp only [runs_kxIssue, tile_kxIssue, hr, hi, hc, Bool.not_true, Bool.false_eq_true, if_false, if_true]

theorem completes_kxTawait_completed : Completes (.kxTawait u d a) s fun t =>
    s.retired t u d (statusWord kxOk 0) ∧ s.onlyTiles t := by
  obtain ⟨c, hconns⟩ := kxIssue_conns (s := s) (v := u) (n := kxBits 0x0B 0 2 d a 0)
  refine completes_of_exec (exec_kxTawait_completed hr hi hc) ⟨?retired, by rw [hconns]; rfl⟩
  case retired =>
    exact retired_of_same (by rw [tile_kxIssue]) (by rw [tile_kxIssue]) (fun _ _ => tile_kxIssue) (retired_retire d.isLt)
end

/-- An operation that starts nothing, issued by a core that runs to an idle Tensor Array: the instruction retires with the number,
the array stays idle, and no register but the count of open checks is touched. -/
theorem completes_kxTaissue_empty (hr : s.runs u = true) (hq : (s.tile u).taQ = []) (hrun : (s.tile u).taRun = none)
    (hta : (s.tile u).seedTa = []) (hvec : (s.tile u).seedVec = []) (hal : (s.tile u).xr a % 64 = 0)
    (hle : (s.tile u).xr a + 64 ≤ spadSize) (href : taRefused (s.tile u) ((s.tile u).rdSpad ((s.tile u).xr a) 64) = false)
    (hempty : taEmpty ((s.tile u).rdSpad ((s.tile u).xr a) 64) = true) : Completes (.kxTaissue u d a) s fun t =>
      s.retired t u d ((s.tile u).taCount % 2 ^ 32) ∧ (t.tile u).taCount = (s.tile u).taCount + 1
        ∧ (t.tile u).taQ = [] ∧ (t.tile u).taRun = none ∧ (t.tile u).spad = (s.tile u).spad
        ∧ (t.tile u).taOpen = (s.tile u).taOpen ∧ (t.tile u).detections = (s.tile u).detections
        ∧ (∀ f : Field, f.apart NBC_STATUS_OPEN = true → ∀ v, t.rd f v = s.rd f v) ∧ t.runs u = true ∧ s.onlyTileRegs t := by
  let s₁ := s.kxIssue u (kxBits 0x0B 0 0 d a 0)
  have htile : s₁.tile u = s.tile u := tile_kxIssue
  obtain ⟨c, l, g, p, q, hmid⟩ := tile_emptyIssued (s := s₁) (v := u)
  obtain ⟨x, pc, k, hlast⟩ := tile_retire (s := s₁.emptyIssued u) (v := u) (d := d) (n := (s.tile u).taCount % 2 ^ 32)
  rw [htile] at hmid
  rw [hmid] at hlast
  have hrd {f : Field} (ho : f.apart NBC_STATUS_OPEN = true) {v : Nat} :
      ((s₁.emptyIssued u).retire u d ((s.tile u).taCount % 2 ^ 32) 4).rd f v = s.rd f v := by
    rw [rd_retire, rd_emptyIssued (by rw [htile, hta]) (by rw [htile, hvec]) ho, rd_kxIssue]
  have he : exec (.kxTaissue u d a) s = .next ((s₁.emptyIssued u).retire u d ((s.tile u).taCount % 2 ^ 32) 4) := by
    rw [exec_kxTaissue_room hr (by rw [hq]; decide), issueTa_empty (by rw [htile, hq]) (by rw [htile, hrun]) hal hle
      (by rw [htile]; exact href) (by rw [htile]; exact hempty), htile]
  refine completes_of_exec he ⟨?retired, congrArg Tile.taCount hlast, (congrArg Tile.taQ hlast).trans hq,
    (congrArg Tile.taRun hlast).trans hrun, (congrArg Tile.spad hlast :), (congrArg Tile.taOpen hlast :),
    (congrArg Tile.detections hlast :), fun f ho v => hrd ho, runs_of_emptyDone hlast (hrd (by decide)) hr, ?frame⟩
  case retired =>
    exact retired_of_same (congrArg Tile.pc hmid :) (congrArg Tile.x hmid :)
      (otherTiles_trans (fun _ _ => tile_kxIssue) otherTiles_emptyIssued) (retired_retire d.isLt)
  case frame => exact (Moves.after (r := .issue) moves_retire (.after moves_emptyIssued moves_kxIssue)).frame
end

end State
end Sys2Proof.Machine

namespace Sys2Proof.Proofs.Tensor
open Machine

/-- Settles O59: an idle Tensor Array consumes the number and has completed as many operations as it issued, so the wait for the
number finds nothing left to wait for. -/
theorem zeroDimensionMatmulCompletes : Obligations.ZeroDimensionMatmulCompletes := by
  intro u rd a s hr hq hrun hta hvec hal hle ho hz href
  obtain ⟨t, he, hret, hcount, htq, htrun, hspad, hopen, hdet, hregs, hruns, hframe⟩ :=
    State.completes_kxTaissue_empty (d := rd) hr hq hrun hta hvec hal hle href (taEmpty_of_zero ho hz)
  refine ⟨t, he, hret, hcount, htq, htrun, hspad, hopen, hdet,
    fun v => ⟨hregs _ (by decide) v, hregs _ (by decide) v⟩, hframe, fun b d hb => ?_⟩
  have hissued : issued (t.tile u).taCount ((t.tile u).xr b % 2 ^ 32) = true := by
    rw [hb, hcount]
    exact issued_last _
  have hdone : completed (t.tile u).taCount (t.tile u).taDone ((t.tile u).xr b % 2 ^ 32) = true := by
    rw [Tile.taDone_of_idle htq htrun]
    exact completed_of_done_all _ _
  obtain ⟨w, hw, hwret, -⟩ := State.completes_kxTawait_completed (d := d) hruns hissued hdone
  exact ⟨w, hw, hwret⟩

end Sys2Proof.Proofs.Tensor
end

section
-- The proofs are checked in turn: side by side, their threads need more memory than the text is compiled with.
set_option Elab.async false

/-! PROOFS of the statement about update windows and preemption (R156, R167, R168, R259): what each write of a window may
change, the core that goes on after it, and the failed request that preemption answers. -/
namespace Sys2Proof.Machine

/-- What the writes of a window may change: a flow that is lost is recorded, and its image and its pages are given up. -/
def Extent.window : Extent := ⟨fun s t => { s.logged t with tiles := t.tiles, flows := t.flows, sessions := t.sessions },
  fun _ => rfl, fun _ _ _ => rfl, fun _ _ => rfl⟩

namespace State

variable {s t : State} {u v n : Nat}

/-! ## Frames and flows given up (R158, R171) -/

theorem moves_setDir {d : PageDesc} : s.Moves .tiles (s.setDir v n d) := moves_modTile fun _ => rfl

theorem moves_unrefFrame : s.Moves .tileRegs (s.unrefFrame v n) := by
  unfold unrefFrame
  exact .ite (.refl s) (.ite (.after (moves_modTile fun _ => rfl) (.after moves_wr (.mono moves_setDir))) (.mono moves_setDir))

theorem moves_emptyFte : s.Moves .tiles (s.emptyFte v n) := moves_modTile fun _ => rfl

theorem moves_retireEntry : s.Moves .tileRegs (s.retireEntry v n) := by
  unfold retireEntry
  exact .after (moves_modTile fun _ => rfl) (.after moves_emptyFte (.each (fun _ _ => moves_unrefFrame) _ s))

theorem moves_endFlow : s.Moves .window (s.endFlow n) := .of_frame rfl rfl rfl rfl

theorem moves_retireFlow {l : List Nat} : s.Moves .window (s.retireFlow l n v) :=
  .after moves_endFlow (.mono (.each (fun _ _ => moves_retireEntry) l s))

theorem moves_dropImage : s.Moves .window (s.modSess v fun y => { y with swaps := y.swaps.filter (·.flow ≠ n) }) :=
  .of_frame rfl rfl rfl rfl

theorem moves_loseFlow : s.Moves .window (s.loseFlow v n) := by
  unfold loseFlow
  dsimp only
  split
  · exact moves_dropImage
  · exact .after moves_event (.after moves_retireFlow moves_dropImage)

/-- No flow with the handle is live any more. -/
def Ended (n : Nat) (s : State) : Prop := ∀ g ∈ s.flows, g.handle = n → g.live = false

theorem ended_endFlow : (s.endFlow n).Ended n := by
  intro g hg hn
  obtain ⟨k, -, rfl⟩ := List.mem_map.mp hg
  by_cases h : k.handle = n
  · rw [if_pos h]
  · rw [if_neg h] at hn
    exact absurd hn h

theorem ended_loseFlow : (s.loseFlow v n).Ended n := by
  unfold loseFlow
  dsimp only
  split
  case h_1 hnone =>
    intro g hg hn
    simpa [hn] using List.find?_eq_none.mp hnone g hg
  case h_2 =>
    intro g hg
    rw [(congrArg State.flows moves_event.frame :)] at hg
    exact ended_endFlow g hg

/-! ## The writes of a window (R156, R259) -/

/-- What a key slot that a window writes sets (R259). -/
def keySlotWrites (cur prev : Nat) : List (Field × Nat) :=
  [(VCH_KEY_CUR, cur), (VCH_KEY_PREV, prev), (VCH_KEY_ROT, 1), (VCH_ROT_MARK_MARK, 0), (TILE_PG_GEOM_KSLOT, cur)]

theorem winAct_spad {a : Nat} {b : Bytes} : s.winAct v (.spad a b) = s.modTile v fun x => x.wrSpad a b := rfl

theorem winAct_keySlot {c p : Nat} : s.winAct v (.keySlot c p) = s.wrAll v (keySlotWrites c p) := rfl

theorem rd_winAct_keySlot {c p : Nat} {f : Field} (h : (f, n) ∈ keySlotWrites c p) :
    (s.winAct v (.keySlot c p)).rd f v = n % 2 ^ f.w := by
  have hapart : ((keySlotWrites c p).map Prod.fst).Pairwise fun f g => f.apart g = true := by
    change [VCH_KEY_CUR, VCH_KEY_PREV, VCH_KEY_ROT, VCH_ROT_MARK_MARK, TILE_PG_GEOM_KSLOT].Pairwise _
    decide
  rw [winAct_keySlot, rd_wrAll_mem hapart h]

theorem moves_winAct {a : WinAct} : s.Moves .window (s.winAct v a) := by
  cases a with
  | spad a b =>
    rw [winAct_spad]
    exact .mono (moves_modTile fun _ => rfl)
  | keySlot c p =>
    rw [winAct_keySlot]
    exact .mono moves_wrAll
  | poolUnref i => exact .mono moves_unrefFrame
  | loseFlow f h => exact moves_loseFlow

/-- A write that loses no flow stays in the tile and its registers. -/
theorem moves_winAct_tileRegs {a : WinAct} (h : ∀ f n, a ≠ .loseFlow f n) : s.Moves .tileRegs (s.winAct v a) := by
  cases a with
  | spad a b =>
    rw [winAct_spad]
    exact .mono (moves_modTile fun _ => rfl)
  | keySlot c p =>
    rw [winAct_keySlot]
    exact .mono moves_wrAll
  | poolUnref i => exact moves_unrefFrame
  | loseFlow f n => exact absurd rfl (h f n)

theorem otherTiles_unrefFrame : s.otherTiles (s.unrefFrame v n) v := by
  unfold unrefFrame
  dsimp only
  split
  · exact otherTiles_of_tiles rfl
  · split
    · exact otherTiles_trans (t := s.setDir v n _) otherTiles_modTile
        (otherTiles_trans (otherTiles_of_tiles rfl) otherTiles_modTile)
    · exact otherTiles_modTile

theorem otherTiles_winAct {a : WinAct} (h : ∀ f n, a ≠ .loseFlow f n) : s.otherTiles (s.winAct v a) v := by
  cases a with
  | spad a b => exact otherTiles_modTile
  | keySlot c p =>
    rw [winAct_keySlot]
    exact otherTiles_of_tiles moves_wrAll.tiles_regs
  | poolUnref i => exact otherTiles_unrefFrame
  | loseFlow f n => exact absurd rfl (h f n)

/-- All writes of a window. -/
def winActs (s : State) (v : Nat) (l : List WinAct) : State := l.foldl (fun s a => s.winAct v a) s

theorem moves_winActs {l : List WinAct} : s.Moves .window (s.winActs v l) := by
  unfold winActs
  exact .foldl (fun _ _ => moves_winAct) l s

theorem winActs_without_loss {l : List WinAct} (h : ∀ a ∈ l, ∀ f n, a ≠ .loseFlow f n) :
    s.otherTiles (s.winActs v l) v ∧ s.Moves .tileRegs (s.winActs v l) := by
  induction l generalizing s with
  | nil => exact ⟨otherTiles_of_tiles rfl, .refl s⟩
  | cons a l ih =>
    obtain ⟨ha, hl⟩ := List.forall_mem_cons.mp h
    obtain ⟨hother, hmoves⟩ := ih (s := s.winAct v a) hl
    exact ⟨otherTiles_trans (otherTiles_winAct ha) hother, .after hmoves (moves_winAct_tileRegs ha)⟩

/-! ## A core halted and let go (R108, R156) -/

theorem tile_wdogHold : (s.wdogHold v).tile v = { s.tile v with wdogLeft := s.wdogRemain v, wdogFrom := none } := by
  rw [wdogHold, tile_modTile_same]

theorem otherTiles_wdogHold : s.otherTiles (s.wdogHold v) v := otherTiles_modTile

theorem tile_wdogGo : ∃ l g, (s.wdogGo v).tile v = { s.tile v with wdogLeft := l, wdogFrom := g } := by
  unfold wdogGo
  split
  · exact ⟨_, _, tile_modTile_same ..⟩
  · exact ⟨_, _, tile_wdogHold⟩

theorem otherTiles_wdogGo : s.otherTiles (s.wdogGo v) v := by
  unfold wdogGo
  split
  · exact otherTiles_modTile
  · exact otherTiles_wdogHold

/-- The window closes and the core goes on. -/
def closeWindow (s : State) (v : Nat) : State :=
  (s.modTile v fun x => { x with inWin := false, haltWin := false, winActs := [], winReq := false }).wdogGo v

theorem moves_closeWindow : s.Moves .tiles (s.closeWindow v) := .after moves_wdogGo (moves_modTile fun _ => rfl)

theorem otherTiles_closeWindow : s.otherTiles (s.closeWindow v) v := otherTiles_trans otherTiles_modTile otherTiles_wdogGo

theorem tile_closeWindow : ((s.closeWindow v).tile v).inWin = false ∧ ((s.closeWindow v).tile v).haltWin = false
    ∧ ((s.closeWindow v).tile v).winActs = [] := by
  obtain ⟨l, g, h⟩ := tile_wdogGo (v := v)
    (s := s.modTile v fun x => { x with inWin := false, haltWin := false, winActs := [], winReq := false })
  rw [closeWindow, h, tile_modTile_same]
  exact ⟨rfl, rfl, rfl⟩

theorem rd_closeWindow {f : Field} : (s.closeWindow v).rd f n = s.rd f n := by
  have hregs : (s.closeWindow v).regs = s.regs := (congrArg State.regs moves_closeWindow.frame :)
  rw [rd, rd, hregs]

section
variable {u : TileId}

theorem exec_updateWindowHalt_unwanted (hw : s.winWanted u = false) : exec (.updateWindowHalt u) s = .next s :=
  if_pos (.inr (by rw [hw]; rfl))

theorem completes_updateWindowHalt (hin : (s.tile u).inWin = false) (hw : s.winWanted u = true) :
    Completes (.updateWindowHalt u) s fun t => (t.tile u).inWin = true ∧ t.runs u = false ∧ (t.tile u).wdogFrom = none
      ∧ s.otherTiles t u ∧ t = { s with tiles := t.tiles } := by
  have he : exec (.updateWindowHalt u) s = execUpdateWindowHalt u s := rfl
  rw [execUpdateWindowHalt, if_neg (by simp [hin, hw])] at he
  refine completes_of_exec he ⟨?_, ?_, ?_, otherTiles_trans otherTiles_modTile otherTiles_wdogHold, rfl⟩
  · rw [tile_wdogHold, tile_modTile_same]
  · rw [runs, tile_wdogHold, tile_modTile_same]
    simp
  · rw [tile_wdogHold]

/-- A window that is not drained, or not all of whose writes may be made, stays as it is. -/
theorem exec_updateWindowWrite_waits (h : (s.tile u).drained = false ∨ s.winAsked u = true
    ∨ (s.tile u).winActs.any s.awaitsTwin = true) : exec (.updateWindowWrite u) s = .next s := by
  have he : exec (.updateWindowWrite u) s = execUpdateWindowWrite u s := rfl
  rw [he]
  exact if_pos (by rcases h with h | h | h <;> simp only [h, Bool.not_false, true_or, or_true])

theorem exec_updateWindowWrite (hin : (s.tile u).inWin = true) (hd : (s.tile u).drained = true)
    (hs : (s.tile u).selftest = false) (ha : s.winAsked u = false) (hw : (s.tile u).winActs.any s.awaitsTwin = false) :
    exec (.updateWindowWrite u) s = .next ((s.winActs u (s.tile u).winActs).closeWindow u) := by
  have he : exec (.updateWindowWrite u) s = execUpdateWindowWrite u s := rfl
  rw [he]
  exact if_neg (by simp only [hin, hd, hs, ha, hw]; decide)

theorem completes_updateWindowWrite (hin : (s.tile u).inWin = true) (hd : (s.tile u).drained = true)
    (hs : (s.tile u).selftest = false) (ha : s.winAsked u = false) (hw : (s.tile u).winActs.any s.awaitsTwin = false) :
    Completes (.updateWindowWrite u) s fun t =>
      (t.tile u).inWin = false ∧ (t.tile u).haltWin = false ∧ (t.tile u).winActs = []
      ∧ (∀ c p, (s.tile u).winActs = [.keySlot c p] → t.rd VCH_KEY_CUR u = c % 2 ^ VCH_KEY_CUR.w
        ∧ t.rd VCH_KEY_PREV u = p % 2 ^ VCH_KEY_PREV.w ∧ t.rd VCH_KEY_ROT u = 1 ∧ t.rd VCH_ROT_MARK_MARK u = 0)
      ∧ (∀ f h, (s.tile u).winActs = [.loseFlow f h] → ∀ g ∈ t.flows, g.handle = h → g.live = false)
      ∧ ((∀ a ∈ (s.tile u).winActs, ∀ f h, a ≠ .loseFlow f h) → s.otherTiles t u
        ∧ t = { s with tiles := t.tiles, regs := t.regs })
      ∧ t = { s.logged t with tiles := t.tiles, flows := t.flows, sessions := t.sessions } := by
  obtain ⟨hclosed, hhalt, hacts⟩ := tile_closeWindow (s := s.winActs u (s.tile u).winActs) (v := u)
  refine completes_of_exec (exec_updateWindowWrite hin hd hs ha hw) ⟨hclosed, hhalt, hacts, fun c p hk => ?key,
    fun f h hl => ?lost, fun hl => ?frame, (Moves.after (r := .window) moves_closeWindow moves_winActs).frame⟩
  case key =>
    rw [hk, rd_closeWindow, rd_closeWindow, rd_closeWindow, rd_closeWindow]
    have hset {f : Field} {n : Nat} (h : (f, n) ∈ keySlotWrites c p) := rd_winAct_keySlot (s := s) (v := u) h
    exact ⟨hset (by simp [keySlotWrites]), hset (by simp [keySlotWrites]), hset (n := 1) (by simp [keySlotWrites]),
      hset (n := 0) (by simp [keySlotWrites])⟩
  case lost =>
    rw [hl, (congrArg State.flows moves_closeWindow.frame :)]
    exact ended_loseFlow
  case frame =>
    obtain ⟨hother, hmoves⟩ := winActs_without_loss (s := s) (v := u) hl
    exact ⟨otherTiles_trans hother otherTiles_closeWindow, (Moves.after (r := .tileRegs) moves_closeWindow hmoves).frame⟩
end

/-! ## Preemption (R167, R168) -/

/-- The tile's failed request is taken up. -/
def requestTaken (s : State) (v : Nat) : State := s.modTile v fun x => { x with failedAlloc := none }

/-- The pool ran dry, or stands below RESERVE at a power window. -/
def poolDry (s : State) (v : Nat) : Prop := s.nframes v ≠ 0 ∧ ((s.tile v).failedAlloc ≠ none
  ∨ (s.rd TILE_PG_FREE_FREE v + s.rd TILE_PG_FREE_PENDING v < s.rd TILE_PG_FRAMES_RESERVE v ∧ s.now % 1000000 = 0))

/-- The flows that PREEMPT swaps out. -/
def preempted (s : State) (v : Nat) : List Nat :=
  let skip := (s.tile v).failedAlloc.getD 0xFFFF
  s.pickVictims v (max (max 1 (s.rd TILE_PG_FRAMES_RESERVE v))
      (if (s.tile v).fetches.contains skip then s.fetchNeeds v skip else 0))
    (s.rd TILE_PG_FREE_FREE v + s.rd TILE_PG_FREE_PENDING v + s.comingFree v) (s.candidates v skip)

/-- POOL_EXHAUSTED of a tile, with its job (R168). -/
def exhausted (s : State) (v : Nat) (j : Job) : State := s.event evPoolExhausted (tileUnit v) (some j) (detail := toLE 4 v)

section
variable {u : TileId} {j : Job}

theorem exec_preempt (h : s.poolDry u) : exec (.preempt u) s = (match s.jobOf u, s.preempted u with
    | none, _ => .next (s.requestTaken u)
    | some j, [] => .next (if (s.sess j.fn).swap.isSome then s.requestTaken u else (s.requestTaken u).exhausted u j)
    | some j, e :: _ =>
      if ((s.sess j.fn).room ((s.requestTaken u).imageLen u ((s.requestTaken u).releasable u e).length)).isNone then
        .next ((s.requestTaken u).exhausted u j)
      else .next ((s.requestTaken u).modTile u fun x => { x with victims := x.victims ++ s.preempted u })) := by
  have he : exec (.preempt u) s = execPreempt u s := rfl
  obtain ⟨hn, hdry⟩ := h
  rw [he]
  refine (if_neg ?_).trans rfl
  rintro (h0 | ⟨hnone, hle⟩)
  · exact hn h0
  · rcases hdry with hsome | ⟨hlt, hnow⟩
    · exact hsome (Option.isNone_iff_eq_none.mp hnone)
    · exact hle.elim (fun h => absurd hlt (Nat.not_lt.mpr h)) (fun h => h hnow)

theorem rdSpad_requestTaken {w a k : Nat} : ((s.requestTaken v).tile w).rdSpad a k = (s.tile w).rdSpad a k :=
  keeps_modTile (f := fun x => x.rdSpad a k) (g := fun x => { x with failedAlloc := none }) (fun _ => rfl) w

theorem releasable_requestTaken {e : Nat} : (s.requestTaken v).releasable v e = s.releasable v e := by
  have hlist : ((s.requestTaken v).tile v).pageList e = (s.tile v).pageList e := by
    rw [requestTaken, tile_modTile_same]
    rfl
  have hdir (i : Nat) : (s.requestTaken v).dirEntry v i = s.dirEntry v i := congrArg PageDesc.ofBytes rdSpad_requestTaken
  have hframe (a : Nat) : (s.requestTaken v).listFrame v a = s.listFrame v a := by
    unfold listFrame
    rw [rdSpad_requestTaken]
    rfl
  unfold releasable
  simp only [hlist, hdir, hframe]

theorem imageLen_requestTaken {k : Nat} : (s.requestTaken v).imageLen v k = s.imageLen v k := rfl

theorem moves_exhausted : s.Moves .logged (s.exhausted v j) := moves_event

theorem tile_exhausted : (s.exhausted v j).tile u = s.tile u := by rw [tile, tile, moves_exhausted.of_logged.1]

theorem tile_requestTaken : (s.requestTaken v).tile v = { s.tile v with failedAlloc := none } := tile_modTile_same ..

theorem reported_exhausted : s.reported (s.exhausted v j) evPoolExhausted (tileUnit v) := by
  obtain ⟨e, hc, hu, -, he⟩ := events_event (s := s) (code := evPoolExhausted) (unit := tileUnit v) (j := some j)
    (opcode := 0) (detail := toLE 4 v) (cls := 0) (flow := 0) (reps := 1) (tenant := none)
  exact ⟨e, hc, hu, he⟩

/-- Nothing is preempted, and nothing is reported. -/
theorem completes_preempt_quiet (h : s.poolDry u) (hp : s.preempted u = [])
    (hs : ∀ j, s.jobOf u = some j → (s.sess j.fn).swap.isSome = true) : Completes (.preempt u) s fun t =>
      (t.tile u).failedAlloc = none ∧ (t.tile u).victims = (s.tile u).victims
      ∧ s.otherTiles t u ∧ t = { s with tiles := t.tiles } := by
  have he : exec (.preempt u) s = .next (s.requestTaken u) := by
    rw [exec_preempt h, hp]
    cases hj : s.jobOf u with
    | none => rfl
    | some j => exact congrArg _ (if_pos (hs j hj))
  refine completes_of_exec he ?_
  rw [tile_requestTaken]
  exact ⟨rfl, rfl, otherTiles_modTile, rfl⟩

/-- There is nowhere to swap to: no area, or no room in it. -/
theorem completes_preempt_exhausted (he : exec (.preempt u) s = .next ((s.requestTaken u).exhausted u j)) :
    Completes (.preempt u) s fun t =>
      s.reported t evPoolExhausted (tileUnit u) ∧ (t.tile u).failedAlloc = none ∧ (t.tile u).victims = (s.tile u).victims
      ∧ t = { s.logged t with tiles := t.tiles } := by
  have hmoves : s.Moves .noted ((s.requestTaken u).exhausted u j) := .after moves_exhausted (.mono (moves_modTile fun _ => rfl))
  refine completes_of_exec he ⟨reported_exhausted (s := s.requestTaken u), ?_, ?_, hmoves.frame⟩
  · rw [tile_exhausted, tile_requestTaken]
  · rw [tile_exhausted, tile_requestTaken]

theorem exec_preempt_noArea (h : s.poolDry u) (hj : s.jobOf u = some j) (hp : s.preempted u = [])
    (hs : (s.sess j.fn).swap = none) : exec (.preempt u) s = .next ((s.requestTaken u).exhausted u j) := by
  rw [exec_preempt h, hj, hp]
  exact congrArg _ (if_neg (by simp [hs]))

section
variable {e : Nat} {r : List Nat}

theorem exec_preempt_noRoom (h : s.poolDry u) (hj : s.jobOf u = some j) (hp : s.preempted u = e :: r)
    (hr : (s.sess j.fn).room (s.imageLen u (s.releasable u e).length) = none) :
    exec (.preempt u) s = .next ((s.requestTaken u).exhausted u j) := by
  rw [exec_preempt h, hj, hp]
  exact if_pos (by rw [releasable_requestTaken, imageLen_requestTaken, hr]; rfl)

theorem exec_preempt_victims (h : s.poolDry u) (hj : s.jobOf u = some j) (hp : s.preempted u = e :: r)
    (hr : (s.sess j.fn).room (s.imageLen u (s.releasable u e).length) ≠ none) :
    exec (.preempt u) s = .next ((s.requestTaken u).modTile u fun x => { x with victims := x.victims ++ s.preempted u }) := by
  rw [exec_preempt h, hj, hp]
  exact if_neg (by rwa [releasable_requestTaken, imageLen_requestTaken, Option.isNone_iff_eq_none])

theorem completes_preempt_victims (h : s.poolDry u) (hj : s.jobOf u = some j) (hp : s.preempted u = e :: r)
    (hr : (s.sess j.fn).room (s.imageLen u (s.releasable u e).length) ≠ none) : Completes (.preempt u) s fun t =>
      (t.tile u).victims = (s.tile u).victims ++ s.preempted u ∧ s.otherTiles t u ∧ t = { s with tiles := t.tiles } := by
  refine completes_of_exec (exec_preempt_victims h hj hp hr) ⟨?_, otherTiles_trans otherTiles_modTile otherTiles_modTile, rfl⟩
  rw [tile_modTile_same, tile_requestTaken]
end

end
end State
end Sys2Proof.Machine

namespace Sys2Proof.Proofs.Paging
open Machine

/-- Settles O30: a window's writes are done one after the other and then the core is let go, and what PREEMPT reads after it has
taken the failed request up is what stood there before. -/
theorem windowsAndPreemption : Obligations.WindowsAndPreemption := by
  intro u s
  refine ⟨State.completes_updateWindowHalt, State.exec_updateWindowHalt_unwanted, State.completes_updateWindowWrite,
    fun h => State.exec_updateWindowWrite_waits (.inr h), fun h => State.exec_updateWindowWrite_waits (.inl h), fun hn hdry => ?_⟩
  have hd : s.poolDry u := ⟨hn, hdry⟩
  refine ⟨State.completes_preempt_quiet hd, fun j hj hp hs => State.completes_preempt_exhausted
    (State.exec_preempt_noArea hd hj hp hs), fun j e r hj hp hr => ?_, fun j e r hj hp hr =>
    State.completes_preempt_victims hd hj hp hr⟩
  obtain ⟨t, ht, hrep, -, hvictims, hframe⟩ := State.completes_preempt_exhausted (State.exec_preempt_noRoom hd hj hp hr)
  exact ⟨t, ht, hrep, hvictims, hframe⟩

end Sys2Proof.Proofs.Paging
end

section
-- The proofs are checked in turn: side by side, their threads need more memory than the text is compiled with.
set_option Elab.async false

/-! PROOFS of the statements about flows and batches (R195 to R198) and about pools, scrubs and copies (R150, R168, R184): a state in
which each fails. -/
namespace Sys2Proof.Proofs.Paging
open Machine

/-! ### A batch for a job of another function (O7) -/

/-- The policy of the jobs below: each is a Single job of one tile. -/
def onePolicy : Policy := { kind := 0, mode := 0, priority := 0, ingestCh := 0, ntiles := 1, wdog := 50, flockK := 1, period := 10
                            ckpt := 0, digest := 10000, flock := 0 }

/-- A FINISHED job whose handle is one of function 0, and which stands under function 1. -/
def foreignJob : Job := { newJob 1 7 1 0 0 [3] [] onePolicy with state := 6 }

/-- FLOW_SUBMIT of a batch with one record, for that job. -/
def oneRecord : Req := ⟨0x3002, 16, 0, 1, 0, zeros 12 ++ toLE 4 1, 0, 0, none⟩

/-- Function 0, its session open, has the FLOW_SUBMIT accepted. -/
def batchForForeignJob : State :=
  ({ State.reset with
      phase := .open, fwLevel := 3, jobs := [foreignJob]
      mboxes := [(0, { Mailbox.reset with accepted := some oneRecord })]
      sessions := [(0, { Session.reset with state := 1 })] } : State).wr MBX_STAT_STATE 0 mxBusy

theorem batchForForeignJob_hypotheses : batchForForeignJob.jobByHandle oneRecord.object = some foreignJob
    ∧ batchForForeignJob.mayRun 0 0x3002 oneRecord = true ∧ oneRecord.f 12 4 ≠ 0 ∧ batchForForeignJob.bgFree 0 = some 0 := by
  decide +kernel

/-- The slots of function 1 are retired, and the one that has just started in mailbox 0 runs on. -/
theorem flowSubmit_batchForForeignJob : Scope.answers (fun t => (t.bg 0 0).any (·.state == 1))
    (exec (.flowSubmit 0) batchForForeignJob) = true := by decide +kernel

/-- Refutes O7: the slot of a FLOW_SUBMIT for a FINISHED job is retired among those of the function under which the job stands
(R198), and the statement, which speaks of every state, does not say that this is the function of the mailbox. -/
theorem not_flowsAndBatches : ¬ Obligations.FlowsAndBatches := by
  intro h
  obtain ⟨hjob, hrun, hcount, hfree⟩ := batchForForeignJob_hypotheses
  obtain ⟨hsubmit, -⟩ := h.2 0 batchForForeignJob foreignJob
  obtain ⟨t, ht, -, ⟨b, (hslot : t.bg 0 0 = some b), -, -, hretired⟩, -⟩ := hsubmit oneRecord 0 hjob hrun hcount (by decide) hfree
  have hruns := flowSubmit_batchForForeignJob
  rw [ht] at hruns
  simp only [Scope.answers, hslot, Option.any_some, beq_iff_eq] at hruns
  exact absurd (hruns.symm.trans hretired) (by decide)

/-! ### A copy under a checkpoint (O8) -/

/-- A PARKED job on tile 3. -/
def parkedJob : Job := { newJob 1 7 0 0 0 [3] [] onePolicy with state := 5 }

/-- MEM_COPY of 64 bytes of host memory to line 0 of the column of that job's tile. -/
def copyToLine0 : BgSlot := ⟨1, 0x4004, 1, 0, 0, [], 1, [0x2000, 64, 0, 2, 0], false⟩

/-- Tile 3 is on and holds a checkpoint, and line 1 of its column is poisoned. -/
def parkedTile : Tile := { Tile.reset with
  off := false, clkStop := false, ckpts := [(0, State.reset.record 7 3 0)], col := [(1, poisonLine 1)] }

/-- The copy runs in slot 0 of function 0, whose session has a key. -/
def copyUnderCheckpoint : State :=
  ({ State.reset with
      phase := .open, fwLevel := 3, busMaster := 1, jobs := [parkedJob], keys := [(0, 99)]
      folds := [(foldOf 3, { Fold.reset with off := false })], tiles := [(3, parkedTile)]
      mboxes := [(0, { Mailbox.reset with bg := [(0, copyToLine0)] })]
      sessions := [(0, { Session.reset with state := 1 })] } : State).wr TILE_JOB_JOB 3 7

theorem copyUnderCheckpoint_hypotheses : copyUnderCheckpoint.bgRuns 0 0 0x4004 = some copyToLine0
    ∧ copyUnderCheckpoint.jobByHandle copyToLine0.object = some parkedJob ∧ copyUnderCheckpoint.masters 0 = true
    ∧ copyToLine0.a 3 = 2 ∧ parkedJob.tiles[copyToLine0.a 2]? = some 3 ∧ copyUnderCheckpoint.chanClosed 3 = false
    ∧ copyUnderCheckpoint.rangeHeld 3 (copyToLine0.a 4 / 64) (copyToLine0.a 1 / 64) = false := by decide +kernel

/-- The undo entry of the block reads line 1, and its poison is recorded. -/
theorem memCopyDone_copyUnderCheckpoint : Scope.answers (fun t => t.events.any (·.code == evPoisonRead))
    (exec (.memCopyDone 0 0) copyUnderCheckpoint) = true := by decide +kernel

/-- Refutes O8: the first write to a block since the checkpoint leaves an undo entry (R220), for which the whole block is read, and
a poisoned line that this meets is recorded and counted (R249); the statement has no event in what a copy into a column changes. -/
theorem not_poolsScrubsAndCopies : ¬ Obligations.PoolsScrubsAndCopies := by
  intro h
  obtain ⟨hruns, hjob, hmasters, hdir, htile, hopen, hheld⟩ := copyUnderCheckpoint_hypotheses
  obtain ⟨-, -, -, -, -, hcopy, -⟩ := h.2 0 copyUnderCheckpoint
  obtain ⟨t, ht, -, -, hframe⟩ := hcopy 0 copyToLine0 parkedJob 3 hruns hjob hmasters hdir htile hopen hheld
  have hevents : t.events = [] := congrArg State.events hframe
  have hrecorded := memCopyDone_copyUnderCheckpoint
  rw [ht] at hrecorded
  simp [Scope.answers, hevents] at hrecorded

end Sys2Proof.Proofs.Paging
end
